-- ==== Sys2Proof/Word.lean ====
section
/-! DEFINITION. The byte and the sparse store: a list of key and value pairs in rising key order.
Every addressed thing of the module (register fields, device and host memory, per-queue records) is held in one. -/

namespace Sys2Proof

/-- One byte of memory. -/
abbrev Byte := BitVec 8

/-- A sparse store: keys strictly rising (`Store.wf`). A key that is not listed holds the store's default. -/
abbrev Store (α : Type) := List (Nat × α)

/-- The value listed for `k`, if any. -/
def Store.find? {α : Type} : Store α → Nat → Option α
  | [], _ => none
  | (j, v) :: m, k => if j = k then some v else Store.find? m k

/-- Remove `k`. -/
def Store.erase {α : Type} : Store α → Nat → Store α
  | [], _ => []
  | (j, v) :: m, k => if j = k then Store.erase m k else (j, v) :: Store.erase m k

/-- List `v` for `k`, replacing what was listed. -/
def Store.insert {α : Type} : Store α → Nat → α → Store α
  | [], k, v => [(k, v)]
  | (j, w) :: m, k, v =>
    if j = k then (k, v) :: m else if k < j then (k, v) :: (j, w) :: m else (j, w) :: Store.insert m k v

/-- Read with the default `d` for an unlisted key. -/
def Store.get {α : Type} (d : α) (m : Store α) (k : Nat) : α := (m.find? k).getD d

/-- Write keeping the canonical form: the default is never listed. -/
def Store.set {α : Type} [DecidableEq α] (d : α) (m : Store α) (k : Nat) (v : α) : Store α :=
  if v = d then m.erase k else m.insert k v

/-- Every key of `m` lies above `b`. -/
def Store.above {α : Type} (b : Nat) (m : Store α) : Bool := m.all fun p => decide (b < p.1)

/-- Keys strictly rise. -/
def Store.sorted {α : Type} : Store α → Bool
  | [] => true
  | (j, _) :: m => Store.above j m && Store.sorted m

/-- The canonical form: keys strictly rise and no entry equals the default. -/
def Store.wf {α : Type} [DecidableEq α] (d : α) (m : Store α) : Bool :=
  Store.sorted m && m.all fun p => decide (p.2 ≠ d)

end Sys2Proof
end

