-- ==== Sys2Proof/Syntax.lean ====
section
/-! DEFINITION. The commands of the module: one constructor for each row of the opcode table, with the operands that
arrive from outside. Rows 1–31 are the opcodes of R248: their operand words lie in memory, so the operand is the queue
whose head command starts. The other rows are operations of the host, the board, the fabric and the module's own
engines and timers; what the physical world decides about them is their operand. -/

namespace Sys2Proof

/-- Who accesses a register: PF0, the VF page of a context, or the board controller over I3C (R245, R422, R509). -/
inductive Accessor where
  | pf0
  | vf (c : Fin 16)
  | i3c
deriving DecidableEq, Repr

/-- A write that the host makes to the module: a register or buffer in a BAR, an MSI-X table entry, or one of the
configuration-space settings that the spec names (R505, R506, R511, R517; log entry 7). -/
inductive WriteTarget where
  | bar (a : Accessor) (offset : Nat)
  | numVfs (n : Fin 17) (enable : Bool)
  | msixEnable (fn : Fin 17) (on : Bool)
  | atsEnable (fn : Fin 17) (on : Bool)
deriving DecidableEq, Repr

/-- A fault in one check instance of a tile (R80, R440): the check unit, the problem and its output tile (both 0 but in
MATMUL_PACKED), the pass by its place in the tile's pass order, the streamed row, and the errors that the fault puts into
the check sum S and the witness value V, in units of 2^`scale`. -/
structure CheckFault where
  unit : Fin 16
  prob : Nat
  tile : Nat
  pass : Nat
  row : Nat
  dS : Int
  dV : Int
  scale : Int
deriving DecidableEq, Repr

/-- Why a tile fails (R279, R280, R443, R445): a witness mismatch in a check unit and pass operation, a residue
mismatch on a path, an uncorrectable read of an on-die store, or an uncorrectable DRAM line. -/
inductive FailCause where
  | witness (w : CheckFault)
  | residueHearth (op : Nat)
  | residueGlaze
  | residueUnit
  | sram
  | dram (line : Nat)
deriving DecidableEq, Repr

/-- A Flue packet: the header fields of R353 and R354, the type fields and the data that follow. -/
structure Packet where
  ty : Nat
  vc : Nat
  dl : Nat
  flits : Nat
  hops : Nat
  dest : Nat
  dctx : Nat
  src : Nat
  sctx : Nat
  job : Nat
  ptag : Nat
  args : List Nat
  data : List Byte
deriving DecidableEq, Repr

/-- What the decoder finds in the two codewords of a frame (R345, R348): how many it corrected, and whether the first and
the second are uncorrectable. -/
structure Codewords where
  corrected : Fin 3
  bad1 : Bool
  bad2 : Bool
deriving DecidableEq, Repr

/-- A received frame (R348, R349): its codewords, the bytes of its five slots, its trailer, and the packets whose last flit
it carries; the layout of a packet's type fields is not given, so the packets stand beside the bytes (log entry 13). -/
structure FrameIn where
  words : Codewords
  slots : List Byte
  crc : Nat
  seq : Fin 256
  ack : Fin 256
  packets : List Packet
deriving DecidableEq, Repr

/-- A received SKIP frame (R351, R368): its codewords, the bytes of its five slots and its CRC, and the sample in slot 0: the
sender's time at the first symbol, and the time at which the sender received our last one. -/
structure SkipIn where
  words : Codewords
  slots : List Byte
  crc : Nat
  tx : Nat
  rx : Nat
deriving DecidableEq, Repr

/-- How a training or retraining of a port ends (R341, R347, R352): the lanes that failed at either end and the
neighbour's coordinates and port. -/
structure TrainOut where
  laneFail : Nat
  nx : Nat
  ny : Nat
  nz : Nat
  nport : Nat
  done : Bool
deriving DecidableEq, Repr

/-- A beat that a stack-port requester presents in a cycle (R387): the stack offset of its block, direction, the lines of
the block, for a write the 64 bytes of each of those lines in order, and the context charged, when a command causes it. -/
structure Beat where
  offset : Nat
  write : Bool
  mask : Nat
  data : List (BitVec 8)
  ctx : Option (Fin 16)
deriving DecidableEq, Repr

/-- What the port's check finds in one line of a read (R381). -/
inductive LineCheck where
  | clean
  | corrected
  | uncorrectable
deriving DecidableEq, Repr

/-- A read beat that returns: its requester, and the check of each of its lines, in order (R381, R390). -/
structure BeatReturn where
  requester : Fin 8
  lines : List LineCheck
deriving DecidableEq, Repr

/-- How hot a stack is (R386): `calm`: both sensors have read 83.0 °C or less for 100 ms; `own`: what the hotter of the
stack's own sensors reads, in 1/16 °C, which counts while the stack is in self-refresh. -/
structure StackHeat where
  calm : Bool
  own : Int
deriving DecidableEq, Repr

/-- The end of a tile: the corrected reads of the Hearth's stores while it ran (R89, R94, R95), and the corrected transfers
of die-to-die links, by their place in R33's table (R34). -/
structure TileEnd where
  tile : Nat
  reads : Nat
  links : List (Fin 6 × Nat)
deriving DecidableEq, Repr

/-- An escalation pass (R183): the command's index, and the mismatches in the recomputation, in order: the unit, the Hearth
or Bay that ran it, and the cause. -/
structure PassEnd where
  n : Nat
  fails : List (Nat × Nat × FailCause)
deriving DecidableEq, Repr

/-- One period's measurements (R399, R404, R405, R411): the period averages of the 34 rails, voltage in mV and raw current
code (R431), and how much of the period each Bay issued work: 0 none, 1 less than half, 2 at least half. -/
structure PeriodIn where
  volts : List Nat
  amps : List Nat
  issued : List Nat
deriving DecidableEq, Repr

/-- A sample (R399, R433): the raw code of each of the 128 sensors, and of the 52 V input its voltage in mV and its raw
current code over the last 10 µs. -/
structure SampleIn where
  codes : List Nat
  volt : Nat
  amp : Nat
deriving DecidableEq, Repr

/-- What a cone test finds (R450, R451): nothing; failing cells by physical row and column; or a part that no spare
replaces; or a failing Glaze self-test. -/
inductive ConeFinding where
  | pass
  | cells (l : List (Nat × Nat))
  | fixedPart
  | glaze
deriving DecidableEq, Repr

/-- What the physical world decides about a wake (R427): the steps that exceed their limit (0 none), whether a check of
step 3 failed and whether full training then succeeds, and its duration. -/
structure WakeOut where
  failStep : Nat
  checkFailed : Bool
  fullTrainOk : Bool
  ms : Nat
deriving DecidableEq, Repr

/-- What the physical world decides about a boot (R530): the NVM's discovery, the steps that pass their limit, the
DRAM training, the Flue ports' training, the Hearths with a failing fuse record, the pending records that fail their
read-back (Hearth and record), the pending Hearths whose test fails, the Glaze self-tests and the straps. -/
structure BootOut where
  railsOk : Bool
  pllOk : Bool
  nvmOk : Bool
  lateStep : Nat
  dramOk : Bool
  ports : List TrainOut
  fuseBad : List (Fin 288)
  recordBad : List (Fin 288 × Fin 4)
  coneBad : List (Fin 288)
  glazeBad : Nat
  straps : Nat
deriving DecidableEq, Repr

/-- The header of a service request (R546): its sequence number, the signature flag, the owner counter and the
signature that follows the body. -/
structure SvcHdr where
  seq : Nat
  signed : Bool
  octr : Nat
  sig : List Nat
deriving DecidableEq, Repr

/-- The commands, in the order of the opcode table. -/
inductive Instr where
  | nop (q : Fin 64)
  | link (q : Fin 64)
  | wait (q : Fin 64)
  | signal (q : Fin 64)
  | stepMark (q : Fin 64)
  | fence (q : Fin 64)
  | matmul (q : Fin 64)
  | matmulPacked (q : Fin 64)
  | matmulTable (q : Fin 64)
  | matmulBinary (q : Fin 64)
  | matmulStream (q : Fin 64)
  | rotate (q : Fin 64)
  | quantise (q : Fin 64)
  | dequantise (q : Fin 64)
  | amaxPass (q : Fin 64)
  | vecMap (q : Fin 64)
  | vecNorm (q : Fin 64)
  | vecSoftmax (q : Fin 64)
  | vecLoss (q : Fin 64)
  | vecReduce (q : Fin 64)
  | move (q : Fin 64)
  | offload (q : Fin 64)
  | prefetch (q : Fin 64)
  | spill (q : Fin 64)
  | reduceBucket (q : Fin 64)
  | broadcast (q : Fin 64)
  | digestCheck (q : Fin 64)
  | update (q : Fin 64)
  | digest (q : Fin 64)
  | tap (q : Fin 64)
  | precisionApply (q : Fin 64)
  | watchLinePoll (q : Fin 64)
  /-- `aged`: the queues whose candidate has been ready for more than 2 ms, oldest first (R413). -/
  | tilePlace (aged : List (Fin 64))
  | tileComplete (q : Fin 64) (n : Nat) (e : TileEnd)
  | tileFail (q : Fin 64) (n tile : Nat) (cause : FailCause)
  | glazeEncode (q : Fin 64) (n unit : Nat)
  | escalationPass (q : Fin 64) (p : PassEnd)
  | narrowEmission (q : Fin 64) (n : Nat)
  | commandComplete (q : Fin 64)
  | waitTimeout (q : Fin 64)
  /-- The commands whose dispatch limits have passed at one check (R461, R462). -/
  | dispatchTimeout (expired : List (Fin 64 × Nat))
  | stepBarrier (c : Fin 16)
  | decisionStepEnd (c : Fin 16)
  | interludeClose (c : Fin 16)
  | queueEnable (q : Fin 64) (value : BitVec 32)
  | queueResume (a : Accessor) (q : Fin 64)
  | syncObjectWrite (a : Accessor) (n : Fin 8192) (value : BitVec 64)
  | pageTableBaseWrite (c : Fin 16) (value : BitVec 64)
  | recover
  | retrain (p : Fin 6)
  | sweep
  | rearm
  | fire
  | bankedRequest (a : Accessor)
  | emberRequest (a : Accessor)
  | wakeRequest (a : Accessor) (out : WakeOut)
  | registerWrite (t : WriteTarget) (bytes value : Nat)
  | getInfo (len : Nat)
  | mailboxGetCert (len : Nat)
  | mailboxAttest (len : Nat)
  | mailboxReadEvents (len : Nat)
  | updateBegin (h : SvcHdr) (len : Nat)
  | updateData (h : SvcHdr) (offset : Nat) (data : List Byte)
  | updateEnd (h : SvcHdr)
  | confirm (h : SvcHdr)
  /-- One piece of an image of `total` bytes; the check runs when every byte has arrived (R546). -/
  | configWrite (h : SvcHdr) (total offset : Nat) (data : List Byte)
  | attest (h : SvcHdr) (nonce : List Byte)
  | getCert (h : SvcHdr)
  | readEvents (h : SvcHdr) (seq : Nat)
  | clearRetire (h : SvcHdr) (hearth : Nat)
  | enroll (h : SvcHdr) (key : List Byte)
  | wrapPsk (h : SvcHdr) (key : List Byte)
  | hostMemRead (addr : Nat)
  /-- A write of bytes within one line; `full` lines arrive as 64 bytes. -/
  | hostMemWrite (addr : Nat) (data : List Byte)
  /-- `data`: what the line holds once the host has written it. -/
  | snoopInvalidation (addr : Nat) (data : List Byte)
  /-- `granted`: whether the host grants the page again when it is asked next. -/
  | atsInvalidation (c : Fin 16) (page : Nat) (granted : Bool)
  | hdmCommit (base size ways : Nat)
  | ideKeyProgram (stream : Fin 2)
  | flr (c : Fin 16)
  | cxlLinkDown
  | frameReceive (p : Fin 6) (f : FrameIn)
  | skipFrameReceive (p : Fin 6) (f : SkipIn)
  | skipFrameSend (p : Fin 6)
  | replayTimeout (p : Fin 6)
  | nak (p : Fin 6)
  | credit (p : Fin 6)
  | creditReport (p : Fin 6)
  /-- `cause`: 1 replay limit, 2 lock lost, 3 error rate (R350). -/
  | retrainEntry (p : Fin 6) (cause : Fin 8)
  | retrainDone (p : Fin 6) (out : TrainOut)
  | retrainTimeout (p : Fin 6)
  | failedPortRetry (p : Fin 6)
  | writePacket (p : Fin 6)
  | readReq (p : Fin 6)
  | readRsp (p : Fin 6)
  | writeAck (p : Fin 6)
  | signalPacket (p : Fin 6)
  | signalAck (p : Fin 6)
  | collData (p : Fin 6)
  | collReady (p : Fin 6)
  | collAbort (p : Fin 6)
  | collAck (p : Fin 6)
  | unreach (p : Fin 6)
  | linkstate (p : Fin 6)
  | endpoint (p : Fin 6)
  | idle (p : Fin 6)
  | transitPacket (p : Fin 6)
  /-- A grant in MESH cycle `cycle` at output `p`. -/
  | outputGrant (p : Fin 6) (cycle : Nat)
  | creditWaitTimeout (p : Fin 6) (requester : Fin 8)
  | routingTableSwap
  /-- A decision of the arbiter of stack `b` in MESH cycle `cycle`, with the requests raised in it. -/
  | stackPortGrant (b : Fin 16) (cycle : Nat) (requests : List (Option Beat))
  /-- The oldest outstanding read beat of a requester returns; `reader`: the command and tile that read it, if a command
  did. -/
  | readBeatReturn (b : Fin 16) (beat : BeatReturn) (reader : Option (Fin 64 × Nat × Nat))
  | refreshBlackout (b : Fin 16) (cycle : Nat)
  | refreshWindowChange (b : Fin 16) (cycle : Nat) (heat : StackHeat)
  | patrolScrub (b : Fin 16) (lines : List LineCheck)
  | correctiveWrite (b : Fin 16)
  | rowSpare (b : Fin 16) (row : Nat)
  /-- An uncorrectable transfer received at an attach Bay; `second`: the retry failed as well; its command, if one owns
  it. -/
  | d2dUncorr (bay : Fin 16) (second : Bool) (owner : Option (Fin 64 × Nat))
  | sensorSample (m : SampleIn)
  | sensorFailure (i : Fin 128)
  | budgetPeriod (m : PeriodIn)
  | fastLimiter (avg : Nat)
  | fallback
  | thermWarn
  | thermWarnRelease
  | thermTrip
  | tripRelease
  | tripHoldTimeout
  | hearthGate (h : Fin 288)
  | coneTestDue (h : Fin 288)
  | coneTestStart (h : Fin 288)
  | coneTestOverdue (h : Fin 288)
  | coneTestEnd (h : Fin 288) (f : ConeFinding)
  | busyTimeSave
  | eventLogReclaim
  | stokerSramScrub
  | stokerEcc
  | stokerWdt
  | regulator
  | pllLockLoss
  /-- The Bays and engines still busy at 100 ms. -/
  | quiesceTimeout (bays engines : Nat)
  | sequencerWatchdog
  | powerEntry
  | entryTimeout
  | wakeTimeout (step : Fin 5)
  | powerOnReset (out : BootOut)
  | bootTimeout
  | powerDown
  | modRstAssert
  | perstAssert (out : WakeOut)
  | perstRelease
  | undervoltageLockout
  | overvoltageShutdown
  | traceFreeze
  | traceFull
  | inputReturn (out : BootOut)
  | pwrEnHoldEnd (out : BootOut)
  | thermalReadyTimeout
  | flrTimeout (c : Fin 16)
deriving DecidableEq, Repr

end Sys2Proof
end

