-- ==== Sys2Proof/Decode.lean ====
section
/-! DEFINITION. The command that a table word spells. The opcode table gives no row of this block any bits: a queue
command's words lie in memory (`Machine/Operands.lean` reads them) and every other row is an operation from outside. -/

namespace Sys2Proof

/-- No row of the table gives bits, so no word spells a command. -/
def decodeTableWord (_nbits _w : Nat) : Option Instr := none

end Sys2Proof
end

