-- ==== Sys2Proof/Machine/Num.lean ====
section
/-! DEFINITION. Exact signed reals and the rounding helpers of the spec's pseudocode (R18, R53, R54, R577):
`fl32`, `rne`, `srnd`, `trunc`, `lam`, and the Hob's elementary functions (R272). -/

namespace Sys2Proof.Machine

/-- An exact rational `± num / den` whose zero carries a sign (R577). `den` is never 0 in a value the model forms. -/
structure Ex where
  neg : Bool
  num : Nat
  den : Nat
deriving DecidableEq, Repr

/-- A value of the wide formats: a finite exact real, an infinity or the one NaN (R48). -/
inductive FV where
  | fin (x : Ex)
  | inf (neg : Bool)
  | nan
deriving DecidableEq, Repr

def Ex.zero : Ex := ⟨false, 0, 1⟩
def Ex.one : Ex := ⟨false, 1, 1⟩
def Ex.ofNat (n : Nat) : Ex := ⟨false, n, 1⟩
def Ex.ofInt (i : Int) : Ex := ⟨decide (i < 0), i.natAbs, 1⟩
def Ex.isZero (x : Ex) : Bool := x.num == 0
def Ex.abs (x : Ex) : Ex := { x with neg := false }
def Ex.flip (x : Ex) : Ex := { x with neg := !x.neg }

/-- `2 ^ e` for an integer `e`. -/
def Ex.pow2 (e : Int) : Ex := if 0 ≤ e then ⟨false, 2 ^ e.toNat, 1⟩ else ⟨false, 1, 2 ^ (-e).toNat⟩

/-- Product; a zero takes the exclusive OR of the signs (R577). -/
def Ex.mul (x y : Ex) : Ex := ⟨x.neg != y.neg, x.num * y.num, x.den * y.den⟩

/-- Quotient by a nonzero `y` (R577). -/
def Ex.div (x y : Ex) : Ex := ⟨x.neg != y.neg, x.num * y.den, x.den * y.num⟩

/-- Sum; an exact zero is +0 unless both terms are −0 (R577). -/
def Ex.add (x y : Ex) : Ex :=
  let a := x.num * y.den
  let b := y.num * x.den
  let d := x.den * y.den
  if x.neg == y.neg then ⟨x.neg, a + b, d⟩
  else if a = b then ⟨false, 0, 1⟩
  else if b < a then ⟨x.neg, a - b, d⟩ else ⟨y.neg, b - a, d⟩

/-- Difference (R577): −0 − (+0) is −0, every other exact zero is +0. -/
def Ex.sub (x y : Ex) : Ex := Ex.add x y.flip

/-- `|x| ≤ |y|`. -/
def Ex.absLe (x y : Ex) : Bool := decide (x.num * y.den ≤ y.num * x.den)

/-- `|x| < |y|`. -/
def Ex.absLt (x y : Ex) : Bool := decide (x.num * y.den < y.num * x.den)

/-- The value as a pair of integers over a common positive denominator, for comparison. -/
def Ex.signed (x : Ex) (d : Nat) : Int := if x.neg then -((x.num * d : Nat) : Int) else ((x.num * d : Nat) : Int)

/-- `x ≤ y` as reals. -/
def Ex.le (x y : Ex) : Bool := decide (x.signed y.den ≤ y.signed x.den)

/-- `x < y` as reals. -/
def Ex.lt (x y : Ex) : Bool := decide (x.signed y.den < y.signed x.den)

def Ex.max (x y : Ex) : Ex := if x.le y then y else x
def Ex.min (x y : Ex) : Ex := if x.le y then x else y

/-- `sat(x, lo, hi)` (R18). -/
def Ex.sat (x lo hi : Ex) : Ex := Ex.min (Ex.max x lo) hi

/-- `⌊log₂ (num / den)⌋` for `num > 0`. -/
def log2Quot (num den : Nat) : Int :=
  let l : Int := (Nat.log2 num : Int) - (Nat.log2 den : Int)
  let fits : Bool := if 0 ≤ l then decide (den * 2 ^ l.toNat ≤ num) else decide (den ≤ num * 2 ^ (-l).toNat)
  if fits then l else l - 1

/-- `lam(x) = ⌊log₂ |x|⌋` of a nonzero real (R114). -/
def Ex.lam (x : Ex) : Int := log2Quot x.num x.den

/-- `num / den` rounded to the nearest integer, ties to even. -/
def rneQuot (num den : Nat) : Nat :=
  let q := num / den
  let r := num % den
  if 2 * r < den then q else if den < 2 * r then q + 1 else if q % 2 = 0 then q else q + 1

/-- `|x| / 2^q` as a quotient of naturals. -/
def Ex.scaled (x : Ex) (q : Int) : Nat × Nat :=
  if 0 ≤ q then (x.num, x.den * 2 ^ q.toNat) else (x.num * 2 ^ (-q).toNat, x.den)

/-- `trunc(x, k)` divided by `2^k`, as an integer (R18). -/
def Ex.truncInt (x : Ex) (k : Int) : Int :=
  let (n, d) := x.scaled k
  if x.neg then -((n / d : Nat) : Int) else ((n / d : Nat) : Int)

/-- `n × 2^q` with a sign. -/
def Ex.ofScaled (neg : Bool) (n : Nat) (q : Int) : Ex :=
  if 0 ≤ q then ⟨neg, n * 2 ^ q.toNat, 1⟩ else ⟨neg, n, 2 ^ (-q).toNat⟩

/-- The exponent of the grid step at `x`, for a binary format of `p` significand bits whose smallest normal is
`2^emin`; the grid goes on without limit above (R18). -/
def gridExp (x : Ex) (p : Nat) (emin : Int) : Int :=
  (if x.isZero then emin else Max.max x.lam emin) - ((p : Int) - 1)

/-- `rne` to the grid of a binary format (R18); the sign of a zero is kept (R577). -/
def Ex.rneGrid (x : Ex) (p : Nat) (emin : Int) : Ex :=
  let q := gridExp x p emin
  let (n, d) := x.scaled q
  Ex.ofScaled x.neg (rneQuot n d) q

/-- `srnd` to the grid of a binary format with the 16-bit draw `r` (R54). Above a power of two the step `a′ − a`
is that of `a`'s own binade, since `a ≤ |x|` and no grid value lies between. -/
def Ex.srndGrid (x : Ex) (p : Nat) (emin : Int) (r : Nat) : Ex :=
  let q := gridExp x p emin
  let (n, d) := x.scaled q
  let a := n / d
  if n % d = 0 then Ex.ofScaled x.neg a q
  else if r < 2 ^ 16 * (n % d) / d then Ex.ofScaled x.neg (a + 1) q else Ex.ofScaled x.neg a q

/-- Integer rounding to nearest even; the integer 0 has no sign (R577). -/
def Ex.rneInt (x : Ex) : Int :=
  let n := rneQuot x.num x.den
  if x.neg then -(n : Int) else (n : Int)

/-- Stochastic rounding to an integer (R54). -/
def Ex.srndInt (x : Ex) (r : Nat) : Int :=
  let a := x.num / x.den
  let n := if x.num % x.den = 0 then a
    else if r < 2 ^ 16 * (x.num % x.den) / x.den then a + 1 else a
  if x.neg then -(n : Int) else (n : Int)

/-- The largest finite FP32 value, 0x7F7F_FFFF (R172). -/
def maxF32 : Ex := ⟨false, (2 ^ 24 - 1) * 2 ^ 104, 1⟩

/-- `fl32` of a finite exact real (R18): RNE, subnormals kept, overflow to an infinity. -/
def fl32x (x : Ex) : FV :=
  let r := x.rneGrid 24 (-126)
  if maxF32.absLt r then .inf x.neg else .fin r

/-- `fl32` of any value; a NaN stays the canonical NaN. -/
def fl32 : FV → FV
  | .fin x => fl32x x
  | .inf s => .inf s
  | .nan => .nan

def FV.zero : FV := .fin Ex.zero
def FV.one : FV := .fin Ex.one
def FV.isNan : FV → Bool | .nan => true | _ => false
def FV.isFin : FV → Bool | .fin _ => true | _ => false
def FV.isNonzero : FV → Bool | .fin x => !x.isZero | _ => true
def FV.flip : FV → FV | .fin x => .fin x.flip | .inf s => .inf (!s) | .nan => .nan
/-- The finite value, or 0 for a non-finite one. -/
def FV.getFin : FV → Ex | .fin x => x | _ => Ex.zero

/-- Exact IEEE 754-2019 sum: opposite infinities give the NaN (R125). -/
def FV.add : FV → FV → FV
  | .nan, _ => .nan
  | _, .nan => .nan
  | .inf a, .inf b => if a == b then .inf a else .nan
  | .inf a, .fin _ => .inf a
  | .fin _, .inf b => .inf b
  | .fin x, .fin y => .fin (x.add y)

def FV.sub (a b : FV) : FV := a.add b.flip

/-- Exact IEEE 754-2019 product. -/
def FV.mul : FV → FV → FV
  | .nan, _ => .nan
  | _, .nan => .nan
  | .inf a, .inf b => .inf (a != b)
  | .inf a, .fin y => if y.isZero then .nan else .inf (a != y.neg)
  | .fin x, .inf b => if x.isZero then .nan else .inf (x.neg != b)
  | .fin x, .fin y => .fin (x.mul y)

/-- Exact IEEE 754-2019 quotient. -/
def FV.div : FV → FV → FV
  | .nan, _ => .nan
  | _, .nan => .nan
  | .inf _, .inf _ => .nan
  | .inf a, .fin y => .inf (a != y.neg)
  | .fin x, .inf b => .fin ⟨x.neg != b, 0, 1⟩
  | .fin x, .fin y =>
    if y.isZero then (if x.isZero then .nan else .inf (x.neg != y.neg)) else .fin (x.div y)

def fadd (a b : FV) : FV := fl32 (a.add b)
def fsub (a b : FV) : FV := fl32 (a.sub b)
def fmul (a b : FV) : FV := fl32 (a.mul b)
def fdiv (a b : FV) : FV := fl32 (a.div b)

/-- `a ≤ b` for values that are not NaN. -/
def FV.le : FV → FV → Bool
  | .nan, _ => false
  | _, .nan => false
  | .inf true, _ => true
  | .inf false, b => b == .inf false
  | .fin _, .inf s => !s
  | .fin x, .fin y => x.le y

/-- A binary interchange code of `eb` exponent and `mb` fraction bits, read by IEEE 754-2019 (R48). -/
def decodeIeee (eb mb : Nat) (w : Nat) : FV :=
  let s := decide (w / 2 ^ (eb + mb) % 2 = 1)
  let e := w / 2 ^ mb % 2 ^ eb
  let f := w % 2 ^ mb
  let bias : Int := 2 ^ (eb - 1) - 1
  if e = 2 ^ eb - 1 then (if f = 0 then .inf s else .nan)
  else if e = 0 then .fin (Ex.ofScaled s f (1 - bias - mb))
  else .fin (Ex.ofScaled s (2 ^ mb + f) ((e : Int) - bias - mb))

/-- The code of a value on the format's grid; larger values give the infinity, NaN the canonical quiet NaN (R48). -/
def encodeIeee (eb mb : Nat) : FV → Nat
  | .nan => (2 ^ eb - 1) * 2 ^ mb + 2 ^ (mb - 1)
  | .inf s => (if s then 2 ^ (eb + mb) else 0) + (2 ^ eb - 1) * 2 ^ mb
  | .fin x =>
    let bias : Int := 2 ^ (eb - 1) - 1
    let sgn := if x.neg then 2 ^ (eb + mb) else 0
    let q := gridExp x (mb + 1) (1 - bias)
    let (n, d) := x.scaled q
    let m := n / d
    if x.isZero then sgn
    else
      let e := (q + mb + bias).toNat
      if 2 ^ eb - 1 ≤ e then sgn + (2 ^ eb - 1) * 2 ^ mb
      else if m < 2 ^ mb then sgn + m
      else sgn + e * 2 ^ mb + (m - 2 ^ mb)

/-- RNE to a binary interchange format, then its code; overflow gives the infinity (R55). -/
def roundIeee (eb mb : Nat) : FV → Nat
  | .fin x => encodeIeee eb mb (.fin (x.rneGrid (mb + 1) (2 - 2 ^ (eb - 1))))
  | v => encodeIeee eb mb v

def ofBits32 (w : Nat) : FV := decodeIeee 8 23 w
def bits32 (v : FV) : Nat := roundIeee 8 23 v
def ofBits16 (w : Nat) : FV := decodeIeee 5 10 w
def bits16 (v : FV) : Nat := roundIeee 5 10 v
def ofBitsBf (w : Nat) : FV := decodeIeee 8 7 w
def bitsBf (v : FV) : Nat := roundIeee 8 7 v

/-! ### Elementary functions of the Hob (R272)

Each is a fixed-point evaluation with `fxBits` fraction bits, rounded once; log entry 10. -/

/-- Fraction bits of the fixed-point evaluations. -/
def fxBits : Nat := 320

/-- `2 · Σ z^(2k+1) / (2k+1)` for `z = n / d` in fixed point, `fuel` terms: `ln ((1 + z) / (1 − z))`. -/
def atanhSeries (n d : Nat) : Nat → Nat → Nat → Nat → Nat
  | 0, _, _, acc => acc
  | fuel + 1, k, pw, acc => atanhSeries n d fuel (k + 1) (pw * n * n / (d * d)) (acc + 2 * pw / (2 * k + 1))

/-- `ln m` for `m = n / d` in `[1, 2)`, in fixed point. -/
def lnMant (n d : Nat) : Nat := atanhSeries (n - d) (n + d) 110 0 (2 ^ fxBits * (n - d) / (n + d)) 0

/-- `ln 2` in fixed point. -/
def ln2Fx : Nat := atanhSeries 1 3 110 0 (2 ^ fxBits / 3) 0

/-- `Σ r^k / k!` for `0 ≤ r < 1` in fixed point. -/
def expSeries (r : Nat) : Nat → Nat → Nat → Nat → Nat
  | 0, _, _, acc => acc
  | fuel + 1, k, term, acc => expSeries r fuel (k + 1) (term * r / 2 ^ fxBits / (k + 1)) (acc + term)

/-- `fl32(e^x)` of a finite `x` (R272). -/
def expFin (x : Ex) : FV :=
  if x.isZero then FV.one
  else if Ex.lt ⟨false, 90, 1⟩ x then .inf false
  else if Ex.lt x ⟨true, 105, 1⟩ then FV.zero
  else
    let fx : Int := (if x.neg then -((2 ^ fxBits * x.num / x.den : Nat) : Int) else ((2 ^ fxBits * x.num / x.den : Nat) : Int))
    let k : Int := fx / (ln2Fx : Int)
    let r : Nat := (fx - k * (ln2Fx : Int)).toNat
    fl32x (Ex.ofScaled false (expSeries r 90 0 (2 ^ fxBits) 0) (k - fxBits))

/-- The Hob's exponential (R272). -/
def hobExp : FV → FV
  | .nan => .nan
  | .inf true => FV.zero
  | .inf false => .inf false
  | .fin x => expFin x

/-- `fl32(ln x)` of a positive finite `x` (R272). -/
def lnFin (x : Ex) : FV :=
  let k := x.lam
  let (n, d) := x.scaled k
  let v : Int := k * (ln2Fx : Int) + (lnMant n d : Int)
  if v = 0 then FV.zero else fl32x (Ex.ofScaled (decide (v < 0)) v.natAbs (-(fxBits : Int)))

/-- The Hob's logarithm (R272). -/
def hobLog : FV → FV
  | .nan => .nan
  | .inf true => .nan
  | .inf false => .inf false
  | .fin x => if x.isZero then .inf true else if x.neg then .nan else lnFin x

/-- `√(num / den)` rounded once by `round`, from a root of 80 bits and a sticky half unit. -/
def sqrtSticky (num den : Nat) : Ex :=
  let s : Int := 160 - log2Quot num den
  let e : Int := s / 2
  let (n, d) := (Ex.mk false num den).scaled (-2 * e)
  let q := Nat.sqrt (n / d)
  if q * q * d = n then Ex.ofScaled false q (-e) else Ex.ofScaled false (2 * q + 1) (-e - 1)

/-- The Hob's reciprocal square root (R272): `fl32(1 / √x)`. -/
def hobRsqrt : FV → FV
  | .nan => .nan
  | .inf true => .nan
  | .inf false => FV.zero
  | .fin x => if x.isZero then .inf x.neg else if x.neg then .nan else fl32x (sqrtSticky x.den x.num)

/-- The Hob's reciprocal (R272). -/
def hobRecip (x : FV) : FV := fdiv FV.one x

/-- `tree_sum` (R272): split at the largest power of two below the length. -/
def treeSumF : Nat → List FV → FV
  | 0, _ => FV.zero
  | _, [] => FV.zero
  | _, [x] => x
  | fuel + 1, xs =>
    let h := 2 ^ Nat.log2 (xs.length - 1)
    fadd (treeSumF fuel (xs.take h)) (treeSumF fuel (xs.drop h))

def treeSum (xs : List FV) : FV := treeSumF (xs.length + 1) xs

/-! ### Integer mixing and check codes -/

/-- `mix64` (R141), modulo 2⁶⁴. -/
def mix64 (z0 : Nat) : Nat :=
  let m := 2 ^ 64
  let z := (z0 + 0x9E3779B97F4A7C15) % m
  let z := (Nat.xor z (z / 2 ^ 30)) * 0xBF58476D1CE4E5B9 % m
  let z := (Nat.xor z (z / 2 ^ 27)) * 0x94D049BB133111EB % m
  Nat.xor z (z / 2 ^ 31)

/-- Bits `[hi:lo]` of a natural. -/
def bitsOf (w hi lo : Nat) : Nat := w / 2 ^ lo % 2 ^ (hi + 1 - lo)

/-- Bit `i` of a natural. -/
def bitOf (w i : Nat) : Bool := w / 2 ^ i % 2 == 1

/-- A little-endian number from bytes. -/
def leNat : List Byte → Nat
  | [] => 0
  | b :: bs => b.toNat + 256 * leNat bs

/-- The `n` little-endian bytes of a number. -/
def leBytes : Nat → Nat → List Byte
  | 0, _ => []
  | n + 1, w => BitVec.ofNat 8 w :: leBytes n (w / 256)

/-- `⌈a / b⌉`. -/
def ceilDiv (a b : Nat) : Nat := (a + b - 1) / b

end Sys2Proof.Machine
end

