-- ==== Sys2Proof/Machine/Formats.lean ====
section
/-! DEFINITION. The element formats bit for bit (R44–R59) and the conversions between them (R53–R56). -/

namespace Sys2Proof.Machine

/-- The element formats of R44. -/
inductive Fmt where
  | int (n : Nat)
  | fp4e2m1
  | fp6e2m3
  | fp6e3m2
  | fp8e4m3
  | fp8e5m2
  | bf16
  | fp16
  | fp32
  | cb (n : Nat)
  | mw48
deriving DecidableEq, Repr

/-- The format a code names; every other code is reserved (R44). -/
def Fmt.ofCode (c : Nat) : Option Fmt :=
  if 1 ≤ c ∧ c ≤ 8 then some (.int c)
  else if c = 0x11 then some .fp4e2m1
  else if c = 0x12 then some .fp6e2m3
  else if c = 0x13 then some .fp6e3m2
  else if c = 0x14 then some .fp8e4m3
  else if c = 0x15 then some .fp8e5m2
  else if c = 0x20 then some .bf16
  else if c = 0x21 then some .fp16
  else if c = 0x22 then some .fp32
  else if 0x31 ≤ c ∧ c ≤ 0x34 then some (.cb (c - 0x30))
  else if c = 0x40 then some .mw48
  else none

/-- The 8-bit code of a format (R44). -/
def Fmt.code : Fmt → Nat
  | .int n => n
  | .fp4e2m1 => 0x11
  | .fp6e2m3 => 0x12
  | .fp6e3m2 => 0x13
  | .fp8e4m3 => 0x14
  | .fp8e5m2 => 0x15
  | .bf16 => 0x20
  | .fp16 => 0x21
  | .fp32 => 0x22
  | .cb n => 0x30 + n
  | .mw48 => 0x40

/-- Stored width in bits (R57). -/
def Fmt.width : Fmt → Nat
  | .int n => n
  | .fp4e2m1 => 4
  | .fp6e2m3 => 6
  | .fp6e3m2 => 6
  | .fp8e4m3 => 8
  | .fp8e5m2 => 8
  | .bf16 => 16
  | .fp16 => 16
  | .fp32 => 32
  | .cb n => n
  | .mw48 => 48

/-- Exponent bits, mantissa bits and bias of a narrow floating-point format (R47). -/
def Fmt.fpParams : Fmt → Option (Nat × Nat × Nat)
  | .fp4e2m1 => some (2, 1, 1)
  | .fp6e2m3 => some (2, 3, 1)
  | .fp6e3m2 => some (3, 2, 3)
  | .fp8e4m3 => some (4, 3, 7)
  | .fp8e5m2 => some (5, 2, 15)
  | _ => none

/-- The formats a tile header may name (R63). -/
def Fmt.inTile : Fmt → Bool
  | .int _ => true
  | .cb _ => true
  | f => f.fpParams.isSome

/-- A narrow format that Glaze writes: INTn or a narrow floating-point format (R63, R198). -/
def Fmt.isNarrow : Fmt → Bool
  | .int _ => true
  | f => f.fpParams.isSome

def Fmt.isCb : Fmt → Bool
  | .cb _ => true
  | _ => false

def Fmt.isInt : Fmt → Bool
  | .int _ => true
  | _ => false

/-- Largest finite magnitude M (R46, R47). -/
def Fmt.maxMag : Fmt → Ex
  | .int n => if n = 1 then ⟨false, 1, 1⟩ else ⟨false, 2 ^ (n - 1) - 1, 1⟩
  | .fp4e2m1 => ⟨false, 6, 1⟩
  | .fp6e2m3 => ⟨false, 15, 2⟩
  | .fp6e3m2 => ⟨false, 28, 1⟩
  | .fp8e4m3 => ⟨false, 448, 1⟩
  | .fp8e5m2 => ⟨false, 57344, 1⟩
  | _ => maxF32

/-- The value of an element code, subnormals kept (R45, R47). A codebook index is read elsewhere and gives 0 here. -/
def Fmt.decodeKeep (f : Fmt) (w : Nat) : FV :=
  match f with
  | .int n =>
    if n = 1 then .fin ⟨w % 2 == 0, 1, 1⟩
    else
      let v := w % 2 ^ n
      .fin (Ex.ofInt (if v < 2 ^ (n - 1) then (v : Int) else (v : Int) - 2 ^ n))
  | .bf16 => ofBitsBf w
  | .fp16 => ofBits16 w
  | .fp32 => ofBits32 w
  | f =>
    match f.fpParams with
    | none => FV.zero
    | some (eb, mb, bias) =>
      let s := bitOf w (eb + mb)
      let e := bitsOf w (eb + mb - 1) mb
      let m := bitsOf w (mb - 1) 0
      if f = .fp8e4m3 ∧ e = 15 ∧ m = 7 then .nan
      else if f = .fp8e5m2 ∧ e = 31 then (if m = 0 then .inf s else .nan)
      else if e = 0 then .fin (Ex.ofScaled s m (1 - (bias : Int) - mb))
      else .fin (Ex.ofScaled s (2 ^ mb + m) ((e : Int) - bias - mb))

/-- A code whose exponent field is 0 and whose mantissa is not (R52). -/
def Fmt.isSubCode (f : Fmt) (w : Nat) : Bool :=
  match f.fpParams with
  | none => false
  | some (eb, mb, _) => bitsOf w (eb + mb - 1) mb == 0 && bitsOf w (mb - 1) 0 != 0

/-- The value of an element code read by a Hearth: a subnormal reads as zero (R51, R52, R155). DESIGN CHOICE: that zero is
+0 whatever the code's sign, which R52 does not state (log entry 41). -/
def Fmt.decodeFlush (f : Fmt) (w : Nat) : FV :=
  if f.isSubCode w then FV.zero else f.decodeKeep w

/-- The value of an element code by the path that reads it: a Hearth flushes subnormal codes, and every other reader
takes the element's value by its format (R51, R60, R163). -/
def Fmt.decodeBy (f : Fmt) (hearth : Bool) (w : Nat) : FV := if hearth then f.decodeFlush w else f.decodeKeep w

/-- Rounding of one element: RNE, or `srnd` with a 16-bit draw (R53, R54). -/
inductive Round where
  | rne
  | srnd (r : Nat)
deriving DecidableEq, Repr

/-- `rne(x, fmt)` or `srnd(x, fmt, r)`, not yet saturated (R18, R46, R54). -/
def Fmt.roundTo (f : Fmt) (x : Ex) (rd : Round) : Ex :=
  match f with
  | .int n =>
    if n = 1 then (if x.neg && !x.isZero then ⟨true, 1, 1⟩ else ⟨false, 1, 1⟩)
    else match rd with
      | .rne => Ex.ofInt x.rneInt
      | .srnd r => Ex.ofInt (x.srndInt r)
  | f =>
    match f.fpParams with
    | none => x
    | some (_, mb, bias) =>
      match rd with
      | .rne => x.rneGrid (mb + 1) (1 - (bias : Int))
      | .srnd r => x.srndGrid (mb + 1) (1 - (bias : Int)) r

/-- Replace a subnormal value by zero, for a floating-point format (R52). -/
def Fmt.flush (f : Fmt) (x : Ex) : Ex :=
  match f.fpParams with
  | none => x
  | some (_, _, bias) => if x.absLt (Ex.pow2 (1 - (bias : Int))) then Ex.zero else x

/-- `sat(x, −M, M)`. -/
def Fmt.satTo (f : Fmt) (x : Ex) : Ex := Ex.sat x f.maxMag.flip f.maxMag

/-- The element value that a finite value takes on the narrow path (R55, R52). -/
def Fmt.toNarrow (f : Fmt) (x : Ex) (rd : Round) : Ex := f.flush (f.satTo (f.roundTo x rd))

/-- The element value that any value takes on the narrow path (R55): an infinity gives ±M and a NaN +M. -/
def Fmt.toNarrowV (f : Fmt) (v : FV) (rd : Round) : Ex :=
  match v with
  | .fin x => f.toNarrow x rd
  | .inf s => if s then f.maxMag.flip else f.maxMag
  | .nan => f.maxMag

/-- The code of a value on the grid of an element format; every zero has S = 0 on this path (R52). -/
def Fmt.encode (f : Fmt) (x : Ex) : Nat :=
  match f with
  | .int n =>
    if n = 1 then (if x.neg then 0 else 1)
    else
      let v := x.num / x.den
      if x.neg then (2 ^ n - v) % 2 ^ n else v % 2 ^ n
  | f =>
    match f.fpParams with
    | none => 0
    | some (eb, mb, bias) =>
      if x.isZero then 0
      else
        let q := gridExp x (mb + 1) (1 - (bias : Int))
        let (n, d) := x.scaled q
        let m := n / d
        let sgn := if x.neg then 2 ^ (eb + mb) else 0
        if m < 2 ^ mb then sgn + m else sgn + (q + mb + bias).toNat * 2 ^ mb + (m - 2 ^ mb)

/-- The code with the sign of a zero kept, for interchange (R76, R51). -/
def Fmt.encodeSigned (f : Fmt) (x : Ex) : Nat :=
  match f.fpParams with
  | none => f.encode x
  | some (eb, mb, _) => if x.isZero then (if x.neg then 2 ^ (eb + mb) else 0) else f.encode x

/-- The format bound by the escalation table of R182; `none` where there is none. -/
def Fmt.escalation : Fmt → Option Fmt
  | .int n => if n = 1 then some (.int 2) else if n ≤ 3 then some (.int 4) else if n ≤ 7 then some (.int 8) else none
  | .fp4e2m1 => some .fp8e4m3
  | .fp6e2m3 => some .fp8e4m3
  | .fp6e3m2 => some .fp8e4m3
  | _ => none

/-! ### Master weights (R49) -/

/-- The MW48 value on its two planes read as one 48-bit word: `high` is bits [47:16], `ext` bits [15:0]. -/
def decodeMw48 (high ext : Nat) : FV := decodeIeee 8 39 (high * 2 ^ 16 + ext % 2 ^ 16)

/-- RNE on the MW48 grid and its 48-bit code (R55). -/
def roundMw48 (v : FV) : Nat := roundIeee 8 39 v

/-- `srnd` on the MW48 grid, overflow to an infinity (R54). -/
def srndMw48 (v : FV) (r : Nat) : Nat :=
  match v with
  | .fin x => encodeIeee 8 39 (.fin (x.srndGrid 40 (-126) r))
  | v => encodeIeee 8 39 v

/-! ### Pieces of wide operands (R123) -/

/-- The integer significand and the weight exponent of a finite wide value (R123). -/
def wideSig (p : Nat) (emin : Int) (x : Ex) : Nat × Int :=
  let q := gridExp x p emin
  let (n, d) := x.scaled q
  (n / d, q)

/-- The pieces of an operand value by its format, as (index, value) (R123). -/
def pieces (f : Fmt) (x : Ex) : List (Nat × Ex) :=
  match f with
  | .fp16 =>
    let (m, q) := wideSig 11 (-14) x
    [(2, Ex.ofScaled x.neg (m / 8) (q + 3)), (1, Ex.ofScaled x.neg (m % 8) q)]
  | .fp32 =>
    let (m, q) := wideSig 24 (-126) x
    [(2, Ex.ofScaled x.neg (m / 2 ^ 16) (q + 16)), (1, Ex.ofScaled x.neg (m / 2 ^ 8 % 2 ^ 8) (q + 8)),
     (0, Ex.ofScaled x.neg (m % 2 ^ 8) q)]
  | _ => [(2, x)]

/-- The passes of R124 as pairs of piece indices; fast mode omits every pass with `i + j ≤ 1`. -/
def passes (fa fb : Fmt) (fast : Bool) : List (Nat × Nat) :=
  let ia := (pieces fa Ex.zero).map (·.1)
  let ib := (pieces fb Ex.zero).map (·.1)
  (ia.flatMap fun i => ib.map fun j => (i, j)).filter fun p => !(fast && decide (p.1 + p.2 ≤ 1))

end Sys2Proof.Machine
end

