-- ==== Sys2Proof/Machine/Bbf.lean ====
section
/-! DEFINITION. Tensors in memory: tensor descriptors (R267), the BBF container (R60–R71), OCP MX arrays (R73–R76)
and the values that a command reads from them. A read function gives the byte at each virtual address. -/

namespace Sys2Proof.Machine

/-- The status codes of R283. -/
inductive Status where
  | ok
  | okRecomputed
  | okRescaled
  | okWidened
  | okFrozenSkipped
  | partialTiles
  | decodeError
  | formatConflict
  | streamCorrelated
  | accessFault
  | syncRange
  | timeout
  | abortedByRecovery
  | memoryUncorrectable
  | linkFailed
deriving DecidableEq, Repr

/-- The code of a status (R283). -/
def Status.code : Status → Nat
  | .ok => 0x00
  | .okRecomputed => 0x01
  | .okRescaled => 0x02
  | .okWidened => 0x03
  | .okFrozenSkipped => 0x04
  | .partialTiles => 0x10
  | .decodeError => 0x20
  | .formatConflict => 0x21
  | .streamCorrelated => 0x22
  | .accessFault => 0x23
  | .syncRange => 0x24
  | .timeout => 0x30
  | .abortedByRecovery => 0x31
  | .memoryUncorrectable => 0x40
  | .linkFailed => 0x41

/-- The OK family of R185; every other status halts the queue (R283). -/
def Status.isOk : Status → Bool
  | .ok => true
  | .okRecomputed => true
  | .okRescaled => true
  | .okWidened => true
  | .okFrozenSkipped => true
  | _ => false

/-- Read `n` little-endian bytes as a number. -/
def rdNat (rd : Nat → Byte) (a : Nat) : Nat → Nat
  | 0 => 0
  | n + 1 => (rd a).toNat + 256 * rdNat rd (a + 1) n

/-- A tensor descriptor (R267). -/
structure TDesc where
  base : Nat
  kind : Nat
  mxfmt : Nat
  stride : Nat
  aux : Nat
  rows : Nat
  cols : Nat
deriving DecidableEq, Repr

def kBBF : Nat := 0
def kFP32 : Nat := 1
def kBF16 : Nat := 2
def kFP16 : Nat := 3
def kMX : Nat := 4
def kMW48 : Nat := 5
def kINT32 : Nat := 6

/-- The 32 bytes of a descriptor; `none` where a field or a reserved bit makes it a DECODE_ERROR (R17, R267). -/
def readTDesc (rd : Nat → Byte) (a : Nat) : Option TDesc :=
  let kind := rdNat rd (a + 6) 1
  let mxfmt := rdNat rd (a + 7) 1
  let aux := rdNat rd (a + 0x10) 6
  let rows := rdNat rd (a + 0x18) 4
  let cols := rdNat rd (a + 0x1C) 4
  let mxOk := if kind = kMX then mxfmt == 0x08 || (decide (0x11 ≤ mxfmt) && decide (mxfmt ≤ 0x15)) else mxfmt == 0
  let auxOk := kind == kMX || kind == kMW48 || aux == 0
  if decide (7 ≤ kind) || !mxOk || !auxOk || rdNat rd (a + 0x0C) 4 != 0 || rdNat rd (a + 0x16) 2 != 0
      || rows == 0 || cols == 0 then none
  else some ⟨rdNat rd a 6, kind, mxfmt, rdNat rd (a + 8) 4, aux, rows, cols⟩

/-- Bytes of one value of a wide kind; 0 for BBF and MX. -/
def TDesc.elemBytes (t : TDesc) : Nat :=
  if t.kind = kFP32 then 4 else if t.kind = kBF16 then 2 else if t.kind = kFP16 then 2
  else if t.kind = kMW48 then 4 else if t.kind = kINT32 then 4 else 0

/-- Tiles along the block axis and along the outer axis (R71). -/
def TDesc.kTiles (t : TDesc) : Nat := ceilDiv t.cols 128
def TDesc.oTiles (t : TDesc) : Nat := ceilDiv t.rows 128

/-- The address of BBF tile `(t_k, t_o)` (R71). -/
def TDesc.tileAddr (t : TDesc) (tk tO : Nat) : Nat := t.base + (tO * t.kTiles + tk) * t.stride

/-- The format of an MX tensor's elements (R267). -/
def TDesc.mxFmt (t : TDesc) : Fmt := (Fmt.ofCode t.mxfmt).getD (.int 8)

/-- Blocks of 32 along the block axis (R74). -/
def TDesc.kBlocks (t : TDesc) : Nat := ceilDiv t.cols 32

/-- The address ranges of a tensor (R71, R74, R49), as (address, length). -/
def TDesc.ranges (t : TDesc) : List (Nat × Nat) :=
  if t.kind = kBBF then [(t.base, t.kTiles * t.oTiles * t.stride)]
  else if t.kind = kMX then
    [(t.base, (t.rows - 1) * t.stride + t.kBlocks * 4 * t.mxFmt.width), (t.aux, t.rows * t.kBlocks)]
  else [(t.base, (t.rows - 1) * t.stride + t.cols * t.elemBytes)]

/-- The format of a wide tensor's values as a matrix operand (R123). -/
def TDesc.wideFmt (t : TDesc) : Fmt :=
  if t.kind = kBF16 then .bf16 else if t.kind = kFP16 then .fp16 else .fp32

/-- The value of a wide tensor at outer position `o` and block-axis position `k`; MW48 is read as FP32 from its high
plane (R49, R579). -/
def TDesc.wideAt (rd : Nat → Byte) (t : TDesc) (o k : Nat) : FV :=
  if t.kind = kBF16 then ofBitsBf (rdNat rd (t.base + o * t.stride + 2 * k) 2)
  else if t.kind = kFP16 then ofBits16 (rdNat rd (t.base + o * t.stride + 2 * k) 2)
  else ofBits32 (rdNat rd (t.base + o * t.stride + 4 * k) 4)

/-! ### BBF tiles -/

/-- A tile header that R64 accepts (R63). -/
structure TileHdr where
  fmt : Fmt
  fold : Bool
  rot : Nat
  slots : Nat
  rotId : Nat
  scale : Nat
  validK : Nat
  validLines : Nat
deriving DecidableEq, Repr

/-- The rotation size that a code of R63 names. -/
def rotSize (c : Nat) : Nat := if c = 1 then 32 else if c = 2 then 64 else if c = 3 then 128 else if c = 4 then 256 else 0

/-- Slots per block for a 2-bit code (R63). -/
def slotCount (c : Nat) : Nat := if c = 0 then 0 else 2 ^ (c - 1)

/-- Bytes of a tile (R62). -/
def tileBytes (f : Fmt) (slots : Nat) : Nat := 320 + 1024 * slots + 2048 * f.width

/-- A positive, finite, normal FP32 code (R64). -/
def normalPos (w : Nat) : Bool := decide (0x00800000 ≤ w) && decide (w < 0x7F800000)

/-- The header at `a` checked against R64 for a tensor of the given stride; `none` where it is faulty. -/
def readHdr (rd : Nat → Byte) (a stride : Nat) : Option TileHdr :=
  let b1 := rdNat rd (a + 1) 1
  let b1a := rdNat rd (a + 0x1A) 1
  let rot := bitsOf b1 4 2
  let slots := slotCount (bitsOf b1 1 0)
  let rotId := rdNat rd (a + 2) 2
  let scale := rdNat rd (a + 4) 4
  let vk := rdNat rd (a + 8) 2
  let vl := rdNat rd (a + 0xA) 2
  match Fmt.ofCode (rdNat rd a 1) with
  | none => none
  | some f =>
    if !f.inTile || decide (5 ≤ rot) || bitOf b1 7 || decide (5 ≤ bitsOf b1a 4 2) || bitsOf b1a 1 0 == 3
        || bitsOf b1a 7 5 != 0 || rdNat rd (a + 0x1B) 1 != 1 || rdNat rd (a + 0x1C) 36 != 0
        || (f.isCb && slots != 0) || vk == 0 || decide (128 < vk) || vl == 0 || decide (128 < vl)
        || !normalPos scale || (rot == 0 && rotId != 0) || decide (stride < tileBytes f slots)
    then none
    else some ⟨f, bitOf b1 5, rot, slots, rotId, scale, vk, vl⟩

/-- The shift of block `b` of the tile at `a` (R66); a CBn tile has none (R67). -/
def tileShift (rd : Nat → Byte) (a : Nat) (h : TileHdr) (b : Nat) : Nat :=
  if h.fmt.isCb then 0
  else
    let w := rdNat rd (a + 64 + b / 2) 1
    if b % 2 = 0 then bitsOf w 3 0 else bitsOf w 7 4

/-- The element code at line `j`, element `i` (R68). -/
def tileCode (rd : Nat → Byte) (a : Nat) (h : TileHdr) (j i : Nat) : Nat :=
  let w := h.fmt.width
  let line := a + 320 + 1024 * h.slots + 16 * w * j
  rdNat rd (line + i * w / 8) 2 / 2 ^ (i * w % 8) % 2 ^ w

/-- The outlier slot words of block `b` (R70). -/
def tileSlots (rd : Nat → Byte) (a : Nat) (h : TileHdr) (b : Nat) : List Nat :=
  (List.range h.slots).map fun t => rdNat rd (a + 320 + 2 * (h.slots * b + t)) 2

/-- The residual sum of the valid slots that name element `i` of the block, in ascending t; a NaN residual adds
nothing, and a sum over no terms is absent (R70, R577). -/
def slotResidual (slots : List Nat) (i : Nat) : Option Ex :=
  slots.foldl (fun acc w =>
    if bitOf w 15 && bitsOf w 12 8 == i then
      match Fmt.fp8e4m3.decodeKeep (w % 256) with
      | .fin r => match acc with
        | none => some r
        | some a => some (a.add r)
      | _ => acc
    else acc) none

/-- One operand element: its tile scale, block shift and element value (R112). -/
structure Operand where
  s : Ex
  e : Nat
  x : FV
  fmt : Fmt
deriving DecidableEq, Repr

/-- The element value `v + Σr` of a tile (R60); a non-finite code keeps its kind. -/
def elemValue (v : FV) (r : Option Ex) : FV :=
  match v, r with
  | .fin x, some y => .fin (x.add y)
  | v, _ => v

/-- The scaled element of a BBF tile (R60, R69), read by a Hearth or by another unit: padding reads as an exact zero. -/
def tileElem (hearth : Bool) (rd : Nat → Byte) (a : Nat) (h : TileHdr) (j i : Nat) : Operand :=
  let b := 4 * j + i / 32
  let s := (ofBits32 h.scale).getFin
  let e := tileShift rd a h b
  if decide (h.validK ≤ i) || decide (h.validLines ≤ j) then ⟨s, e, FV.zero, h.fmt⟩
  else ⟨s, e, elemValue (h.fmt.decodeBy hearth (tileCode rd a h j i)) (slotResidual (tileSlots rd a h b) (i % 32)), h.fmt⟩

/-- The decoded real of an element, rounded once: `fl32(s × 2⁻ᵉ × (v + Σr))` (R163). -/
def Operand.decode (o : Operand) : FV :=
  match o.x with
  | .fin x => fl32x ((o.s.mul (Ex.pow2 (-(o.e : Int)))).mul x)
  | v => v

/-! ### OCP MX (R74) -/

/-- The E8M0 scale exponent of block `b` of outer position `o`; `none` for the NaN code. -/
def mxScale (rd : Nat → Byte) (t : TDesc) (o b : Nat) : Option Int :=
  let c := (rd (t.aux + o * t.kBlocks + b)).toNat
  if c = 0xFF then none else some ((c : Int) - 127)

/-- The element code at outer position `o`, block-axis position `k`, packed along the block axis as in R68. -/
def mxCode (rd : Nat → Byte) (t : TDesc) (o k : Nat) : Nat :=
  let w := t.mxFmt.width
  rdNat rd (t.base + o * t.stride + k * w / 8) 2 / 2 ^ (k * w % 8) % 2 ^ w

/-- The exponent of an MXINT8 element's unit (R75): −6 for MXINT8 and 0 otherwise. -/
def mxOffset (f : Fmt) : Int := if f = .int 8 then -6 else 0

/-- The exact value of an MX element (R74); subnormals are kept (R51). -/
def mxValue (rd : Nat → Byte) (t : TDesc) (o k : Nat) : FV :=
  match mxScale rd t o (k / 32) with
  | none => .nan
  | some x =>
    match t.mxFmt.decodeKeep (mxCode rd t o k) with
    | .fin v => .fin (v.mul (Ex.pow2 (x + mxOffset t.mxFmt)))
    | v => v

/-! ### Writing -/

/-- A block as Glaze leaves it: shift, 32 codes and slot words, and for each data element its value, its encoded
value, whether it is ash or clinker (R155), and whether it is held in a slot or an outlier that no slot holds. -/
structure Block where
  shift : Nat
  codes : List Nat
  slots : List Nat
  xs : List FV
  vals : List Ex
  ash : List Bool
  clinkFin : List Bool
  clinkNon : List Bool
  held : List Bool
  outl : List Bool
  zeroed : Bool
  amax : Ex
  residB : Ex
deriving DecidableEq, Repr

/-- How many entries of a flag list hold. -/
def countTrue (l : List Bool) : Nat := (l.filter id).length

/-- Nonzero data elements of a block. -/
def Block.nonzero (b : Block) : Nat := countTrue (b.xs.map FV.isNonzero)

/-- Zero block (R156): written by R151 while holding a nonzero data element. -/
def Block.isZeroBlock (b : Block) : Bool := b.zeroed && b.nonzero != 0

/-- Clinker block (R156): every nonzero data element, of at least one, is clinker. -/
def Block.isClinkBlock (b : Block) : Bool :=
  b.nonzero != 0 && countTrue b.clinkFin + countTrue b.clinkNon == b.nonzero

/-- Overflow block (R156): an outlier that no slot holds. -/
def Block.isOverflow (b : Block) : Bool := b.outl.any id

/-- Pack codes of `w` bits as one little-endian bit string (R68). -/
def packCodes (w : Nat) (codes : List Nat) : Nat := codes.foldr (fun c acc => c % 2 ^ w + 2 ^ w * acc) 0

/-- The header words of a written tile (R63). -/
structure HdrOut where
  fmt : Fmt
  sr : Bool
  fold : Bool
  rot : Nat
  slotsCode : Nat
  rotId : Nat
  scale : Nat
  validK : Nat
  validLines : Nat
  ledgerIdx : Nat
  step : Nat
  scaleSrc : Nat
  emit : Nat
deriving DecidableEq, Repr

/-- The bytes of a tile: header, shift plane, outlier plane and element plane (R62, R63, R66, R68, R70). -/
def tileBytesOut (h : HdrOut) (blocks : List Block) : List Byte :=
  let ash := (blocks.map fun b => countTrue b.ash).sum
  let clk := (blocks.map fun b => countTrue b.clinkFin + countTrue b.clinkNon).sum
  let ovf := (blocks.filter (·.isOverflow)).length
  let b1 := (if h.sr then 64 else 0) + (if h.fold then 32 else 0) + 4 * h.rot + h.slotsCode
  let hdr := leBytes 1 h.fmt.code ++ leBytes 1 b1 ++ leBytes 2 h.rotId ++ leBytes 4 h.scale ++ leBytes 2 h.validK
    ++ leBytes 2 h.validLines ++ leBytes 4 h.ledgerIdx ++ leBytes 4 h.step ++ leBytes 2 ash ++ leBytes 2 clk
    ++ leBytes 2 ovf ++ leBytes 1 (4 * h.scaleSrc + h.emit) ++ leBytes 1 1 ++ leBytes 36 0
  let shifts := leBytes 256 (packCodes 4 (blocks.map (·.shift)))
  let slots := blocks.flatMap fun b => b.slots.flatMap fun w => leBytes 2 w
  let lines := (List.range 128).flatMap fun j =>
    leBytes (16 * h.fmt.width) (packCodes h.fmt.width (((blocks.drop (4 * j)).take 4).flatMap (·.codes)))
  hdr ++ shifts ++ slots ++ lines

end Sys2Proof.Machine
end

