-- ==== Sys2Proof/Machine/Glaze.lean ====
section
/-! DEFINITION. Glaze: rotation (R138–R147), block encoding (R148–R152), stochastic draws (R160), the scale ledger
(R168–R176), tile re-emission (R177–R180), fold mode (R165, R166) and OCP MX interchange (R75, R76). -/

namespace Sys2Proof.Machine

/-! ### Rotation -/

/-- A rotation-table entry (R140). -/
structure RotEntry where
  seed : Nat
  layer : Nat
deriving DecidableEq, Repr

/-- The entry at `a`; `none` where `VALID` is 0 or a reserved bit is set (R140). -/
def readRot (rd : Nat → Byte) (a : Nat) : Option RotEntry :=
  if rdNat rd (a + 0xA) 2 = 1 ∧ rdNat rd (a + 0xC) 4 = 0 then some ⟨rdNat rd a 8, rdNat rd (a + 8) 2⟩ else none

/-- The sign key of a rotation (R141). -/
def rotKey (e : RotEntry) (rotId : Nat) : Nat := mix64 (Nat.xor (Nat.xor e.seed (e.layer * 2 ^ 32)) rotId)

/-- Whether position `k` is flipped (R141). -/
def rotFlip (key k : Nat) : Bool := bitOf (mix64 (key + k / 64)) (k % 64)

/-- One butterfly stage of distance `h` (R142). -/
def butterfly (h : Nat) (v : List FV) : List FV :=
  (List.range v.length).map fun i =>
    if bitOf i (Nat.log2 h) then fsub (v.getD (i - h) FV.zero) (v.getD i FV.zero)
    else fadd (v.getD i FV.zero) (v.getD (i + h) FV.zero)

/-- The FP32 constant for `1 / √n` (R142). -/
def rotConst (n : Nat) : FV :=
  ofBits32 (if n = 32 then 0x3E3504F3 else if n = 64 then 0x3E000000 else if n = 128 then 0x3DB504F3 else 0x3D800000)

/-- The stages of R142 in order, then the multiplication by `c_n`. -/
def rotStages (n : Nat) (v : List FV) : List FV :=
  ((List.range (Nat.log2 n)).foldl (fun v k => butterfly (2 ^ k) v) v).map fun x => fmul (rotConst n) x

/-- Flip the signs of rotation block `j` (R141). -/
def signFlips (n key j : Nat) (v : List FV) : List FV :=
  v.zipIdx.map fun p => if rotFlip key (n * j + p.2) then p.1.flip else p.1

/-- Forward rotation of one rotation block (R142, R144). -/
def rotateFwd (n key j : Nat) (x : List FV) : List FV :=
  if x.all FV.isFin then rotStages n (signFlips n key j x) else x.map fun _ => .nan

/-- Inverse rotation of one rotation block (R143, R144). -/
def rotateInv (n key j : Nat) (y : List FV) : List FV :=
  if y.all FV.isFin then signFlips n key j (rotStages n y) else y.map fun _ => .nan

/-- Rotate a run of whole rotation blocks whose first block is `j0`; size 0 leaves the run as it is. -/
def rotateRun (fwd : Bool) (n key j0 : Nat) (x : List FV) : List FV :=
  if n = 0 then x
  else (List.range (x.length / n)).flatMap fun j =>
    let blk := (x.drop (n * j)).take n
    if fwd then rotateFwd n key (j0 + j) blk else rotateInv n key (j0 + j) blk

/-! ### Stochastic draws (R160) -/

def srKey (seed layer step : Nat) : Nat := mix64 (Nat.xor (Nat.xor seed (layer * 2 ^ 32)) (step % 2 ^ 32))

def srDraw (key i : Nat) : Nat := mix64 (key + i / 4) / 2 ^ (16 * (i % 4)) % 2 ^ 16

/-- The rounding that element index `i` of an output takes. -/
def drawRound (key : Option Nat) (i : Nat) : Round :=
  match key with
  | none => .rne
  | some k => .srnd (srDraw k i)

/-! ### Encoding a block (R148–R151) -/

/-- Insert an index into a list ordered by |x| descending, ties by index ascending. -/
def rankInsert (p : Nat × Ex) : List (Nat × Ex) → List (Nat × Ex)
  | [] => [p]
  | q :: l => if p.2.absLt q.2 || (p.2.absLe q.2 && decide (q.1 < p.1)) then q :: rankInsert p l else p :: q :: l

/-- The ranking of R148 over the finite data elements. -/
def ranking (xs : List FV) : List (Nat × Ex) :=
  (xs.zipIdx.filterMap fun p => match p.1 with
    | .fin x => some (p.2, x.abs)
    | _ => none).foldr rankInsert []

/-- The magnitude `a` of R148. -/
def blockAmax (xs : List FV) (slots : Nat) : Ex := (((ranking xs)[slots]?).map (·.2)).getD Ex.zero

/-- The shift of R67. -/
def blockShift (a s m : Ex) : Nat :=
  if a.isZero then 15
  else (((List.range 16).reverse.find? fun k : Nat => (a.mul (Ex.pow2 (k : Int))).absLe (s.mul m))).getD 0

/-- `fl32(|x| × M / (M + 448))` (R178). -/
def residBound (x m : Ex) : Ex := (fl32x ((x.abs.mul m).div (m.add ⟨false, 448, 1⟩))).getFin

/-- Encode the data elements of one block; `rd i` is the rounding of element `i`, `shift?` fixes the shift and turns
the slots off (fold mode, R166). -/
def encodeBlock (xs : List FV) (f : Fmt) (slots : Nat) (s : Ex) (rd : Nat → Round) (fixed : Option Nat) : Block :=
  let m := f.maxMag
  let rank := ranking xs
  let a := blockAmax xs slots
  let e := fixed.getD (blockShift a s m)
  let step := s.mul (Ex.pow2 (-(e : Int)))
  let lim := step.mul m
  let heldIdx := ((rank.take slots).filter fun p => lim.absLt p.2).map (·.1)
  let enc := xs.zipIdx.map fun p =>
    match p.1 with
    | .fin x =>
      let q := f.roundTo (x.div step) (rd p.2)
      (f.flush (f.satTo q), m.absLt q)
    | v => (f.toNarrowV v .rne, false)
  let vals := enc.map (·.1)
  let resid := heldIdx.map fun i =>
    let x := (xs.getD i FV.zero).getFin
    let r := Fmt.fp8e4m3.roundTo ((x.div step).sub (vals.getD i Ex.zero)) .rne
    (i, Fmt.fp8e4m3.satTo r, Fmt.fp8e4m3.maxMag.absLt r)
  let satHeld (i : Nat) : Bool := resid.any fun r => r.1 == i && r.2.2
  let zeroed := vals.all Ex.isZero && heldIdx.isEmpty
  let bMax := (resid.filter (·.2.2)).foldl (fun acc r => Ex.max acc (residBound (xs.getD r.1 FV.zero).getFin m)) Ex.zero
  { shift := if zeroed then 15 else e
    codes := (vals.map f.encode) ++ List.replicate (32 - xs.length) 0
    slots := (resid.map fun r => 2 ^ 15 + 2 ^ 8 * r.1 + Fmt.fp8e4m3.encodeSigned r.2.1)
      ++ List.replicate (slots - resid.length) 0
    xs := xs
    vals := vals
    ash := xs.zipIdx.map fun p => p.1.isFin && p.1.isNonzero && !heldIdx.contains p.2 && (vals.getD p.2 Ex.zero).isZero
    clinkFin := xs.zipIdx.map fun p =>
      if heldIdx.contains p.2 then satHeld p.2 else (enc.getD p.2 (Ex.zero, false)).2
    clinkNon := xs.map fun x => !x.isFin
    held := xs.zipIdx.map fun p => heldIdx.contains p.2
    outl := xs.zipIdx.map fun p => p.1.isFin && lim.absLt p.1.getFin && !heldIdx.contains p.2
    zeroed := zeroed
    amax := a
    residB := bMax }

/-- How a unit's tiles are written: format, slots, rounding key and the fold scale when fold mode is on (R159, R166). -/
structure EncSpec where
  fmt : Fmt
  slots : Nat
  sr : Option Nat
  fold : Bool
deriving DecidableEq, Repr

/-- The 512 blocks of tile `(tk, tO)` from the values of its lines (R61, R69); `kt` is the tile count along K. -/
def encodeTile (sp : EncSpec) (s : Ex) (kt tk tO : Nat) (lines : List (List FV)) : List Block :=
  (List.range 512).map fun b =>
    let j := b / 4
    let k0 := 32 * (b % 4)
    let xs := ((lines.getD j []).drop k0).take 32
    let idx (i : Nat) : Nat := (128 * tO + j) * 128 * kt + 128 * tk + k0 + i
    if sp.fold then encodeBlock xs sp.fmt 0 Ex.one (fun i => drawRound sp.sr (idx i)) (some 0)
    else encodeBlock xs sp.fmt sp.slots s (fun i => drawRound sp.sr (idx i)) none

/-- The observed amax of a tile (R152). -/
def tileAmax (slots : Nat) (lines : List (List FV)) : Ex :=
  (lines.flatMap fun l => (List.range 4).map fun b => blockAmax ((l.drop (32 * b)).take 32) slots).foldl Ex.max Ex.zero

/-! ### The scale ledger (R169–R176) -/

/-- A ledger entry (R169); `est` and `pmax` are FP32 codes. -/
structure LEntry where
  est : Nat
  pmax : Nat
  step : Nat
  init : Bool
  pend : Bool
  repl : Bool
  tol : Nat
  decay : Nat
  head : Nat
deriving DecidableEq, Repr

/-- A finite FP32 code that is not negative; −0 counts as not negative. -/
def estOk (w : Nat) : Bool :=
  match ofBits32 w with
  | .fin x => !x.neg || x.isZero
  | _ => false

/-- The 16 bytes of an entry; `none` where a reserved bit is set or `EST` or `PMAX` is negative or non-finite (R169). -/
def readLEntry (rd : Nat → Byte) (a : Nat) : Option LEntry :=
  let w := rdNat rd (a + 0xC) 4
  let est := rdNat rd a 4
  let pmax := rdNat rd (a + 4) 4
  if bitsOf w 28 24 != 0 || bitsOf w 9 0 != 0 || !estOk est || !estOk pmax then none
  else some ⟨est, pmax, rdNat rd (a + 8) 4, bitOf w 31, bitOf w 30, bitOf w 29, bitsOf w 23 16, bitsOf w 15 12, bitsOf w 11 10⟩

/-- The bytes of an entry. -/
def LEntry.bytes (e : LEntry) : List Byte :=
  leBytes 4 e.est ++ leBytes 4 e.pmax ++ leBytes 4 e.step ++
    leBytes 4 ((if e.init then 2 ^ 31 else 0) + (if e.pend then 2 ^ 30 else 0) + (if e.repl then 2 ^ 29 else 0)
      + 2 ^ 16 * e.tol + 2 ^ 12 * e.decay + 2 ^ 10 * e.head)

/-- `fold` of R172 for step bits `t`. -/
def LEntry.fold (e : LEntry) (t : Nat) : LEntry :=
  if e.pend && e.step != t then
    let est :=
      if e.repl || !e.init then e.pmax
      else
        let f : Ex := if e.decay = 0 then Ex.one else Ex.one.sub (Ex.pow2 (-(e.decay : Int)))
        let d := fmul (ofBits32 e.est) (.fin f)
        if d.le (ofBits32 e.pmax) then e.pmax else bits32 d
    { e with est := est, init := true, pend := false, repl := false }
  else e

/-- `later(a, b)` of R176. -/
def laterStep (a b : Nat) : Bool :=
  let d := (a + 2 ^ 32 - b) % 2 ^ 32
  decide (1 ≤ d) && decide (d < 2 ^ 31)

/-- `merge` of R175. -/
def LEntry.merge (e : LEntry) (obs : Nat) (t : Nat) (repl : Bool) : LEntry :=
  if e.pend then
    { e with
      pmax := if (ofBits32 e.pmax).le (ofBits32 obs) then obs else e.pmax
      step := if laterStep t e.step then t else e.step
      repl := e.repl || repl }
  else { e with pmax := obs, step := t, pend := true, repl := e.repl || repl }

/-- `tile_scale` of R172. -/
def tileScale (est : Ex) (h : Nat) (m : Ex) : Ex :=
  match fl32x ((est.mul (Ex.pow2 h)).div m) with
  | .fin x => Ex.sat x (Ex.pow2 (-126)) maxF32
  | _ => maxF32

/-! ### Units: first emission and re-emission (R173, R174, R177–R180) -/

/-- A unit's tiles with the values of their lines, already rotated. -/
abbrev UnitVals := List ((Nat × Nat) × List (List FV))

/-- One emission of a unit: the blocks of each tile. -/
structure Emission where
  tiles : List ((Nat × Nat) × List Block)
  scale : Ex
  src : Nat
  emit : Nat
  corr : Option Ex
  unresolved : Bool
deriving DecidableEq, Repr

def Emission.blocks (e : Emission) : List Block := e.tiles.flatMap (·.2)

/-- The finite clinker of an emission (R177). -/
def Emission.finClink (e : Emission) : Nat := (e.blocks.map fun b => countTrue b.clinkFin).sum

/-- The observed amax of an emission (R152). -/
def Emission.amax (e : Emission) : Ex := (e.blocks.map (·.amax)).foldl Ex.max Ex.zero

/-- The largest residual bound `b` of R178. -/
def Emission.residB (e : Emission) : Ex := (e.blocks.map (·.residB)).foldl Ex.max Ex.zero

/-- `c = min(fl32(2 × max(o, b)), MAXF32)` (R178). -/
def Emission.correction (e : Emission) : Ex :=
  match fl32x ((⟨false, 2, 1⟩ : Ex).mul (Ex.max e.amax e.residB)) with
  | .fin x => x
  | _ => maxF32

def emitOnce (sp : EncSpec) (kt : Nat) (vals : UnitVals) (s : Ex) (src emit : Nat) (corr : Option Ex) : Emission :=
  ⟨vals.map fun t => (t.1, encodeTile sp s kt t.1.1 t.1.2 t.2), s, src, emit, corr, false⟩

/-- Re-emit at most `fuel` times while the finite clinker exceeds `TOL` (R177–R179). -/
def reemit (sp : EncSpec) (kt tol head : Nat) (vals : UnitVals) : Nat → Emission → Emission
  | fuel, e =>
    if tol == 255 || decide (e.finClink ≤ tol) then e
    else match fuel with
      | 0 => { e with unresolved := true }
      | fuel + 1 =>
        let c := e.correction
        reemit sp kt tol head vals fuel
          (emitOnce sp kt vals (tileScale c head sp.fmt.maxMag) (if e.src = 2 then 2 else 1) (e.emit + 1) (some c))

/-- The measurement of a unit (R152, R174). -/
def unitAmax (slots : Nat) (vals : UnitVals) : Ex := (vals.map fun t => tileAmax slots t.2).foldl Ex.max Ex.zero

/-- The first emission of a unit against its folded entry and its re-emissions (R173, R174, R177). -/
def emitUnit (sp : EncSpec) (kt : Nat) (e : LEntry) (vals : UnitVals) : Emission :=
  let est := if e.init then (ofBits32 e.est).getFin else unitAmax sp.slots vals
  reemit sp kt e.tol e.head vals 2 (emitOnce sp kt vals (tileScale est e.head sp.fmt.maxMag) 0 0 none)

/-- The escalated emission of a unit (R183 steps 2 and 3). -/
def emitEscalated (sp : EncSpec) (kt : Nat) (e : LEntry) (vals : UnitVals) : Emission :=
  reemit sp kt e.tol e.head vals 2
    (emitOnce sp kt vals (tileScale (unitAmax sp.slots vals) e.head sp.fmt.maxMag) 2 0 none)

/-- A fold-mode emission: fixed scale, never re-emitted (R166). -/
def emitFold (sp : EncSpec) (kt : Nat) (vals : UnitVals) (foldScale : Ex) : Emission :=
  emitOnce sp kt vals foldScale 4 0 none

/-- The observation merged for an emission (R175, R183 step 4): raised by the correction that formed the written emission.
DESIGN CHOICE: after two re-emissions, or for an unresolved unit, no further correction is formed from the written
emission (log entry 42). -/
def Emission.observation (e : Emission) : Nat :=
  bits32 (.fin (match e.corr with
    | none => e.amax
    | some c => Ex.max e.amax c))

/-! ### Statistics of an emission (R221–R223) -/

/-- The eight counters of a stat bank (R221). -/
abbrev StatCounts := List Nat

/-- `min(⌊2¹⁶ × d²⌋, 2³⁶)` of a difference in steps (R222). -/
def noiseTerm (d : Ex) : Nat := min (2 ^ 16 * (d.num * d.num) / (d.den * d.den)) (2 ^ 36)

/-- The counters that one block adds, over the data elements that `live` admits; `moved i` is |w_new − w_old| where it
is known (R221–R223, R300). `b` is the block number in its tile; `s` is its scale, none in fold mode, where a value over
its step is the epilogue's own value (R222). -/
def blockStats (b : Nat) (blk : Block) (s : Option Ex) (live : Nat → Bool) (moved : Nat → Option Ex) : StatCounts :=
  let idx := (List.range blk.xs.length).filter live
  let cnt (l : List Bool) : Nat := (idx.filter fun i => l.getD i false).length
  let step := (s.map fun s => s.mul (Ex.pow2 (-(blk.shift : Int)))).getD Ex.one
  let samp := (b / 2) % 32
  let useSamp := b % 2 == 0 && idx.contains samp && (blk.xs.getD samp FV.zero).isFin
  let xq := (blk.xs.getD samp FV.zero).getFin.div step
  let slotVal := (slotResidual blk.slots samp)
  let c := blk.vals.getD samp Ex.zero
  let dec := match slotVal with
    | none => c
    | some r => c.add r
  [idx.length, cnt blk.ash, cnt blk.clinkFin + cnt blk.clinkNon, cnt blk.held, if cnt blk.outl = 0 then 0 else 1,
   if useSamp then noiseTerm (xq.sub dec) else 0, if useSamp then noiseTerm xq else 0,
   (idx.filter fun i => match moved i with
      | none => false
      | some d => d.absLt (step.div ⟨false, 2, 1⟩)).length]

/-- Sum of two banks modulo 2⁶⁴ (R221). -/
def addCounts (a b : StatCounts) : StatCounts := (List.range 8).map fun i => (a.getD i 0 + b.getD i 0) % 2 ^ 64

/-! ### OCP MX import and export (R75, R76) -/

/-- One tile of an MX tensor read for import with the same element format: scale exponent, and for each block its
shift, codes, losses and observed amax (R75, R152). Lines are outer positions, blocks run along K. -/
def importTile (rd : Nat → Byte) (t : TDesc) (tk tO vk vl : Nat) : Ex × List Block :=
  let f := t.mxFmt
  let o := mxOffset f
  let exps := (List.range vl).flatMap fun j =>
    (List.range (ceilDiv vk 32)).filterMap fun b => mxScale rd t (128 * tO + j) (4 * tk + b)
  let top : Int := match exps with
    | [] => 0
    | x :: l => max (l.foldl max x + o) (-126)
  let blk (b : Nat) : Block :=
    let j := b / 4
    let k0 := 32 * (b % 4)
    let n := if j < vl then min 32 (vk - k0) else 0
    let codes := (List.range n).map fun i => mxCode rd t (128 * tO + j) (128 * tk + k0 + i)
    let vals := codes.map f.decodeKeep
    let base : Block := encodeBlock [] f 0 Ex.one (fun _ => .rne) none
    if n = 0 then base
    else match mxScale rd t (128 * tO + j) (4 * tk + b % 4) with
      | none => { (encodeBlock (codes.map fun _ => FV.nan) f 0 Ex.one (fun _ => .rne) (some 15)) with shift := 15 }
      | some x =>
        let d : Int := top - (x + o)
        let e : Nat := (min d 15).toNat
        let step := Ex.pow2 (top - e)
        if d ≤ 15 then
          { base with
            shift := e
            codes := ((codes.zip vals).map fun p => if p.2.isFin then p.1 else f.encode (f.toNarrowV p.2 .rne))
              ++ List.replicate (32 - n) 0
            xs := vals.map fun v => v.mul (.fin step)
            vals := vals.map fun v => if v.isFin then v.getFin else f.toNarrowV v .rne
            ash := vals.map fun _ => false
            clinkFin := vals.map fun _ => false
            clinkNon := vals.map fun v => !v.isFin
            held := vals.map fun _ => false
            outl := vals.map fun _ => false
            zeroed := false
            amax := blockAmax (vals.map fun v => v.mul (.fin step)) 0 }
        else encodeBlock (vals.map fun v => v.mul (.fin (Ex.pow2 (x + o)))) f 0 (Ex.pow2 top) (fun _ => .rne) (some 15)
  (Ex.pow2 top, (List.range 512).map blk)

/-- The largest exponent of an MX element format (R76). -/
def mxEmax (f : Fmt) : Int :=
  match f with
  | .fp8e4m3 => 8
  | .fp8e5m2 => 15
  | .fp6e2m3 => 2
  | .fp6e3m2 => 4
  | .fp4e2m1 => 2
  | _ => 0

/-- One exported block: E8M0 code, element codes, ash and clinker (R76). -/
def exportBlock (f : Fmt) (xs : List Ex) : Nat × List Nat × Nat × Nat :=
  let a := xs.foldl (fun acc x => Ex.max acc x.abs) Ex.zero
  if a.isZero then (0, xs.map fun _ => 0, 0, 0)
  else
    let x : Int := max (min (a.lam - mxEmax f) 127) (-127)
    let unit := Ex.pow2 (x + mxOffset f)
    let q := xs.map fun v => f.roundTo (v.div unit) .rne
    let c := q.map f.satTo
    ((x + 127).toNat, c.map f.encodeSigned,
     countTrue (xs.zipIdx.map fun p => !p.1.isZero && (c.getD p.2 Ex.zero).isZero),
     countTrue (q.map fun v => f.maxMag.absLt v))

end Sys2Proof.Machine
end

