-- ==== Sys2Proof/Machine/Matrix.lean ====
section
/-! DEFINITION. Matrix products: operand values (R112), the group window (R114), the integer path (R121, R122),
pieces and passes (R123, R124), codebooks (R194–R196), stream estimates (R206–R210), segments and the epilogue
(R117–R119, R126, R127). -/

namespace Sys2Proof.Machine

/-- Which of the matrix opcodes' products a command forms (R128). -/
inductive MKind where
  | plain
  | table
  | binary
  | stream
deriving DecidableEq, Repr

/-- A matrix product as its command describes it (R267–R270): `df`, `part` and `prob` are its dataflow, partition and the
sub-array that it runs on (R83, R85, R86). -/
structure MatOp where
  kind : MKind
  df : Nat
  part : Nat
  prob : Nat
  a : TDesc
  b : TDesc
  out : TDesc
  accum : Bool
  fast : Bool
  kseg : Nat
  alpha : FV
  bias : Nat
  rho : Nat
  gamma : Nat
  cbBase : Nat
  cbFmt : Nat
  cbSpan : Nat
  slen : Nat
  genA : Nat
  genB : Nat
  layer : Nat
  step : Nat
deriving DecidableEq, Repr

/-- Groups of 32 along K (R113). -/
def MatOp.groups (op : MatOp) : Nat := ceilDiv op.a.cols 32

/-- Segment length in groups (R118). -/
def MatOp.segLen (op : MatOp) : Nat := if op.kseg = 0 then op.groups else 2 ^ op.kseg

/-- Segments (R118). -/
def MatOp.segments (op : MatOp) : Nat := ceilDiv op.groups op.segLen

/-- The value of a tensor at outer position `o` and K position `k` (R112), as a Hearth or as another unit reads it (R51);
a faulty tile gives zero here and fails its dependents elsewhere (R64). -/
def elemAt (hearth : Bool) (rd : Nat → Byte) (t : TDesc) (o k : Nat) : Operand :=
  if t.kind = kBBF then
    let a := t.tileAddr (k / 128) (o / 128)
    match readHdr rd a t.stride with
    | none => ⟨Ex.one, 0, FV.zero, .int 8⟩
    | some h => tileElem hearth rd a h (o % 128) (k % 128)
  else ⟨Ex.one, 0, t.wideAt rd o k, t.wideFmt⟩

/-- An operand of a product, read by a Hearth (R52, R112). -/
def operandAt (rd : Nat → Byte) (t : TDesc) (o k : Nat) : Operand := elemAt true rd t o k

/-- The decoded value of a tensor position, as Glaze and the taps read it (R60, R163, R495). -/
def decodedAt (rd : Nat → Byte) (t : TDesc) (o k : Nat) : FV := (elemAt false rd t o k).decode

/-- Output columns that share one codebook (R194). -/
def cbSpanCols (c : Nat) : Nat := if c = 0 then 128 else if c = 1 then 32 else 8

/-- The codebook entry that an index selects (R194–R196). -/
def cbEntry (rd : Nat → Byte) (op : MatOp) (n k idx : Nat) : FV :=
  let span := cbSpanCols op.cbSpan
  let rec0 := ((n / 128 * op.b.kTiles + k / 128) * 4 + k % 128 / 32) * (128 / span) + n % 128 / span
  let a := op.cbBase + 32 * rec0
  if op.cbFmt = 0 then (Fmt.int 8).decodeKeep (rdNat rd (a + idx) 1) else ofBitsBf (rdNat rd (a + 2 * idx) 2)

/-- The B operand of a product (R112): for MATMUL_TABLE the codebook entry that the index selects, with shift 0. -/
def operandB (rd : Nat → Byte) (op : MatOp) (n k : Nat) : Operand :=
  if op.kind = .table then
    let a := op.b.tileAddr (k / 128) (n / 128)
    match readHdr rd a op.b.stride with
    | none => ⟨Ex.one, 0, FV.zero, .int 8⟩
    | some h =>
      let s := (ofBits32 h.scale).getFin
      if decide (h.validK ≤ k % 128) || decide (h.validLines ≤ n % 128) then ⟨s, 0, FV.zero, .int 8⟩
      else ⟨s, 0, cbEntry rd op n k (tileCode rd a h (n % 128) (k % 128)), .int 8⟩
  else operandAt rd op.b n k

/-- The outcome of a group: its rounded sum, and how many piece products were truncated (R114, R115, R117). -/
structure GroupSum where
  g : FV
  trunc : Nat
deriving DecidableEq, Repr

/-- `W` of R114 as an integer in units of `2^(T − 63)`, that unit's exponent, and the truncated piece products. -/
def windowSum (fa fb : Fmt) (fast : Bool) (terms : List (Ex × Ex)) : Int × Int × Nat :=
  let terms := terms.filter fun t => !t.1.isZero && !t.2.isZero
  match terms with
  | [] => (0, 0, 0)
  | t :: l =>
    let top : Int := (l.map fun p => p.1.lam + p.2.lam).foldl max (t.1.lam + t.2.lam) + 1
    let unit := top - 63
    let prods := (passes fa fb fast).flatMap fun ij => terms.map fun p =>
      let pa := ((pieces fa p.1).filter fun q => q.1 == ij.1).map (·.2)
      let pb := ((pieces fb p.2).filter fun q => q.1 == ij.2).map (·.2)
      ((pa.getD 0 Ex.zero).mul (pb.getD 0 Ex.zero))
    let ints := prods.map fun p => p.truncInt unit
    let lost := prods.filter fun p => let (n, d) := p.scaled unit; n % d != 0
    (ints.sum, unit, lost.length)

/-! ### Stream generators (R206–R208) -/

/-- One step of the LFSR (R206). -/
def lfsrStep (s : Nat) : Nat :=
  let b := (s / 2 ^ 63 + s / 2 ^ 62 + s / 2 ^ 60 + s / 2 ^ 59) % 2
  (2 * s + b) % 2 ^ 64

/-- Apply a 64 × 64 matrix over GF(2), given by its columns. -/
def gf2Apply (cols : List Nat) (v : Nat) : Nat :=
  (cols.zipIdx.foldl (fun acc p => if bitOf v p.2 then Nat.xor acc p.1 else acc) 0)

/-- `fuel` squarings, multiplying in the powers that the bits of `p` name. -/
def gf2Pow : Nat → List Nat → Nat → Nat → Nat
  | 0, _, _, v => v
  | fuel + 1, cols, p, v =>
    gf2Pow fuel (cols.map fun c => gf2Apply cols c) (p / 2) (if p % 2 = 1 then gf2Apply cols v else v)

/-- `state_at(P)` (R206): the LFSR is linear, so P steps are one matrix power applied to the unit state. -/
def stateAt (p : Nat) : Nat := gf2Pow 64 ((List.range 64).map fun i => lfsrStep (2 ^ i)) (p % (2 ^ 64 - 1)) 1

/-- `stream_start` (R207). -/
def streamStart (g layer step : Nat) : Nat :=
  (g * 2 ^ 56 + mix64 (Nat.xor (layer * 2 ^ 32) (step % 2 ^ 32)) % 2 ^ 56) % (2 ^ 64 - 1)

/-- Stream length (R205). -/
def streamLen (slen : Nat) : Nat := 2 ^ (4 + slen)

/-- The draw of a generator for K position `k`, stream bit `t` (R208). -/
def streamDraw (op : MatOp) (gen k t : Nat) : Nat :=
  stateAt (streamStart gen op.layer op.step + 16 * (streamLen op.slen * k + t + 1)) % 2 ^ 16

/-- `N_f` of R204; `none` for a format that a stream product cannot read. -/
def streamNorm : Fmt → Option Nat
  | .int n => some (if n = 1 then 1 else 2 ^ (n - 1))
  | .fp4e2m1 => some 8
  | .fp6e2m3 => some 8
  | .fp6e3m2 => some 32
  | _ => none

/-- `stream_window_sum` (R210) over the K positions of one group. -/
def streamSum (op : MatOp) (terms : List (Nat × Operand × Operand)) : Ex :=
  let len := streamLen op.slen
  terms.foldl (fun acc t =>
    let xa := t.2.1.x.getFin
    let xb := t.2.2.x.getFin
    if xa.isZero || xb.isZero then acc
    else
      let na := (streamNorm t.2.1.fmt).getD 1
      let nb := (streamNorm t.2.2.fmt).getD 1
      let q (x : Ex) (n : Nat) : Nat := ((Ex.one.add (x.div (Ex.ofNat n))).truncInt (-15)).toNat
      let qa := q xa na
      let qb := q xb nb
      let c := ((List.range len).filter fun i =>
        decide (streamDraw op op.genA t.1 i < qa) == decide (streamDraw op op.genB t.1 i < qb)).length
      acc.add (((Ex.ofInt ((na * nb : Nat) * (2 * (c : Int) - len)))).div (Ex.ofNat len))) Ex.zero

/-! ### Group sums, segments and the epilogue -/

/-- The operands of element (m, n) over group `g`. -/
def groupTerms (rd : Nat → Byte) (op : MatOp) (m n g : Nat) : List (Nat × Operand × Operand) :=
  (List.range (min 32 (op.a.cols - 32 * g))).map fun i =>
    let k := 32 * g + i
    (k, operandAt rd op.a m k, operandB rd op n k)

/-- The rounded sum `G` of one group (R114, R117, R125, R210). DESIGN CHOICE: the piece products of a group with a
non-finite operand count as none truncated, and those of later groups of an element that is already NaN count as any
others do; R115 states neither (log entry 43). -/
def groupSum (rd : Nat → Byte) (op : MatOp) (m n g : Nat) : GroupSum :=
  let ts := groupTerms rd op m n g
  match ts with
  | [] => ⟨FV.zero, 0⟩
  | (_, oa, ob) :: _ =>
    if ts.any fun t => !t.2.1.x.isFin || !t.2.2.x.isFin then ⟨.nan, 0⟩
    else
      let sigma := (oa.s.mul ob.s).mul (Ex.pow2 (-(oa.e : Int) - ob.e))
      if op.kind = .stream then
        let w := streamSum op ts
        if w.isZero then ⟨FV.zero, 0⟩ else ⟨fl32x (sigma.mul w), 0⟩
      else
        let (w, u, lost) := windowSum oa.fmt ob.fmt op.fast (ts.map fun t => (t.2.1.x.getFin, t.2.2.x.getFin))
        if w = 0 then ⟨FV.zero, lost⟩ else ⟨fl32x (sigma.mul (Ex.ofScaled (decide (w < 0)) w.natAbs u)), lost⟩

/-- The exact integer sum of a group on the integer path (R121). -/
def groupInt (rd : Nat → Byte) (op : MatOp) (m n g : Nat) : Int :=
  ((groupTerms rd op m n g).map fun t => (t.2.1.x.getFin.rneInt) * (t.2.2.x.getFin.rneInt)).sum

/-- The tile header of operand `t` for outer tile `tO` at group `g`, when it is BBF. -/
def hdrAt (rd : Nat → Byte) (t : TDesc) (tO g : Nat) : Option TileHdr :=
  if t.kind = kBBF then readHdr rd (t.tileAddr (g / 4) tO) t.stride else none

/-- A header that the integer path admits: INTn without slots (R121). -/
def intHdr (h : Option TileHdr) : Bool :=
  match h with
  | some h => h.fmt.isInt && h.slots == 0
  | none => false

/-- The shift of outer position `o` at group `g` (R66). -/
def shiftAt (rd : Nat → Byte) (t : TDesc) (o g : Nat) : Nat := (operandAt rd t o (32 * g)).e

/-- The rows or columns of a tile that hold data. -/
def tileSpan (t n : Nat) : List Nat := (List.range (min 128 (n - 128 * t))).map fun i => 128 * t + i

/-- Whether a slot opens with the integer tag (R121). -/
def opensInt (rd : Nat → Byte) (op : MatOp) (tm tn g0 : Nat) : Bool :=
  !op.accum && (op.kind == .plain || op.kind == .binary) && intHdr (hdrAt rd op.a tm g0) && intHdr (hdrAt rd op.b tn g0)

/-- The running state of a tile's segment: the tag, the integers and the FP32 sums of its elements, in row order. -/
structure SegState where
  isInt : Bool
  ints : List Int
  sums : List FV
  converts : Nat
  trunc : Nat
  truncGroups : Nat
deriving DecidableEq, Repr

/-- `int_keep(j, g)` (R122): the tile-wide test, on the sums that adding group `g` would give. -/
def intKeep (rd : Nat → Byte) (op : MatOp) (tm tn g0 g : Nat) (next : List Int) : Bool :=
  let rows := tileSpan tm op.a.rows
  let cols := tileSpan tn op.b.rows
  let ha := hdrAt rd op.a tm g
  let hb := hdrAt rd op.b tn g
  intHdr ha && intHdr hb
    && ha.map (·.scale) == (hdrAt rd op.a tm g0).map (·.scale) && hb.map (·.scale) == (hdrAt rd op.b tn g0).map (·.scale)
    && rows.all (fun m => shiftAt rd op.a m g == shiftAt rd op.a m g0)
    && cols.all (fun n => shiftAt rd op.b n g == shiftAt rd op.b n g0)
    && next.all fun i => decide (-(2 ^ 31) ≤ i) && decide (i < 2 ^ 31)

/-- `σ_ref` of an element (R121). -/
def sigmaAt (rd : Nat → Byte) (op : MatOp) (m n g : Nat) : Ex :=
  let oa := operandAt rd op.a m (32 * g)
  let ob := operandB rd op n (32 * g)
  (oa.s.mul ob.s).mul (Ex.pow2 (-(oa.e : Int) - ob.e))

/-- The elements of output tile (tm, tn) in row order. -/
def tileElems (op : MatOp) (tm tn : Nat) : List (Nat × Nat) :=
  (tileSpan tm op.a.rows).flatMap fun m => (tileSpan tn op.b.rows).map fun n => (m, n)

/-- The integers of a slot turned into FP32 (R122). -/
def convertInts (rd : Nat → Byte) (op : MatOp) (tm tn g0 : Nat) (ints : List Int) : List FV :=
  ((tileElems op tm tn).zip ints).map fun p => fl32x ((sigmaAt rd op p.1.1 p.1.2 g0).mul (Ex.ofInt p.2))

/-- Add one group to the slot (R117, R121, R122). DESIGN CHOICE: turning a slot to FP32 counts one conversion for the whole
slot, and a segment that ends on the integer kind counts none; R122 says only "each conversion" (log entry 43). -/
def segGroup (rd : Nat → Byte) (op : MatOp) (tm tn g0 : Nat) (st : SegState) (g : Nat) : SegState :=
  let els := tileElems op tm tn
  let next := (els.zip st.ints).map fun p => p.2 + groupInt rd op p.1.1 p.1.2 g
  if st.isInt && intKeep rd op tm tn g0 g next then { st with ints := next }
  else
    let sums := if st.isInt then convertInts rd op tm tn g0 st.ints else st.sums
    let gs := els.map fun p => groupSum rd op p.1 p.2 g
    { isInt := false
      ints := st.ints
      sums := (sums.zip gs).map fun p => fadd p.1 p.2.g
      converts := st.converts + (if st.isInt then 1 else 0)
      trunc := st.trunc + (gs.map (·.trunc)).sum
      truncGroups := st.truncGroups + (gs.filter fun g => g.trunc != 0).length }

/-- The counter events of a product (R115, R122). -/
structure MatCounts where
  convert : Nat
  trunc : Nat
  truncGroups : Nat
deriving DecidableEq, Repr

/-- The partial of segment `j` for every element of the tile (R118, R121, R127). -/
def segmentPart (rd : Nat → Byte) (op : MatOp) (tm tn j : Nat) : List FV × MatCounts :=
  let g0 := j * op.segLen
  let gs := (List.range (min op.segLen (op.groups - g0))).map fun i => g0 + i
  let n := (tileElems op tm tn).length
  let st := gs.foldl (segGroup rd op tm tn g0)
    ⟨opensInt rd op tm tn g0, List.replicate n 0, List.replicate n FV.zero, 0, 0, 0⟩
  (if st.isInt then convertInts rd op tm tn g0 st.ints else st.sums, ⟨st.converts, st.trunc, st.truncGroups⟩)

/-- An FP32 vector element by address; address 0 gives `d`. -/
def vecAt (rd : Nat → Byte) (a i : Nat) (d : FV) : FV := if a = 0 then d else ofBits32 (rdNat rd (a + 4 * i) 4)

/-- The epilogue (R126). -/
def epilogue (rd : Nat → Byte) (op : MatOp) (m n : Nat) (acc : FV) : FV :=
  let y := if op.kind = .binary then fmul (fmul acc (vecAt rd op.rho m FV.one)) (vecAt rd op.gamma n FV.one)
    else fmul acc op.alpha
  if op.bias = 0 then y else fadd y (vecAt rd op.bias n FV.zero)

/-- Split a list into rows of `n`. -/
def rowsOf {α : Type} (n : Nat) : Nat → List α → List (List α)
  | 0, _ => []
  | r + 1, l => l.take n :: rowsOf n r (l.drop n)

/-- The FP32 values `y` of output tile (tm, tn), one list per line, and the tile's counter events (R119, R127). -/
def matTile (rd : Nat → Byte) (op : MatOp) (tm tn : Nat) : List (List FV) × MatCounts :=
  let els := tileElems op tm tn
  let start := els.map fun p => if op.accum then op.out.wideAt rd p.1 p.2 else FV.zero
  let parts := (List.range op.segments).map fun j => segmentPart rd op tm tn j
  let acc := parts.foldl (fun acc p => (acc.zip p.1).map fun q => fadd q.1 q.2) start
  let ys := (els.zip acc).map fun p => epilogue rd op p.1.1 p.1.2 p.2
  (rowsOf (tileSpan tn op.b.rows).length (tileSpan tm op.a.rows).length ys,
   ⟨(parts.map (·.2.convert)).sum, (parts.map (·.2.trunc)).sum, (parts.map (·.2.truncGroups)).sum⟩)

/-- Whether an output tile must fail because of its operand tiles: a faulty header, a CBn tile where none is read, or
operands whose rotations differ along K (R64, R580). -/
def matTileFaulty (rd : Nat → Byte) (op : MatOp) (tm tn : Nat) : Bool :=
  (List.range op.a.kTiles).any fun tk =>
    let ha := hdrAt rd op.a tm (4 * tk)
    let hb := hdrAt rd op.b tn (4 * tk)
    let badA := op.a.kind == kBBF && (match ha with
      | none => true
      | some h => h.fmt.isCb)
    let badB := op.b.kind == kBBF && (match hb with
      | none => true
      | some h => h.fmt.isCb != (op.kind == .table))
    let rotBad := match ha, hb with
      | some x, some y => x.rot != y.rot || x.rotId != y.rotId
      | _, _ => false
    badA || badB || rotBad

/-- The code of an output value in a wide kind (R55), and its bytes. -/
def wideBytes (kind : Nat) (v : FV) : List Byte :=
  if kind = kBF16 then leBytes 2 (bitsBf v) else if kind = kFP16 then leBytes 2 (bits16 v) else leBytes 4 (bits32 v)

end Sys2Proof.Machine
end

