-- ==== Sys2Proof/Machine/Hob.lean ====
section
/-! DEFINITION. The Hob's row functions (R272, R273), the update rules (R296–R299), the weight digest (R307), the
statistics of a tap (R495) and the check codes of records. -/

namespace Sys2Proof.Machine

/-! ### Rows of the vector opcodes -/

/-- `silu(x)` (R272). -/
def silu (x : FV) : FV := fmul x (hobRecip (fadd FV.one (hobExp x.flip)))

/-- The largest finite value of a row, or +0 when none is finite (R272). -/
def maxFinite (xs : List FV) : FV :=
  match xs.filter FV.isFin with
  | [] => FV.zero
  | x :: l => l.foldl (fun m y => if m.le y then y else m) x

/-- VEC_MAP of one value by `FUNC` (R272); `none` for a reserved code. -/
def vecMap (func : Nat) (c0 x x2 : FV) : Option FV :=
  if func = 0 then some (fl32 x)
  else if func = 1 then some (fadd x x2)
  else if func = 2 then some (fmul x x2)
  else if func = 3 then some (fadd (fmul c0 x) x2)
  else if func = 4 then some (silu x)
  else if func = 5 then some (fmul (silu x) x2)
  else if func = 6 then some (hobExp (fmul c0 x))
  else if func = 7 then some (hobRsqrt x)
  else none

/-- Whether a VEC_MAP function reads `x₂` (R272). -/
def vecMapUsesX2 (func : Nat) : Bool := func == 1 || func == 2 || func == 3 || func == 5

/-- Whether a VEC_MAP function uses `C0` (R272). -/
def vecMapUsesC0 (func : Nat) : Bool := func == 3 || func == 6

/-- One row of VEC_NORM: the outputs and the value `r` (R272). -/
def vecNorm (mode : Nat) (c0 : FV) (xs gs : List FV) : List FV × FV :=
  let n := FV.fin (Ex.ofNat xs.length)
  if mode = 0 then
    let r := hobRsqrt (fadd (fdiv (treeSum (xs.map fun x => fmul x x)) n) c0)
    ((xs.zip gs).map fun p => fmul (fmul p.1 r) p.2, r)
  else
    let mu := fdiv (treeSum xs) n
    let ds := xs.map fun x => fsub x mu
    let r := hobRsqrt (fadd (fdiv (treeSum (ds.map fun d => fmul d d)) n) c0)
    ((ds.zip gs).map fun p => fmul (fmul p.1 r) p.2, r)

/-- `softmax_row` (R272): the outputs and the log-sum-exp. -/
def softmaxRow (c0 : FV) (xs : List FV) : List FV × FV :=
  let z := xs.map fun x => fmul c0 x
  let m := maxFinite z
  let e := z.map fun v => hobExp (fsub v m)
  let s := treeSum e
  (e.map fun v => fdiv v s, fadd m (hobLog s))

/-- A VEC_LOSS row: the loss, the gradient and whether the label is out of range (R273). -/
structure LossRow where
  loss : FV
  grad : List FV
  range : Bool
deriving DecidableEq, Repr

/-- `loss_row` (R273). -/
def lossRow (c0 : FV) (xs : List FV) (label : Int) : LossRow :=
  let n := xs.length
  if label = -1 then ⟨FV.zero, xs.map fun _ => FV.zero, false⟩
  else if label < -1 ∨ (n : Int) ≤ label then ⟨.nan, xs.map fun _ => .nan, true⟩
  else
    let j := label.toNat
    let m := maxFinite xs
    let e := xs.map fun x => hobExp (fsub x m)
    let s := treeSum e
    let lse := fadd m (hobLog s)
    let grad := e.zipIdx.map fun p =>
      fmul (fsub (fdiv p.1 s) (if p.2 = j then FV.one else FV.zero)) c0
    ⟨fsub lse (xs.getD j FV.zero), grad, false⟩

/-- The largest value of a row: NaN when any value is NaN, with +0 above −0 (R272). -/
def rowMax (xs : List FV) : FV :=
  if xs.any FV.isNan then .nan
  else match xs with
    | [] => FV.zero
    | x :: l => l.foldl (fun m y =>
        if m.le y && !(y.le m) then y
        else if y.le m && m.le y && y == FV.fin { y.getFin with neg := false } then y
        else m) x

/-- VEC_REDUCE of one row by `MODE` (R272). -/
def vecReduce (mode : Nat) (xs : List FV) : FV :=
  if mode = 0 then treeSum xs
  else if mode = 1 then rowMax xs
  else treeSum (xs.map fun x => fmul x x)

/-! ### Update rules (R296, R297) -/

/-- The values of an UPDATE's hyper-parameters in use (R295). -/
structure Hyper where
  eta : FV
  beta1 : FV
  beta2 : FV
  lambda : FV
  eps : FV
  gscale : FV
deriving DecidableEq, Repr

/-- The momentum grid: RNE or stochastic to FP32 or BF16, overflow to an infinity (R296); the code and the value. -/
def momRound (bf : Bool) (sr : Option Nat) (v : FV) : FV :=
  let p := if bf then 8 else 24
  match v with
  | .fin x =>
    let r := match sr with
      | none => x.rneGrid p (-126)
      | some d => x.srndGrid p (-126) d
    if bf then ofBitsBf (encodeIeee 8 7 (.fin r)) else ofBits32 (encodeIeee 8 23 (.fin r))
  | v => v

/-- The 48-bit code of the new master (R296). -/
def masterRound (sr : Option Nat) (v : FV) : Nat :=
  match sr with
  | none => roundMw48 v
  | some d => srndMw48 v d

/-- `sgn` of R296. -/
def fsgn : FV → FV
  | .nan => .nan
  | .inf s => .fin ⟨s, 1, 1⟩
  | .fin x => if x.isZero then FV.zero else .fin ⟨x.neg, 1, 1⟩

/-- `fl32(√x)`, correctly rounded; the root of a negative value is the NaN and of −0 is −0. -/
def fsqrt : FV → FV
  | .nan => .nan
  | .inf s => if s then .nan else .inf false
  | .fin x => if x.isZero then .fin x else if x.neg then .nan else fl32x (sqrtSticky x.num x.den)

/-- The update rules (R293). -/
inductive URule where
  | sgd
  | momentum (nesterov : Bool)
  | signMom
  | blockNorm
deriving DecidableEq, Repr

/-- The new momentum of one parameter (R296). -/
def newMomentum (rule : URule) (h : Hyper) (bf : Bool) (sr : Option Nat) (m g : FV) : FV :=
  let b1 := fsub FV.one h.beta1
  let b2 := fsub FV.one h.beta2
  match rule with
  | .sgd => m
  | .momentum _ => momRound bf sr (fadd (fmul h.beta1 m) g)
  | .signMom => momRound bf sr (fadd (fmul h.beta2 m) (fmul b2 g))
  | .blockNorm => momRound bf sr (fadd (fmul h.beta1 m) (fmul b1 g))

/-- `r` of R297 over a block's new momenta. -/
def blockRms (ms : List FV) : FV :=
  fsqrt (fdiv (treeSum (ms.map fun m => fmul m m)) (.fin (Ex.ofNat ms.length)))

/-- The larger of two values; a NaN prevails (R298). -/
def fmaxV (a b : FV) : FV := if a.isNan || b.isNan then .nan else if a.le b then b else a

/-- The step `u` of one parameter (R296); `r` is the block's R297 value. -/
def updateStep (rule : URule) (h : Hyper) (m m2 g d r : FV) : FV :=
  let b1 := fsub FV.one h.beta1
  match rule with
  | .sgd => fadd g d
  | .momentum nest => fadd (if nest then fadd g (fmul h.beta1 m2) else m2) d
  | .signMom => fadd (fsgn (fadd (fmul h.beta1 m) (fmul b1 g))) d
  | .blockNorm =>
    let q := if (h.eps.getFin).isZero && r == FV.fin { r.getFin with neg := false } && r.getFin.isZero then FV.zero
      else fdiv m2 (fmaxV r h.eps)
    fadd q d

/-- The new 48-bit master code of one parameter (R296). -/
def newMaster (h : Hyper) (sr : Option Nat) (w u : FV) : Nat := masterRound sr (w.sub (fmul h.eta u))

/-! ### The weight digest (R307) -/

def digestP : Nat := 2 ^ 61 - 1

/-- The key `k` of half `j`. -/
def digestKey (dseed j : Nat) : Nat := mix64 (Nat.xor ((0x44494730 + j) * 2 ^ 32) dseed) % (digestP - 2) + 2

/-- The partial sum of half `j` over the codes `vs` of parameters `i0`, `i0 + 1`, …. -/
def digestPart (vs : List Nat) (dseed i0 j : Nat) : Nat :=
  let k := digestKey dseed j
  let x0 := (List.range i0).foldl (fun x _ => x * k % digestP) k
  (vs.foldl (fun (st : Nat × Nat) v => ((st.1 + (v + 1) * st.2) % digestP, st.2 * k % digestP)) (0, x0)).1

/-- The two running sums with the partial sums of a run of parameters added. -/
def digestAdd (d : Nat × Nat) (vs : List Nat) (dseed i0 : Nat) : Nat × Nat :=
  ((d.1 + digestPart vs dseed i0 0) % digestP, (d.2 + digestPart vs dseed i0 1) % digestP)

/-- The 16 bytes of two sums. -/
def digestOut (d : Nat × Nat) : List Byte := leBytes 8 d.1 ++ leBytes 8 d.2

/-- The digest of a whole vector (R307). -/
def digestBytes (vs : List Nat) (dseed : Nat) : List Byte := digestOut (digestAdd (0, 0) vs dseed 0)

/-! ### Tap statistics (R495, R496) -/

/-- The statistics of a tap record. -/
structure TapStats where
  count : Nat
  zeros : Nat
  nonfin : Nat
  min : FV
  max : FV
  sum : FV
  sumsq : FV
  hist : List Nat
  digest : List Byte
deriving DecidableEq, Repr

/-- The histogram bin of a finite value (R495). -/
def tapBin (hbias : Int) (x : Ex) : Nat :=
  if x.isZero then 0
  else if x.lam < -15 + hbias then 0
  else if 15 + hbias ≤ x.lam then 31
  else (x.lam + 16 - hbias).toNat

/-- `a` is below `b`, with −0 below +0 (R495). -/
def tapLt (a b : FV) : Bool :=
  match a, b with
  | .fin x, .fin y => x.lt y || (x.isZero && y.isZero && x.neg && !y.neg)
  | _, _ => false

/-- `tap_stats` (R495): `blocks` holds the values of each 128 × 128 block row-major, `all` every value in index order. -/
def tapStats (blocks : List (List FV)) (all : List FV) (hbias : Int) (dseed : Nat) : TapStats :=
  let fins := all.filter FV.isFin
  let z (x : FV) : FV := if x.isFin then x else FV.zero
  { count := all.length
    zeros := (all.filter fun x => !x.isNonzero).length
    nonfin := min (all.filter fun x => !x.isFin).length (2 ^ 32 - 1)
    min := match fins with
      | [] => .inf false
      | x :: l => l.foldl (fun m y => if tapLt y m then y else m) x
    max := match fins with
      | [] => .inf true
      | x :: l => l.foldl (fun m y => if tapLt m y then y else m) x
    sum := treeSum (blocks.map fun b => treeSum (b.map z))
    sumsq := treeSum (blocks.map fun b => treeSum (b.map fun x => fmul (z x) (z x)))
    hist := (List.range 32).map fun b =>
      min ((fins.filter fun x => tapBin hbias x.getFin == b).length) (2 ^ 32 - 1)
    digest := digestBytes (all.map bits32) dseed }

/-- The data values of a tensor as a tap reads them (R495): decoded without inverse rotation. -/
def tapValue (rd : Nat → Byte) (t : TDesc) (o k : Nat) : FV :=
  if t.kind = kBBF then decodedAt rd t o k
  else if t.kind = kINT32 then
    let w := rdNat rd (t.base + o * t.stride + 4 * k) 4
    fl32 (.fin (Ex.ofInt (if w < 2 ^ 31 then (w : Int) else (w : Int) - 2 ^ 32)))
  else if t.kind = kMX then fl32 (mxValue rd t o k)
  else t.wideAt rd o k

/-- Whether position (o, k) of a tensor holds data: a BBF tile's own VALID_K and VALID_LINES bound it (R69, R495). -/
def tapIsData (rd : Nat → Byte) (t : TDesc) (o k : Nat) : Bool :=
  if t.kind = kBBF then
    match readHdr rd (t.tileAddr (k / 128) (o / 128)) t.stride with
    | none => false
    | some h => decide (k % 128 < h.validK) && decide (o % 128 < h.validLines)
  else true

/-- The values of block (tk, tO) of a tap, row-major (R495). -/
def tapBlock (rd : Nat → Byte) (t : TDesc) (tk tO : Nat) : List FV :=
  (tileSpan tO t.rows).flatMap fun o => (tileSpan tk t.cols).filterMap fun k =>
    if tapIsData rd t o k then some (tapValue rd t o k) else none

/-- Every data value of a tensor in index order (R495). -/
def tapAll (rd : Nat → Byte) (t : TDesc) : List FV :=
  (List.range t.rows).flatMap fun o => (List.range t.cols).filterMap fun k =>
    if tapIsData rd t o k then some (tapValue rd t o k) else none

/-- The statistics of a tensor (R494, R495). -/
def tensorStats (rd : Nat → Byte) (t : TDesc) (hbias : Int) (dseed : Nat) : TapStats :=
  tapStats ((List.range t.oTiles).flatMap fun tO => (List.range t.kTiles).map fun tk => tapBlock rd t tk tO)
    (tapAll rd t) hbias dseed

/-! ### Check codes -/

/-- One bit of a reflected CRC. -/
def crcBit (poly c : Nat) : Nat := if c % 2 = 1 then Nat.xor (c / 2) poly else c / 2

def crcByte (poly c : Nat) (b : Byte) : Nat :=
  (List.range 8).foldl (fun c _ => crcBit poly c) (Nat.xor c b.toNat)

/-- CRC-32C (Castagnoli, reflected), as the boot records and frames use it. -/
def crc32c (bs : List Byte) : Nat :=
  Nat.xor (bs.foldl (crcByte 0x82F63B78) 0xFFFFFFFF) 0xFFFFFFFF

end Sys2Proof.Machine
end

