-- ==== Sys2Proof/Machine/Governor.lean ====
section
/-! DEFINITION. The precision governor's records and decisions: format-table entries (R216–R219), stat records
(R221–R225), `decide` (R232–R235), commits (R236) and decision records (R242). -/

namespace Sys2Proof.Machine

/-- A format-table entry's fields (R216). -/
structure FtEntry where
  fmt : Nat
  rsvd1 : Nat
  sr : Bool
  scope : Bool
  rot : Nat
  slots : Nat
  rotId : Nat
  statIdx : Nat
  fmtMin : Nat
  fmtMax : Nat
  pin : Bool
  lane : Bool
  slotMin : Nat
  slotMax : Nat
  rsvdA : Nat
  rotMin : Nat
  rotMax : Nat
  rsvdB : Nat
  rlead : Nat
  layer : Nat
  pFmt : Nat
  pend : Bool
  stage : Bool
  malf : Bool
  pRot : Nat
  pSlots : Nat
  pWin : Nat
  nwin : Nat
  rsvd18 : Nat
  decWin : Nat
deriving DecidableEq, Repr

/-- `RLEAD` of an entry that decides its own rotation (R216). -/
def rleadSelf : Nat := 0xFFFFFFFF

/-- The 32 bytes at `a` as an entry (R216). -/
def readFt (rd : Nat → Byte) (a : Nat) : FtEntry :=
  let b1 := rdNat rd (a + 1) 1
  let bA := rdNat rd (a + 0xA) 1
  let bB := rdNat rd (a + 0xB) 1
  let b13 := rdNat rd (a + 0x13) 1
  { fmt := rdNat rd a 1, rsvd1 := bitsOf b1 7 7, sr := bitOf b1 6, scope := bitOf b1 5, rot := bitsOf b1 4 2
    slots := bitsOf b1 1 0, rotId := rdNat rd (a + 2) 2, statIdx := rdNat rd (a + 4) 4, fmtMin := rdNat rd (a + 8) 1
    fmtMax := rdNat rd (a + 9) 1, pin := bitOf bA 7, lane := bitOf bA 6, slotMin := bitsOf bA 5 4
    slotMax := bitsOf bA 3 2, rsvdA := bitsOf bA 1 0, rotMin := bitsOf bB 7 5, rotMax := bitsOf bB 4 2
    rsvdB := bitsOf bB 1 0, rlead := rdNat rd (a + 0xC) 4, layer := rdNat rd (a + 0x10) 2
    pFmt := rdNat rd (a + 0x12) 1, pend := bitOf b13 7, stage := bitOf b13 6, malf := bitOf b13 5
    pRot := bitsOf b13 4 2, pSlots := bitsOf b13 1 0, pWin := rdNat rd (a + 0x14) 4
    nwin := rdNat rd (a + 0x18) 1 % 16, rsvd18 := rdNat rd (a + 0x18) 4 / 16, decWin := rdNat rd (a + 0x1C) 4 }

def b2n (b : Bool) : Nat := if b then 1 else 0

/-- The 32 bytes of an entry (R216). -/
def FtEntry.bytes (e : FtEntry) : List Byte :=
  leBytes 1 e.fmt ++ leBytes 1 (e.rsvd1 * 128 + b2n e.sr * 64 + b2n e.scope * 32 + e.rot * 4 + e.slots)
    ++ leBytes 2 e.rotId ++ leBytes 4 e.statIdx ++ leBytes 1 e.fmtMin ++ leBytes 1 e.fmtMax
    ++ leBytes 1 (b2n e.pin * 128 + b2n e.lane * 64 + e.slotMin * 16 + e.slotMax * 4 + e.rsvdA)
    ++ leBytes 1 (e.rotMin * 32 + e.rotMax * 4 + e.rsvdB) ++ leBytes 4 e.rlead ++ leBytes 2 e.layer ++ leBytes 1 e.pFmt
    ++ leBytes 1 (b2n e.pend * 128 + b2n e.stage * 64 + b2n e.malf * 32 + e.pRot * 4 + e.pSlots) ++ leBytes 4 e.pWin
    ++ leBytes 4 (e.nwin + 16 * e.rsvd18) ++ leBytes 4 e.decWin

/-- The ladder of a format and its place on it (R219): ladder 0 is INT, ladder 1 is FP. -/
def ladderPos (code : Nat) : Option (Nat × Nat) :=
  if code = 2 then some (0, 0) else if code = 3 then some (0, 1) else if code = 4 then some (0, 2)
  else if code = 6 then some (0, 3) else if code = 8 then some (0, 4)
  else if code = 0x11 then some (1, 0) else if code = 0x12 then some (1, 1) else if code = 0x14 then some (1, 2)
  else none

/-- The format at a place of a ladder (R219). -/
def ladderAt (ladder pos : Nat) : Option Nat :=
  if ladder = 0 then [2, 3, 4, 6, 8][pos]? else [0x11, 0x12, 0x14][pos]?

/-- φ on narrowing (R219). -/
def noisePhi (code : Nat) : Nat :=
  if code = 3 then 8 else if code = 4 then 4 else if code = 6 then 16 else if code = 8 then 16
  else if code = 0x12 then 16 else if code = 0x14 then 4 else 1

def nextWider (code : Nat) : Option Nat := (ladderPos code).bind fun p => ladderAt p.1 (p.2 + 1)

def nextNarrower (code : Nat) : Option Nat :=
  (ladderPos code).bind fun p => if p.2 = 0 then none else ladderAt p.1 (p.2 - 1)

/-- A reserved encoding in an entry field (R216, R218). An element format of an entry is one a tile may carry. -/
def FtEntry.reserved (e : FtEntry) : Bool :=
  let okF (c : Nat) : Bool := match Fmt.ofCode c with
    | some f => f.inTile
    | none => false
  e.rsvd1 != 0 || e.rsvdA != 0 || e.rsvdB != 0 || e.rsvd18 != 0 || !okF e.fmt || !okF e.fmtMin || !okF e.fmtMax
    || (e.pend && !okF e.pFmt)
    || decide (5 ≤ e.rot) || decide (5 ≤ e.rotMin) || decide (5 ≤ e.rotMax) || decide (5 ≤ e.pRot)

/-- A format code of the entry that R44 reserves: the command completes DECODE_ERROR (R44, R284). `P_FMT` is in use while
`PEND` is 1 (R216). -/
def FtEntry.reservedCode (e : FtEntry) : Bool :=
  (Fmt.ofCode e.fmt).isNone || (Fmt.ofCode e.fmtMin).isNone || (Fmt.ofCode e.fmtMax).isNone
    || (e.pend && (Fmt.ofCode e.pFmt).isNone)

/-- Whether the ladder conditions of R218 fail. -/
def FtEntry.ladderBad (e : FtEntry) : Bool :=
  match ladderPos e.fmt, ladderPos e.fmtMin, ladderPos e.fmtMax with
  | some f, some l, some h => f.1 != l.1 || f.1 != h.1 || decide (f.2 < l.2) || decide (h.2 < f.2)
  | _, _, _ => !(e.fmt == e.fmtMin && e.fmt == e.fmtMax)

/-- Malformed (R218), given the table lengths and the `RLEAD` of the entry that this one's `RLEAD` names. -/
def FtEntry.malformed (e : FtEntry) (ftLen statLen : Nat) (leadOfLead : Nat) : Bool :=
  e.reserved || e.ladderBad
    || decide (e.slots < e.slotMin) || decide (e.slotMax < e.slots)
    || decide (e.rot < e.rotMin) || decide (e.rotMax < e.rot)
    || (e.rlead != rleadSelf && (decide (ftLen ≤ e.rlead) || leadOfLead != rleadSelf))
    || (e.rotId == 0 && (e.rot != 0 || e.rotMax != 0))
    || decide (statLen ≤ e.statIdx)

/-- The actions of R232. -/
inductive Action where
  | noAction
  | held
  | widen
  | narrow
  | raiseSlots
  | lowerSlots
  | enlargeRot
deriving DecidableEq, Repr

/-- The `ACTION` code of R242. -/
def Action.code : Action → Nat
  | .noAction => 0
  | .held => 0
  | .widen => 1
  | .narrow => 2
  | .raiseSlots => 3
  | .lowerSlots => 4
  | .enlargeRot => 5

/-- The thresholds that a decision step reads at its start (R232). -/
structure GovThr where
  ashHi : Nat
  ashLo : Nat
  clkHi : Nat
  ovfHi : Nat
  noiseHi : Nat
  noiseLo : Nat
  stallHi : Nat
  occLo : Nat
  hyst : Nat
  intFloor : Nat
  fpFloor : Nat
deriving DecidableEq, Repr

/-- A decision: the action, the new `NWIN` and the cause bits (R232, R242). -/
structure Decision where
  action : Action
  nwin : Nat
  cause : Nat
deriving DecidableEq, Repr

/-- `decide` of R232, on exact integers: `NE > NS × 2^(−c/4)` is `NE⁴ × 2^c > NS⁴`. -/
def govDecide (e : FtEntry) (b : StatCounts) (t : GovThr) (trendOk : Bool) : Decision :=
  let v := b.getD 0 0
  let ash := b.getD 1 0
  let sat := b.getD 2 0
  let slots := b.getD 3 0
  let ovfC := b.getD 4 0
  let ne := b.getD 5 0
  let ns := b.getD 6 0
  let stalled := b.getD 7 0
  if e.pin || e.malf || e.stage || decide (v < 2 ^ 16) then ⟨.noAction, e.nwin, 0⟩
  else
    let ovf := decide (t.ovfHi * v < 32 * 1024 * ovfC)
    let wAsh := decide (t.ashHi * v < 1024 * ash)
    let wSat := decide (t.clkHi * v < 65536 * sat)
    let wNoise := decide (ns ^ 4 < ne ^ 4 * 2 ^ t.noiseHi)
    let wStall := decide (t.stallHi * v < 256 * stalled)
    let cause := b2n wAsh + 2 * b2n wSat + 4 * b2n wNoise + 8 * b2n wStall + 16 * b2n ovf
    if ovf || (wAsh || wSat || wNoise || wStall) then
      if ovf && decide (e.slots < e.slotMax) then ⟨.raiseSlots, 0, cause⟩
      else if ovf && e.rlead == rleadSelf && e.lane && decide (e.rot < e.rotMax) then ⟨.enlargeRot, 0, cause⟩
      else
        match ladderPos e.fmt, ladderPos e.fmtMax with
        | some f, some h => if f.2 < h.2 then ⟨.widen, 0, cause⟩ else ⟨.held, 0, cause⟩
        | _, _ => ⟨.held, 0, cause⟩
    else
      let lowerOk := decide (e.slotMin < e.slots) && ovfC == 0
        && decide (256 * 32 * slots < t.occLo * slotCount e.slots * v)
      let fmtOk := match ladderPos e.fmt, ladderPos e.fmtMin with
        | some f, some l =>
          let fl := (ladderPos (if f.1 = 0 then t.intFloor else t.fpFloor)).map (·.2)
          decide (max l.2 (fl.getD 0) < f.2)
        | _, _ => false
      let narrowOk := fmtOk && sat == 0 && decide (1024 * ash ≤ t.ashLo * v)
        && decide ((ne * noisePhi e.fmt) ^ 4 * 2 ^ t.noiseLo ≤ ns ^ 4)
        && decide (512 * stalled ≤ t.stallHi * v) && trendOk
      if !(lowerOk || narrowOk) then ⟨.noAction, 0, 0⟩
      else
        let n := min (e.nwin + 1) 15
        if n < t.hyst then ⟨.noAction, n, 0⟩
        else if lowerOk then ⟨.lowerSlots, 0, 32 + 64⟩ else ⟨.narrow, 0, 64⟩

/-- The pending fields that an action sets (R234): format, slots code and rotation code. -/
def actionTarget (e : FtEntry) (a : Action) : Nat × Nat × Nat :=
  match a with
  | .widen => ((nextWider e.fmt).getD e.fmt, e.slots, e.rot)
  | .narrow => ((nextNarrower e.fmt).getD e.fmt, e.slots, e.rot)
  | .raiseSlots => (e.fmt, e.slots + 1, e.rot)
  | .lowerSlots => (e.fmt, e.slots - 1, e.rot)
  | .enlargeRot => (e.fmt, e.slots, e.rot + 1)
  | _ => (e.fmt, e.slots, e.rot)

/-- The decision record of R242. -/
def decisionRecord (adv : Bool) (d : Decision) (idx win : Nat) (e : FtEntry) (amax values : Nat) : List Byte :=
  let t := actionTarget e d.action
  leBytes 1 0x52 ++ leBytes 1 (b2n adv * 128 + d.action.code * 16) ++ leBytes 1 d.cause ++ leBytes 1 0 ++ leBytes 4 idx
    ++ leBytes 4 win ++ leBytes 1 e.fmt ++ leBytes 1 t.1 ++ leBytes 1 (e.slots * 64 + t.2.1 * 16)
    ++ leBytes 1 (e.rot * 8 + t.2.2) ++ leBytes 4 amax ++ leBytes 2 e.layer ++ leBytes 2 0 ++ leBytes 8 values

/-- The entry with the pending fields of an action set (R234). -/
def FtEntry.setPending (e : FtEntry) (a : Action) (win : Nat) : FtEntry :=
  let t := actionTarget e a
  { e with pFmt := t.1, pSlots := t.2.1, pRot := t.2.2, pend := true, pWin := win }

/-- Step 2 of R236 on one entry. -/
def FtEntry.commitRot (e : FtEntry) : FtEntry := if e.stage then { e with rot := e.pRot, stage := false } else e

/-- Step 3 of R236 on one entry. -/
def FtEntry.commitPend (e : FtEntry) : FtEntry :=
  if e.pend then { e with fmt := e.pFmt, slots := e.pSlots, pend := false, stage := e.stage || e.pRot != e.rot } else e

/-! ### Stat records (R224, R225) -/

/-- The fields of a stat record's header and its five banks (R224). -/
structure StatRec where
  wtag0 : Nat
  wtag1 : Nat
  stag0 : Nat
  stag1 : Nat
  rstep : Nat
  rwin : Nat
  amax0 : Nat
  amax1 : Nat
  amaxPrev : Nat
  rvalid : Bool
  rfold : Bool
  win0 : StatCounts
  win1 : StatCounts
  stg0 : StatCounts
  stg1 : StatCounts
  red : StatCounts
deriving DecidableEq, Repr

def readBank (rd : Nat → Byte) (a : Nat) : StatCounts := (List.range 8).map fun i => rdNat rd (a + 8 * i) 8

def bankBytes (b : StatCounts) : List Byte := (List.range 8).flatMap fun i => leBytes 8 (b.getD i 0)

/-- The record at `a` (R224). -/
def readStat (rd : Nat → Byte) (a : Nat) : StatRec :=
  { wtag0 := rdNat rd a 4, wtag1 := rdNat rd (a + 4) 4, stag0 := rdNat rd (a + 8) 4, stag1 := rdNat rd (a + 0xC) 4
    rstep := rdNat rd (a + 0x10) 4, rwin := rdNat rd (a + 0x14) 4, amax0 := rdNat rd (a + 0x18) 4
    amax1 := rdNat rd (a + 0x1C) 4, amaxPrev := rdNat rd (a + 0x20) 4, rvalid := bitOf (rdNat rd (a + 0x24) 4) 31
    rfold := bitOf (rdNat rd (a + 0x24) 4) 30, win0 := readBank rd (a + 0x40), win1 := readBank rd (a + 0x80)
    stg0 := readBank rd (a + 0xC0), stg1 := readBank rd (a + 0x100), red := readBank rd (a + 0x140) }

/-- The 384 bytes of a record (R224). -/
def StatRec.bytes (r : StatRec) : List Byte :=
  leBytes 4 r.wtag0 ++ leBytes 4 r.wtag1 ++ leBytes 4 r.stag0 ++ leBytes 4 r.stag1 ++ leBytes 4 r.rstep
    ++ leBytes 4 r.rwin ++ leBytes 4 r.amax0 ++ leBytes 4 r.amax1 ++ leBytes 4 r.amaxPrev
    ++ leBytes 4 (b2n r.rvalid * 2 ^ 31 + b2n r.rfold * 2 ^ 30) ++ leBytes 24 0
    ++ bankBytes r.win0 ++ bankBytes r.win1 ++ bankBytes r.stg0 ++ bankBytes r.stg1 ++ bankBytes r.red

def zeroCounts : StatCounts := List.replicate 8 0

/-- Bank `WIN(w mod 2)` opened for window `w`: retagged and zeroed when its tag differs (R225). The `AMAX` field of
the same tag starts again with it. -/
def StatRec.openWin (r : StatRec) (w : Nat) : StatRec :=
  if w % 2 = 0 then (if r.wtag0 = w then r else { r with wtag0 := w, win0 := zeroCounts, amax0 := 0 })
  else (if r.wtag1 = w then r else { r with wtag1 := w, win1 := zeroCounts, amax1 := 0 })

/-- Bank `STG(t mod 2)` opened for step bits `t` (R225). -/
def StatRec.openStg (r : StatRec) (t : Nat) : StatRec :=
  if t % 2 = 0 then (if r.stag0 = t then r else { r with stag0 := t, stg0 := zeroCounts })
  else (if r.stag1 = t then r else { r with stag1 := t, stg1 := zeroCounts })

/-- Add counts into the window bank of `w` (R225). -/
def StatRec.addWin (r : StatRec) (w : Nat) (c : StatCounts) : StatRec :=
  let r := r.openWin w
  if w % 2 = 0 then { r with win0 := addCounts r.win0 c } else { r with win1 := addCounts r.win1 c }

/-- Add counts into the lane staging of step bits `t` (R225). -/
def StatRec.addStg (r : StatRec) (t : Nat) (c : StatCounts) : StatRec :=
  let r := r.openStg t
  if t % 2 = 0 then { r with stg0 := addCounts r.stg0 c } else { r with stg1 := addCounts r.stg1 c }

/-- Raise `AMAX(w mod 2)` to an FP32 code (R225). -/
def StatRec.raiseAmax (r : StatRec) (w amax : Nat) : StatRec :=
  let r := r.openWin w
  if w % 2 = 0 then { r with amax0 := max r.amax0 amax } else { r with amax1 := max r.amax1 amax }

/-- The addition of one command's counts (R225, R226). -/
def StatRec.addWrite (r : StatRec) (lane : Bool) (w t : Nat) (c : StatCounts) (amax : Nat) : StatRec :=
  let r := if lane then r.addStg t c else r.addWin w c
  r.raiseAmax w amax

/-- Fold `RED` into its window bank (R229). -/
def StatRec.foldRed (r : StatRec) : StatRec :=
  if r.rvalid && !r.rfold then { r.addWin r.rwin r.red with rfold := true } else r

/-- The arrival of a reduced lane slot for a bucket of step `t` started in window `w` (R229). -/
def StatRec.takeLane (r : StatRec) (t w : Nat) (slot : StatCounts) : StatRec :=
  let r := if r.rvalid && !r.rfold && r.rstep != t then r.foldRed else r
  { r with red := slot, rstep := t, rwin := w, rvalid := true, rfold := false }

/-- The lane slot that a bucket of step `t` carries for a record (R228). -/
def StatRec.laneSlot (r : StatRec) (t : Nat) : StatCounts :=
  let p := (t + 2 ^ 32 - 1) % 2 ^ 32
  if p % 2 = 0 then (if r.stag0 = p then r.stg0 else zeroCounts) else (if r.stag1 = p then r.stg1 else zeroCounts)

/-- The window bank that a decision step reads (R232) and the record's amax of that window (R233). -/
def StatRec.windowBank (r : StatRec) (w : Nat) : StatCounts × Nat :=
  if w % 2 = 0 then (if r.wtag0 = w then (r.win0, r.amax0) else (zeroCounts, 0))
  else (if r.wtag1 = w then (r.win1, r.amax1) else (zeroCounts, 0))

end Sys2Proof.Machine
end

