-- ==== Sys2Proof/Machine/Plan.lean ====
section
/-! DEFINITION. What a command is once it has started: the descriptors, table entries and records it read then (R246),
and its progress. -/

namespace Sys2Proof.Machine

/-- How one panel, or a whole tensor-scoped output, is written: the format-table entry's committed or staged fields
with the rotation key read at the start (R146, R147, R215, R237). -/
structure OutFmt where
  fmt : Nat
  slotsCode : Nat
  rot : Nat
  rotId : Nat
  key : Nat
  sr : Bool
  statIdx : Nat
  lane : Bool
deriving DecidableEq, Repr

/-- A BBF output description with everything read at the start: one `OutFmt`, or one per panel; the folded ledger
entries; the escalation settings; the element format of an MX input, for R75 (R170, R172, R191, R217). -/
structure BbfOut where
  td : TDesc
  panel : Bool
  infos : List OutFmt
  lbase : Nat
  lout : Nat
  ledger : List (Nat × LEntry)
  fold : Option Nat
  srKey : Option Nat
  escEn : Bool
  ashFrac : Nat
  reemitFrac : Nat
  ftIdx : Nat
  imp : Option Nat
deriving DecidableEq, Repr

/-- The Glaze opcodes (R162–R164, R187). -/
inductive ConvKind where
  | quantise
  | dequantise
  | rotate
  | amax
deriving DecidableEq, Repr

/-- A Glaze command: input, wide or MX output or BBF description, and the rotations it undoes and applies. -/
structure ConvOp where
  kind : ConvKind
  inp : TDesc
  out : TDesc
  undo : Bool
  dirInv : Bool
  rot : Nat
  key : Nat
  inKeys : List (Nat × Nat)
deriving DecidableEq, Repr

/-- The vector opcodes. -/
inductive VecKind where
  | map
  | norm
  | softmax
  | loss
  | reduce
deriving DecidableEq, Repr

/-- A vector command (R271). -/
structure VecOp where
  kind : VecKind
  func : Nat
  mode : Nat
  c0 : FV
  inp : TDesc
  in2 : Option TDesc
  out : TDesc
  out2 : Option TDesc
deriving DecidableEq, Repr

/-- Where an address range lies (R377): device memory, host memory, or the neighbour window at a port. -/
inductive Target where
  | device
  | host
  | window (port : Nat)
deriving DecidableEq, Repr

/-- A move command (R274, R394). -/
structure MoveOp where
  src : Nat
  dst : Nat
  len : Nat
  srcT : Target
  dstT : Target
deriving DecidableEq, Repr

/-- The reduce opcodes. -/
inductive RedKind where
  | bucket
  | broadcast
  | digestCheck
deriving DecidableEq, Repr

/-- A reduce command with its group (R275, R314). `me` and `owner` are member indices. -/
structure RedOp where
  kind : RedKind
  buf : Nat
  size : Nat
  mode : Nat
  ranks : List Nat
  gchk : Nat
  me : Nat
  owner : Nat
  seq : Nat
  res : Nat
  stats : List Nat
deriving DecidableEq, Repr

/-- An UPDATE with its descriptor, schedule record and freeze mask (R290–R300). -/
structure UpdOp where
  rule : URule
  h : Hyper
  wHiSrc : Nat
  wExtSrc : Nat
  wHiDst : Nat
  wExtDst : Nat
  grad : Nat
  mSrc : Nat
  mDst : Nat
  bf : Bool
  srW : Bool
  srM : Bool
  key : Nat
  freeze : List Bool
  npar : Nat
  emit : Bool
  digOut : Nat
  dseed : Nat
deriving DecidableEq, Repr

/-- What a started command does. -/
inductive Plan where
  | control
  | matrix (op : MatOp) (bbf : Option BbfOut)
  | packed (ps : List (MatOp × Option BbfOut))
  | convert (op : ConvOp) (bbf : Option BbfOut)
  | vector (op : VecOp)
  | move (op : MoveOp)
  | reduce (op : RedOp)
  | update (op : UpdOp) (bbf : Option BbfOut)
  | digest (hi ext npar dout dseed : Nat)
deriving DecidableEq, Repr

/-- A region of a hearth store or codebook store: its first line, and the bytes of the command's memory staged there
(R93, R95). -/
structure Region where
  line : Nat
  addr : Nat
  len : Nat
deriving DecidableEq, Repr

/-- A tile on an engine: where it runs and the power charged to each Bay, in 1/16 W (R412–R414). On a Hearth, a tile of a
product also holds an accumulator slot with its kind tag, exact integer or not, until Glaze accepts it (R89, R90), and the
regions staged for it in the hearth store and the codebook store (R93, R95). -/
structure Running where
  tile : Nat
  inst : Nat
  bay : Nat
  power : List Rat
  slot : Option Bool
  staged : List Region
  codebook : List Region
deriving DecidableEq, Repr

/-- What the emission of a scale unit left behind (R181, R185, R226). `writes`: the bytes that Glaze has formed and still
holds, until the other tiles that share the unit's fate are formed too (R87, R139); none once they are written. -/
structure UnitRec where
  unitIdx : Nat
  emit : Nat
  reemitted : Bool
  ash : Nat
  values : Nat
  clink : Nat
  tiles : Nat
  events : List Nat
  statIdx : Nat
  lane : Bool
  counts : StatCounts
  amax : Nat
  obs : Nat
  writes : List (Nat × List Byte)
deriving DecidableEq, Repr

/-- Where a command stands with layer escalation (R181–R183): not decided; decided with a cause, R_u, A and whether a
wider format exists. -/
structure EscState where
  cause : Nat
  ru : Nat
  ash : Nat
  wide : Bool
  fmtFrom : Nat
  fmtTo : Nat
  passed : Bool
deriving DecidableEq, Repr

/-- A remote transfer in flight: its command and tile, and what its acknowledgement completes. -/
structure Remote where
  tag : Nat
  tile : Nat
  dst : Nat
  lines : Nat
deriving DecidableEq, Repr

/-- A command in flight: started and not yet completed (R258, R260). `phase`, `res`, `torn`, `accFirst` and `accCount`
are its ledger slot's (R475); `mism` lists (tile, instance, witness) for every mismatch of a tile (R443, R445); `parts`:
segment tiles whose partial is formed and held (R119, R476); `held`: the accumulation a resumed command found (R226);
`energy`: the corrected estimates of its placed tiles in units of 2⁻¹⁶ fJ (R410–R412); `dig`:
an UPDATE's digest as its tiles have formed it so far (R308). -/
structure Flight where
  q : Nat
  n : Nat
  addr : Nat
  words : List Byte
  plan : Plan
  total : Nat
  nextTile : Nat
  again : List Nat
  running : List Running
  done : List Nat
  failed : List (Nat × Status)
  retryCnt : List (Nat × Nat)
  retries : Nat
  units : List UnitRec
  esc : Option EscState
  emitted : Bool
  errs : List Status
  stepAt : Nat
  winAt : Nat
  tStart : Nat
  snapSel : List Nat
  snapStart : List Nat
  ready : Bool
  recomputed : Bool
  frozen : Nat
  convAsh : Nat
  convClink : Nat
  remotes : List Remote
  lane : List StatCounts
  resumed : Bool
  phase : Nat
  res : Nat
  torn : Option Nat
  accFirst : Nat
  accCount : Nat
  mism : List (Nat × Nat × Bool)
  parts : List Nat
  held : List (Nat × Bool × StatCounts × Nat)
  energy : Nat
  dig : Nat × Nat
deriving DecidableEq, Repr

/-- The per-queue state that no register shows: the watch line as last read and the address segments that LINKs laid
down, newest first (R250–R252);
commands below `resumeTo` may resume from their ledger slots (R480); `mark`: the STEP_MARK at which the queue holds, with
its `LOAD` and `STEP` (R286); `starts`: for the commands whose slots may still be resumed, the step counter and the
window at their first start, which a resumption uses again (R160, R207, R226). -/
structure QueueRt where
  tail : Nat
  cqHead : Nat
  segs : List (Nat × Nat)
  resumeTo : Nat
  mark : Option (Bool × Nat)
  starts : List (Nat × Nat × Nat)
deriving DecidableEq, Repr

/-- A queue that has just been enabled. -/
def QueueRt.init : QueueRt := ⟨0, 0, [], 0, none, []⟩

end Sys2Proof.Machine
end

