-- ==== Sys2Proof/Machine/Operands.lean ====
section
/-! DEFINITION. The operand layouts of every queue command (R255, R267–R277), the checks that a command makes when it
starts (R17, R246, R578–R582) and the plan it then runs. -/

namespace Sys2Proof.Machine

/-- What a command can see when it starts: bytes by virtual address, the access check of a range, the uncorrectable
line of a range and of its table entries, the context's tables, step, window, and escalation settings. -/
structure Env where
  rd : Nat → Byte
  check : Nat → Nat → Bool → Status
  bad : Nat → Nat → Option Nat
  badTab : Nat → Nat → Option Nat
  tgt : Nat → Nat → Target
  tabBase : Nat → Nat
  tabLen : Nat → Nat
  step : Nat
  win : Nat
  escEn : Bool
  ashFrac : Nat
  reemitFrac : Nat
  eval : Bool
  governed : Bool
  rank : Nat
  engine : Nat
  syncBase : Nat
  syncCount : Nat
  keyHeld : Nat → Bool

/-- The conditions that have been found to fail, the line of an uncorrectable read, and the command's tiles as far as its
operands tell them (R278, R282). -/
structure Errs where
  list : List Status
  pa : Option Nat
  total : Nat
deriving DecidableEq, Repr

/-- A start check: it notes every failing condition and goes on. -/
abbrev D := StateM Errs

/-- Note status `e` when `b` holds. -/
def failIf (b : Bool) (e : Status) : D Unit := modify fun s => if b then { s with list := s.list ++ [e] } else s

/-- The place of a status in the decode order of R284; an uncorrectable read at the start stands after ACCESS_FAULT
(log entry 20). -/
def Status.startRank : Status → Nat
  | .decodeError => 0
  | .accessFault => 1
  | .memoryUncorrectable => 2
  | .formatConflict => 3
  | .streamCorrelated => 4
  | _ => 5

/-- The first status by R284 among those noted. -/
def firstStatus (rank : Status → Nat) : List Status → Option Status
  | [] => none
  | e :: l => some (l.foldl (fun a b => if rank b < rank a then b else a) e)

/-- Note an uncorrectable line that a start meets. -/
def unreadable (pa : Nat) : D Unit :=
  modify fun s => { s with list := s.list ++ [.memoryUncorrectable], pa := s.pa.orElse fun _ => some pa }

/-- Note the command's tile count (R278). -/
def setTotal (n : Nat) : D Unit := modify fun s => { s with total := n }

/-- Run a check on an operand that could be read. -/
def onSome {α : Type} (o : Option α) (f : α → D Unit) : D Unit :=
  match o with
  | none => pure ()
  | some a => f a

/-- Run a check on two operands when both could be read. -/
def onBoth {α β : Type} (a : Option α) (b : Option β) (f : α → β → D Unit) : D Unit :=
  match a, b with
  | some x, some y => f x y
  | _, _ => pure ()

/-- Check a data range that the command names: its table entries are read, and its access is allowed (R246). -/
def checkRange (env : Env) (a len : Nat) (write : Bool) : D Unit :=
  match env.badTab a len with
  | some pa => unreadable pa
  | none => let st := env.check a len write
    failIf (st != .ok) st

/-- Read a structure of `len` bytes at its start: access check and line check (R246). -/
def readable (env : Env) (a len : Nat) : D Bool := do
  checkRange env a len false
  if (env.badTab a len).isSome || env.check a len false != .ok then return false
  match env.bad a len with
  | none => return true
  | some pa => unreadable pa; return false

/-- Check every range of a tensor. -/
def checkTensor (env : Env) (t : TDesc) (write : Bool) : D Unit :=
  t.ranges.forM fun r => checkRange env r.1 r.2 write

/-! ### Command words -/

/-- `n` bytes of the command at an offset. -/
def wField (ws : List Byte) (off n : Nat) : Nat := leNat ((ws.drop off).take n)

def cOpc (ws : List Byte) : Nat := wField ws 0 1
def cFlags (ws : List Byte) : Nat := wField ws 1 1
def cAccum (ws : List Byte) : Bool := bitOf (cFlags ws) 0
def cIdemp (ws : List Byte) : Bool := bitOf (cFlags ws) 1
def cWaitEn (ws : List Byte) : Bool := bitOf (cFlags ws) 2
def cSigEn (ws : List Byte) : Bool := bitOf (cFlags ws) 3
def cTapEn (ws : List Byte) : Bool := bitOf (cFlags ws) 4
def cStatEn (ws : List Byte) : Bool := bitOf (cFlags ws) 5
def cEval (ws : List Byte) : Bool := bitOf (cFlags ws) 6
def cLast (ws : List Byte) : Bool := bitOf (cFlags ws) 7
def cTag (ws : List Byte) : Nat := wField ws 2 2
def cWaitId (ws : List Byte) : Nat := bitsOf (wField ws 4 2) 12 0
def cSigId (ws : List Byte) : Nat := bitsOf (wField ws 6 2) 12 0
def cWaitValue (ws : List Byte) : Nat := wField ws 8 8
def cSigInc (ws : List Byte) : Nat := wField ws 0x10 4
def cTimeout (ws : List Byte) : Nat := bitsOf (wField ws 0x14 1) 4 0
def cPriority (ws : List Byte) : Nat := bitsOf (wField ws 0x15 1) 3 0

/-- The engine type an opcode needs: 0 for any queue, 9 for a reserved opcode (R248, R249). -/
def opcEngine (o : Nat) : Nat :=
  if o ≤ 5 then 0
  else if 0x10 ≤ o ∧ o ≤ 0x14 then 1
  else if 0x20 ≤ o ∧ o ≤ 0x23 then 1
  else if 0x30 ≤ o ∧ o ≤ 0x34 then 2
  else if 0x40 ≤ o ∧ o ≤ 0x43 then 3
  else if 0x50 ≤ o ∧ o ≤ 0x52 then 4
  else if o = 0x60 ∨ o = 0x61 then 5
  else if o = 0x70 ∨ o = 0x71 then 0
  else 9

/-- The four opcodes that may carry ACCUM (R256). -/
def opcAccum (o : Nat) : Bool := o == 0x10 || o == 0x12 || o == 0x13 || o == 0x14

/-- An object outside the context's range (R261). -/
def syncOut (env : Env) (id : Nat) : Bool := decide (id < env.syncBase) || decide (env.syncBase + env.syncCount ≤ id)

/-- The checks of the header (R17, R249, R255, R256, R261). -/
def checkHeader (env : Env) (ws : List Byte) : D Unit := do
  let o := cOpc ws
  failIf (opcEngine o == 9 || (opcEngine o != 0 && opcEngine o != env.engine)) .decodeError
  failIf (bitsOf (wField ws 4 2) 15 13 != 0 || bitsOf (wField ws 6 2) 15 13 != 0) .decodeError
  failIf (decide (17 ≤ cTimeout ws) || bitsOf (wField ws 0x14 1) 7 5 != 0 || bitsOf (wField ws 0x15 1) 7 4 != 0
    || wField ws 0x16 2 != 0) .decodeError
  failIf (cAccum ws && !opcAccum o) .decodeError
  failIf (cWaitEn ws && syncOut env (cWaitId ws)) .accessFault
  failIf (cSigEn ws && syncOut env (cSigId ws)) .accessFault

/-! ### Descriptors and extension blocks -/

/-- A tensor descriptor named by a command: nonzero, aligned to 32 bytes, readable and well formed
(R267, R578, R582). -/
def getTD (env : Env) (a : Nat) : D (Option TDesc) := do
  failIf (a == 0 || a % 32 != 0) .decodeError
  if a == 0 || a % 32 != 0 then return none
  if !(← readable env a 32) then return none
  match readTDesc env.rd a with
  | none => failIf true .decodeError; return none
  | some t => return some t

/-- The fields of an extension block (R268). -/
structure XBlock where
  alpha : FV
  foldS : Nat
  bias : Nat
  fold : Bool
  lout : Nat
  layer : Nat
  seed : Nat
  cbBase : Nat
  cbFmt : Nat
  cbSpan : Nat
  gamma : Nat
  slen : Nat
  genA : Nat
  genB : Nat
deriving DecidableEq, Repr

/-- What `XB` = 0 stands for (R268). -/
def XBlock.default : XBlock := ⟨FV.one, 0, 0, false, 1, 0, 0, 0, 0, 0, 0, 0, 0, 0⟩

/-- Which fields of the extension block an opcode uses (R582). `lout` and `seed`: whether it uses `LOUT`, and `LAYER` with
`SR_SEED`; none while the kind of the output that decides it cannot be read. -/
structure XUse where
  alpha : Bool
  fold : Bool
  lout : Option Bool
  seed : Option Bool
  layer : Bool
  table : Bool
  binary : Bool
  stream : Bool
deriving DecidableEq, Repr

/-- Read an extension block and check its reserved and unused fields (R17, R268, R582). -/
def getXB (env : Env) (a : Nat) (u : XUse) : D XBlock := do
  if a == 0 then return XBlock.default
  if !(← readable env a 64) then return XBlock.default
  let r := rdNat env.rd
  let w0E := r (a + 0xE) 2
  let w26 := r (a + 0x26) 2
  let w30 := r (a + 0x30) 1
  failIf (bitsOf w0E 15 1 != 0 || r (a + 0x14) 4 != 0 || bitsOf w26 15 4 != 0 || r (a + 0x2E) 2 != 0
    || bitsOf w30 7 4 != 0 || r (a + 0x33) 13 != 0) .decodeError
  failIf (!u.alpha && (r a 4 != 0 || r (a + 8) 6 != 0)) .decodeError
  failIf (!u.fold && (r (a + 4) 4 != 0 || bitOf w0E 0)) .decodeError
  failIf (u.lout == some false && r (a + 0x10) 2 != 0) .decodeError
  failIf (u.lout == some true && r (a + 0x10) 2 == 0) .decodeError
  failIf (u.seed == some false && (r (a + 0x18) 8 != 0 || (!u.layer && r (a + 0x12) 2 != 0))) .decodeError
  failIf (!u.table && !u.binary && r (a + 0x20) 6 != 0) .decodeError
  failIf (!u.table && bitsOf w26 3 0 != 0) .decodeError
  failIf (!u.binary && r (a + 0x28) 6 != 0) .decodeError
  failIf (!u.stream && (w30 != 0 || r (a + 0x31) 2 != 0)) .decodeError
  failIf (u.table && (r (a + 0x20) 6 % 64 != 0 || decide (2 ≤ bitsOf w26 1 0) || bitsOf w26 3 2 == 3)) .decodeError
  failIf (u.stream && decide (9 ≤ bitsOf w30 3 0)) .decodeError
  return { alpha := if u.alpha then ofBits32 (r a 4) else FV.one
           foldS := r (a + 4) 4, bias := r (a + 8) 6, fold := bitOf w0E 0, lout := r (a + 0x10) 2
           layer := r (a + 0x12) 2, seed := r (a + 0x18) 8, cbBase := r (a + 0x20) 6, cbFmt := bitsOf w26 1 0
           cbSpan := bitsOf w26 3 2, gamma := r (a + 0x28) 6, slen := bitsOf w30 3 0, genA := r (a + 0x31) 1
           genB := r (a + 0x32) 1 }

/-! ### Tables of the context -/

/-- The key of rotation-table entry `id` (R140, R141); an unusable entry is a FORMAT_CONFLICT. -/
def getRotKey (env : Env) (id : Nat) : D Nat := do
  failIf (id == 0 || decide (env.tabLen 0 ≤ id)) .formatConflict
  if id == 0 || decide (env.tabLen 0 ≤ id) then return 0
  let a := env.tabBase 0 + 16 * id
  if !(← readable env a 16) then return 0
  match readRot env.rd a with
  | none => failIf true .formatConflict; return 0
  | some e => return rotKey e id

/-- Format-table entry `idx` with its checks (R215, R218, R44); none where it cannot be read. -/
def getFt (env : Env) (idx : Nat) : D (Option FtEntry) := do
  failIf (decide (env.tabLen 2 ≤ idx)) .formatConflict
  if env.tabLen 2 ≤ idx then return none
  let a := env.tabBase 2 + 32 * idx
  if !(← readable env a 32) then return none
  let e := readFt env.rd a
  failIf e.reservedCode .decodeError
  let leadOk ←
    if e.rlead != rleadSelf && decide (e.rlead < env.tabLen 2) then readable env (env.tabBase 2 + 32 * e.rlead) 32
    else pure true
  let lead := if leadOk && e.rlead != rleadSelf then rdNat env.rd (env.tabBase 2 + 32 * e.rlead + 0xC) 4 else rleadSelf
  failIf (e.malformed (env.tabLen 2) (env.tabLen 3) lead) .formatConflict
  return some e

/-- How an entry writes: with the staged rotation for a weight output (R237), and CBn refused (R198). -/
def outFmtOf (env : Env) (e : FtEntry) (weight : Bool) (kLen : Nat) : D OutFmt := do
  let rot := if weight && e.stage then e.pRot else e.rot
  failIf ((Fmt.ofCode e.fmt).all fun f => !f.isNarrow) .formatConflict
  failIf (rot != 0 && kLen % rotSize rot != 0) .formatConflict
  let key ← if rot == 0 then pure 0 else getRotKey env e.rotId
  return ⟨e.fmt, e.slots, rot, if rot == 0 then 0 else e.rotId, key, e.sr, e.statIdx, e.lane⟩

/-- The format an `OutFmt` writes. -/
def OutFmt.format (o : OutFmt) : Fmt := (Fmt.ofCode o.fmt).getD (.int 8)

/-- The ledger entry of a unit's tile (R170). -/
def BbfOut.entryOf (o : BbfOut) (tk tO : Nat) : Nat :=
  if o.panel then o.lbase + tk else o.lbase + tO % o.lout * o.td.kTiles + tk

/-- The `OutFmt` that tile column `tk` is written with (R217). -/
def BbfOut.infoOf (o : BbfOut) (tk : Nat) : OutFmt :=
  (o.infos[if o.infos.length = 1 then 0 else tk]?).getD ⟨8, 0, 0, 0, 0, false, 0, false⟩

/-- Scale units of an output (R170). -/
def BbfOut.unitCount (o : BbfOut) : Nat := if o.panel then o.td.kTiles else o.td.kTiles * o.td.oTiles

/-- The tiles of a unit: unit `u` is panel `u`, or tile `t_o × K_t + t_k` (R170, R278). -/
def BbfOut.unitTiles (o : BbfOut) (u : Nat) : List (Nat × Nat) :=
  if o.panel then (List.range o.td.oTiles).map fun t => (u, t)
  else [(u % o.td.kTiles, u / o.td.kTiles)]

/-- A unit is imported from OCP MX (R75): no rotation, and the element format of the input. DESIGN CHOICE: an MX input
written in another element format goes through the ledger as R162 says, and does not take R75's scale of 2ᵀ (log entry
45). -/
def BbfOut.isImport (o : BbfOut) (tk : Nat) : Bool := (o.infoOf tk).rot == 0 && o.imp == some (o.infoOf tk).fmt

/-- The ledger entries an output maps, without repeats (R170, R172). -/
def BbfOut.entries (o : BbfOut) : List Nat :=
  (((List.range o.unitCount).map fun u => (o.unitTiles u).headD (0, 0)).filter fun t => !o.isImport t.1).map
    (fun t => o.entryOf t.1 t.2) |>.dedup

/-- The BBF output description of a command: entries, rotations, stride, ledger (R72, R169–R172, R215–R218).
`weight` marks the outputs of R217; `fold` the fold scale; `imp` the element format of an MX input: units written in that
format without rotation are imports, and like fold outputs they leave the ledger alone (R75, R171). -/
def getBbfOut (env : Env) (td : TDesc) (ft lbase : Nat) (xb : XBlock) (weight : Bool) (fold : Option Nat)
    (imp : Option Nat) (srForce measure : Bool) : D (Option BbfOut) := do
  failIf (!measure && td.stride % 64 != 0) .formatConflict
  let e? ← getFt env ft
  let panel := weight && e?.any (·.scope)
  let es ← match e? with
    | none => pure []
    | some e =>
      if panel then
        (List.range td.kTiles).mapM fun p => do
          let x ← if p == 0 then pure (some e) else getFt env (ft + p)
          failIf (x.any fun y => !y.scope) .formatConflict
          return x.getD e
      else pure [e]
  let infos ← es.mapM fun x => do
    let i ← outFmtOf env x weight td.cols
    return { i with sr := i.sr || srForce }
  let noLedger := fold.isSome || (!infos.isEmpty && infos.all fun i => i.rot == 0 && imp == some i.fmt)
  let o : BbfOut :=
    { td := td, panel := panel, infos := infos, lbase := lbase, lout := xb.lout, ledger := [], fold := fold
      srKey := some (srKey xb.seed xb.layer env.step)
      escEn := env.escEn && !noLedger, ashFrac := env.ashFrac, reemitFrac := env.reemitFrac, ftIdx := ft
      imp := imp }
  infos.forM fun i => failIf (!measure && (decide (td.stride < tileBytes i.format (slotCount i.slotsCode))
    || (o.escEn && (i.format.escalation.any fun w => decide (td.stride < tileBytes w (slotCount i.slotsCode))))))
    .formatConflict
  if noLedger || (weight && e?.isNone) then return e?.map fun _ => o
  let ledger ← o.entries.mapM fun i => do
    failIf (decide (env.tabLen 1 ≤ i)) .formatConflict
    let a := env.tabBase 1 + 16 * i
    if env.tabLen 1 ≤ i then return (i, (⟨0, 0, 0, false, false, false, 0, 0, 0⟩ : LEntry))
    checkRange env a 16 (!env.eval)
    if !(← readable env a 16) then return (i, ⟨0, 0, 0, false, false, false, 0, 0, 0⟩)
    match readLEntry env.rd a with
    | none => failIf true .formatConflict; return (i, ⟨0, 0, 0, false, false, false, 0, 0, 0⟩)
    | some x => return (i, x.fold (env.step % 2 ^ 32))
  return e?.map fun _ => { o with ledger := ledger }

/-- The tile headers of a BBF tensor that R64 accepts. -/
def goodHdrs (rd : Nat → Byte) (t : TDesc) : List TileHdr :=
  if t.kind = kBBF then
    (List.range (t.kTiles * t.oTiles)).filterMap fun i => readHdr rd (t.base + i * t.stride) t.stride
  else []

/-- A BBF stride that is no multiple of 64 (R71). -/
def badStride (t : TDesc) : Bool := t.kind == kBBF && t.stride % 64 != 0

/-! ### Matrix opcodes -/

/-- A wide kind a command reads as FP32, BF16 or FP16 (R579). -/
def isWideIn (t : TDesc) : Bool := t.kind == kFP32 || t.kind == kBF16 || t.kind == kFP16 || t.kind == kMW48

/-- A wide kind a command writes (R126, R579). -/
def isWideOut (t : TDesc) : Bool := t.kind == kFP32 || t.kind == kBF16 || t.kind == kFP16

/-- The fold conditions of R165. -/
def foldBad (xb : XBlock) (out : TDesc) (o : Option BbfOut) : Bool :=
  xb.fold && (out.kind != kBBF || !normalPos xb.foldS
    || o.any fun b => b.infos.any fun i => !i.format.isInt || i.slotsCode != 0 || i.rot != 0)

/-- What a product needs of one operand by itself: a kind that is read, its stride and its range (R71, R579). -/
def checkOperand (env : Env) (t : TDesc) : D Unit := do
  failIf (!(t.kind == kBBF || isWideIn t) || badStride t) .formatConflict
  checkTensor env t false

/-- The checks of a codebook product that its A and B operands decide (R192, R194, R197). -/
def checkTable (env : Env) (xb : XBlock) (kseg : Nat) (a? b? : Option TDesc) : D Unit := do
  let span := cbSpanCols xb.cbSpan
  onSome a? fun a => do
    failIf (!(a.kind == kBBF || a.kind == kBF16) || (goodHdrs env.rd a).any fun h => h.fmt.isCb) .formatConflict
    let groups := ceilDiv a.cols 32
    failIf (decide (2048 < (if kseg = 0 then groups else min groups (2 ^ kseg)) * 128 / span)) .formatConflict
  onSome b? fun b => do
    failIf (b.kind != kBBF || (goodHdrs env.rd b).any fun h => !h.fmt.isCb) .formatConflict
    checkRange env xb.cbBase (32 * (b.kTiles * b.oTiles * 4 * (128 / span))) false

/-- The checks of a stream product that its generators and operands decide (R204, R209). -/
def checkStream (env : Env) (xb : XBlock) (a? b? : Option TDesc) : D Unit := do
  let good (t : TDesc) : D Unit := failIf (t.kind != kBBF
    || (goodHdrs env.rd t).any fun h => (streamNorm h.fmt).isNone || h.slots != 0) .formatConflict
  onSome a? good
  onSome b? good
  let m := 2 ^ 64 - 1
  let pa := streamStart xb.genA xb.layer env.step
  let pb := streamStart xb.genB xb.layer env.step
  let span := (a?.map fun a => 16 * streamLen xb.slen * a.cols - 16).getD 0
  failIf (xb.genA == xb.genB || decide ((pb + m - pa) % m ≤ span) || decide ((pa + m - pb) % m ≤ span))
    .streamCorrelated

/-- The tiles of a product: output tiles by segments (R118, R278). -/
def productTiles (a b : TDesc) (kseg : Nat) : Nat :=
  let groups := ceilDiv a.cols 32
  ceilDiv a.rows 128 * ceilDiv b.rows 128 * ceilDiv groups (if kseg = 0 then groups else 2 ^ kseg)

/-- Where a product runs: its dataflow, its partition and its sub-array (R83, R85, R86). -/
structure ProductPlace where
  df : Nat
  part : Nat
  prob : Nat
deriving DecidableEq, Repr

/-- One product: descriptors, shapes, kinds, ranges and output (R112, R192, R202, R204, R267, R579). Each check is made as
soon as the operands that it concerns could be read (R284). -/
def getProduct (env : Env) (kind : MKind) (pl : ProductPlace) (ws : List Byte) (aA bA oA ft lbase kseg : Nat)
    (fast : Bool) (xb : XBlock) : D (Option (MatOp × Option BbfOut)) := do
  let a? ← getTD env aA
  let b? ← getTD env bA
  let o? ← getTD env oA
  onBoth a? b? fun a b => failIf (a.cols != b.cols) .decodeError
  onBoth a? o? fun a o => failIf (o.rows != a.rows) .decodeError
  onBoth b? o? fun b o => failIf (o.cols != b.rows) .decodeError
  onBoth a? b? fun a b => setTotal (productTiles a b kseg)
  onSome a? (checkOperand env)
  onSome b? (checkOperand env)
  onSome o? fun out => do
    failIf (out.kind != kBBF && (ft != 0 || lbase != 0)) .decodeError
    failIf (!(out.kind == kBBF || isWideOut out) || badStride out || (cAccum ws && out.kind == kBBF)) .formatConflict
    checkTensor env out true
    if xb.bias != 0 then checkRange env xb.bias (4 * out.cols) false
  match kind with
  | .plain => pure ()
  | .table => checkTable env xb kseg a? b?
  | .binary =>
    let good (t : TDesc) : D Unit := failIf (t.kind != kBBF
      || (goodHdrs env.rd t).any fun h => h.fmt != .int 1 || h.slots != 0) .formatConflict
    onSome a? fun a => do
      good a
      if xb.cbBase != 0 then checkRange env xb.cbBase (4 * a.rows) false
    onSome b? fun b => do
      good b
      if xb.gamma != 0 then checkRange env xb.gamma (4 * b.rows) false
  | .stream => checkStream env xb a? b?
  let bbf ← match o? with
    | none => pure none
    | some out => do
      let o ←
        if out.kind = kBBF then
          getBbfOut env out ft lbase xb false (if xb.fold then some xb.foldS else none) none false false
        else pure none
      failIf (foldBad xb out o) .formatConflict
      pure o
  match a?, b?, o? with
  | some a, some b, some out =>
    return some
      ({ kind := kind, df := pl.df, part := pl.part, prob := pl.prob, a := a, b := b, out := out, accum := cAccum ws
         fast := fast, kseg := kseg, alpha := xb.alpha, bias := xb.bias
         rho := if kind = .binary then xb.cbBase else 0, gamma := xb.gamma, cbBase := xb.cbBase
         cbFmt := xb.cbFmt, cbSpan := xb.cbSpan, slen := xb.slen, genA := xb.genA, genB := xb.genB
         layer := xb.layer, step := env.step % 2 ^ 32 }, bbf)
  | _, _, _ => return none

/-- Whether the output descriptor at an address names a BBF tensor, which decides the `XB` fields in use (R582); none
where it cannot be read. -/
def outIsBbf (env : Env) (a : Nat) : Option Bool :=
  if a % 32 == 0 && (env.badTab a 32).isNone && env.check a 32 false == .ok && (env.bad a 32).isNone then
    some (rdNat env.rd (a + 6) 1 == kBBF)
  else none

/-- MATMUL, MATMUL_TABLE, MATMUL_BINARY and MATMUL_STREAM (R269, R193, R268). -/
def decodeMatrix (env : Env) (kind : MKind) (ws : List Byte) : D Plan := do
  let w1E := wField ws 0x1E 2
  let w26 := wField ws 0x26 2
  let xbA := wField ws 0x38 6
  failIf (bitsOf w1E 15 4 != 0 || bitOf w1E 3 || bitsOf w26 15 7 != 0 || bitsOf w26 6 4 != 0 || wField ws 0x2E 2 != 0
    || wField ws 0x3E 2 != 0) .decodeError
  failIf (bitsOf w1E 1 0 == 3 || decide (13 ≤ bitsOf w26 3 0)) .decodeError
  failIf (bitOf w1E 2 && kind != .plain) .decodeError
  failIf (kind == .table && bitsOf w1E 1 0 == 2) .decodeError
  failIf ((kind == .table || kind == .stream) && xbA == 0) .decodeError
  let bbf := outIsBbf env (wField ws 0x28 6)
  let xb ← getXB env xbA ⟨true, kind == .plain || kind == .binary, bbf, bbf, kind == .stream, kind == .table,
    kind == .binary, kind == .stream⟩
  match ← getProduct env kind ⟨bitsOf w1E 1 0, 0, 0⟩ ws (wField ws 0x18 6) (wField ws 0x20 6) (wField ws 0x28 6)
      (wField ws 0x30 4) (wField ws 0x34 4) (bitsOf w26 3 0) (bitOf w1E 2) xb with
  | none => return .control
  | some (op, o) => return .matrix op o

/-- Sub-arrays of a partition (R85). -/
def partCount (p : Nat) : Nat := if p = 0 then 1 else if p = 1 then 2 else if p = 2 then 4 else 16

/-- Whether any of several outputs is BBF; none while one of them that could be is not readable. -/
def anyOutBbf (l : List (Option Bool)) : Option Bool :=
  if l.any fun o => o == some true then some true else if l.all Option.isSome then some false else none

/-- MATMUL_PACKED (R270, R85, R86). -/
def decodePacked (env : Env) (ws : List Byte) : D Plan := do
  let w1E := wField ws 0x1E 2
  let pr := wField ws 0x18 6
  let xbA := wField ws 0x38 6
  let np := bitsOf w1E 9 6 + 1
  let part := bitsOf w1E 5 4
  setTotal 1
  failIf (bitOf w1E 3 || bitsOf w1E 15 10 != 0 || wField ws 0x20 24 != 0 || wField ws 0x3E 2 != 0) .decodeError
  failIf (bitsOf w1E 1 0 == 3 || decide (partCount part < np)) .decodeError
  let prOk ← readable env pr (32 * np)
  let rec_ (i : Nat) : Nat := pr + 32 * i
  let bbf := if prOk then anyOutBbf ((List.range np).map fun i => outIsBbf env (rdNat env.rd (rec_ i + 0x10) 6)) else none
  let xb ← getXB env xbA ⟨true, true, bbf, bbf, false, false, false, false⟩
  if !prOk then return .control
  let ps ← (List.range np).mapM fun i => do
    let r := rdNat env.rd
    failIf (r (rec_ i + 6) 2 != 0 || r (rec_ i + 0xE) 2 != 0 || r (rec_ i + 0x16) 2 != 0) .decodeError
    getProduct env .plain ⟨bitsOf w1E 1 0, part, i⟩ ws (r (rec_ i) 6) (r (rec_ i + 8) 6) (r (rec_ i + 0x10) 6)
      (r (rec_ i + 0x18) 4) (r (rec_ i + 0x1C) 4) 0 (bitOf w1E 2) xb
  setTotal 1
  return .packed (ps.filterMap id)

/-! ### Glaze opcodes -/

/-- The rotation keys that undoing a BBF input's stored rotations needs (R147, R163); a CBn tile counts as one with a
faulty header, so its identifier is not looked up (R580). -/
def undoKeys (env : Env) (t : TDesc) : D (List (Nat × Nat)) := do
  let ids := ((goodHdrs env.rd t).filterMap fun h =>
    if h.rot != 0 && !h.fmt.isCb then some h.rotId else none).dedup
  ids.mapM fun i => do return (i, ← getRotKey env i)

/-- The kinds that a Glaze opcode reads and writes (R162–R164, R187, R579). -/
def convertReads (kind : ConvKind) (a : TDesc) : Bool :=
  match kind with
  | .quantise => a.kind == kBBF || a.kind == kMX || isWideIn a
  | .dequantise => a.kind == kBBF
  | .rotate => a.kind == kBBF || isWideIn a
  | .amax => a.kind == kBBF || isWideIn a

def convertWrites (kind : ConvKind) (out : TDesc) : Bool :=
  match kind with
  | .quantise => out.kind == kBBF
  | .dequantise => isWideOut out || out.kind == kMX
  | .rotate => out.kind == kBBF || isWideOut out
  | .amax => true

/-- Whether a Glaze opcode encodes into BBF: none where only its unreadable output descriptor would tell. -/
def convertToBbf (kind : ConvKind) (o? : Option TDesc) : Option Bool :=
  match kind with
  | .amax => some true
  | .dequantise => some false
  | _ => o?.map fun o => o.kind == kBBF

/-- QUANTISE, DEQUANTISE, ROTATE and AMAX_PASS (R162–R164, R187, R269, R579, R582). -/
def decodeConvert (env : Env) (kind : ConvKind) (ws : List Byte) : D Plan := do
  let w1E := wField ws 0x1E 2
  let w26 := wField ws 0x26 2
  let outA := wField ws 0x28 6
  let ft := wField ws 0x30 4
  let lbase := wField ws 0x34 4
  let rot := bitsOf w26 6 4
  let rotId := wField ws 0x2E 2
  failIf (bitsOf w1E 15 4 != 0 || bitsOf w1E 2 0 != 0 || bitsOf w26 15 7 != 0 || bitsOf w26 3 0 != 0
    || wField ws 0x20 6 != 0 || wField ws 0x3E 2 != 0) .decodeError
  failIf (bitOf w1E 3 && kind != .dequantise && kind != .rotate) .decodeError
  failIf (kind == .amax && outA != 0) .decodeError
  failIf (kind != .rotate && (rot != 0 || rotId != 0)) .decodeError
  failIf (decide (5 ≤ rot) || (rot == 0 && rotId != 0)) .decodeError
  let a? ← getTD env (wField ws 0x18 6)
  let o? ← if kind = .amax then pure a? else getTD env outA
  let toBbf? := convertToBbf kind o?
  let toBbf := toBbf? == some true
  failIf (toBbf? == some false && (ft != 0 || lbase != 0)) .decodeError
  failIf (toBbf && (rot != 0 || rotId != 0 || (kind == .rotate && bitOf w1E 3))) .decodeError
  let xb ← getXB env (wField ws 0x38 6)
    ⟨false, false, toBbf?, if kind = .amax then some false else toBbf?, false, false, false, false⟩
  onBoth a? o? fun a out => failIf (out.rows != a.rows || out.cols != a.cols) .decodeError
  onSome o? fun out => do
    setTotal (out.kTiles * out.oTiles)
    failIf (!convertWrites kind out || (kind != .amax && badStride out)) .formatConflict
    if kind != .amax then checkTensor env out true
  onSome a? fun a => do
    failIf (!convertReads kind a || badStride a) .formatConflict
    checkTensor env a false
  let undo := a?.any fun a => a.kind == kBBF && (kind != .dequantise || bitOf w1E 3)
  let keys ← match a? with
    | some a => if undo then undoKeys env a else pure []
    | none => pure []
  let turns := kind == .rotate && toBbf? == some false && rot != 0
  onSome o? fun out => failIf (turns && out.cols % rotSize rot != 0) .formatConflict
  let key ← if turns then getRotKey env rotId else pure 0
  let bbf ← match o? with
    | none => pure none
    | some out =>
      if toBbf then do
        let td := if kind = .amax then { out with kind := kBBF } else out
        let imp := if kind = .quantise then a?.bind (fun a => if a.kind = kMX then some a.mxfmt else none) else none
        getBbfOut env td ft lbase xb true none imp false (kind == .amax)
      else pure none
  onSome bbf fun o => setTotal o.unitCount
  match a?, o? with
  | some a, some out => return .convert ⟨kind, a, out, undo, bitOf w1E 3, rot, key, keys⟩ bbf
  | _, _ => return .control

/-! ### Vector opcodes -/

/-- A vector command (R271–R273, R579). -/
def decodeVector (env : Env) (kind : VecKind) (ws : List Byte) : D Plan := do
  let func := wField ws 0x1E 1
  let mode := wField ws 0x1F 1
  let c0 := wField ws 0x30 4
  let in2A := wField ws 0x20 6
  let out2A := wField ws 0x38 6
  failIf (decide (16 ≤ mode) || wField ws 0x26 2 != 0 || wField ws 0x2E 2 != 0 || wField ws 0x34 4 != 0
    || wField ws 0x3E 2 != 0) .decodeError
  failIf (kind != .map && func != 0) .decodeError
  failIf (kind == .map && decide (8 ≤ func)) .decodeError
  failIf (kind != .norm && kind != .reduce && mode != 0) .decodeError
  failIf ((kind == .norm && decide (2 ≤ mode)) || (kind == .reduce && decide (3 ≤ mode))) .decodeError
  failIf (kind == .reduce && c0 != 0) .decodeError
  failIf ((kind == .softmax || kind == .reduce) && in2A != 0) .decodeError
  failIf ((kind == .map || kind == .reduce) && out2A != 0) .decodeError
  failIf (((kind == .map && vecMapUsesX2 func) || kind == .loss) && in2A == 0) .decodeError
  let i? ← getTD env (wField ws 0x18 6)
  let o? ← getTD env (wField ws 0x28 6)
  let i2? ← if in2A = 0 then pure none else getTD env in2A
  let o2? ← if out2A = 0 then pure none else getTD env out2A
  let perRow := kind == .loss || kind == .reduce
  onSome i? fun a => do
    setTotal (ceilDiv a.rows 128)
    failIf (decide (2 ^ 24 < a.cols)) .decodeError
    failIf (!isWideIn a) .formatConflict
    checkTensor env a false
    onSome i2? fun t => failIf (match kind with
      | .norm => t.rows != 1 || t.cols != a.cols
      | .loss => t.rows != a.rows || t.cols != 1
      | _ => t.rows != a.rows || t.cols != a.cols) .decodeError
    onSome o2? fun t => failIf (t.rows != a.rows || t.cols != (if kind = .loss then a.cols else 1)) .decodeError
    onSome o? fun out => failIf (out.rows != a.rows || out.cols != (if perRow then 1 else a.cols)) .decodeError
  onSome o? fun out => do
    failIf (!isWideOut out) .formatConflict
    checkTensor env out true
  onSome i2? fun t => do
    failIf (if kind = .loss then t.kind != kINT32 else !isWideIn t) .formatConflict
    checkTensor env t false
  onSome o2? fun t => do
    failIf (!isWideOut t) .formatConflict
    checkTensor env t true
  match i?, o? with
  | some a, some out => return .vector ⟨kind, func, mode, ofBits32 c0, a, i2?, out, o2?⟩
  | _, _ => return .control

/-! ### Move opcodes -/

/-- Ranges [a, a + n) and [b, b + m) that meet. -/
def overlaps (a n b m : Nat) : Bool := decide (a < b + m) && decide (b < a + n)

/-- MOVE, OFFLOAD, PREFETCH, SPILL by opcode (R274, R379, R394). -/
def decodeMove (env : Env) (opc : Nat) (ws : List Byte) : D Plan := do
  let src := wField ws 0x18 6
  let dst := wField ws 0x20 6
  let len := wField ws 0x28 5
  let w2D := wField ws 0x2D 1
  failIf (wField ws 0x1E 2 != 0 || wField ws 0x26 2 != 0 || bitsOf w2D 7 3 != 0 || wField ws 0x2E 18 != 0) .decodeError
  failIf (decide (len < 64) || len % 64 != 0) .decodeError
  failIf (opc != 0x43 && w2D != 0) .decodeError
  failIf (opc == 0x43 && decide (6 ≤ w2D)) .decodeError
  setTotal (ceilDiv len 65536)
  checkRange env src len false
  let st := env.tgt src len
  if opc = 0x43 then
    failIf (st != .device) .accessFault
    failIf (decide (2 ^ 40 < dst + len)) .accessFault
    failIf (dst % 64 != 0) .decodeError
    return .move ⟨src, dst, len, .device, .window w2D⟩
  else
    checkRange env dst len true
    let dt := env.tgt dst len
    failIf (overlaps src len dst len) .decodeError
    let isWin := match st with
      | .window _ => true
      | _ => false
    failIf (isWin && src % 64 != 0) .decodeError
    failIf (opc == 0x40 && !((st == .device || isWin) && dt == .device)) .accessFault
    failIf (opc == 0x41 && !(st == .device && dt == .host)) .accessFault
    failIf (opc == 0x42 && !(st == .host && dt == .device)) .accessFault
    return .move ⟨src, dst, len, st, dt⟩

/-! ### Reduce opcodes -/

/-- `group_check` (R315). -/
def groupCheck (ranks : List Nat) : Nat := ranks.foldl (fun h r => mix64 (Nat.xor h r)) (mix64 ranks.length) % 2 ^ 32

/-- `heap_member` (R318); `allreduce` is the ALLREDUCE shape, `w` the owner's index. -/
def heapMember (allreduce : Bool) (n w h s : Nat) : Nat :=
  if allreduce then (h - 1 + s * n / 6) % n
  else if h = 1 then w
  else
    let rem := (List.range n).filter fun i => i != w
    rem.getD ((h - 2 + s * (n - 1) / 6) % (n - 1)) 0

/-- A power of two from 4 to 256 (R310). -/
def sizeOk (n : Nat) : Bool := [4, 8, 16, 32, 64, 128, 256].contains n

/-- REDUCE_BUCKET, BROADCAST and DIGEST_CHECK (R275, R310, R314, R315, R324, R228). A member needs write access to `BUF`
only where it writes it (R246, R319, R330). -/
def decodeReduce (env : Env) (kind : RedKind) (ws : List Byte) : D Plan := do
  let buf := wField ws 0x18 6
  let w1E := wField ws 0x1E 2
  let size := bitsOf w1E 8 0
  let mode := bitsOf w1E 10 9
  let grp := wField ws 0x20 6
  let w26 := wField ws 0x26 2
  let owner := bitsOf w26 11 0
  let seq := wField ws 0x28 8
  let stats := (List.range 4).map fun i => wField ws (0x30 + 4 * i) 4
  let res := wField ws 0x30 8
  failIf (bitsOf w1E 15 11 != 0 || bitsOf w26 15 12 != 0 || grp % 64 != 0) .decodeError
  failIf (env.keyHeld seq) .decodeError
  setTotal (if kind = .digestCheck then 1 else 6)
  let owns := env.rank == owner
  match kind with
  | .bucket =>
    failIf (!sizeOk size || decide (2 ≤ mode) || buf % 64 != 0 || (mode == 0 && owner != 0)) .decodeError
    failIf (stats.any fun i => i != 0xFFFFFFFF && decide (env.tabLen 3 ≤ i)) .formatConflict
    (stats.filter fun i => i != 0xFFFFFFFF && decide (i < env.tabLen 3)).forM fun i =>
      checkRange env (env.tabBase 3 + 384 * i) 384 true
    checkRange env buf (size * 2 ^ 20) false
    if mode != 1 || owns then checkRange env buf (size * 2 ^ 20) true
  | .broadcast =>
    failIf (!sizeOk size || mode != 0 || (stats.any fun i => i != 0)) .decodeError
    checkRange env buf (size * 2 ^ 20) (!owns)
  | .digestCheck =>
    failIf (size != 0 || mode != 0 || owner != 0 || decide (2 ^ 48 ≤ res)) .decodeError
    checkRange env buf 16 false
    checkRange env res 64 true
  if grp % 64 != 0 then return .control
  if !(← readable env grp 64) then return .control
  let r := rdNat env.rd
  let n := bitsOf (r grp 2) 12 0
  let gchk := r (grp + 4) 4
  let arr := r (grp + 8) 6
  failIf (bitsOf (r grp 2) 15 13 != 0 || r (grp + 2) 2 != 0 || r (grp + 0xE) 50 != 0 || n == 0 || decide (4096 < n)
    || arr % 64 != 0) .decodeError
  if n == 0 || decide (4096 < n) || arr % 64 != 0 then return .control
  if !(← readable env arr (2 * n)) then return .control
  let raw := (List.range n).map fun i => r (arr + 2 * i) 2
  let ranks := raw.map fun w => bitsOf w 11 0
  failIf (raw.any fun w => bitsOf w 15 12 != 0) .decodeError
  failIf (!decide ranks.Nodup || (ranks.filter fun x => x == env.rank).length != 1 || gchk != groupCheck ranks) .decodeError
  let needOwner := kind == .broadcast || (kind == .bucket && mode == 1)
  failIf (needOwner && !ranks.contains owner) .decodeError
  return .reduce ⟨kind, buf, size, mode, ranks, gchk, ranks.idxOf env.rank,
    if needOwner then ranks.idxOf owner else 0, seq, res, stats⟩

/-! ### UPDATE and DIGEST -/

/-- Whether a rule uses a hyper-parameter: η, β₁, β₂, λ, ε, GSCALE by number (R293). -/
def hyperUsed (rule i : Nat) : Bool :=
  i == 0 || i == 3 || i == 5 || (i == 1 && rule != 0) || (i == 2 && rule == 2) || (i == 4 && rule == 3)

/-- The range of a hyper-parameter by number (R295). -/
def hyperOk (i : Nat) (v : FV) : Bool :=
  if i = 1 || i = 2 then FV.zero.le v && v.le FV.one
  else if i = 4 then v.isFin && FV.zero.le v
  else v.isFin

/-- Plane overlaps of R292: sources, destinations and the gradient, each as (address, bytes). A destination may equal its
source; in place, every one does. -/
def planesBad (wHiS wExtS mS wHiD wExtD mD grad : Nat × Nat) (hasM : Bool) : Bool :=
  let ov (a b : Nat × Nat) : Bool := overlaps a.1 a.2 b.1 b.2
  let srcs := [wHiS, wExtS] ++ (if hasM then [mS] else [])
  let pairs := [(wHiS, wHiD), (wExtS, wExtD)] ++ (if hasM then [(mS, mD)] else [])
  let dsts := pairs.map (·.2)
  let inPlace := wHiS.1 == wHiD.1
  (inPlace && pairs.any fun p => p.1.1 != p.2.1)
    || (dsts.any fun d => ov d grad)
    || (pairs.any fun p => srcs.any fun s => ov p.2 s && !(s.1 == p.1.1 && p.1.1 == p.2.1))
    || (dsts.zipIdx.any fun d => dsts.zipIdx.any fun e => d.2 != e.2 && ov d.1 e.1)

/-- UPDATE (R276, R290–R295, R304). -/
def decodeUpdate (env : Env) (ws : List Byte) : D Plan := do
  let ud := wField ws 0x18 6
  let w1E := wField ws 0x1E 2
  let npar := wField ws 0x28 5
  let emit := bitOf w1E 5
  let rule := bitsOf w1E 3 0
  let nest := bitOf w1E 4
  let ft := wField ws 0x30 4
  let lbase := wField ws 0x34 4
  let dig := wField ws 0x38 6
  let dseed := wField ws 0x3E 2
  let blocks := ceilDiv npar 4096
  setTotal blocks
  failIf (decide (4 ≤ rule) || bitsOf w1E 15 6 != 0 || wField ws 0x20 6 != 0 || wField ws 0x26 2 != 0
    || wField ws 0x2D 3 != 0 || npar == 0) .decodeError
  failIf (nest && rule != 1) .decodeError
  failIf (!emit && (ft != 0 || lbase != 0)) .decodeError
  failIf (dig == 0 && dseed != 0) .decodeError
  failIf (ud % 64 != 0) .decodeError
  if dig != 0 then checkRange env dig 16 true
  if ud % 64 != 0 then return .control
  if !(← readable env ud 128) then return .control
  let r := rdNat env.rd
  let w26 := r (ud + 0x26) 2
  let sel (i : Nat) : Bool := bitOf w26 (4 + i)
  let anySel := bitsOf w26 9 4 != 0
  let mS := r (ud + 0x28) 6
  let mD := r (ud + 0x30) 6
  let frz := r (ud + 0x38) 6
  let etd := r (ud + 0x40) 6
  let sch := r (ud + 0x48) 6
  let slen := r (ud + 0x50) 4
  let step0 := r (ud + 0x58) 8
  let hasM := rule != 0
  failIf ([0x0E, 0x16, 0x1E, 0x2E, 0x36, 0x3E, 0x46, 0x4E].any fun o => r (ud + o) 2 != 0) .decodeError
  failIf (bitsOf w26 15 10 != 0 || r (ud + 0x54) 4 != 0) .decodeError
  failIf ((rule == 0 && (mS != 0 || mD != 0)) || (hasM && (mS == 0 || mD == 0))) .decodeError
  failIf ((!emit && etd != 0) || (!anySel && sch != 0)) .decodeError
  failIf (anySel && (slen == 0 || sch == 0)) .decodeError
  let j := if env.step < step0 then 0 else min (env.step - step0) (slen - 1)
  let recA := sch + 32 * j
  let recOk ← if anySel && slen != 0 && sch != 0 then readable env recA 32 else pure false
  failIf (recOk && r (recA + 0x18) 8 != 0) .decodeError
  let hp (i : Nat) : FV := ofBits32 (if sel i then r (recA + 4 * i) 4 else r (ud + 0x68 + 4 * i) 4)
  failIf ((List.range 6).any fun i => hyperUsed rule i && (recOk || !sel i) && !hyperOk i (hp i)) .decodeError
  let h : Hyper := ⟨hp 0, hp 1, hp 2, hp 3, hp 4, hp 5⟩
  let mw := if bitOf w26 0 then 2 else 4
  let planes := [r ud 6, r (ud + 8) 6, r (ud + 0x10) 6, r (ud + 0x18) 6, r (ud + 0x20) 6]
  failIf ((planes ++ (if hasM then [mS, mD] else [])).any fun a => a % 64 != 0) .decodeError
  let pl (i : Nat) (w : Nat) : Nat × Nat := (planes.getD i 0, w * npar)
  failIf (planesBad (pl 0 4) (pl 1 2) (mS, mw * npar) (pl 2 4) (pl 3 2) (mD, mw * npar) (pl 4 4) hasM) .decodeError
  checkRange env (planes.getD 0 0) (4 * npar) false
  checkRange env (planes.getD 1 0) (2 * npar) false
  checkRange env (planes.getD 2 0) (4 * npar) true
  checkRange env (planes.getD 3 0) (2 * npar) true
  checkRange env (planes.getD 4 0) (4 * npar) false
  if hasM then
    checkRange env mS (mw * npar) false
    checkRange env mD (mw * npar) true
  let frzOk ← if frz != 0 then readable env frz (ceilDiv blocks 8) else pure true
  let layer := r (ud + 6) 2
  let seed := r (ud + 0x60) 8
  let freeze := (List.range blocks).map fun b => frz != 0 && frzOk && bitOf (r (frz + b / 8) 1) (b % 8)
  let bbf ←
    if emit then
      match ← getTD env etd with
      | none => pure none
      | some td => do
        setTotal (blocks + td.kTiles)
        failIf (td.rows * td.cols != npar) .decodeError
        failIf (td.kind != kBBF || badStride td) .formatConflict
        checkTensor env td true
        getBbfOut env td ft lbase { XBlock.default with lout := 1, layer := layer, seed := seed } true none none
          (bitOf w26 3) false
    else pure none
  let bbf := bbf.map fun o => { o with panel := true }
  return .update
    { rule := if rule = 0 then .sgd else if rule = 1 then .momentum nest else if rule = 2 then .signMom else .blockNorm
      h := h, wHiSrc := planes.getD 0 0, wExtSrc := planes.getD 1 0, wHiDst := planes.getD 2 0
      wExtDst := planes.getD 3 0, grad := planes.getD 4 0, mSrc := mS, mDst := mD, bf := bitOf w26 0
      srW := bitOf w26 1, srM := bitOf w26 2, key := mix64 (srKey seed layer env.step), freeze := freeze, npar := npar
      emit := emit, digOut := dig, dseed := dseed } bbf

/-- DIGEST (R276, R308). -/
def decodeDigest (env : Env) (ws : List Byte) : D Plan := do
  let hi := wField ws 0x18 6
  let ext := wField ws 0x20 6
  let npar := wField ws 0x28 5
  let dout := wField ws 0x38 6
  setTotal (ceilDiv npar 4096)
  failIf (wField ws 0x1E 2 != 0 || wField ws 0x26 2 != 0 || wField ws 0x2D 3 != 0 || wField ws 0x30 8 != 0 || npar == 0
    || dout == 0 || hi % 64 != 0 || ext % 64 != 0) .decodeError
  checkRange env hi (4 * npar) false
  checkRange env ext (2 * npar) false
  checkRange env dout 16 true
  return .digest hi ext npar dout (wField ws 0x3E 2)

/-! ### Control, observation and governor opcodes (R277) -/

/-- The checks of NOP, LINK, WAIT, SIGNAL, STEP_MARK, FENCE, TAP and PRECISION_APPLY. A PRECISION_APPLY needs access to
its entries only where it commits (R236, R246). -/
def decodeControl (env : Env) (ws : List Byte) : D Plan := do
  let o := cOpc ws
  let z (off n : Nat) : Bool := wField ws off n != 0
  if o = 0x00 || o = 0x05 then
    failIf (z 0x18 40) .decodeError
  else if o = 0x01 then
    failIf (z 0x1E 34 || wField ws 0x18 6 % 64 != 0) .decodeError
  else if o = 0x02 then
    let a := wField ws 0x18 2
    let b := wField ws 0x1A 2
    failIf (bitsOf a 14 13 != 0 || bitsOf b 14 13 != 0 || z 0x1C 4 || z 0x30 16) .decodeError
    failIf (bitOf a 15 && syncOut env (bitsOf a 12 0)) .accessFault
    failIf (bitOf b 15 && syncOut env (bitsOf b 12 0)) .accessFault
  else if o = 0x03 then
    let id := wField ws 0x18 2
    let rem := wField ws 0x1A 2
    failIf (bitsOf id 15 13 != 0 || decide (2 ≤ rem) || bitsOf (wField ws 0x1C 2) 15 12 != 0
      || bitsOf (wField ws 0x1E 2) 15 4 != 0 || z 0x28 24) .decodeError
    failIf (rem == 0 && syncOut env id) .accessFault
  else if o = 0x04 then
    failIf (decide (2 ≤ wField ws 0x18 8) || z 0x28 24) .decodeError
  else if o = 0x70 then
    failIf (z 0x21 31) .decodeError
    match ← getTD env (wField ws 0x18 6) with
    | none => pure ()
    | some t =>
      failIf (t.kind == kMX) .decodeError
      failIf (badStride t) .formatConflict
      checkTensor env t false
  else if o = 0x71 then
    let first := wField ws 0x18 4
    let count := wField ws 0x1C 4
    failIf (z 0x20 32 || count == 0) .decodeError
    failIf (decide (env.tabLen 2 < first + count)) .formatConflict
    let n := min count (env.tabLen 2 - first)
    if env.governed && n != 0 then checkRange env (env.tabBase 2 + 32 * first) (32 * n) true
  return .control

/-- The start checks of a command, all of them (R17, R246, R284). -/
def checkCommand (env : Env) (ws : List Byte) : Plan × Errs :=
  let o := cOpc ws
  let body : D Plan := do
    checkHeader env ws
    if o = 0x10 then decodeMatrix env .plain ws
    else if o = 0x11 then decodePacked env ws
    else if o = 0x12 then decodeMatrix env .table ws
    else if o = 0x13 then decodeMatrix env .binary ws
    else if o = 0x14 then decodeMatrix env .stream ws
    else if o = 0x20 then decodeConvert env .rotate ws
    else if o = 0x21 then decodeConvert env .quantise ws
    else if o = 0x22 then decodeConvert env .dequantise ws
    else if o = 0x23 then decodeConvert env .amax ws
    else if o = 0x30 then decodeVector env .map ws
    else if o = 0x31 then decodeVector env .norm ws
    else if o = 0x32 then decodeVector env .softmax ws
    else if o = 0x33 then decodeVector env .loss ws
    else if o = 0x34 then decodeVector env .reduce ws
    else if o = 0x40 || o = 0x41 || o = 0x42 || o = 0x43 then decodeMove env o ws
    else if o = 0x50 then decodeReduce env .bucket ws
    else if o = 0x51 then decodeReduce env .broadcast ws
    else if o = 0x52 then decodeReduce env .digestCheck ws
    else if o = 0x60 then decodeUpdate env ws
    else if o = 0x61 then decodeDigest env ws
    else decodeControl env ws
  body.run ⟨[], none, 0⟩

/-- The outcome of the start checks (R284): the plan, or the status it completes with before any effect and the line of an
uncorrectable read. -/
def decodeCommand (env : Env) (ws : List Byte) : Except (Status × Option Nat) Plan :=
  let r := checkCommand env ws
  match firstStatus Status.startRank r.2.list with
  | none => .ok r.1
  | some e => .error (e, if e = .memoryUncorrectable then r.2.pa else none)

/-- `TILES_TOTAL` of a command that its start checks or its wait ends: its tiles by R278, as far as the operands that
could be read tell them. -/
def commandTiles (env : Env) (ws : List Byte) : Nat := (checkCommand env ws).2.total

/-- Tiles of a plan (R278, R305, R317). -/
def Plan.tiles : Plan → Nat
  | .control => 0
  | .matrix op _ => ceilDiv op.a.rows 128 * ceilDiv op.b.rows 128 * op.segments
  | .packed _ => 1
  | .convert op b =>
    match b with
    | some o => o.unitCount
    | none => op.out.kTiles * op.out.oTiles
  | .vector op => ceilDiv op.inp.rows 128
  | .move op => ceilDiv op.len 65536
  | .reduce op => if op.kind = .digestCheck then 1 else 6
  | .update op b => ceilDiv op.npar 4096 + (b.map fun o => o.td.kTiles).getD 0
  | .digest _ _ n _ _ => ceilDiv n 4096

end Sys2Proof.Machine
end

