-- ==== Sys2Proof/Config.lean ====
section
/-! DEFINITION. What an implementation fixes and what the spec leaves open. Every constant here is opaque: no proof
can see its value, so a claim holds whatever it is. -/

namespace Sys2Proof.Config

/-- A value that the spec leaves open, fresh at each use: applied to the counter `State.freeCtr` (log entry 2). -/
opaque freeValue : Nat → Nat

/-- Factory slope of temperature sensor `i` (factory calibration; log entry 3). -/
opaque sensorSlope : Nat → Nat

/-- Factory offset of temperature sensor `i` (factory calibration; log entry 3). -/
opaque sensorOffset : Nat → Nat

/-- Factory gain of current sensor `i` (factory calibration; log entry 3). -/
opaque currentGain : Nat → Nat

/-- A cryptographic primitive named by the spec and not defined by it, over the message's number and length, by
primitive number (log entry 4). -/
opaque crypto : Nat → List Nat → Nat

/-- Lane operations that a Hob spends on a vector tile, by opcode, function and values: the spec names the count (R410) and
does not say how many each function takes (log entry 5). -/
opaque hobOps : Nat → Nat → Nat → Nat

/-- ARITH cycles that a tile takes at duty 16 on an engine to which R96 does not apply, by opcode and bytes moved (log
entry 5). -/
opaque tileTime : Nat → Nat → Nat

/-- `LEDGER_IDX` of a tile that no ledger entry supplied, by its `SCALE_SRC` and by the index that its panel or tile would
have: R63 defines the field only for a ledger's scale, and R39 makes it a function of the command (log entry 48). -/
opaque ledgerIdx : Nat → Nat → Nat

/-- The 48 bytes of type fields of a packet header, by type and contents: R353 leaves their layout to each type (log entry
13). -/
opaque typeFields : Nat → List Nat → Nat

end Sys2Proof.Config
end

