-- ==== Sys2Proof/Machine/Regs.lean ====
section
/-! DEFINITION. The register fields of the spec's register tables: for each its register, place, width and reset value
(R12, R15). `RegTable.lean` gives each register its PF0 BAR0 offset. -/

namespace Sys2Proof.Machine

open Sys2Proof

/-- The registers and register arrays of the spec's register tables; `SYNC` stands for the sync objects (R263), `HTH_CREP`
for the column repairs (R111), `VF_FAULT0` to `VF_FAULT3` for the VFs' copies of the fault record (R510). -/
inductive Reg where
  | ID_PART
  | ID_HEARTHS
  | ID_HMAP
  | ID_FMTCAP
  | HTH_STATE
  | HTH_RREP
  | CTX_GOVCFG
  | CTX_GOVTHR0
  | CTX_GOVTHR1
  | CTX_GOVWIN
  | CTX_GOVSTAT
  | CTX_GOVDONE
  | QUE_CFG
  | QUE_PTR
  | QUE_STAT
  | QUE_CTL
  | CTX_CFG
  | CTX_SYNC
  | CTX_STEP
  | CTX_TAB
  | FLU_POS
  | FLU_TIME
  | FLU_TSTAT
  | FLU_RTGEN
  | FLU_PORT
  | FLU_PCTL
  | FLU_PERR
  | MEM_BANDMAP
  | MEM_SAGGAR
  | MEM_ARBCFG
  | MEM_STK
  | MEM_ERR
  | MEM_SCRUB
  | MEM_UEADR
  | MEM_UEPTR
  | CTX_PTB
  | CTX_NWIN
  | DMP_CFG
  | DMP_STAT
  | DMP_PWR
  | DMP_ECOEF
  | DMP_BAY
  | DMP_TLOG
  | DMP_TDRM
  | PWR_CTL
  | PWR_STAT
  | CAL_TSNS
  | CAL_ISNS
  | CAL_ECOEF
  | HTH_CONE
  | HTH_CONECTL
  | HTH_GLZSTAT
  | RST_FAULT0
  | RST_FAULT1
  | RST_FAULT2
  | RST_FAULT3
  | RST_STAT
  | RST_CTL
  | RST_TIME
  | RST_CLAMP
  | RST_QMODE
  | OBS_GCNT
  | OBS_CNT
  | OBS_SEL
  | OBS_CTX
  | OBS_RING
  | OBS_QSNAP
  | OBS_TRCFG
  | OBS_TRCTL
  | OBS_TRSTAT
  | OBS_TRPOS
  | OBS_TRTRIG
  | OBS_TRTHR
  | CXL_LINK
  | CXL_ERR
  | CXL_SF
  | STK_MBCTL
  | STK_MBSTAT
  | SEC_BOOT
  | SEC_IDENT
  | SVC_SIDEBAND
  | SVC_ALERT
  | HTH_CREP
  | CTX_SCALECFG
  | FLU_RED
  | FLU_RTE
  | SYNC
  | VF_FAULT0
  | VF_FAULT1
  | VF_FAULT2
  | VF_FAULT3
deriving DecidableEq, Repr

/-- A register's number in the map. -/
def Reg.num : Reg → Nat
  | .ID_PART => 0
  | .ID_HEARTHS => 1
  | .ID_HMAP => 2
  | .ID_FMTCAP => 3
  | .HTH_STATE => 4
  | .HTH_RREP => 5
  | .CTX_GOVCFG => 6
  | .CTX_GOVTHR0 => 7
  | .CTX_GOVTHR1 => 8
  | .CTX_GOVWIN => 9
  | .CTX_GOVSTAT => 10
  | .CTX_GOVDONE => 11
  | .QUE_CFG => 12
  | .QUE_PTR => 13
  | .QUE_STAT => 14
  | .QUE_CTL => 15
  | .CTX_CFG => 16
  | .CTX_SYNC => 17
  | .CTX_STEP => 18
  | .CTX_TAB => 19
  | .FLU_POS => 20
  | .FLU_TIME => 21
  | .FLU_TSTAT => 22
  | .FLU_RTGEN => 23
  | .FLU_PORT => 24
  | .FLU_PCTL => 25
  | .FLU_PERR => 26
  | .MEM_BANDMAP => 27
  | .MEM_SAGGAR => 28
  | .MEM_ARBCFG => 29
  | .MEM_STK => 30
  | .MEM_ERR => 31
  | .MEM_SCRUB => 32
  | .MEM_UEADR => 33
  | .MEM_UEPTR => 34
  | .CTX_PTB => 35
  | .CTX_NWIN => 36
  | .DMP_CFG => 37
  | .DMP_STAT => 38
  | .DMP_PWR => 39
  | .DMP_ECOEF => 40
  | .DMP_BAY => 41
  | .DMP_TLOG => 42
  | .DMP_TDRM => 43
  | .PWR_CTL => 44
  | .PWR_STAT => 45
  | .CAL_TSNS => 46
  | .CAL_ISNS => 47
  | .CAL_ECOEF => 48
  | .HTH_CONE => 49
  | .HTH_CONECTL => 50
  | .HTH_GLZSTAT => 51
  | .RST_FAULT0 => 52
  | .RST_FAULT1 => 53
  | .RST_FAULT2 => 54
  | .RST_FAULT3 => 55
  | .RST_STAT => 56
  | .RST_CTL => 57
  | .RST_TIME => 58
  | .RST_CLAMP => 59
  | .RST_QMODE => 60
  | .OBS_GCNT => 61
  | .OBS_CNT => 62
  | .OBS_SEL => 63
  | .OBS_CTX => 64
  | .OBS_RING => 65
  | .OBS_QSNAP => 66
  | .OBS_TRCFG => 67
  | .OBS_TRCTL => 68
  | .OBS_TRSTAT => 69
  | .OBS_TRPOS => 70
  | .OBS_TRTRIG => 71
  | .OBS_TRTHR => 72
  | .CXL_LINK => 73
  | .CXL_ERR => 74
  | .CXL_SF => 75
  | .STK_MBCTL => 76
  | .STK_MBSTAT => 77
  | .SEC_BOOT => 78
  | .SEC_IDENT => 79
  | .SVC_SIDEBAND => 80
  | .SVC_ALERT => 81
  | .HTH_CREP => 82
  | .CTX_SCALECFG => 83
  | .FLU_RED => 84
  | .FLU_RTE => 85
  | .SYNC => 86
  | .VF_FAULT0 => 87
  | .VF_FAULT1 => 88
  | .VF_FAULT2 => 89
  | .VF_FAULT3 => 90

/-- Every register. -/
def Reg.all : List Reg :=
  [.ID_PART, .ID_HEARTHS, .ID_HMAP, .ID_FMTCAP, .HTH_STATE, .HTH_RREP, .CTX_GOVCFG, .CTX_GOVTHR0, .CTX_GOVTHR1,
   .CTX_GOVWIN, .CTX_GOVSTAT, .CTX_GOVDONE, .QUE_CFG, .QUE_PTR, .QUE_STAT, .QUE_CTL, .CTX_CFG, .CTX_SYNC,
   .CTX_STEP, .CTX_TAB, .FLU_POS, .FLU_TIME, .FLU_TSTAT, .FLU_RTGEN, .FLU_PORT, .FLU_PCTL, .FLU_PERR, .MEM_BANDMAP,
   .MEM_SAGGAR, .MEM_ARBCFG, .MEM_STK, .MEM_ERR, .MEM_SCRUB, .MEM_UEADR, .MEM_UEPTR, .CTX_PTB, .CTX_NWIN, .DMP_CFG,
   .DMP_STAT, .DMP_PWR, .DMP_ECOEF, .DMP_BAY, .DMP_TLOG, .DMP_TDRM, .PWR_CTL]
  ++ [.PWR_STAT, .CAL_TSNS, .CAL_ISNS, .CAL_ECOEF, .HTH_CONE, .HTH_CONECTL, .HTH_GLZSTAT, .RST_FAULT0, .RST_FAULT1,
   .RST_FAULT2, .RST_FAULT3, .RST_STAT, .RST_CTL, .RST_TIME, .RST_CLAMP, .RST_QMODE, .OBS_GCNT, .OBS_CNT, .OBS_SEL,
   .OBS_CTX, .OBS_RING, .OBS_QSNAP, .OBS_TRCFG, .OBS_TRCTL, .OBS_TRSTAT, .OBS_TRPOS, .OBS_TRTRIG, .OBS_TRTHR,
   .CXL_LINK, .CXL_ERR, .CXL_SF, .STK_MBCTL, .STK_MBSTAT, .SEC_BOOT, .SEC_IDENT, .SVC_SIDEBAND, .SVC_ALERT,
   .HTH_CREP, .CTX_SCALECFG, .FLU_RED, .FLU_RTE, .SYNC, .VF_FAULT0, .VF_FAULT1, .VF_FAULT2, .VF_FAULT3]

/-- The key of a field's cell: the register, its two indices and the field's lowest bit. -/
def cellKey (r : Reg) (i j lo : Nat) : Nat := ((r.num * 2 ^ 13 + i % 2 ^ 13) * 2 ^ 6 + j % 2 ^ 6) * 2 ^ 6 + lo % 2 ^ 6

/-- A register field: its register, the indices of the array's element, lowest bit, width in bits, reset value. -/
structure Fld where
  reg : Reg
  i : Nat
  j : Nat
  lo : Nat
  width : Nat
  reset : Nat
deriving DecidableEq, Repr

/-- The key of a field's cell. -/
def Fld.key (f : Fld) : Nat := cellKey f.reg f.i f.j f.lo

/-- Factory energy coefficient `i` in units of 2⁻⁸ fJ (R410). -/
def factoryCoef (i : Nat) : Nat :=
  [3584, 14080, 51200, 94720, 174080, 56320, 133, 38400, 64000, 512000, 1024000, 7680000, 819200, 102400, 307200,
   1536000].getD i 0

/-- `ID_PART.GRADE` (R6). -/
def ID_PART_GRADE : Fld := ⟨.ID_PART, 0, 0, 24, 8, 1⟩
/-- `ID_PART.STEP_MAJOR` (R6). -/
def ID_PART_STEP_MAJOR : Fld := ⟨.ID_PART, 0, 0, 20, 4, 1⟩
/-- `ID_PART.STEP_MINOR` (R6). -/
def ID_PART_STEP_MINOR : Fld := ⟨.ID_PART, 0, 0, 16, 4, 0⟩
/-- `ID_PART.HEARTHS_GRADE` (R6). -/
def ID_PART_HEARTHS_GRADE : Fld := ⟨.ID_PART, 0, 0, 0, 9, 288⟩
/-- `ID_HEARTHS.DEGRADED` (R6). -/
def ID_HEARTHS_DEGRADED : Fld := ⟨.ID_HEARTHS, 0, 0, 31, 1, 0⟩
/-- `ID_HEARTHS.HEARTHS_ENABLED` (R6). -/
def ID_HEARTHS_HEARTHS_ENABLED : Fld := ⟨.ID_HEARTHS, 0, 0, 0, 9, 0⟩
/-- `ID_HMAPn.EN` (R23). -/
def ID_HMAP_EN (n : Nat) : Fld := ⟨.ID_HMAP, n, 0, 0, 32, 0⟩
/-- `ID_FMTCAPn.CODES` (R77). -/
def ID_FMTCAP_CODES (n : Nat) : Fld := ⟨.ID_FMTCAP, n, 0, 0, 32, ([0x003E01FE, 0x001E0007, 1].getD n 0)⟩
/-- `HTH_STATEh.STATE` (R111). -/
def HTH_STATE_STATE (h : Nat) : Fld := ⟨.HTH_STATE, h, 0, 29, 3, 0⟩
/-- `HTH_STATEh.ROWS_FREE` (R111). -/
def HTH_STATE_ROWS_FREE (h : Nat) : Fld := ⟨.HTH_STATE, h, 0, 27, 2, 0⟩
/-- `HTH_STATEh.COLS_FREE` (R111). -/
def HTH_STATE_COLS_FREE (h : Nat) : Fld := ⟨.HTH_STATE, h, 0, 25, 2, 0⟩
/-- `HTH_STATEh.MISMATCH` (R111). -/
def HTH_STATE_MISMATCH (h : Nat) : Fld := ⟨.HTH_STATE, h, 0, 8, 8, 0⟩
/-- `HTH_STATEh.CONE_FAIL` (R111). -/
def HTH_STATE_CONE_FAIL (h : Nat) : Fld := ⟨.HTH_STATE, h, 0, 0, 8, 0⟩
/-- `HTH_RREPh.VALID1` (R111). -/
def HTH_RREP_VALID1 (h : Nat) : Fld := ⟨.HTH_RREP, h, 0, 31, 1, 0⟩
/-- `HTH_RREPh.FIELD1` (R111). -/
def HTH_RREP_FIELD1 (h : Nat) : Fld := ⟨.HTH_RREP, h, 0, 30, 1, 0⟩
/-- `HTH_RREPh.PEND1` (R111). -/
def HTH_RREP_PEND1 (h : Nat) : Fld := ⟨.HTH_RREP, h, 0, 29, 1, 0⟩
/-- `HTH_RREPh.PHYS1` (R111). -/
def HTH_RREP_PHYS1 (h : Nat) : Fld := ⟨.HTH_RREP, h, 0, 16, 8, 0⟩
/-- `HTH_RREPh.VALID0` (R111). -/
def HTH_RREP_VALID0 (h : Nat) : Fld := ⟨.HTH_RREP, h, 0, 15, 1, 0⟩
/-- `HTH_RREPh.FIELD0` (R111). -/
def HTH_RREP_FIELD0 (h : Nat) : Fld := ⟨.HTH_RREP, h, 0, 14, 1, 0⟩
/-- `HTH_RREPh.PEND0` (R111). -/
def HTH_RREP_PEND0 (h : Nat) : Fld := ⟨.HTH_RREP, h, 0, 13, 1, 0⟩
/-- `HTH_RREPh.PHYS0` (R111). -/
def HTH_RREP_PHYS0 (h : Nat) : Fld := ⟨.HTH_RREP, h, 0, 0, 8, 0⟩
/-- `CTX_GOVCFGc.MODE` (R243). -/
def CTX_GOVCFG_MODE (c : Nat) : Fld := ⟨.CTX_GOVCFG, c, 0, 30, 2, 0⟩
/-- `CTX_GOVCFGc.HYST` (R243). -/
def CTX_GOVCFG_HYST (c : Nat) : Fld := ⟨.CTX_GOVCFG, c, 0, 24, 4, 3⟩
/-- `CTX_GOVCFGc.WINDOW` (R243). -/
def CTX_GOVCFG_WINDOW (c : Nat) : Fld := ⟨.CTX_GOVCFG, c, 0, 0, 16, 50⟩
/-- `CTX_GOVTHR0c.ASH_HI` (R243). -/
def CTX_GOVTHR0_ASH_HI (c : Nat) : Fld := ⟨.CTX_GOVTHR0, c, 0, 24, 8, 40⟩
/-- `CTX_GOVTHR0c.ASH_LO` (R243). -/
def CTX_GOVTHR0_ASH_LO (c : Nat) : Fld := ⟨.CTX_GOVTHR0, c, 0, 16, 8, 4⟩
/-- `CTX_GOVTHR0c.CLK_HI` (R243). -/
def CTX_GOVTHR0_CLK_HI (c : Nat) : Fld := ⟨.CTX_GOVTHR0, c, 0, 8, 8, 16⟩
/-- `CTX_GOVTHR0c.OVF_HI` (R243). -/
def CTX_GOVTHR0_OVF_HI (c : Nat) : Fld := ⟨.CTX_GOVTHR0, c, 0, 0, 8, 8⟩
/-- `CTX_GOVTHR1c.NOISE_HI` (R243). -/
def CTX_GOVTHR1_NOISE_HI (c : Nat) : Fld := ⟨.CTX_GOVTHR1, c, 0, 24, 8, 24⟩
/-- `CTX_GOVTHR1c.NOISE_LO` (R243). -/
def CTX_GOVTHR1_NOISE_LO (c : Nat) : Fld := ⟨.CTX_GOVTHR1, c, 0, 16, 8, 40⟩
/-- `CTX_GOVTHR1c.STALL_HI` (R243). -/
def CTX_GOVTHR1_STALL_HI (c : Nat) : Fld := ⟨.CTX_GOVTHR1, c, 0, 8, 8, 230⟩
/-- `CTX_GOVTHR1c.OCC_LO` (R243). -/
def CTX_GOVTHR1_OCC_LO (c : Nat) : Fld := ⟨.CTX_GOVTHR1, c, 0, 0, 8, 16⟩
/-- `CTX_GOVWINc.WIN` (R243). -/
def CTX_GOVWIN_WIN (c : Nat) : Fld := ⟨.CTX_GOVWIN, c, 0, 0, 32, 0⟩
/-- `CTX_GOVSTATc.BUSY` (R243). -/
def CTX_GOVSTAT_BUSY (c : Nat) : Fld := ⟨.CTX_GOVSTAT, c, 0, 31, 1, 0⟩
/-- `CTX_GOVSTATc.OVERRUN` (R243). -/
def CTX_GOVSTAT_OVERRUN (c : Nat) : Fld := ⟨.CTX_GOVSTAT, c, 0, 30, 1, 0⟩
/-- `CTX_GOVSTATc.CHANGES` (R243). -/
def CTX_GOVSTAT_CHANGES (c : Nat) : Fld := ⟨.CTX_GOVSTAT, c, 0, 0, 20, 0⟩
/-- `CTX_GOVDONEc.DONE_WIN` (R243). -/
def CTX_GOVDONE_DONE_WIN (c : Nat) : Fld := ⟨.CTX_GOVDONE, c, 0, 0, 32, 4294967295⟩
/-- `QUE_CFGq.EN` (R288). -/
def QUE_CFG_EN (q : Nat) : Fld := ⟨.QUE_CFG, q, 0, 31, 1, 0⟩
/-- `QUE_CFGq.ENGINE` (R288). -/
def QUE_CFG_ENGINE (q : Nat) : Fld := ⟨.QUE_CFG, q, 0, 28, 3, 0⟩
/-- `QUE_CFGq.EVAL` (R288). -/
def QUE_CFG_EVAL (q : Nat) : Fld := ⟨.QUE_CFG, q, 0, 27, 1, 0⟩
/-- `QUE_CFGq.STEPPED` (R288). -/
def QUE_CFG_STEPPED (q : Nat) : Fld := ⟨.QUE_CFG, q, 0, 26, 1, 0⟩
/-- `QUE_CFGq.PRIO_MAX` (R288). -/
def QUE_CFG_PRIO_MAX (q : Nat) : Fld := ⟨.QUE_CFG, q, 0, 20, 4, 15⟩
/-- `QUE_CFGq.CTX` (R288). -/
def QUE_CFG_CTX (q : Nat) : Fld := ⟨.QUE_CFG, q, 0, 16, 4, 0⟩
/-- `QUE_CFGq.FAULT_SYNC` (R288). -/
def QUE_CFG_FAULT_SYNC (q : Nat) : Fld := ⟨.QUE_CFG, q, 0, 0, 13, 0⟩
/-- `QUE_PTRq_i.EPOCH` (R288). -/
def QUE_PTR_EPOCH (q i : Nat) : Fld := ⟨.QUE_PTR, q, i, 48, 16, 0⟩
/-- `QUE_PTRq_i.ADDR` (R288). -/
def QUE_PTR_ADDR (q i : Nat) : Fld := ⟨.QUE_PTR, q, i, 6, 42, 0⟩
/-- `QUE_STATq.LAST_STATUS` (R288). -/
def QUE_STAT_LAST_STATUS (q : Nat) : Fld := ⟨.QUE_STAT, q, 0, 56, 8, 0⟩
/-- `QUE_STATq.STATE` (R288). -/
def QUE_STAT_STATE (q : Nat) : Fld := ⟨.QUE_STAT, q, 0, 48, 3, 0⟩
/-- `QUE_STATq.HEAD` (R288). -/
def QUE_STAT_HEAD (q : Nat) : Fld := ⟨.QUE_STAT, q, 0, 0, 48, 0⟩
/-- `QUE_CTLq.HALT` (R288). -/
def QUE_CTL_HALT (q : Nat) : Fld := ⟨.QUE_CTL, q, 0, 63, 1, 0⟩
/-- `QUE_CTLq.RESTART` (R288). -/
def QUE_CTL_RESTART (q : Nat) : Fld := ⟨.QUE_CTL, q, 0, 0, 48, 0⟩
/-- `CTX_CFGc.EN` (R289). -/
def CTX_CFG_EN (c : Nat) : Fld := ⟨.CTX_CFG, c, 0, 31, 1, 0⟩
/-- `CTX_CFGc.INTERLUDE` (R289). -/
def CTX_CFG_INTERLUDE (c : Nat) : Fld := ⟨.CTX_CFG, c, 0, 30, 1, 0⟩
/-- `CTX_CFGc.JOB` (R289). -/
def CTX_CFG_JOB (c : Nat) : Fld := ⟨.CTX_CFG, c, 0, 16, 12, 0⟩
/-- `CTX_CFGc.WAIT_TO` (R289). -/
def CTX_CFG_WAIT_TO (c : Nat) : Fld := ⟨.CTX_CFG, c, 0, 0, 5, 31⟩
/-- `CTX_SYNCc.REMOTE_OK` (R289). -/
def CTX_SYNC_REMOTE_OK (c : Nat) : Fld := ⟨.CTX_SYNC, c, 0, 31, 1, 0⟩
/-- `CTX_SYNCc.BASE` (R289). -/
def CTX_SYNC_BASE (c : Nat) : Fld := ⟨.CTX_SYNC, c, 0, 16, 13, 0⟩
/-- `CTX_SYNCc.COUNT` (R289). -/
def CTX_SYNC_COUNT (c : Nat) : Fld := ⟨.CTX_SYNC, c, 0, 0, 14, 0⟩
/-- `CTX_STEPc.STEP` (R289). -/
def CTX_STEP_STEP (c : Nat) : Fld := ⟨.CTX_STEP, c, 0, 0, 64, 0⟩
/-- `CTX_TABc_i.BASE` (R289). -/
def CTX_TAB_BASE (c i : Nat) : Fld := ⟨.CTX_TAB, c, i, 22, 42, 0⟩
/-- `CTX_TABc_i.LEN` (R289). -/
def CTX_TAB_LEN (c i : Nat) : Fld := ⟨.CTX_TAB, c, i, 0, 22, 0⟩
/-- `FLU_POS.Z` (R370). -/
def FLU_POS_Z : Fld := ⟨.FLU_POS, 0, 0, 24, 4, 0⟩
/-- `FLU_POS.Y` (R370). -/
def FLU_POS_Y : Fld := ⟨.FLU_POS, 0, 0, 20, 4, 0⟩
/-- `FLU_POS.X` (R370). -/
def FLU_POS_X : Fld := ⟨.FLU_POS, 0, 0, 16, 4, 0⟩
/-- `FLU_POS.RANK` (R370). -/
def FLU_POS_RANK : Fld := ⟨.FLU_POS, 0, 0, 0, 12, 0⟩
/-- `FLU_TIME.NS` (R370). -/
def FLU_TIME_NS : Fld := ⟨.FLU_TIME, 0, 0, 0, 64, 0⟩
/-- `FLU_TSTAT.SYNCED` (R370). -/
def FLU_TSTAT_SYNCED : Fld := ⟨.FLU_TSTAT, 0, 0, 31, 1, 0⟩
/-- `FLU_TSTAT.PARENT` (R370). -/
def FLU_TSTAT_PARENT : Fld := ⟨.FLU_TSTAT, 0, 0, 28, 3, 7⟩
/-- `FLU_TSTAT.OFFSET` (R370). -/
def FLU_TSTAT_OFFSET : Fld := ⟨.FLU_TSTAT, 0, 0, 0, 16, 0⟩
/-- `FLU_RTGEN.FAILED` (R370). -/
def FLU_RTGEN_FAILED : Fld := ⟨.FLU_RTGEN, 0, 0, 16, 16, 0⟩
/-- `FLU_RTGEN.GEN` (R370). -/
def FLU_RTGEN_GEN : Fld := ⟨.FLU_RTGEN, 0, 0, 0, 16, 0⟩
/-- `FLU_PORTp.STATE` (R370). -/
def FLU_PORT_STATE (p : Nat) : Fld := ⟨.FLU_PORT, p, 0, 29, 3, 0⟩
/-- `FLU_PORTp.WIDTH` (R370). -/
def FLU_PORT_WIDTH (p : Nat) : Fld := ⟨.FLU_PORT, p, 0, 27, 2, 0⟩
/-- `FLU_PORTp.HIGHSET` (R370). -/
def FLU_PORT_HIGHSET (p : Nat) : Fld := ⟨.FLU_PORT, p, 0, 26, 1, 0⟩
/-- `FLU_PORTp.CAUSE` (R370). -/
def FLU_PORT_CAUSE (p : Nat) : Fld := ⟨.FLU_PORT, p, 0, 23, 3, 0⟩
/-- `FLU_PORTp.LANE_FAIL` (R370). -/
def FLU_PORT_LANE_FAIL (p : Nat) : Fld := ⟨.FLU_PORT, p, 0, 0, 20, 0⟩
/-- `FLU_PCTLp.RETRAIN` (R370). -/
def FLU_PCTL_RETRAIN (p : Nat) : Fld := ⟨.FLU_PCTL, p, 0, 31, 1, 0⟩
/-- `FLU_PERRp.CORR` (R370). -/
def FLU_PERR_CORR (p : Nat) : Fld := ⟨.FLU_PERR, p, 0, 40, 24, 0⟩
/-- `FLU_PERRp.UNCORR` (R370). -/
def FLU_PERR_UNCORR (p : Nat) : Fld := ⟨.FLU_PERR, p, 0, 24, 16, 0⟩
/-- `FLU_PERRp.REPLAY` (R370). -/
def FLU_PERR_REPLAY (p : Nat) : Fld := ⟨.FLU_PERR, p, 0, 8, 16, 0⟩
/-- `FLU_PERRp.BADPKT` (R370). -/
def FLU_PERR_BADPKT (p : Nat) : Fld := ⟨.FLU_PERR, p, 0, 0, 8, 0⟩
/-- `MEM_BANDMAP.LOCAL` (R397). -/
def MEM_BANDMAP_LOCAL : Fld := ⟨.MEM_BANDMAP, 0, 0, 0, 64, 0⟩
/-- `MEM_SAGGAR.BASE` (R397). -/
def MEM_SAGGAR_BASE : Fld := ⟨.MEM_SAGGAR, 0, 0, 13, 19, 0⟩
/-- `MEM_SAGGAR.TRACE` (R397). -/
def MEM_SAGGAR_TRACE : Fld := ⟨.MEM_SAGGAR, 0, 0, 6, 7, 0⟩
/-- `MEM_SAGGAR.TAP` (R397). -/
def MEM_SAGGAR_TAP : Fld := ⟨.MEM_SAGGAR, 0, 0, 0, 6, 0⟩
/-- `MEM_ARBCFG.WIN` (R397). -/
def MEM_ARBCFG_WIN : Fld := ⟨.MEM_ARBCFG, 0, 0, 16, 16, 0⟩
/-- `MEM_ARBCFG.HP` (R397). -/
def MEM_ARBCFG_HP : Fld := ⟨.MEM_ARBCFG, 0, 0, 8, 8, 0⟩
/-- `MEM_STKb.REF2X` (R397). -/
def MEM_STK_REF2X (b : Nat) : Fld := ⟨.MEM_STK, b, 0, 31, 1, 0⟩
/-- `MEM_STKb.SPARE` (R397). -/
def MEM_STK_SPARE (b : Nat) : Fld := ⟨.MEM_STK, b, 0, 0, 14, 0⟩
/-- `MEM_ERRb.CE` (R397). -/
def MEM_ERR_CE (b : Nat) : Fld := ⟨.MEM_ERR, b, 0, 32, 32, 0⟩
/-- `MEM_ERRb.UE` (R397). -/
def MEM_ERR_UE (b : Nat) : Fld := ⟨.MEM_ERR, b, 0, 20, 12, 0⟩
/-- `MEM_ERRb.RETIRED` (R397). -/
def MEM_ERR_RETIRED (b : Nat) : Fld := ⟨.MEM_ERR, b, 0, 8, 12, 0⟩
/-- `MEM_ERRb.HOSTREJ` (R397). -/
def MEM_ERR_HOSTREJ (b : Nat) : Fld := ⟨.MEM_ERR, b, 0, 0, 8, 0⟩
/-- `MEM_SCRUBb.PASSES` (R397). -/
def MEM_SCRUB_PASSES (b : Nat) : Fld := ⟨.MEM_SCRUB, b, 0, 40, 24, 0⟩
/-- `MEM_SCRUBb.PTR` (R397). -/
def MEM_SCRUB_PTR (b : Nat) : Fld := ⟨.MEM_SCRUB, b, 0, 0, 24, 0⟩
/-- `MEM_UEADRi.VALID` (R397). -/
def MEM_UEADR_VALID (i : Nat) : Fld := ⟨.MEM_UEADR, i, 0, 63, 1, 0⟩
/-- `MEM_UEADRi.SRC_SCRUB` (R397). -/
def MEM_UEADR_SRC_SCRUB (i : Nat) : Fld := ⟨.MEM_UEADR, i, 0, 62, 1, 0⟩
/-- `MEM_UEADRi.CTX` (R397). -/
def MEM_UEADR_CTX (i : Nat) : Fld := ⟨.MEM_UEADR, i, 0, 52, 4, 0⟩
/-- `MEM_UEADRi.ADDR` (R397). -/
def MEM_UEADR_ADDR (i : Nat) : Fld := ⟨.MEM_UEADR, i, 0, 6, 34, 0⟩
/-- `MEM_UEPTR.NEXT` (R397). -/
def MEM_UEPTR_NEXT : Fld := ⟨.MEM_UEPTR, 0, 0, 0, 4, 0⟩
/-- `CTX_PTBc.BASE` (R398). -/
def CTX_PTB_BASE (c : Nat) : Fld := ⟨.CTX_PTB, c, 0, 21, 19, 0⟩
/-- `CTX_NWINc.EN` (R398). -/
def CTX_NWIN_EN (c : Nat) : Fld := ⟨.CTX_NWIN, c, 0, 63, 1, 0⟩
/-- `CTX_NWINc.LEN` (R398). -/
def CTX_NWIN_LEN (c : Nat) : Fld := ⟨.CTX_NWIN, c, 0, 40, 19, 0⟩
/-- `CTX_NWINc.BASE` (R398). -/
def CTX_NWIN_BASE (c : Nat) : Fld := ⟨.CTX_NWIN, c, 0, 21, 19, 0⟩
/-- `DMP_CFG.PROFILE` (R420). -/
def DMP_CFG_PROFILE : Fld := ⟨.DMP_CFG, 0, 0, 30, 2, 0⟩
/-- `DMP_CFG.P_CAP` (R420). -/
def DMP_CFG_P_CAP : Fld := ⟨.DMP_CFG, 0, 0, 0, 11, 1600⟩
/-- `DMP_STAT.TRIP` (R420). -/
def DMP_STAT_TRIP : Fld := ⟨.DMP_STAT, 0, 0, 31, 1, 0⟩
/-- `DMP_STAT.WARN` (R420). -/
def DMP_STAT_WARN : Fld := ⟨.DMP_STAT, 0, 0, 30, 1, 0⟩
/-- `DMP_STAT.EXC` (R420). -/
def DMP_STAT_EXC : Fld := ⟨.DMP_STAT, 0, 0, 29, 1, 0⟩
/-- `DMP_STAT.FALLBACK` (R420). -/
def DMP_STAT_FALLBACK : Fld := ⟨.DMP_STAT, 0, 0, 28, 1, 0⟩
/-- `DMP_STAT.FAST` (R420). -/
def DMP_STAT_FAST : Fld := ⟨.DMP_STAT, 0, 0, 27, 1, 0⟩
/-- `DMP_STAT.LOOPMISS` (R420). -/
def DMP_STAT_LOOPMISS : Fld := ⟨.DMP_STAT, 0, 0, 0, 16, 0⟩
/-- `DMP_PWR.INST` (R420). -/
def DMP_PWR_INST : Fld := ⟨.DMP_PWR, 0, 0, 48, 16, 0⟩
/-- `DMP_PWR.PERIOD` (R420). -/
def DMP_PWR_PERIOD : Fld := ⟨.DMP_PWR, 0, 0, 32, 16, 0⟩
/-- `DMP_PWR.AVG` (R420). -/
def DMP_PWR_AVG : Fld := ⟨.DMP_PWR, 0, 0, 16, 16, 0⟩
/-- `DMP_PWR.UNCORE` (R420). -/
def DMP_PWR_UNCORE : Fld := ⟨.DMP_PWR, 0, 0, 0, 16, 0⟩
/-- `DMP_ECOEFi.EFF` (R420). -/
def DMP_ECOEF_EFF (i : Nat) : Fld := ⟨.DMP_ECOEF, i, 0, 0, 32, (factoryCoef i)⟩
/-- `DMP_BAYb.ALLOW` (R420). -/
def DMP_BAY_ALLOW (b : Nat) : Fld := ⟨.DMP_BAY, b, 0, 48, 16, 0⟩
/-- `DMP_BAYb.POWER` (R420). -/
def DMP_BAY_POWER (b : Nat) : Fld := ⟨.DMP_BAY, b, 0, 32, 16, 0⟩
/-- `DMP_BAYb.KCORR` (R420). -/
def DMP_BAY_KCORR (b : Nat) : Fld := ⟨.DMP_BAY, b, 0, 22, 10, 256⟩
/-- `DMP_BAYb.DUTY` (R420). -/
def DMP_BAY_DUTY (b : Nat) : Fld := ⟨.DMP_BAY, b, 0, 17, 5, 16⟩
/-- `DMP_BAYb.LIMIT` (R420). -/
def DMP_BAY_LIMIT (b : Nat) : Fld := ⟨.DMP_BAY, b, 0, 0, 7, 0⟩
/-- `DMP_TLOGb.S4` (R420). -/
def DMP_TLOG_S4 (b : Nat) : Fld := ⟨.DMP_TLOG, b, 0, 48, 12, 0⟩
/-- `DMP_TLOGb.S3` (R420). -/
def DMP_TLOG_S3 (b : Nat) : Fld := ⟨.DMP_TLOG, b, 0, 36, 12, 0⟩
/-- `DMP_TLOGb.S2` (R420). -/
def DMP_TLOG_S2 (b : Nat) : Fld := ⟨.DMP_TLOG, b, 0, 24, 12, 0⟩
/-- `DMP_TLOGb.S1` (R420). -/
def DMP_TLOG_S1 (b : Nat) : Fld := ⟨.DMP_TLOG, b, 0, 12, 12, 0⟩
/-- `DMP_TLOGb.S0` (R420). -/
def DMP_TLOG_S0 (b : Nat) : Fld := ⟨.DMP_TLOG, b, 0, 0, 12, 0⟩
/-- `DMP_TDRMb.TOP` (R420). -/
def DMP_TDRM_TOP (b : Nat) : Fld := ⟨.DMP_TDRM, b, 0, 52, 12, 0⟩
/-- `DMP_TDRMb.BOT` (R420). -/
def DMP_TDRM_BOT (b : Nat) : Fld := ⟨.DMP_TDRM, b, 0, 40, 12, 0⟩
/-- `DMP_TDRMb.SLOPE` (R420). -/
def DMP_TDRM_SLOPE (b : Nat) : Fld := ⟨.DMP_TDRM, b, 0, 28, 12, 0⟩
/-- `DMP_TDRMb.TGT` (R420). -/
def DMP_TDRM_TGT (b : Nat) : Fld := ⟨.DMP_TDRM, b, 0, 20, 8, 0⟩
/-- `DMP_TDRMb.FAIL_TOP` (R420). -/
def DMP_TDRM_FAIL_TOP (b : Nat) : Fld := ⟨.DMP_TDRM, b, 0, 1, 1, 0⟩
/-- `DMP_TDRMb.FAIL_BOT` (R420). -/
def DMP_TDRM_FAIL_BOT (b : Nat) : Fld := ⟨.DMP_TDRM, b, 0, 0, 1, 0⟩
/-- `PWR_CTL.TARGET` (R435). -/
def PWR_CTL_TARGET : Fld := ⟨.PWR_CTL, 0, 0, 0, 2, 0⟩
/-- `PWR_STAT.STATE` (R435). -/
def PWR_STAT_STATE : Fld := ⟨.PWR_STAT, 0, 0, 29, 3, 0⟩
/-- `PWR_STAT.STEP` (R435). -/
def PWR_STAT_STEP : Fld := ⟨.PWR_STAT, 0, 0, 26, 3, 0⟩
/-- `PWR_STAT.REFUSED` (R435). -/
def PWR_STAT_REFUSED : Fld := ⟨.PWR_STAT, 0, 0, 25, 1, 0⟩
/-- `PWR_STAT.CANCELLED` (R435). -/
def PWR_STAT_CANCELLED : Fld := ⟨.PWR_STAT, 0, 0, 24, 1, 0⟩
/-- `PWR_STAT.LATCHED` (R435). -/
def PWR_STAT_LATCHED : Fld := ⟨.PWR_STAT, 0, 0, 23, 1, 0⟩
/-- `PWR_STAT.TRAINFULL` (R435). -/
def PWR_STAT_TRAINFULL : Fld := ⟨.PWR_STAT, 0, 0, 22, 1, 0⟩
/-- `PWR_STAT.WAKE_MS` (R435). -/
def PWR_STAT_WAKE_MS : Fld := ⟨.PWR_STAT, 0, 0, 0, 16, 0⟩
/-- `CAL_TSNSi.FSLOPE` (R435). -/
def CAL_TSNS_FSLOPE (i : Nat) : Fld := ⟨.CAL_TSNS, i, 0, 48, 16, (Config.sensorSlope i % 2 ^ 16)⟩
/-- `CAL_TSNSi.FOFS` (R435). -/
def CAL_TSNS_FOFS (i : Nat) : Fld := ⟨.CAL_TSNS, i, 0, 32, 16, (Config.sensorOffset i % 2 ^ 16)⟩
/-- `CAL_TSNSi.UOFS` (R435). -/
def CAL_TSNS_UOFS (i : Nat) : Fld := ⟨.CAL_TSNS, i, 0, 24, 8, 0⟩
/-- `CAL_TSNSi.EOFS` (R435). -/
def CAL_TSNS_EOFS (i : Nat) : Fld := ⟨.CAL_TSNS, i, 0, 0, 16, 0⟩
/-- `CAL_ISNSi.FGAIN` (R435). -/
def CAL_ISNS_FGAIN (i : Nat) : Fld := ⟨.CAL_ISNS, i, 0, 40, 24, (Config.currentGain i % 2 ^ 24)⟩
/-- `CAL_ISNSi.UGAIN` (R435). -/
def CAL_ISNS_UGAIN (i : Nat) : Fld := ⟨.CAL_ISNS, i, 0, 24, 16, 0⟩
/-- `CAL_ISNSi.EGAIN` (R435). -/
def CAL_ISNS_EGAIN (i : Nat) : Fld := ⟨.CAL_ISNS, i, 0, 0, 24, 0⟩
/-- `CAL_ECOEFi.FACT` (R435). -/
def CAL_ECOEF_FACT (i : Nat) : Fld := ⟨.CAL_ECOEF, i, 0, 32, 32, (factoryCoef i)⟩
/-- `CAL_ECOEFi.USCALE` (R435). -/
def CAL_ECOEF_USCALE (i : Nat) : Fld := ⟨.CAL_ECOEF, i, 0, 16, 16, 0⟩
/-- `HTH_CONEh.SINCE` (R460). -/
def HTH_CONE_SINCE (h : Nat) : Fld := ⟨.HTH_CONE, h, 0, 20, 12, 0⟩
/-- `HTH_CONEh.LAST` (R460). -/
def HTH_CONE_LAST (h : Nat) : Fld := ⟨.HTH_CONE, h, 0, 18, 2, 0⟩
/-- `HTH_CONEh.QUAR` (R460). -/
def HTH_CONE_QUAR (h : Nat) : Fld := ⟨.HTH_CONE, h, 0, 16, 2, 0⟩
/-- `HTH_CONEh.SUSPECT` (R460). -/
def HTH_CONE_SUSPECT (h : Nat) : Fld := ⟨.HTH_CONE, h, 0, 15, 1, 0⟩
/-- `HTH_CONEh.PASSES` (R460). -/
def HTH_CONE_PASSES (h : Nat) : Fld := ⟨.HTH_CONE, h, 0, 0, 15, 0⟩
/-- `HTH_CONECTL.SWEEP` (R460). -/
def HTH_CONECTL_SWEEP : Fld := ⟨.HTH_CONECTL, 0, 0, 31, 1, 0⟩
/-- `HTH_CONECTL.DUE` (R460). -/
def HTH_CONECTL_DUE : Fld := ⟨.HTH_CONECTL, 0, 0, 0, 9, 0⟩
/-- `HTH_GLZSTAT.HOBOFF` (R460). -/
def HTH_GLZSTAT_HOBOFF : Fld := ⟨.HTH_GLZSTAT, 0, 0, 16, 16, 0⟩
/-- `HTH_GLZSTAT.GLAZEBAD` (R460). -/
def HTH_GLZSTAT_GLAZEBAD : Fld := ⟨.HTH_GLZSTAT, 0, 0, 0, 16, 0⟩
/-- `RST_FAULT0.VALID` (R483). -/
def RST_FAULT0_VALID : Fld := ⟨.RST_FAULT0, 0, 0, 63, 1, 0⟩
/-- `RST_FAULT0.OVER` (R483). -/
def RST_FAULT0_OVER : Fld := ⟨.RST_FAULT0, 0, 0, 62, 1, 0⟩
/-- `RST_FAULT0.RECOV` (R483). -/
def RST_FAULT0_RECOV : Fld := ⟨.RST_FAULT0, 0, 0, 61, 1, 0⟩
/-- `RST_FAULT0.CAUSE` (R483). -/
def RST_FAULT0_CAUSE : Fld := ⟨.RST_FAULT0, 0, 0, 56, 5, 0⟩
/-- `RST_FAULT0.CTX` (R483). -/
def RST_FAULT0_CTX : Fld := ⟨.RST_FAULT0, 0, 0, 52, 4, 0⟩
/-- `RST_FAULT0.QUEUE` (R483). -/
def RST_FAULT0_QUEUE : Fld := ⟨.RST_FAULT0, 0, 0, 46, 6, 0⟩
/-- `RST_FAULT0.ENGINE` (R483). -/
def RST_FAULT0_ENGINE : Fld := ⟨.RST_FAULT0, 0, 0, 43, 3, 0⟩
/-- `RST_FAULT0.CTXV` (R483). -/
def RST_FAULT0_CTXV : Fld := ⟨.RST_FAULT0, 0, 0, 42, 1, 0⟩
/-- `RST_FAULT1.CMD` (R483). -/
def RST_FAULT1_CMD : Fld := ⟨.RST_FAULT1, 0, 0, 0, 48, 0⟩
/-- `RST_FAULT2.TILE` (R483). -/
def RST_FAULT2_TILE : Fld := ⟨.RST_FAULT2, 0, 0, 32, 32, 0⟩
/-- `RST_FAULT2.INST` (R483). -/
def RST_FAULT2_INST : Fld := ⟨.RST_FAULT2, 0, 0, 23, 9, 0⟩
/-- `RST_FAULT2.BAY` (R483). -/
def RST_FAULT2_BAY : Fld := ⟨.RST_FAULT2, 0, 0, 19, 4, 0⟩
/-- `RST_FAULT2.INSTV` (R483). -/
def RST_FAULT2_INSTV : Fld := ⟨.RST_FAULT2, 0, 0, 18, 1, 0⟩
/-- `RST_FAULT2.PORTREQ` (R483). -/
def RST_FAULT2_PORTREQ : Fld := ⟨.RST_FAULT2, 0, 0, 15, 3, 0⟩
/-- `RST_FAULT2.STUCK` (R483). -/
def RST_FAULT2_STUCK : Fld := ⟨.RST_FAULT2, 0, 0, 14, 1, 0⟩
/-- `RST_FAULT2.PORTBAY` (R483). -/
def RST_FAULT2_PORTBAY : Fld := ⟨.RST_FAULT2, 0, 0, 10, 4, 0⟩
/-- `RST_FAULT3.REMOTE` (R483). -/
def RST_FAULT3_REMOTE : Fld := ⟨.RST_FAULT3, 0, 0, 52, 1, 0⟩
/-- `RST_FAULT3.RANK` (R483). -/
def RST_FAULT3_RANK : Fld := ⟨.RST_FAULT3, 0, 0, 40, 12, 0⟩
/-- `RST_FAULT3.ADDR` (R483). -/
def RST_FAULT3_ADDR : Fld := ⟨.RST_FAULT3, 0, 0, 0, 40, 0⟩
/-- `RST_STAT.STEP` (R483). -/
def RST_STAT_STEP : Fld := ⟨.RST_STAT, 0, 0, 28, 4, 0⟩
/-- `RST_STAT.FWNVM` (R483). -/
def RST_STAT_FWNVM : Fld := ⟨.RST_STAT, 0, 0, 27, 1, 0⟩
/-- `RST_STAT.LOST` (R483). -/
def RST_STAT_LOST : Fld := ⟨.RST_STAT, 0, 0, 16, 8, 0⟩
/-- `RST_STAT.COUNT` (R483). -/
def RST_STAT_COUNT : Fld := ⟨.RST_STAT, 0, 0, 0, 16, 0⟩
/-- `RST_CTL.RECOVER` (R483). -/
def RST_CTL_RECOVER : Fld := ⟨.RST_CTL, 0, 0, 31, 1, 0⟩
/-- `RST_TIME.NS` (R483). -/
def RST_TIME_NS : Fld := ⟨.RST_TIME, 0, 0, 0, 64, 0⟩
/-- `RST_CLAMP.BAY` (R483). -/
def RST_CLAMP_BAY : Fld := ⟨.RST_CLAMP, 0, 0, 16, 16, 0⟩
/-- `RST_CLAMP.ENG` (R483). -/
def RST_CLAMP_ENG : Fld := ⟨.RST_CLAMP, 0, 0, 0, 5, 0⟩
/-- `RST_QMODEq.WHOLE` (R483). -/
def RST_QMODE_WHOLE (q : Nat) : Fld := ⟨.RST_QMODE, q, 0, 31, 1, 0⟩
/-- `OBS_GCNTg.COUNT` (R502). -/
def OBS_GCNT_COUNT (g : Nat) : Fld := ⟨.OBS_GCNT, g, 0, 0, 48, 0⟩
/-- `OBS_CNTc_e.COUNT` (R502). -/
def OBS_CNT_COUNT (c e : Nat) : Fld := ⟨.OBS_CNT, c, e, 0, 48, 0⟩
/-- `OBS_SELc_i.SEL` (R502). -/
def OBS_SEL_SEL (c i : Nat) : Fld := ⟨.OBS_SEL, c, i, 0, 64, (if i = 0 then 0x0706050403020100 else 0x1716151413111000)⟩
/-- `OBS_CTXc.OVWR` (R502). -/
def OBS_CTX_OVWR (c : Nat) : Fld := ⟨.OBS_CTX, c, 0, 31, 1, 0⟩
/-- `OBS_CTXc.HBIAS` (R502). -/
def OBS_CTX_HBIAS (c : Nat) : Fld := ⟨.OBS_CTX, c, 0, 16, 8, 0⟩
/-- `OBS_CTXc.DROPS` (R502). -/
def OBS_CTX_DROPS (c : Nat) : Fld := ⟨.OBS_CTX, c, 0, 0, 16, 0⟩
/-- `OBS_RINGc.RD` (R502). -/
def OBS_RING_RD (c : Nat) : Fld := ⟨.OBS_RING, c, 0, 32, 32, 0⟩
/-- `OBS_RINGc.WR` (R502). -/
def OBS_RING_WR (c : Nat) : Fld := ⟨.OBS_RING, c, 0, 0, 32, 0⟩
/-- `OBS_QSNAP.SNAP` (R502). -/
def OBS_QSNAP_SNAP : Fld := ⟨.OBS_QSNAP, 0, 0, 0, 64, 0⟩
/-- `OBS_TRCFG.MODE` (R502). -/
def OBS_TRCFG_MODE : Fld := ⟨.OBS_TRCFG, 0, 0, 30, 2, 0⟩
/-- `OBS_TRCFG.PRE` (R502). -/
def OBS_TRCFG_PRE : Fld := ⟨.OBS_TRCFG, 0, 0, 26, 4, 8⟩
/-- `OBS_TRCFG.CLASSES` (R502). -/
def OBS_TRCFG_CLASSES : Fld := ⟨.OBS_TRCFG, 0, 0, 0, 16, 33062⟩
/-- `OBS_TRCTL.REARM` (R502). -/
def OBS_TRCTL_REARM : Fld := ⟨.OBS_TRCTL, 0, 0, 31, 1, 0⟩
/-- `OBS_TRCTL.FIRE` (R502). -/
def OBS_TRCTL_FIRE : Fld := ⟨.OBS_TRCTL, 0, 0, 30, 1, 0⟩
/-- `OBS_TRSTAT.FROZEN` (R502). -/
def OBS_TRSTAT_FROZEN : Fld := ⟨.OBS_TRSTAT, 0, 0, 63, 1, 0⟩
/-- `OBS_TRSTAT.FULL` (R502). -/
def OBS_TRSTAT_FULL : Fld := ⟨.OBS_TRSTAT, 0, 0, 62, 1, 0⟩
/-- `OBS_TRSTAT.TRIGD` (R502). -/
def OBS_TRSTAT_TRIGD : Fld := ⟨.OBS_TRSTAT, 0, 0, 61, 1, 0⟩
/-- `OBS_TRSTAT.CAUSE` (R502). -/
def OBS_TRSTAT_CAUSE : Fld := ⟨.OBS_TRSTAT, 0, 0, 58, 3, 0⟩
/-- `OBS_TRSTAT.WOFF` (R502). -/
def OBS_TRSTAT_WOFF : Fld := ⟨.OBS_TRSTAT, 0, 0, 0, 35, 0⟩
/-- `OBS_TRPOS.TOFF` (R502). -/
def OBS_TRPOS_TOFF : Fld := ⟨.OBS_TRPOS, 0, 0, 0, 35, 0⟩
/-- `OBS_TRTRIG.ARM` (R502). -/
def OBS_TRTRIG_ARM : Fld := ⟨.OBS_TRTRIG, 0, 0, 59, 5, 1⟩
/-- `OBS_TRTRIG.ST_VAL` (R502). -/
def OBS_TRTRIG_ST_VAL : Fld := ⟨.OBS_TRTRIG, 0, 0, 48, 8, 0⟩
/-- `OBS_TRTRIG.CTXMASK` (R502). -/
def OBS_TRTRIG_CTXMASK : Fld := ⟨.OBS_TRTRIG, 0, 0, 32, 16, 0⟩
/-- `OBS_TRTRIG.CNT_CTX` (R502). -/
def OBS_TRTRIG_CNT_CTX : Fld := ⟨.OBS_TRTRIG, 0, 0, 28, 4, 0⟩
/-- `OBS_TRTRIG.CNT_SEL` (R502). -/
def OBS_TRTRIG_CNT_SEL : Fld := ⟨.OBS_TRTRIG, 0, 0, 20, 8, 0⟩
/-- `OBS_TRTRIG.SYNC_ID` (R502). -/
def OBS_TRTRIG_SYNC_ID : Fld := ⟨.OBS_TRTRIG, 0, 0, 0, 13, 0⟩
/-- `OBS_TRTHR.THR` (R502). -/
def OBS_TRTHR_THR : Fld := ⟨.OBS_TRTHR, 0, 0, 0, 48, 0⟩
/-- `CXL_LINK.UP` (R523). -/
def CXL_LINK_UP : Fld := ⟨.CXL_LINK, 0, 0, 31, 1, 0⟩
/-- `CXL_LINK.RATE` (R523). -/
def CXL_LINK_RATE : Fld := ⟨.CXL_LINK, 0, 0, 29, 2, 0⟩
/-- `CXL_LINK.WIDTH` (R523). -/
def CXL_LINK_WIDTH : Fld := ⟨.CXL_LINK, 0, 0, 27, 2, 0⟩
/-- `CXL_LINK.IDE` (R523). -/
def CXL_LINK_IDE : Fld := ⟨.CXL_LINK, 0, 0, 26, 1, 0⟩
/-- `CXL_LINK.HDM` (R523). -/
def CXL_LINK_HDM : Fld := ⟨.CXL_LINK, 0, 0, 25, 1, 0⟩
/-- `CXL_LINK.DOWNS` (R523). -/
def CXL_LINK_DOWNS : Fld := ⟨.CXL_LINK, 0, 0, 0, 16, 0⟩
/-- `CXL_ERR.POISON` (R523). -/
def CXL_ERR_POISON : Fld := ⟨.CXL_ERR, 0, 0, 48, 16, 0⟩
/-- `CXL_ERR.DISCARD` (R523). -/
def CXL_ERR_DISCARD : Fld := ⟨.CXL_ERR, 0, 0, 32, 16, 0⟩
/-- `CXL_ERR.REFUSED` (R523). -/
def CXL_ERR_REFUSED : Fld := ⟨.CXL_ERR, 0, 0, 16, 16, 0⟩
/-- `CXL_ERR.XLATE` (R523). -/
def CXL_ERR_XLATE : Fld := ⟨.CXL_ERR, 0, 0, 0, 16, 0⟩
/-- `CXL_SF.OCC` (R523). -/
def CXL_SF_OCC : Fld := ⟨.CXL_SF, 0, 0, 12, 20, 0⟩
/-- `STK_MBCTL.GO` (R548). -/
def STK_MBCTL_GO : Fld := ⟨.STK_MBCTL, 0, 0, 63, 1, 0⟩
/-- `STK_MBCTL.CMD` (R548). -/
def STK_MBCTL_CMD : Fld := ⟨.STK_MBCTL, 0, 0, 32, 16, 0⟩
/-- `STK_MBCTL.LEN` (R548). -/
def STK_MBCTL_LEN : Fld := ⟨.STK_MBCTL, 0, 0, 0, 32, 0⟩
/-- `STK_MBSTAT.BUSY` (R548). -/
def STK_MBSTAT_BUSY : Fld := ⟨.STK_MBSTAT, 0, 0, 63, 1, 0⟩
/-- `STK_MBSTAT.RESULT` (R548). -/
def STK_MBSTAT_RESULT : Fld := ⟨.STK_MBSTAT, 0, 0, 40, 8, 0⟩
/-- `STK_MBSTAT.RLEN` (R548). -/
def STK_MBSTAT_RLEN : Fld := ⟨.STK_MBSTAT, 0, 0, 0, 32, 0⟩
/-- `SEC_BOOT.LOCK` (R548). -/
def SEC_BOOT_LOCK : Fld := ⟨.SEC_BOOT, 0, 0, 63, 1, 0⟩
/-- `SEC_BOOT.TRIAL` (R548). -/
def SEC_BOOT_TRIAL : Fld := ⟨.SEC_BOOT, 0, 0, 62, 1, 0⟩
/-- `SEC_BOOT.SLOT` (R548). -/
def SEC_BOOT_SLOT : Fld := ⟨.SEC_BOOT, 0, 0, 61, 1, 0⟩
/-- `SEC_BOOT.FELLBACK` (R548). -/
def SEC_BOOT_FELLBACK : Fld := ⟨.SEC_BOOT, 0, 0, 60, 1, 0⟩
/-- `SEC_BOOT.TRIES` (R548). -/
def SEC_BOOT_TRIES : Fld := ⟨.SEC_BOOT, 0, 0, 56, 4, 0⟩
/-- `SEC_BOOT.SVN_RUN` (R548). -/
def SEC_BOOT_SVN_RUN : Fld := ⟨.SEC_BOOT, 0, 0, 48, 8, 0⟩
/-- `SEC_BOOT.SVN_FUSE` (R548). -/
def SEC_BOOT_SVN_FUSE : Fld := ⟨.SEC_BOOT, 0, 0, 40, 8, 0⟩
/-- `SEC_BOOT.ERR` (R548). -/
def SEC_BOOT_ERR : Fld := ⟨.SEC_BOOT, 0, 0, 32, 8, 0⟩
/-- `SEC_BOOT.FMT` (R548). -/
def SEC_BOOT_FMT : Fld := ⟨.SEC_BOOT, 0, 0, 16, 16, 0⟩
/-- `SEC_BOOT.BOOTS` (R548). -/
def SEC_BOOT_BOOTS : Fld := ⟨.SEC_BOOT, 0, 0, 0, 16, 0⟩
/-- `SEC_IDENT.CERT_OK` (R548). -/
def SEC_IDENT_CERT_OK : Fld := ⟨.SEC_IDENT, 0, 0, 31, 1, 0⟩
/-- `SEC_IDENT.OWNER` (R548). -/
def SEC_IDENT_OWNER : Fld := ⟨.SEC_IDENT, 0, 0, 30, 1, 0⟩
/-- `SEC_IDENT.EXHAUSTED` (R548). -/
def SEC_IDENT_EXHAUSTED : Fld := ⟨.SEC_IDENT, 0, 0, 29, 1, 0⟩
/-- `SEC_IDENT.LEAVES` (R548). -/
def SEC_IDENT_LEAVES : Fld := ⟨.SEC_IDENT, 0, 0, 13, 9, 0⟩
/-- `SEC_IDENT.BLOCKS` (R548). -/
def SEC_IDENT_BLOCKS : Fld := ⟨.SEC_IDENT, 0, 0, 0, 13, 4096⟩
/-- `SVC_SIDEBAND.PWR_EN` (R569). -/
def SVC_SIDEBAND_PWR_EN : Fld := ⟨.SVC_SIDEBAND, 0, 0, 31, 1, 1⟩
/-- `SVC_SIDEBAND.PERST_N` (R569). -/
def SVC_SIDEBAND_PERST_N : Fld := ⟨.SVC_SIDEBAND, 0, 0, 30, 1, 0⟩
/-- `SVC_SIDEBAND.MOD_RST_N` (R569). -/
def SVC_SIDEBAND_MOD_RST_N : Fld := ⟨.SVC_SIDEBAND, 0, 0, 29, 1, 1⟩
/-- `SVC_SIDEBAND.OUT` (R569). -/
def SVC_SIDEBAND_OUT : Fld := ⟨.SVC_SIDEBAND, 0, 0, 22, 7, 0⟩
/-- `SVC_SIDEBAND.POS` (R569). -/
def SVC_SIDEBAND_POS : Fld := ⟨.SVC_SIDEBAND, 0, 0, 0, 12, 0⟩
/-- `SVC_ALERT.DEGRADED` (R569). -/
def SVC_ALERT_DEGRADED : Fld := ⟨.SVC_ALERT, 0, 0, 31, 1, 0⟩
/-- `SVC_ALERT.SENSOR` (R569). -/
def SVC_ALERT_SENSOR : Fld := ⟨.SVC_ALERT, 0, 0, 30, 1, 0⟩
/-- `SVC_ALERT.FAULT` (R569). -/
def SVC_ALERT_FAULT : Fld := ⟨.SVC_ALERT, 0, 0, 29, 1, 0⟩
/-- `SVC_ALERT.THERM` (R569). -/
def SVC_ALERT_THERM : Fld := ⟨.SVC_ALERT, 0, 0, 28, 1, 0⟩
/-- `SVC_ALERT.STATE` (R569). -/
def SVC_ALERT_STATE : Fld := ⟨.SVC_ALERT, 0, 0, 27, 1, 0⟩
/-- `SVC_ALERT.BOOTERR` (R569). -/
def SVC_ALERT_BOOTERR : Fld := ⟨.SVC_ALERT, 0, 0, 26, 1, 0⟩
/-- `HTH_CREPh.VALID1` (R111). -/
def HTH_CREP_VALID1 (h : Nat) : Fld := ⟨.HTH_CREP, h, 0, 31, 1, 0⟩
/-- `HTH_CREPh.FIELD1` (R111). -/
def HTH_CREP_FIELD1 (h : Nat) : Fld := ⟨.HTH_CREP, h, 0, 30, 1, 0⟩
/-- `HTH_CREPh.PEND1` (R111). -/
def HTH_CREP_PEND1 (h : Nat) : Fld := ⟨.HTH_CREP, h, 0, 29, 1, 0⟩
/-- `HTH_CREPh.PHYS1` (R111). -/
def HTH_CREP_PHYS1 (h : Nat) : Fld := ⟨.HTH_CREP, h, 0, 16, 8, 0⟩
/-- `HTH_CREPh.VALID0` (R111). -/
def HTH_CREP_VALID0 (h : Nat) : Fld := ⟨.HTH_CREP, h, 0, 15, 1, 0⟩
/-- `HTH_CREPh.FIELD0` (R111). -/
def HTH_CREP_FIELD0 (h : Nat) : Fld := ⟨.HTH_CREP, h, 0, 14, 1, 0⟩
/-- `HTH_CREPh.PEND0` (R111). -/
def HTH_CREP_PEND0 (h : Nat) : Fld := ⟨.HTH_CREP, h, 0, 13, 1, 0⟩
/-- `HTH_CREPh.PHYS0` (R111). -/
def HTH_CREP_PHYS0 (h : Nat) : Fld := ⟨.HTH_CREP, h, 0, 0, 8, 0⟩
/-- `CTX_SCALECFGc.ESC_EN` (R191). -/
def CTX_SCALECFG_ESC_EN (c : Nat) : Fld := ⟨.CTX_SCALECFG, c, 0, 31, 1, 1⟩
/-- `CTX_SCALECFGc.ASH_FRAC` (R191). -/
def CTX_SCALECFG_ASH_FRAC (c : Nat) : Fld := ⟨.CTX_SCALECFG, c, 0, 16, 8, 64⟩
/-- `CTX_SCALECFGc.REEMIT_FRAC` (R191). -/
def CTX_SCALECFG_REEMIT_FRAC (c : Nat) : Fld := ⟨.CTX_SCALECFG, c, 0, 8, 8, 32⟩
/-- `FLU_REDc.OCC` (R335). -/
def FLU_RED_OCC (c : Nat) : Fld := ⟨.FLU_RED, c, 0, 25, 7, 0⟩
/-- `FLU_REDc.STALE` (R335). -/
def FLU_RED_STALE (c : Nat) : Fld := ⟨.FLU_RED, c, 0, 0, 16, 0⟩
/-- `FLU_RTEr.DETOUR` (R370). -/
def FLU_RTE_DETOUR (r : Nat) : Fld := ⟨.FLU_RTE, r, 0, 4, 1, 0⟩
/-- `FLU_RTEr.PORT` (R370). -/
def FLU_RTE_PORT (r : Nat) : Fld := ⟨.FLU_RTE, r, 0, 0, 3, 7⟩
/-- `(sync object n).VALUE` (R263). -/
def SYNC_VALUE (n : Nat) : Fld := ⟨.SYNC, n, 0, 0, 64, 0⟩
/-- `VF_FAULT0 of VF(c + 1).VALID` (R510). -/
def VF_FAULT0_VALID (c : Nat) : Fld := ⟨.VF_FAULT0, c, 0, 63, 1, 0⟩
/-- `VF_FAULT0 of VF(c + 1).OVER` (R510). -/
def VF_FAULT0_OVER (c : Nat) : Fld := ⟨.VF_FAULT0, c, 0, 62, 1, 0⟩
/-- `VF_FAULT0 of VF(c + 1).RECOV` (R510). -/
def VF_FAULT0_RECOV (c : Nat) : Fld := ⟨.VF_FAULT0, c, 0, 61, 1, 0⟩
/-- `VF_FAULT0 of VF(c + 1).CAUSE` (R510). -/
def VF_FAULT0_CAUSE (c : Nat) : Fld := ⟨.VF_FAULT0, c, 0, 56, 5, 0⟩
/-- `VF_FAULT0 of VF(c + 1).CTX` (R510). -/
def VF_FAULT0_CTX (c : Nat) : Fld := ⟨.VF_FAULT0, c, 0, 52, 4, 0⟩
/-- `VF_FAULT0 of VF(c + 1).QUEUE` (R510). -/
def VF_FAULT0_QUEUE (c : Nat) : Fld := ⟨.VF_FAULT0, c, 0, 46, 6, 0⟩
/-- `VF_FAULT0 of VF(c + 1).ENGINE` (R510). -/
def VF_FAULT0_ENGINE (c : Nat) : Fld := ⟨.VF_FAULT0, c, 0, 43, 3, 0⟩
/-- `VF_FAULT0 of VF(c + 1).CTXV` (R510). -/
def VF_FAULT0_CTXV (c : Nat) : Fld := ⟨.VF_FAULT0, c, 0, 42, 1, 0⟩
/-- `VF_FAULT1 of VF(c + 1).CMD` (R510). -/
def VF_FAULT1_CMD (c : Nat) : Fld := ⟨.VF_FAULT1, c, 0, 0, 48, 0⟩
/-- `VF_FAULT2 of VF(c + 1).TILE` (R510). -/
def VF_FAULT2_TILE (c : Nat) : Fld := ⟨.VF_FAULT2, c, 0, 32, 32, 0⟩
/-- `VF_FAULT2 of VF(c + 1).INST` (R510). -/
def VF_FAULT2_INST (c : Nat) : Fld := ⟨.VF_FAULT2, c, 0, 23, 9, 0⟩
/-- `VF_FAULT2 of VF(c + 1).BAY` (R510). -/
def VF_FAULT2_BAY (c : Nat) : Fld := ⟨.VF_FAULT2, c, 0, 19, 4, 0⟩
/-- `VF_FAULT2 of VF(c + 1).INSTV` (R510). -/
def VF_FAULT2_INSTV (c : Nat) : Fld := ⟨.VF_FAULT2, c, 0, 18, 1, 0⟩
/-- `VF_FAULT2 of VF(c + 1).PORTREQ` (R510). -/
def VF_FAULT2_PORTREQ (c : Nat) : Fld := ⟨.VF_FAULT2, c, 0, 15, 3, 0⟩
/-- `VF_FAULT2 of VF(c + 1).STUCK` (R510). -/
def VF_FAULT2_STUCK (c : Nat) : Fld := ⟨.VF_FAULT2, c, 0, 14, 1, 0⟩
/-- `VF_FAULT2 of VF(c + 1).PORTBAY` (R510). -/
def VF_FAULT2_PORTBAY (c : Nat) : Fld := ⟨.VF_FAULT2, c, 0, 10, 4, 0⟩
/-- `VF_FAULT3 of VF(c + 1).REMOTE` (R510). -/
def VF_FAULT3_REMOTE (c : Nat) : Fld := ⟨.VF_FAULT3, c, 0, 52, 1, 0⟩
/-- `VF_FAULT3 of VF(c + 1).RANK` (R510). -/
def VF_FAULT3_RANK (c : Nat) : Fld := ⟨.VF_FAULT3, c, 0, 40, 12, 0⟩
/-- `VF_FAULT3 of VF(c + 1).ADDR` (R510). -/
def VF_FAULT3_ADDR (c : Nat) : Fld := ⟨.VF_FAULT3, c, 0, 0, 40, 0⟩

end Sys2Proof.Machine
end

