-- ==== Sys2Proof/Machine/RegTable.lean ====
section
/-! DEFINITION. The register map: each register's PF0 BAR0 offset, strides, width and fields with their access and
recovery codes (R12, R15, R508). -/

namespace Sys2Proof.Machine

/-- Access codes (R12). -/
inductive Access where
  | ro
  | rw
  | rw1c
  | rwb
  | rof
  | w1s
deriving DecidableEq, Repr

/-- What chip recovery does to a field (R15): keep, clear, restore from the capture. -/
inductive Recov where
  | k
  | c
  | s
deriving DecidableEq, Repr

/-- A field of a register: lowest bit, width, access, recovery. -/
structure RField where
  lo : Nat
  width : Nat
  access : Access
  recov : Recov
deriving DecidableEq, Repr

/-- A register or an array of registers with up to two strides. -/
structure RDesc where
  reg : Reg
  base : Nat
  stride1 : Nat
  count1 : Nat
  stride2 : Nat
  count2 : Nat
  width : Nat
  fields : List RField
deriving DecidableEq, Repr

def regTable0 : List RDesc := [
  ⟨.ID_PART, 0x0, 0x0, 1, 0x0, 1, 32, [⟨24, 8, .rof, .k⟩, ⟨20, 4, .rof, .k⟩, ⟨16, 4, .rof, .k⟩, ⟨0, 9, .rof, .k⟩]⟩,
  ⟨.ID_HEARTHS, 0x8, 0x0, 1, 0x0, 1, 32, [⟨31, 1, .ro, .k⟩, ⟨0, 9, .ro, .k⟩]⟩,
  ⟨.ID_HMAP, 0x40, 0x4, 9, 0x0, 1, 32, [⟨0, 32, .ro, .k⟩]⟩,
  ⟨.ID_FMTCAP, 0x80, 0x4, 8, 0x0, 1, 32, [⟨0, 32, .ro, .k⟩]⟩,
  ⟨.HTH_STATE, 0x2000, 0x4, 288, 0x0, 1, 32, [⟨29, 3, .ro, .s⟩, ⟨27, 2, .ro, .s⟩, ⟨25, 2, .ro, .s⟩, ⟨8, 8, .ro, .s⟩, ⟨0, 8, .ro, .s⟩]⟩,
  ⟨.HTH_RREP, 0x2800, 0x4, 288, 0x0, 1, 32, [⟨31, 1, .ro, .s⟩, ⟨30, 1, .ro, .s⟩, ⟨29, 1, .ro, .s⟩, ⟨16, 8, .ro, .s⟩, ⟨15, 1, .ro, .s⟩, ⟨14, 1, .ro, .s⟩, ⟨13, 1, .ro, .s⟩, ⟨0, 8, .ro, .s⟩]⟩,
  ⟨.CTX_GOVCFG, 0x20044, 0x100, 16, 0x0, 1, 32, [⟨30, 2, .rw, .s⟩, ⟨24, 4, .rw, .s⟩, ⟨0, 16, .rw, .s⟩]⟩,
  ⟨.CTX_GOVTHR0, 0x20048, 0x100, 16, 0x0, 1, 32, [⟨24, 8, .rw, .s⟩, ⟨16, 8, .rw, .s⟩, ⟨8, 8, .rw, .s⟩, ⟨0, 8, .rw, .s⟩]⟩,
  ⟨.CTX_GOVTHR1, 0x2004c, 0x100, 16, 0x0, 1, 32, [⟨24, 8, .rw, .s⟩, ⟨16, 8, .rw, .s⟩, ⟨8, 8, .rw, .s⟩, ⟨0, 8, .rw, .s⟩]⟩,
  ⟨.CTX_GOVWIN, 0x20050, 0x100, 16, 0x0, 1, 32, [⟨0, 32, .ro, .s⟩]⟩,
  ⟨.CTX_GOVSTAT, 0x20054, 0x100, 16, 0x0, 1, 32, [⟨31, 1, .ro, .c⟩, ⟨30, 1, .rw1c, .s⟩, ⟨0, 20, .ro, .s⟩]⟩,
  ⟨.CTX_GOVDONE, 0x20058, 0x100, 16, 0x0, 1, 32, [⟨0, 32, .ro, .s⟩]⟩,
  ⟨.QUE_CFG, 0x10000, 0x100, 64, 0x0, 1, 32, [⟨31, 1, .rw, .s⟩, ⟨28, 3, .rw, .s⟩, ⟨27, 1, .rw, .s⟩, ⟨26, 1, .rw, .s⟩, ⟨20, 4, .rw, .s⟩, ⟨16, 4, .rw, .s⟩, ⟨0, 13, .rw, .s⟩]⟩,
  ⟨.QUE_PTR, 0x10008, 0x100, 64, 0x8, 3, 64, [⟨48, 16, .rw, .s⟩, ⟨6, 42, .rw, .s⟩]⟩,
  ⟨.QUE_STAT, 0x10020, 0x100, 64, 0x0, 1, 64, [⟨56, 8, .ro, .s⟩, ⟨48, 3, .ro, .s⟩, ⟨0, 48, .ro, .s⟩]⟩,
  ⟨.QUE_CTL, 0x10028, 0x100, 64, 0x0, 1, 64, [⟨63, 1, .rw1c, .s⟩, ⟨0, 48, .rw, .s⟩]⟩,
  ⟨.CTX_CFG, 0x20000, 0x100, 16, 0x0, 1, 32, [⟨31, 1, .rw, .s⟩, ⟨30, 1, .ro, .s⟩, ⟨16, 12, .rw, .s⟩, ⟨0, 5, .rw, .s⟩]⟩,
  ⟨.CTX_SYNC, 0x20004, 0x100, 16, 0x0, 1, 32, [⟨31, 1, .rw, .s⟩, ⟨16, 13, .rw, .s⟩, ⟨0, 14, .rw, .s⟩]⟩,
  ⟨.CTX_STEP, 0x20008, 0x100, 16, 0x0, 1, 64, [⟨0, 64, .ro, .s⟩]⟩,
  ⟨.CTX_TAB, 0x20010, 0x100, 16, 0x8, 5, 64, [⟨22, 42, .rw, .s⟩, ⟨0, 22, .rw, .s⟩]⟩,
  ⟨.FLU_POS, 0x400000, 0x0, 1, 0x0, 1, 32, [⟨24, 4, .ro, .k⟩, ⟨20, 4, .ro, .k⟩, ⟨16, 4, .ro, .k⟩, ⟨0, 12, .ro, .k⟩]⟩,
  ⟨.FLU_TIME, 0x400010, 0x0, 1, 0x0, 1, 64, [⟨0, 64, .ro, .k⟩]⟩,
  ⟨.FLU_TSTAT, 0x400018, 0x0, 1, 0x0, 1, 32, [⟨31, 1, .ro, .k⟩, ⟨28, 3, .ro, .k⟩, ⟨0, 16, .ro, .k⟩]⟩]

def regTable1 : List RDesc := [
  ⟨.FLU_RTGEN, 0x400020, 0x0, 1, 0x0, 1, 32, [⟨16, 16, .ro, .k⟩, ⟨0, 16, .ro, .k⟩]⟩,
  ⟨.FLU_PORT, 0x401000, 0x40, 6, 0x0, 1, 32, [⟨29, 3, .ro, .k⟩, ⟨27, 2, .ro, .k⟩, ⟨26, 1, .ro, .k⟩, ⟨23, 3, .ro, .k⟩, ⟨0, 20, .ro, .k⟩]⟩,
  ⟨.FLU_PCTL, 0x401004, 0x40, 6, 0x0, 1, 32, [⟨31, 1, .w1s, .k⟩]⟩,
  ⟨.FLU_PERR, 0x401008, 0x40, 6, 0x0, 1, 64, [⟨40, 24, .ro, .k⟩, ⟨24, 16, .ro, .k⟩, ⟨8, 16, .ro, .k⟩, ⟨0, 8, .ro, .k⟩]⟩,
  ⟨.MEM_BANDMAP, 0x500000, 0x0, 1, 0x0, 1, 64, [⟨0, 64, .ro, .k⟩]⟩,
  ⟨.MEM_SAGGAR, 0x500008, 0x0, 1, 0x0, 1, 32, [⟨13, 19, .ro, .k⟩, ⟨6, 7, .ro, .k⟩, ⟨0, 6, .ro, .k⟩]⟩,
  ⟨.MEM_ARBCFG, 0x500010, 0x0, 1, 0x0, 1, 32, [⟨16, 16, .ro, .k⟩, ⟨8, 8, .ro, .k⟩]⟩,
  ⟨.MEM_STK, 0x500100, 0x4, 16, 0x0, 1, 32, [⟨31, 1, .ro, .k⟩, ⟨0, 14, .ro, .k⟩]⟩,
  ⟨.MEM_ERR, 0x500200, 0x8, 16, 0x0, 1, 64, [⟨32, 32, .ro, .s⟩, ⟨20, 12, .ro, .s⟩, ⟨8, 12, .ro, .s⟩, ⟨0, 8, .ro, .s⟩]⟩,
  ⟨.MEM_SCRUB, 0x500300, 0x8, 16, 0x0, 1, 64, [⟨40, 24, .ro, .s⟩, ⟨0, 24, .ro, .s⟩]⟩,
  ⟨.MEM_UEADR, 0x500400, 0x8, 16, 0x0, 1, 64, [⟨63, 1, .rw1c, .s⟩, ⟨62, 1, .ro, .s⟩, ⟨52, 4, .ro, .s⟩, ⟨6, 34, .ro, .s⟩]⟩,
  ⟨.MEM_UEPTR, 0x500480, 0x0, 1, 0x0, 1, 32, [⟨0, 4, .ro, .s⟩]⟩,
  ⟨.CTX_PTB, 0x20060, 0x100, 16, 0x0, 1, 64, [⟨21, 19, .rw, .s⟩]⟩,
  ⟨.CTX_NWIN, 0x20068, 0x100, 16, 0x0, 1, 64, [⟨63, 1, .rw, .s⟩, ⟨40, 19, .rw, .s⟩, ⟨21, 19, .rw, .s⟩]⟩,
  ⟨.DMP_CFG, 0x300000, 0x0, 1, 0x0, 1, 32, [⟨30, 2, .rw, .s⟩, ⟨0, 11, .rw, .s⟩]⟩,
  ⟨.DMP_STAT, 0x300004, 0x0, 1, 0x0, 1, 32, [⟨31, 1, .ro, .c⟩, ⟨30, 1, .ro, .c⟩, ⟨29, 1, .ro, .c⟩, ⟨28, 1, .ro, .c⟩, ⟨27, 1, .rw1c, .c⟩, ⟨0, 16, .ro, .s⟩]⟩,
  ⟨.DMP_PWR, 0x300008, 0x0, 1, 0x0, 1, 64, [⟨48, 16, .ro, .c⟩, ⟨32, 16, .ro, .c⟩, ⟨16, 16, .ro, .c⟩, ⟨0, 16, .ro, .c⟩]⟩,
  ⟨.DMP_ECOEF, 0x300040, 0x4, 16, 0x0, 1, 32, [⟨0, 32, .ro, .k⟩]⟩,
  ⟨.DMP_BAY, 0x300100, 0x8, 16, 0x0, 1, 64, [⟨48, 16, .ro, .c⟩, ⟨32, 16, .ro, .c⟩, ⟨22, 10, .ro, .s⟩, ⟨17, 5, .ro, .c⟩, ⟨0, 7, .ro, .c⟩]⟩,
  ⟨.DMP_TLOG, 0x300200, 0x10, 16, 0x0, 1, 64, [⟨48, 12, .ro, .c⟩, ⟨36, 12, .ro, .c⟩, ⟨24, 12, .ro, .c⟩, ⟨12, 12, .ro, .c⟩, ⟨0, 12, .ro, .c⟩]⟩,
  ⟨.DMP_TDRM, 0x300208, 0x10, 16, 0x0, 1, 64, [⟨52, 12, .ro, .c⟩, ⟨40, 12, .ro, .c⟩, ⟨28, 12, .ro, .c⟩, ⟨20, 8, .ro, .c⟩, ⟨1, 1, .ro, .k⟩, ⟨0, 1, .ro, .k⟩]⟩,
  ⟨.PWR_CTL, 0x300800, 0x0, 1, 0x0, 1, 32, [⟨0, 2, .rw, .k⟩]⟩,
  ⟨.PWR_STAT, 0x300804, 0x0, 1, 0x0, 1, 32, [⟨29, 3, .ro, .k⟩, ⟨26, 3, .ro, .k⟩, ⟨25, 1, .rw1c, .k⟩, ⟨24, 1, .rw1c, .k⟩, ⟨23, 1, .ro, .k⟩, ⟨22, 1, .rw1c, .k⟩, ⟨0, 16, .ro, .k⟩]⟩]

def regTable2 : List RDesc := [
  ⟨.CAL_TSNS, 0x301000, 0x8, 128, 0x0, 1, 64, [⟨48, 16, .rof, .k⟩, ⟨32, 16, .rof, .k⟩, ⟨24, 8, .ro, .k⟩, ⟨0, 16, .ro, .k⟩]⟩,
  ⟨.CAL_ISNS, 0x301400, 0x8, 34, 0x0, 1, 64, [⟨40, 24, .rof, .k⟩, ⟨24, 16, .ro, .k⟩, ⟨0, 24, .ro, .k⟩]⟩,
  ⟨.CAL_ECOEF, 0x301600, 0x8, 16, 0x0, 1, 64, [⟨32, 32, .rof, .k⟩, ⟨16, 16, .ro, .k⟩]⟩,
  ⟨.HTH_CONE, 0x3800, 0x4, 288, 0x0, 1, 32, [⟨20, 12, .ro, .s⟩, ⟨18, 2, .ro, .s⟩, ⟨16, 2, .ro, .s⟩, ⟨15, 1, .ro, .s⟩, ⟨0, 15, .ro, .s⟩]⟩,
  ⟨.HTH_CONECTL, 0x3c80, 0x0, 1, 0x0, 1, 32, [⟨31, 1, .w1s, .c⟩, ⟨0, 9, .ro, .s⟩]⟩,
  ⟨.HTH_GLZSTAT, 0x3c84, 0x0, 1, 0x0, 1, 32, [⟨16, 16, .ro, .s⟩, ⟨0, 16, .ro, .s⟩]⟩,
  ⟨.RST_FAULT0, 0x1000, 0x0, 1, 0x0, 1, 64, [⟨63, 1, .rw1c, .k⟩, ⟨62, 1, .ro, .k⟩, ⟨61, 1, .ro, .k⟩, ⟨56, 5, .ro, .k⟩, ⟨52, 4, .ro, .k⟩, ⟨46, 6, .ro, .k⟩, ⟨43, 3, .ro, .k⟩, ⟨42, 1, .ro, .k⟩]⟩,
  ⟨.RST_FAULT1, 0x1008, 0x0, 1, 0x0, 1, 64, [⟨0, 48, .ro, .k⟩]⟩,
  ⟨.RST_FAULT2, 0x1010, 0x0, 1, 0x0, 1, 64, [⟨32, 32, .ro, .k⟩, ⟨23, 9, .ro, .k⟩, ⟨19, 4, .ro, .k⟩, ⟨18, 1, .ro, .k⟩, ⟨15, 3, .ro, .k⟩, ⟨14, 1, .ro, .k⟩, ⟨10, 4, .ro, .k⟩]⟩,
  ⟨.RST_FAULT3, 0x1018, 0x0, 1, 0x0, 1, 64, [⟨52, 1, .ro, .k⟩, ⟨40, 12, .ro, .k⟩, ⟨0, 40, .ro, .k⟩]⟩,
  ⟨.RST_STAT, 0x700000, 0x0, 1, 0x0, 1, 32, [⟨28, 4, .ro, .k⟩, ⟨27, 1, .ro, .k⟩, ⟨16, 8, .ro, .k⟩, ⟨0, 16, .ro, .k⟩]⟩,
  ⟨.RST_CTL, 0x700004, 0x0, 1, 0x0, 1, 32, [⟨31, 1, .w1s, .c⟩]⟩,
  ⟨.RST_TIME, 0x700008, 0x0, 1, 0x0, 1, 64, [⟨0, 64, .ro, .k⟩]⟩,
  ⟨.RST_CLAMP, 0x700010, 0x0, 1, 0x0, 1, 32, [⟨16, 16, .ro, .k⟩, ⟨0, 5, .ro, .k⟩]⟩,
  ⟨.RST_QMODE, 0x700100, 0x4, 64, 0x0, 1, 32, [⟨31, 1, .rw, .k⟩]⟩,
  ⟨.OBS_GCNT, 0x200000, 0x8, 80, 0x0, 1, 64, [⟨0, 48, .ro, .s⟩]⟩,
  ⟨.OBS_CNT, 0x600000, 0x200, 16, 0x8, 64, 64, [⟨0, 48, .ro, .s⟩]⟩,
  ⟨.OBS_SEL, 0x602000, 0x20, 16, 0x8, 2, 64, [⟨0, 64, .rw, .s⟩]⟩,
  ⟨.OBS_CTX, 0x602010, 0x20, 16, 0x0, 1, 32, [⟨31, 1, .rw, .s⟩, ⟨16, 8, .rw, .s⟩, ⟨0, 16, .ro, .s⟩]⟩,
  ⟨.OBS_RING, 0x602018, 0x20, 16, 0x0, 1, 64, [⟨32, 32, .rw, .s⟩, ⟨0, 32, .ro, .s⟩]⟩,
  ⟨.OBS_QSNAP, 0x603000, 0x0, 1, 0x0, 1, 64, [⟨0, 64, .rw, .s⟩]⟩,
  ⟨.OBS_TRCFG, 0x604000, 0x0, 1, 0x0, 1, 32, [⟨30, 2, .rw, .k⟩, ⟨26, 4, .rw, .k⟩, ⟨0, 16, .rw, .k⟩]⟩,
  ⟨.OBS_TRCTL, 0x604004, 0x0, 1, 0x0, 1, 32, [⟨31, 1, .w1s, .k⟩, ⟨30, 1, .w1s, .k⟩]⟩]

def regTable3 : List RDesc := [
  ⟨.OBS_TRSTAT, 0x604008, 0x0, 1, 0x0, 1, 64, [⟨63, 1, .ro, .k⟩, ⟨62, 1, .ro, .k⟩, ⟨61, 1, .ro, .k⟩, ⟨58, 3, .ro, .k⟩, ⟨0, 35, .ro, .k⟩]⟩,
  ⟨.OBS_TRPOS, 0x604010, 0x0, 1, 0x0, 1, 64, [⟨0, 35, .ro, .k⟩]⟩,
  ⟨.OBS_TRTRIG, 0x604018, 0x0, 1, 0x0, 1, 64, [⟨59, 5, .rw, .k⟩, ⟨48, 8, .rw, .k⟩, ⟨32, 16, .rw, .k⟩, ⟨28, 4, .rw, .k⟩, ⟨20, 8, .rw, .k⟩, ⟨0, 13, .rw, .k⟩]⟩,
  ⟨.OBS_TRTHR, 0x604020, 0x0, 1, 0x0, 1, 64, [⟨0, 48, .rw, .k⟩]⟩,
  ⟨.CXL_LINK, 0x1800, 0x0, 1, 0x0, 1, 32, [⟨31, 1, .ro, .c⟩, ⟨29, 2, .ro, .c⟩, ⟨27, 2, .ro, .c⟩, ⟨26, 1, .ro, .c⟩, ⟨25, 1, .ro, .c⟩, ⟨0, 16, .ro, .s⟩]⟩,
  ⟨.CXL_ERR, 0x1808, 0x0, 1, 0x0, 1, 64, [⟨48, 16, .ro, .s⟩, ⟨32, 16, .ro, .s⟩, ⟨16, 16, .ro, .s⟩, ⟨0, 16, .ro, .s⟩]⟩,
  ⟨.CXL_SF, 0x1810, 0x0, 1, 0x0, 1, 32, [⟨12, 20, .ro, .c⟩]⟩,
  ⟨.STK_MBCTL, 0x800000, 0x0, 1, 0x0, 1, 64, [⟨63, 1, .rw, .c⟩, ⟨32, 16, .rw, .c⟩, ⟨0, 32, .rw, .c⟩]⟩,
  ⟨.STK_MBSTAT, 0x800008, 0x0, 1, 0x0, 1, 64, [⟨63, 1, .ro, .c⟩, ⟨40, 8, .ro, .c⟩, ⟨0, 32, .ro, .c⟩]⟩,
  ⟨.SEC_BOOT, 0x800010, 0x0, 1, 0x0, 1, 64, [⟨63, 1, .ro, .k⟩, ⟨62, 1, .ro, .k⟩, ⟨61, 1, .ro, .k⟩, ⟨60, 1, .rw1c, .k⟩, ⟨56, 4, .ro, .k⟩, ⟨48, 8, .ro, .k⟩, ⟨40, 8, .ro, .k⟩, ⟨32, 8, .ro, .k⟩, ⟨16, 16, .ro, .k⟩, ⟨0, 16, .ro, .k⟩]⟩,
  ⟨.SEC_IDENT, 0x800018, 0x0, 1, 0x0, 1, 32, [⟨31, 1, .ro, .k⟩, ⟨30, 1, .ro, .k⟩, ⟨29, 1, .ro, .k⟩, ⟨13, 9, .ro, .k⟩, ⟨0, 13, .ro, .k⟩]⟩,
  ⟨.SVC_SIDEBAND, 0x1900, 0x0, 1, 0x0, 1, 32, [⟨31, 1, .ro, .k⟩, ⟨30, 1, .ro, .k⟩, ⟨29, 1, .ro, .k⟩, ⟨22, 7, .ro, .k⟩, ⟨0, 12, .ro, .k⟩]⟩,
  ⟨.SVC_ALERT, 0x1904, 0x0, 1, 0x0, 1, 32, [⟨31, 1, .rw1c, .k⟩, ⟨30, 1, .rw1c, .k⟩, ⟨29, 1, .rw1c, .k⟩, ⟨28, 1, .rw1c, .k⟩, ⟨27, 1, .rw1c, .k⟩, ⟨26, 1, .rw1c, .k⟩]⟩,
  ⟨.HTH_CREP, 0x3000, 0x4, 288, 0x0, 1, 32, [⟨31, 1, .ro, .s⟩, ⟨30, 1, .ro, .s⟩, ⟨29, 1, .ro, .s⟩, ⟨16, 8, .ro, .s⟩, ⟨15, 1, .ro, .s⟩, ⟨14, 1, .ro, .s⟩, ⟨13, 1, .ro, .s⟩, ⟨0, 8, .ro, .s⟩]⟩,
  ⟨.CTX_SCALECFG, 0x20040, 0x100, 16, 0x0, 1, 32, [⟨31, 1, .rw, .s⟩, ⟨16, 8, .rw, .s⟩, ⟨8, 8, .rw, .s⟩]⟩,
  ⟨.FLU_RED, 0x408000, 0x4, 16, 0x0, 1, 32, [⟨25, 7, .ro, .c⟩, ⟨0, 16, .ro, .c⟩]⟩,
  ⟨.FLU_RTE, 0x404000, 0x4, 4096, 0x0, 1, 32, [⟨4, 1, .ro, .k⟩, ⟨0, 3, .ro, .k⟩]⟩,
  ⟨.SYNC, 0x100000, 0x8, 8192, 0x0, 1, 64, [⟨0, 64, .rw, .s⟩]⟩,
  ⟨.VF_FAULT0, 0x4000000, 0x100, 16, 0x0, 1, 64, [⟨63, 1, .rw1c, .k⟩, ⟨62, 1, .ro, .k⟩, ⟨61, 1, .ro, .k⟩, ⟨56, 5, .ro, .k⟩, ⟨52, 4, .ro, .k⟩, ⟨46, 6, .ro, .k⟩, ⟨43, 3, .ro, .k⟩, ⟨42, 1, .ro, .k⟩]⟩,
  ⟨.VF_FAULT1, 0x4000008, 0x100, 16, 0x0, 1, 64, [⟨0, 48, .ro, .k⟩]⟩,
  ⟨.VF_FAULT2, 0x4000010, 0x100, 16, 0x0, 1, 64, [⟨32, 32, .ro, .k⟩, ⟨23, 9, .ro, .k⟩, ⟨19, 4, .ro, .k⟩, ⟨18, 1, .ro, .k⟩, ⟨15, 3, .ro, .k⟩, ⟨14, 1, .ro, .k⟩, ⟨10, 4, .ro, .k⟩]⟩,
  ⟨.VF_FAULT3, 0x4000018, 0x100, 16, 0x0, 1, 64, [⟨52, 1, .ro, .k⟩, ⟨40, 12, .ro, .k⟩, ⟨0, 40, .ro, .k⟩]⟩]

/-- Every register of the module (R508). -/
def regTable : List RDesc := regTable0 ++ regTable1 ++ regTable2 ++ regTable3

/-- The element of a register array that an offset falls on, by its indices (R508). -/
def RDesc.find (d : RDesc) (off : Nat) : Option (Nat × Nat) :=
  if off < d.base then none
  else
    let r := off - d.base
    let i := if d.stride1 = 0 then 0 else r / d.stride1
    let r := r - d.stride1 * i
    let j := if d.stride2 = 0 then 0 else r / d.stride2
    let r := r - d.stride2 * j
    if i < d.count1 ∧ j < d.count2 ∧ r < d.width / 8 then some (i, j) else none

/-- The register that a PF0 BAR0 offset names, with its indices (R508). -/
def findReg (off : Nat) : Option (RDesc × Nat × Nat) :=
  regTable.findSome? fun d => (d.find off).map fun p => (d, p.1, p.2)

/-- The offset of an element of a register array. -/
def RDesc.offset (d : RDesc) (i j : Nat) : Nat := d.base + d.stride1 * i + d.stride2 * j

/-- The fields whose reset value is not 0: register, lowest bit, value by the register's indices. -/
def resetTable : List (Reg × Nat × (Nat → Nat → Nat)) := [
  (.ID_PART, 24, fun _ _ => ID_PART_GRADE.reset), (.ID_PART, 20, fun _ _ => ID_PART_STEP_MAJOR.reset),
  (.ID_PART, 0, fun _ _ => ID_PART_HEARTHS_GRADE.reset), (.ID_FMTCAP, 0, fun i _ => (ID_FMTCAP_CODES i).reset),
  (.CTX_GOVCFG, 24, fun i _ => (CTX_GOVCFG_HYST i).reset), (.CTX_GOVCFG, 0, fun i _ => (CTX_GOVCFG_WINDOW i).reset),
  (.CTX_GOVTHR0, 24, fun i _ => (CTX_GOVTHR0_ASH_HI i).reset), (.CTX_GOVTHR0, 16, fun i _ => (CTX_GOVTHR0_ASH_LO i).reset),
  (.CTX_GOVTHR0, 8, fun i _ => (CTX_GOVTHR0_CLK_HI i).reset), (.CTX_GOVTHR0, 0, fun i _ => (CTX_GOVTHR0_OVF_HI i).reset),
  (.CTX_GOVTHR1, 24, fun i _ => (CTX_GOVTHR1_NOISE_HI i).reset), (.CTX_GOVTHR1, 16, fun i _ => (CTX_GOVTHR1_NOISE_LO i).reset),
  (.CTX_GOVTHR1, 8, fun i _ => (CTX_GOVTHR1_STALL_HI i).reset), (.CTX_GOVTHR1, 0, fun i _ => (CTX_GOVTHR1_OCC_LO i).reset),
  (.CTX_GOVDONE, 0, fun i _ => (CTX_GOVDONE_DONE_WIN i).reset), (.QUE_CFG, 20, fun i _ => (QUE_CFG_PRIO_MAX i).reset),
  (.CTX_CFG, 0, fun i _ => (CTX_CFG_WAIT_TO i).reset), (.FLU_TSTAT, 28, fun _ _ => FLU_TSTAT_PARENT.reset),
  (.DMP_CFG, 0, fun _ _ => DMP_CFG_P_CAP.reset), (.DMP_ECOEF, 0, fun i _ => (DMP_ECOEF_EFF i).reset),
  (.DMP_BAY, 22, fun i _ => (DMP_BAY_KCORR i).reset), (.DMP_BAY, 17, fun i _ => (DMP_BAY_DUTY i).reset),
  (.CAL_TSNS, 48, fun i _ => (CAL_TSNS_FSLOPE i).reset), (.CAL_TSNS, 32, fun i _ => (CAL_TSNS_FOFS i).reset),
  (.CAL_ISNS, 40, fun i _ => (CAL_ISNS_FGAIN i).reset), (.CAL_ECOEF, 32, fun i _ => (CAL_ECOEF_FACT i).reset),
  (.OBS_SEL, 0, fun i j => (OBS_SEL_SEL i j).reset), (.OBS_TRCFG, 26, fun _ _ => OBS_TRCFG_PRE.reset),
  (.OBS_TRCFG, 0, fun _ _ => OBS_TRCFG_CLASSES.reset), (.OBS_TRTRIG, 59, fun _ _ => OBS_TRTRIG_ARM.reset),
  (.SEC_IDENT, 0, fun _ _ => SEC_IDENT_BLOCKS.reset), (.SVC_SIDEBAND, 31, fun _ _ => SVC_SIDEBAND_PWR_EN.reset),
  (.SVC_SIDEBAND, 29, fun _ _ => SVC_SIDEBAND_MOD_RST_N.reset), (.CTX_SCALECFG, 31, fun i _ => (CTX_SCALECFG_ESC_EN i).reset),
  (.CTX_SCALECFG, 16, fun i _ => (CTX_SCALECFG_ASH_FRAC i).reset), (.CTX_SCALECFG, 8, fun i _ => (CTX_SCALECFG_REEMIT_FRAC i).reset),
  (.FLU_RTE, 0, fun i _ => (FLU_RTE_PORT i).reset)]

/-- The field of a register's element as a cell with its reset value. -/
def RDesc.fld (d : RDesc) (i j : Nat) (f : RField) : Fld :=
  ⟨d.reg, i, j, f.lo, f.width, ((resetTable.find? fun r => r.1 == d.reg && r.2.1 == f.lo).map fun r => r.2.2 i j).getD 0⟩

/-- The register that a cell key belongs to. -/
def cellReg (key : Nat) : Option RDesc := regTable.find? fun d => d.reg.num == key / 2 ^ 25

/-- The PF0 BAR0 offset of the register that holds a cell. -/
def cellOffset (key : Nat) : Nat := ((cellReg key).map fun d => d.offset (key / 2 ^ 12 % 2 ^ 13) (key / 2 ^ 6 % 2 ^ 6)).getD 0

/-- The recovery code of a cell (R15). -/
def cellRecov (key : Nat) : Option Recov :=
  (cellReg key).bind fun d => (d.fields.find? fun f => f.lo == key % 2 ^ 6).map (·.recov)

end Sys2Proof.Machine
end

