-- ==== Sys2Proof/Machine/State.lean ====
section
/-! DEFINITION. The state of the module as plain data: register fields, memories, queues and commands in flight, and
what the spec gives each engine, port, controller and always-on block; and the state after reset. -/

namespace Sys2Proof.Machine

open Sys2Proof

/-- Why the module stops with a fault. -/
inductive Fault where
  /-- A host CXL.mem access outside the committed HDM window (R512): no such address exists in the module. Raised by
  HOST_MEM_READ and HOST_MEM_WRITE. Safe: the module never sees such a request. -/
  | hostAddress (a : Nat)
deriving DecidableEq, Repr

/-- Why a command has no meaning. -/
inductive Refusal where
  /-- The command is not modelled. Raised by no arm of `exec`. Safe. -/
  | notModelled (mnemonic : String)
deriving DecidableEq, Repr

/-! ### Runtime state that no register shows -/

/-- Where the module stands as a whole (R421, R530, R562–R564). -/
inductive Life where
  /-- No rail is on. -/
  | off
  /-- Rails up, `MOD_RST_N` asserted: the logic is in reset (R561, R564). -/
  | inReset
  /-- A boot has not completed a step (R530). -/
  | booting (step : Nat)
  /-- A boot has failed or passed its limit and withholds READY; `fw`: the firmware runs (R531). -/
  | bootFailed (fw : Bool)
  /-- READY has been reached; `PWR_STAT` and `RST_STAT` tell the rest. -/
  | up
  /-- The always-on block has latched a failure that awaits a power cycle (R31, R427, R482). -/
  | latched
deriving DecidableEq, Repr

/-- One collective command's entry in the pending table (R324–R330): READYs by (slice, heap position), staged partial
sums by (slice, child, chunk), what was sent and acknowledged up (slice, chunk) and down (slice, child, chunk), results
written, acknowledgements sent to the parent, the tag that its packets carry, and the stat lanes (R329) and digest entries (R455) of the children with
their combined results. -/
structure CollEntry where
  q : Nat
  n : Nat
  ctx : Nat
  job : Nat
  seq : Nat
  ready : List (Nat × Nat)
  staged : List ((Nat × Nat × Nat) × List Byte)
  sentUp : List (Nat × Nat)
  sentDown : List (Nat × Nat × Nat)
  ackedUp : List (Nat × Nat)
  ackedDown : List (Nat × Nat × Nat)
  written : List (Nat × Nat)
  laneIn : List (Nat × List StatCounts)
  lane : Option (List StatCounts)
  upAcks : List (Nat × Nat)
  tag : Nat
  digIn : List (Nat × List Nat)
  dig : Option (List Nat)
deriving DecidableEq, Repr

/-- A Flue port's link layer, buffers and output arbiter (R345–R364). Lists of eight are indexed by
`4 × DL + VC` for the flow-control classes and by requester for the arbiter. A flit is a packet and the flit's number in it;
`unacked`: sent frames by `SEQ`, with their replays and flits; `slots`: flits of the frame being filled; `skipRx`, `skipTx`,
`delay`: when the last SKIP frame was received and sent here, and the link delay (R368); `merge`: per VC, the input that the
merge of transit packets serves next (R364); `uncTimes`: when the latest uncorrectable codewords came (R350). -/
structure PortRt where
  txSeq : Nat
  framesSent : Nat
  unacked : List (Nat × Nat × List (Packet × Nat))
  rxSeq : Nat
  nakSent : Bool
  lockBad : Nat
  inbuf : List Packet
  freed : List Nat
  reported : List Nat
  sent : List Nat
  granted : List Nat
  outq : List (List Packet)
  used : List Nat
  ptrH : Nat
  ptrL : Nat
  win : Nat
  cap : Nat
  miswired : Bool
  skipRx : Nat
  skipTx : Option Nat
  delay : Int
  slots : List (Packet × Nat)
  merge : List Nat
  uncTimes : List Nat
deriving DecidableEq, Repr

/-- A port after reset: empty, all buffers free, frame numbers at 0. -/
def PortRt.init : PortRt :=
  ⟨0, 0, [], 0, false, 0, [], List.replicate 8 0, List.replicate 8 0, List.replicate 8 0, List.replicate 8 0,
    List.replicate 8 [], List.replicate 8 0, 0, 0, 0, 20, false, 0, none, 0, [], List.replicate 4 0, []⟩

/-- A frame that left the module: the port, its trailer (R348), and the packets whose last flit it carries. -/
structure Sent where
  port : Nat
  seq : Nat
  ack : Nat
  crc : Nat
  packets : List Packet
deriving DecidableEq, Repr

/-- The switch domain beside the ports: the dimensions, the timebase's trim, the link-state database, the endpoint's
state, the packet tag counter, per VC the input that local ejection serves next (R364), and READYs that arrived before their
entry: job, SEQ, slice, sender (R326, R339–R369). -/
structure FlueRt where
  dims : Nat × Nat × Nat
  root : Nat
  excluded : List (Nat × Nat)
  failed : List (Nat × Nat)
  seen : List (Nat × Nat × Nat)
  gen : Nat
  epSeen : List (Nat × Nat)
  recovering : List Nat
  accepting : Bool
  trim : Int
  frac : Nat
  ptag : Nat
  eject : List Nat
  wire : List Sent
  early : List (Nat × Nat × Nat × Nat)
deriving DecidableEq, Repr

/-- A stack port (R380–R390): arbiter counters, outstanding read beats oldest first, lines awaiting a corrective
write, rows that patrol corrected with the pass, rows due to be spared (R385), and the end of the last refresh blackout. -/
structure StackRt where
  used : List Nat
  ptrH : Nat
  ptrL : Nat
  win : Nat
  outstanding : List (Nat × Beat)
  corrective : List Nat
  rows : List (Nat × Nat)
  due : List Nat
  blackout : Nat
deriving DecidableEq, Repr

/-- A stack port after reset (R389). -/
def StackRt.init : StackRt := ⟨List.replicate 8 0, 0, 0, 0, [], [], [], [], 0⟩

/-- What the budget loop remembers of one Bay (R400, R406, R407, R411): the temperatures of the last ten periods,
newest first, its work since the last period, the idle baseline's sum and count, and the energy and work measured at
each duty. -/
structure BayRt where
  ts : List Int
  tl : List Int
  work : Nat
  idleSum : Nat
  idleCnt : Nat
  eff : List (Nat × Nat × Nat)
  logicBad : Nat
  resTimes : List Nat
  glzTimes : List Nat
deriving DecidableEq, Repr

def BayRt.init : BayRt := ⟨[], [], 0, 0, 0, [], 0, [], []⟩

/-- The Damper's own state (R402–R420): the profile and `P_CAP` in force, the input power of the last periods, the
excursion, ACTIVE time in 100 µs periods, whether the fast limiter has acted in this period, the dispatcher's rotating
pointer, the Bays' allowances in force in 1/16 W, exactly (R18, R405), before the first period their registers', and
whether the loop has missed periods since its last one (R406). -/
structure DamperRt where
  profile : Nat
  pCap : Nat
  pins : List Nat
  excLen : Nat
  sinceExc : Nat
  periods : Nat
  fastHit : Bool
  ptr : Nat
  allow : List Rat
  missing : Bool
deriving DecidableEq, Repr

/-- A Hearth's test schedule and history (R416, R417, R447–R452): busy time, the period of its last PASS, flags due
and overdue, the test in progress, the periods at which it was quarantined, whether it is gated (R101), and the corrected
reads of its hearth store, codebook store and accumulator file (R89, R94, R95), which no register shows. -/
structure HearthRt where
  busy : Nat
  lastPass : Nat
  due : Bool
  overdue : Bool
  sweep : Bool
  testing : Bool
  quar : List Nat
  gated : Bool
  corrected : Nat
deriving DecidableEq, Repr

def HearthRt.init : HearthRt := ⟨0, 0, false, false, false, false, [], false, 0⟩

/-- The trace unit beside its registers (R498–R500): the next record number and the post-trigger records left. -/
structure TraceRt where
  seq : Nat
  post : Option Nat
deriving DecidableEq, Repr

/-- A chip recovery or warm reset in progress (R467, R565). -/
structure RecRt where
  warm : Bool
  cause : Nat
  timedOut : List (Nat × Nat)
  flrPending : List Nat
deriving DecidableEq, Repr

/-- The host link (R503–R520): the HDM decoder, IDE streams, configuration-space enables, MSI-X tables and pending
bits, the snoop filter's lines (oldest grant first), held watch lines, translated host pages (context, page) and those
that the host refuses. -/
structure HostRt where
  hdmBase : Nat
  hdmSize : Nat
  ideMem : Bool
  ideIo : Bool
  numVfs : Nat
  vfEn : Bool
  msixOn : List Nat
  atsOn : List Nat
  msix : Store Nat
  pba : Store Bool
  filter : List Nat
  watch : List Nat
  atc : List (Nat × Nat)
  atsDeny : List (Nat × Nat)
deriving DecidableEq, Repr

/-- The host link after the CXL controller's reset (R26, R505, R512, R520). -/
def HostRt.init : HostRt := ⟨0, 0, false, false, 0, false, [], [], [], [], [], [], [], []⟩

/-- What the Stoker holds of the boot image for the life of the boot (R244, R342, R391, R403, R434, R535, R536). `psk`:
the identity and the wrapped form of the IDE key. -/
structure Seval where
  hash : Nat
  fmt : Nat
  profAllow : Nat
  pCapMin : Nat
  tDram : Nat
  tLogic : Nat
  fallback : Nat
  stateAllow : Nat
  entryTo : Nat
  retire : Bool
  modeAllow : Nat
  winMin : Nat
  winMax : Nat
  hystMin : Nat
  intFloor : Nat
  fpFloor : Nat
  decLimit : Nat
  spQ : List Nat
  flWin : Nat
  flHp : Nat
  flQ : List Nat
  reqIde : Bool
  svcAuth : Bool
  hostAttest : Bool
  svcNet : List Nat
  psk : Option (Nat × Nat)
deriving DecidableEq, Repr

/-- The defaults of every optional section (R244, R391, R403, R434, R535). -/
def Seval.default : Seval :=
  ⟨0, 0, 7, 800, 88, 100, 6, 3, 100, false, 7, 8, 4096, 2, 0x02, 0x11, 0, [0, 0, 0, 0, 0, 96, 64, 0], 8192, 0x0F,
    [32, 24, 192, 16, 0, 0, 0, 0], false, false, false, [0, 0, 0, 0, 0, 7410], none⟩

/-- Fuses and OTP (R102, R103, R109, R431, R528, R529, R538–R541): the vendor key hash, the burnt security-version
count, the owner hash, the certificate hash, the burnt leaf blocks, the Hearths fused off, and each Hearth's programmed
repair records (row 0, row 1, column 0, column 1; 0 when none, else 2 × field + 1 + 4 × physical index). -/
structure Fuses where
  vendor : Nat
  svn : Nat
  owner : Option Nat
  cert : Nat
  leaf : List Nat
  hearthOff : List Nat
  records : Store (List Nat)
deriving DecidableEq, Repr

/-- The Stoker's service side (R532–R547): the event log's next record number and head slot, the lifetime facts recorded
in NVM (Hearth states, pending repair records, retirements to clear, Glaze units marked faulty, saved busy times), the
Hearths retired at this boot because a fuse record failed its check (R453), the update and configuration in transfer,
stored responses by sequence number (number, status, body), the time of the last signature, the next leaf of the reserved
block, and the running firmware's measurement. -/
structure StokerRt where
  evSeq : Nat
  evPos : Nat
  states : Store Nat
  pendList : Store (List Nat)
  clearReq : List Nat
  fuseRetired : List Nat
  updLen : Option Nat
  updSpans : List (Nat × Nat)
  cfgLen : Nat
  cfgSpans : List (Nat × Nat)
  cfgBytes : List Host.Cell
  replies : List (Nat × Nat × List Byte)
  lastSign : Option Nat
  nextLeaf : Nat
  meas : Nat
  glazeMark : Nat
  busySaved : List Nat
deriving DecidableEq, Repr

/-- Where the module stands, the 52 V input, the 100 ms for which `PWR_EN` must stay low, and the latched failure
(R552, R553, R555, R563). -/
structure PowerRt where
  life : Life
  inputOk : Bool
  lowHold : Bool
  failed : Bool
deriving DecidableEq, Repr

/-- What the module last answered to a CXL.mem read: the line and the poison indication (R512, R516, R521). -/
structure HostReply where
  data : List Byte
  poison : Bool
deriving DecidableEq, Repr

/-- The state of the module. -/
structure State where
  /-- Register fields by cell key; an unlisted field holds its reset value. -/
  regs : Store Nat
  /-- Bonded DRAM by PA (R371). -/
  dram : List Host.Cell
  /-- Lines whose stored code does not correct, by PA / 64 (R381). -/
  badLines : Store Bool
  /-- Host memory, by context's function and untranslated address: key = address (R377, R517). -/
  hostMem : List Host.Cell
  /-- The NVM device (R525). -/
  nvm : List Host.Cell
  /-- Mailbox request and response buffers (R547). -/
  mbReq : List Host.Cell
  mbResp : List Host.Cell
  /-- Cached level-2 entries, keyed `context × 2²⁷ + VA[47:21]` (R378). -/
  tlb : Store Nat
  /-- The queues' state beside their registers. -/
  queues : Store QueueRt
  /-- Commands in flight, in start order (R258). -/
  flights : List Flight
  /-- The next free accumulation entry of each queue's pool (R475). -/
  accNext : Store Nat
  /-- The bitmap arena's next line per context (R281). -/
  arena : Store Nat
  /-- Pending-table entries of the collectives (R324). -/
  coll : List CollEntry
  /-- The Flue switch. -/
  flue : FlueRt
  ports : Store PortRt
  stackPorts : Store StackRt
  bays : Store BayRt
  damper : DamperRt
  hearths : Store HearthRt
  trace : TraceRt
  recov : Option RecRt
  host : HostRt
  seval : Seval
  fuses : Fuses
  stoker : StokerRt
  power : PowerRt
  /-- Corrected transfers of each die-to-die link, in the order of R33's table (R34); no register shows them. -/
  d2dCorr : Store Nat
  /-- Governor decision steps waiting to run, in the order their windows closed: (context, window) (R231). -/
  decisions : List (Nat × Nat)
  /-- MSI-X messages sent, newest first: (function, vector) (R511). -/
  irqs : List (Nat × Nat)
  hostReply : Option HostReply
  /-- The model's own counter of free values used (log entry 2). -/
  freeCtr : Nat
  /-- The commands that wait, first in, first out. -/
  pending : List Instr
deriving DecidableEq, Repr

/-- The module right after reset: registers at their Reset column, memories unwritten, no rail on and nothing booted.
The POWER_ON_RESET command boots it (R530). -/
def State.reset : State where
  regs := []
  dram := []
  badLines := []
  hostMem := []
  nvm := []
  mbReq := []
  mbResp := []
  tlb := []
  queues := []
  flights := []
  accNext := []
  arena := []
  coll := []
  flue := ⟨(1, 1, 1), 0, [], [], [], 0, [], [], false, 0, 0, 0, List.replicate 4 0, [], []⟩
  ports := []
  stackPorts := []
  bays := []
  damper := ⟨0, 1600, [], 0, 0, 0, false, 0, [], false⟩
  hearths := []
  trace := ⟨0, none⟩
  recov := none
  host := HostRt.init
  seval := Seval.default
  fuses := ⟨0, 0, none, 0, [], [], []⟩
  stoker := ⟨0, 0, [], [], [], [], none, [], 0, [], [], [], none, 0, 0, 0, []⟩
  power := ⟨.off, true, false, false⟩
  d2dCorr := []
  decisions := []
  irqs := []
  hostReply := none
  freeCtr := 0
  pending := []

end Sys2Proof.Machine
end

