-- ==== Sys2Proof/Machine/Ops.lean ====
section
/-! DEFINITION. The named operations over the state: register fields, memories, address decoding and translation,
counters, free values and sync objects. -/

namespace Sys2Proof.Machine

open Sys2Proof

/-- What a command's meaning answers. -/
abbrev Out := Host.Outcome State Fault Refusal

/-! ### Register fields (R12, R15) -/

/-- The value of a field. -/
def State.getF (s : State) (f : Fld) : Nat := s.regs.get f.reset f.key

/-- Set a field to a value, cut to its width. -/
def State.setF (s : State) (f : Fld) (v : Nat) : State :=
  { s with regs := s.regs.set f.reset f.key (v % 2 ^ f.width) }

/-- Whether a one-bit field is 1. -/
def State.flag (s : State) (f : Fld) : Bool := s.getF f != 0

/-- Add with saturation at the field's largest value. -/
def State.addSat (s : State) (f : Fld) (n : Nat) : State := s.setF f (min (s.getF f + n) (2 ^ f.width - 1))

/-- Add modulo the field's width. -/
def State.incF (s : State) (f : Fld) (n : Nat) : State := s.setF f (s.getF f + n)

/-- Put a field back at its reset value. -/
def State.clrF (s : State) (f : Fld) : State := s.setF f f.reset

/-- Set several fields. -/
def State.setFs (s : State) (l : List (Fld × Nat)) : State := l.foldl (fun s p => s.setF p.1 p.2) s

/-- Replace a bit of a multi-bit field. -/
def State.setBit (s : State) (f : Fld) (i : Nat) (b : Bool) : State :=
  let v := s.getF f
  s.setF f (if b then (if bitOf v i then v else v + 2 ^ i) else (if bitOf v i then v - 2 ^ i else v))

/-! ### Byte memories -/

/-- The cells that a run of bytes lists: none for a byte equal to what an unlisted address reads as. -/
def Mem.cells (d : Byte) : Nat → List Byte → List Host.Cell
  | _, [] => []
  | a, b :: bs => if b = d then Mem.cells d (a + 1) bs else (a, b) :: Mem.cells d (a + 1) bs

/-- One byte; an unlisted address reads as `d`. -/
def Mem.read (d : Byte) (m : List Host.Cell) (a : Nat) : Byte := Store.get d m a

/-- Replace a run of bytes, keeping the canonical form. -/
def Mem.write (d : Byte) (m : List Host.Cell) (a : Nat) (bs : List Byte) : List Host.Cell :=
  (m.filter fun p => decide (p.1 < a)) ++ (Mem.cells d a bs ++ m.filter fun p => decide (a + bs.length ≤ p.1))

/-- Forget a run of bytes: each reads as the unlisted value again. -/
def Mem.wipe (m : List Host.Cell) (a n : Nat) : List Host.Cell :=
  (m.filter fun p => decide (p.1 < a)) ++ m.filter fun p => decide (a + n ≤ p.1)

/-- `n` bytes from `a`. -/
def Mem.readN (d : Byte) (m : List Host.Cell) (a n : Nat) : List Byte := (List.range n).map fun i => Mem.read d m (a + i)

/-- The canonical form of a byte memory: addresses strictly rise and no entry equals what an unlisted address reads
as. -/
def Memory.wf (d : Byte) (m : List Host.Cell) : Bool := Store.wf d m

/-- What a byte of DRAM, host memory or a mailbox buffer reads as before anything has written it (log entry 1). -/
def memBlank : Byte := 0

/-- What an erased NOR byte reads as (log entry 6). -/
def nvmBlank : Byte := 255

/-- One byte of DRAM by PA. -/
def State.dbyte (s : State) (pa : Nat) : Byte := Mem.read memBlank s.dram pa

/-- A little-endian value in DRAM. -/
def State.dnat (s : State) (pa n : Nat) : Nat := rdNat s.dbyte pa n

/-- The lines that a run of bytes touches in part or in full. -/
def touches (pa n line : Nat) : Bool := decide (pa < 64 * line + 64) && decide (64 * line < pa + n)

/-- The lines that a run of bytes covers in full. -/
def covers (pa n line : Nat) : Bool := decide (pa ≤ 64 * line) && decide (64 * line + 64 ≤ pa + n)

/-- Write DRAM: bytes land, lines covered in full heal (R381), and lines that the host caches are back-invalidated
(R514). -/
def State.dwrite (s : State) (pa : Nat) (bs : List Byte) : State :=
  let filter := s.host.filter.filter fun l => !touches pa bs.length l
  let s := { s with
    dram := Mem.write memBlank s.dram pa bs
    badLines := s.badLines.filter fun p => !covers pa bs.length p.1
    host := { s.host with filter := filter } }
  s.setF CXL_SF_OCC filter.length

/-- The first uncorrectable line that a run of bytes touches (R381). -/
def State.badIn (s : State) (pa n : Nat) : Option Nat :=
  (List.find? (fun p : Nat × Bool => p.2 && touches pa n p.1) s.badLines).map fun p => 64 * p.1

/-- Mark a line's stored code as failing or good. -/
def State.setBad (s : State) (line : Nat) (b : Bool) : State := { s with badLines := s.badLines.set false line b }

/-! ### Physical addresses (R371) and the Saggar regions (R374) -/

/-- The stack and stack offset of a PA (R371). -/
def State.stackAddr (s : State) (pa : Nat) : Nat × Nat :=
  let j := pa / 2 ^ 34
  let o := pa % 2 ^ 34
  if bitOf (s.getF MEM_BANDMAP_LOCAL) j then (o / 2 ^ 30, j * 2 ^ 30 + o % 2 ^ 30)
  else (o / 2 ^ 12 % 16, j * 2 ^ 30 + o / 2 ^ 16 * 2 ^ 12 + o % 2 ^ 12)

/-- The PA of a stack offset (R371). -/
def State.paOf (s : State) (b off : Nat) : Nat :=
  let j := off / 2 ^ 30
  let o := off % 2 ^ 30
  if bitOf (s.getF MEM_BANDMAP_LOCAL) j then j * 2 ^ 34 + b * 2 ^ 30 + o
  else j * 2 ^ 34 + o / 2 ^ 12 * 2 ^ 16 + b * 2 ^ 12 + o % 2 ^ 12

/-- The base of the in-flight ledger (R475). -/
def ledgerBase : Nat := 2 ^ 40 - 2 ^ 24

/-- The base of the fault-capture region (R374, R473). -/
def captureBase : Nat := ledgerBase - 2 ^ 29

/-- `r`, the bytes of one tap ring (R374). -/
def State.ringBytes (s : State) : Nat := s.getF MEM_SAGGAR_TAP * 2 ^ 21

/-- The base of context `c`'s tap ring (R374, R492). -/
def State.ringBase (s : State) (c : Nat) : Nat := captureBase - (16 - c) * s.ringBytes

/-- `T`, the bytes of the trace region (R374). -/
def State.traceBytes (s : State) : Nat := s.getF MEM_SAGGAR_TRACE * 2 ^ 28

/-- The Saggar base (R374). -/
def State.saggar (s : State) : Nat := s.getF MEM_SAGGAR_BASE * 2 ^ 21

/-! ### Translation (R377–R379) -/

/-- A usable level-2 entry: valid, no reserved bit or encoding (R377). -/
def pteOk (e : Nat) : Bool :=
  let tgt := bitsOf e 61 60
  bitOf e 63 && bitsOf e 56 52 == 0 && bitsOf e 20 0 == 0 && tgt != 3
    && (if tgt = 2 then decide (bitsOf e 59 57 < 6) else bitsOf e 59 57 == 0)
    && (tgt == 1 || bitsOf e 51 40 == 0)

/-- The address of the level-2 entry of a page, when its level-1 entry is usable (R377). -/
def State.pteAddr (s : State) (c page : Nat) : Option Nat :=
  let e := s.dnat (s.getF (CTX_PTB_BASE c) * 2 ^ 21 + 8 * (page / 512)) 8
  if bitOf e 63 && bitsOf e 62 40 == 0 && bitsOf e 11 0 == 0 then some (bitsOf e 39 12 * 4096 + 8 * (page % 512))
  else none

/-- Walk the tables of a context for a page (R377). -/
def State.walk (s : State) (c page : Nat) : Option Nat :=
  (s.pteAddr c page).bind fun a => let e := s.dnat a 8; if pteOk e then some e else none

/-- The translation of a page: cached (R378) or walked. -/
def State.pte (s : State) (c page : Nat) : Option Nat :=
  match s.tlb.find? (c * 2 ^ 27 + page) with
  | some e => some e
  | none => s.walk c page

/-- Where an entry leads (R377). -/
def pteTarget (e : Nat) : Target :=
  if bitsOf e 61 60 = 0 then .device else if bitsOf e 61 60 = 1 then .host else .window (bitsOf e 59 57)

/-- The target and the address there of a virtual address. -/
def State.resolve (s : State) (c va : Nat) : Option (Target × Nat) :=
  (s.pte c (va / 2 ^ 21)).map fun e => (pteTarget e, bitsOf e 51 21 * 2 ^ 21 + va % 2 ^ 21)

/-- One byte at a virtual address: device or host memory; a neighbour window is not read directly. -/
def State.vbyte (s : State) (c va : Nat) : Byte :=
  match s.resolve c va with
  | some (.device, pa) => s.dbyte pa
  | some (.host, a) => Mem.read memBlank s.hostMem a
  | _ => memBlank

/-- Write bytes of one page at a virtual address. -/
def State.vwrite1 (s : State) (c va : Nat) (bs : List Byte) : State :=
  match s.resolve c va with
  | some (.device, pa) => s.dwrite pa bs
  | some (.host, a) => { s with hostMem := Mem.write memBlank s.hostMem a bs }
  | _ => s

/-- Write bytes at virtual addresses, page by page. -/
def State.vwriteGo : Nat → State → Nat → Nat → List Byte → State
  | 0, s, _, _, _ => s
  | f + 1, s, c, va, bs =>
    if bs.isEmpty then s
    else
      let n := 2 ^ 21 - va % 2 ^ 21
      State.vwriteGo f (s.vwrite1 c va (bs.take n)) c (va + n) (bs.drop n)

/-- Write bytes at a virtual address. -/
def State.vwrite (s : State) (c va : Nat) (bs : List Byte) : State :=
  State.vwriteGo (bs.length / 2 ^ 21 + 2) s c va bs

/-- The pages that a range touches. -/
def pagesOf (a len : Nat) : List Nat :=
  if len = 0 then [] else (List.range ((a + len - 1) / 2 ^ 21 + 1 - a / 2 ^ 21)).map fun i => a / 2 ^ 21 + i

/-- Context `c` has an enabled VF (R505). -/
def State.vfOn (s : State) (c : Nat) : Bool := s.host.vfEn && decide (c < s.host.numVfs)

/-- The function that issues context `c`'s host traffic (R517). -/
def State.ctxFn (s : State) (c : Nat) : Nat := if s.vfOn c then c + 1 else 0

/-- Whether a page may be used for an access (R246, R375, R377, R517): mapped, writable when written, outside the
Saggar regions, and granted by ATS when it lies in host memory. -/
def State.pageOk (s : State) (c page : Nat) (write : Bool) : Bool :=
  match s.pte c page with
  | none => false
  | some e =>
    (!write || bitOf e 62)
      && (match pteTarget e with
          | .device => decide (bitsOf e 51 21 * 2 ^ 21 + 2 ^ 21 ≤ s.saggar)
          | .host => s.host.atsOn.contains (s.ctxFn c) && !s.host.atsDeny.contains (c, page)
          | .window _ => true)

/-- The target of a range's first page. -/
def State.rangeTarget (s : State) (c a : Nat) : Target :=
  match s.pte c (a / 2 ^ 21) with
  | some e => pteTarget e
  | none => .device

/-- The access check of a range (R246, R379). -/
def State.rangeCheck (s : State) (c a len : Nat) (write : Bool) : Status :=
  let ps := pagesOf a len
  if decide (a + len ≤ 2 ^ 48) && ps.all (fun p => s.pageOk c p write)
    && ps.all (fun p => (s.pte c p).map pteTarget == some (s.rangeTarget c a)) then .ok
  else .accessFault

/-- The first uncorrectable line among the table entries that translate a page, unless its translation is cached
(R246, R378). -/
def State.tableBad (s : State) (c p : Nat) : Option Nat :=
  if (s.tlb.find? (c * 2 ^ 27 + p)).isSome then none
  else (s.badIn (s.getF (CTX_PTB_BASE c) * 2 ^ 21 + 8 * (p / 512)) 8).orElse fun _ =>
    (s.pteAddr c p).bind fun x => s.badIn x 8

/-- The first uncorrectable line among the table entries that translate a range (R246). -/
def State.rangeTabBad (s : State) (c a len : Nat) : Option Nat := (pagesOf a len).findSome? (s.tableBad c)

/-- The first uncorrectable line met in reading a range, with the entries that translate it (R246). -/
def State.rangeBad (s : State) (c a len : Nat) : Option Nat :=
  (pagesOf a len).findSome? fun p =>
    (s.tableBad c p).orElse fun _ =>
      match s.pte c p with
      | some e =>
        let lo := max a (p * 2 ^ 21)
        let hi := min (a + len) (p * 2 ^ 21 + 2 ^ 21)
        if pteTarget e = .device then s.badIn (bitsOf e 51 21 * 2 ^ 21 + lo % 2 ^ 21) (hi - lo) else none
      | none => none

/-- Cache the translations of the pages of some ranges (R378) and the granted host pages (R517). -/
def State.cachePages (s : State) (c : Nat) (ps : List Nat) : State :=
  ps.foldl (fun s p =>
    match s.pte c p with
    | some e =>
      let s := { s with tlb := s.tlb.insert (c * 2 ^ 27 + p) e }
      if pteTarget e = .host && !s.host.atc.contains (c, p) then
        { s with host := { s.host with atc := (s.host.atc ++ [(c, p)]).reverse.take 8192 |>.reverse } }
      else s
    | none => s) s

/-! ### Free values (log entry 2) -/

/-- A value that the spec leaves open, and the state with the counter moved past it. -/
def State.fresh (s : State) : Nat × State := (Config.freeValue s.freeCtr, { s with freeCtr := s.freeCtr + 1 })

/-! ### Stores of runtime records -/

def State.queue (s : State) (q : Nat) : QueueRt := s.queues.get QueueRt.init q
def State.setQueue (s : State) (q : Nat) (r : QueueRt) : State :=
  { s with queues := s.queues.set QueueRt.init q r }
def State.port (s : State) (p : Nat) : PortRt := s.ports.get PortRt.init p
def State.setPort (s : State) (p : Nat) (r : PortRt) : State := { s with ports := s.ports.set PortRt.init p r }
def State.stackPort (s : State) (b : Nat) : StackRt := s.stackPorts.get StackRt.init b
def State.setStackPort (s : State) (b : Nat) (r : StackRt) : State :=
  { s with stackPorts := s.stackPorts.set StackRt.init b r }
def State.bay (s : State) (b : Nat) : BayRt := s.bays.get BayRt.init b
def State.setBay (s : State) (b : Nat) (r : BayRt) : State := { s with bays := s.bays.set BayRt.init b r }
def State.hearth (s : State) (h : Nat) : HearthRt := s.hearths.get HearthRt.init h
def State.setHearth (s : State) (h : Nat) (r : HearthRt) : State :=
  { s with hearths := s.hearths.set HearthRt.init h r }

/-! ### NVM (R524, R525) -/

def State.nbyte (s : State) (a : Nat) : Byte := Mem.read nvmBlank s.nvm a
def State.nnat (s : State) (a n : Nat) : Nat := rdNat s.nbyte a n
def State.nwrite (s : State) (a : Nat) (bs : List Byte) : State := { s with nvm := Mem.write nvmBlank s.nvm a bs }
def State.nerase (s : State) (a n : Nat) : State := { s with nvm := Mem.wipe s.nvm a n }

/-- The module's clock for limits in time: the timebase (R367). -/
def State.now (s : State) : Nat := s.getF FLU_TIME_NS

/-! ### Conveniences of the model -/

/-- Apply `f` when `b` holds. -/
def when' (b : Bool) (f : State → State) (s : State) : State := if b then f s else s

/-- An event whose condition holds acts; otherwise nothing changes (log entry 8). -/
def onlyIf (b : Bool) (f : State → State) (s : State) : Out := if b then .next (f s) else .next s

end Sys2Proof.Machine
end

