-- ==== Sys2Proof/Machine/Flags.lean ====
section
/-! DEFINITION. What the module raises: sideband outputs and alerts, interrupts, trace records and triggers, counters,
fault records, event-log records, tap-ring records and sync objects. -/

namespace Sys2Proof.Machine

open Sys2Proof

/-! ### Sideband outputs (R555, R569) -/

def outAlert : Nat := 0
def outHotrst : Nat := 1
def outTrip : Nat := 2
def outWarn : Nat := 3
def outFault : Nat := 4
def outReady : Nat := 5
def outPwrgd : Nat := 6

/-- Assert or release a sideband output. -/
def State.setOut (s : State) (i : Nat) (b : Bool) : State := s.setBit SVC_SIDEBAND_OUT i b

/-- Whether a sideband output is asserted. -/
def State.outOn (s : State) (i : Nat) : Bool := bitOf (s.getF SVC_SIDEBAND_OUT) i

/-- Any bit of `SVC_ALERT` is 1. -/
def State.anyAlert (s : State) : Bool :=
  s.flag SVC_ALERT_DEGRADED || s.flag SVC_ALERT_SENSOR || s.flag SVC_ALERT_FAULT || s.flag SVC_ALERT_THERM
    || s.flag SVC_ALERT_STATE || s.flag SVC_ALERT_BOOTERR

/-- `FAULT_N` and `ALERT_N` follow their conditions (R555). -/
def State.syncPins (s : State) : State :=
  (s.setOut outFault (s.flag RST_FAULT0_VALID || s.getF SEC_BOOT_ERR != 0 || s.power.failed)).setOut outAlert s.anyAlert

/-- Set a bit of `SVC_ALERT`. -/
def State.alert (s : State) (f : Fld) : State := (s.setF f 1).syncPins

/-- The always-on block latches a failure that awaits a power cycle: FAULT_N and HOTRST_REQ_N (R31, R427, R482). -/
def State.latchFail (s : State) : State :=
  ({ s with power := { s.power with failed := true, life := .latched } }.setOut outHotrst true).syncPins

/-! ### Interrupts (R510, R511) -/

/-- A word of an MSI-X table entry; the mask bit (word 3, bit 0) is 1 after reset. -/
def State.msixWord (s : State) (fn vec w : Nat) : Nat :=
  s.host.msix.get (if w = 3 then 1 else 0) ((fn * 128 + vec) * 4 + w)

/-- Send a vector of a function: its pending bit while the entry is masked, whether or not MSI-X is enabled; else a message
when it is enabled (R511; log entry 31). -/
def State.irq (s : State) (fn vec : Nat) : State :=
  if s.msixWord fn vec 3 % 2 = 1 then
    { s with host := { s.host with pba := s.host.pba.set false (fn * 128 + vec) true } }
  else if s.host.msixOn.contains fn then { s with irqs := (fn, vec) :: s.irqs }
  else s

/-- Queue `q`'s interrupt (R511). -/
def State.queueIrq (s : State) (q : Nat) : State :=
  let c := s.getF (QUE_CFG_CTX q)
  s.irq (if s.vfOn c && s.host.msixOn.contains (c + 1) then c + 1 else 0) q

/-! ### Trace (R498–R501) -/

/-- The classes that are always enabled. -/
def traceForced (cls : Nat) : Bool := cls == 5 || cls == 8 || cls == 15

/-- The trace takes records: not frozen, not full, and its post-trigger part not used up. -/
def State.traceOpen (s : State) : Bool :=
  !s.flag OBS_TRSTAT_FROZEN && !s.flag OBS_TRSTAT_FULL && s.trace.post != some 0
    && decide (s.getF OBS_TRSTAT_WOFF < s.traceBytes)

/-- The 32 bytes of a trace record (R498). -/
def traceBytesOf (time cls sub ctx queue seq d0 d1 : Nat) : List Byte :=
  leBytes 8 time ++ leBytes 1 cls ++ leBytes 1 sub ++ leBytes 1 ctx ++ leBytes 1 queue ++ leBytes 4 seq ++ leBytes 8 d0
    ++ leBytes 8 d1

/-- Write a record into the trace region. In STOP_FULL the region's end is reached when the offset equals `T`. -/
def State.traceWrite (s : State) (cls sub ctx queue d0 d1 : Nat) : State :=
  if s.traceOpen then
    let off := s.getF OBS_TRSTAT_WOFF
    let s := s.dwrite (s.saggar + off) (traceBytesOf s.now cls sub ctx queue s.trace.seq d0 d1)
    let nxt := off + 32
    let nxt := if s.getF OBS_TRCFG_MODE = 1 then nxt else if s.traceBytes ≤ nxt then 0 else nxt
    let s := s.setF OBS_TRSTAT_WOFF nxt
    let s := s.incF (OBS_GCNT_COUNT 0x2E) 1
    { s with trace := ⟨(s.trace.seq + 1) % 2 ^ 32, s.trace.post.map (· - 1)⟩ }
  else s

/-- A record of a class, when the class is enabled. -/
def State.traceRec (s : State) (cls sub ctx queue d0 d1 : Nat) : State :=
  if traceForced cls || bitOf (s.getF OBS_TRCFG_CLASSES) cls then s.traceWrite cls sub ctx queue d0 d1 else s

/-- The post-trigger records of TRIGGER mode (R499). -/
def State.postCount (s : State) : Nat := (16 - s.getF OBS_TRCFG_PRE) * (s.traceBytes / 32) / 16

/-- A trigger cause fires: the first after a rearm writes the trigger record (R501). -/
def State.trigger (s : State) (cause value : Nat) : State :=
  if bitOf (s.getF OBS_TRTRIG_ARM) (cause - 1) && !s.flag OBS_TRSTAT_TRIGD && !s.flag OBS_TRSTAT_FROZEN then
    let off := s.getF OBS_TRSTAT_WOFF
    let s := s.traceWrite 15 cause 0 0 off value
    let s := s.setFs [(OBS_TRSTAT_TRIGD, 1), (OBS_TRSTAT_CAUSE, cause), (OBS_TRPOS_TOFF, off)]
    if s.getF OBS_TRCFG_MODE = 2 then { s with trace := { s.trace with post := some s.postCount } } else s
  else s

/-! ### Counters (R484–R488) -/

/-- Whether a code names a context event, or a global event. -/
def ctxEvent (e : Nat) : Bool :=
  decide (e ≤ 0x0D) || (decide (0x10 ≤ e) && decide (e ≤ 0x1E)) || (decide (0x20 ≤ e) && decide (e ≤ 0x23))
    || (decide (0x28 ≤ e) && decide (e ≤ 0x2A))
def globalEvent (e : Nat) : Bool := decide (0x40 ≤ e) && decide (e < 0x90)

/-- The COUNTER cause is looked at after a counter has moved (R501). -/
def State.counterTrigger (s : State) (e c : Nat) (v : Nat) : State :=
  if s.getF OBS_TRTRIG_CNT_SEL = e && (globalEvent e || s.getF OBS_TRTRIG_CNT_CTX = c)
    && decide (s.getF OBS_TRTHR_THR ≤ v) then s.trigger 3 v
  else s

/-- Add to context event `e` of context `c`, modulo 2⁴⁸ (R486). -/
def State.count (s : State) (c e n : Nat) : State :=
  if n = 0 then s
  else
    let s := s.incF (OBS_CNT_COUNT c e) n
    s.counterTrigger e c (s.getF (OBS_CNT_COUNT c e))

/-- Add to global event `e`. -/
def State.gcount (s : State) (e n : Nat) : State :=
  if n = 0 then s
  else
    let s := s.incF (OBS_GCNT_COUNT (e - 0x40)) n
    s.counterTrigger e 0 (s.getF (OBS_GCNT_COUNT (e - 0x40)))

/-- Add to several context events. -/
def State.countAll (s : State) (c : Nat) (l : List (Nat × Nat)) : State := l.foldl (fun s p => s.count c p.1 p.2) s

/-! ### Event log (R532, R533) -/

/-- The 64 bytes of an event-log record. -/
def eventBytes (ty persist seq time : Nat) (body : List Byte) : List Byte :=
  let head := leBytes 2 ty ++ leBytes 2 persist ++ leBytes 4 seq ++ leBytes 8 time ++ (body ++ List.replicate 44 0).take 44
  head ++ leBytes 4 (crc32c head)

/-- The NVM address of an event-log slot: 256 blocks of 1,024 records. -/
def eventAddr (pos : Nat) : Nat := 0x3900000 + pos % (256 * 1024) * 64

/-- Append a record at the head of the log. -/
def State.logEvent (s : State) (ty persist : Nat) (body : List Byte) : State :=
  let time := if s.flag FLU_TSTAT_SYNCED then s.now else 0
  let s := s.nwrite (eventAddr s.stoker.evPos) (eventBytes ty persist s.stoker.evSeq time body)
  { s with stoker := { s.stoker with evSeq := (s.stoker.evSeq + 1) % 2 ^ 32, evPos := (s.stoker.evPos + 1) % (256 * 1024) } }

/-! ### Fault records (R464–R466, R483, R510) -/

/-- What a fault record says. -/
structure FaultRec where
  recovery : Bool
  cause : Nat
  owner : Option (Nat × Nat × Nat × Nat)
  inst : Option (Nat × Nat × Nat)
  stuck : Option (Nat × Nat)
  addr : Nat
  remote : Option Nat
deriving DecidableEq, Repr

/-- A record without owner, instance or address. -/
def FaultRec.plain (cause : Nat) : FaultRec := ⟨true, cause, none, none, none, 0, none⟩

/-- The fields of a record (R483), given the `OVER` bit. `owner`: context, queue, engine, command. `inst`: tile,
Hearth, Bay. `stuck`: Bay and requester of a held port. -/
def FaultRec.fields (r : FaultRec) (over' : Bool) : List (Fld × Nat) :=
  let o := r.owner.getD (0, 0, 0, 0)
  let i := r.inst.getD (0, 0, 0)
  let k := r.stuck.getD (0, 0)
  [(RST_FAULT0_VALID, 1), (RST_FAULT0_OVER, b2n over'), (RST_FAULT0_RECOV, b2n r.recovery), (RST_FAULT0_CAUSE, r.cause),
    (RST_FAULT0_CTX, o.1), (RST_FAULT0_QUEUE, o.2.1), (RST_FAULT0_ENGINE, o.2.2.1), (RST_FAULT0_CTXV, b2n r.owner.isSome),
    (RST_FAULT1_CMD, o.2.2.2), (RST_FAULT2_TILE, i.1), (RST_FAULT2_INST, i.2.1), (RST_FAULT2_BAY, i.2.2),
    (RST_FAULT2_INSTV, b2n r.inst.isSome), (RST_FAULT2_PORTREQ, k.2), (RST_FAULT2_STUCK, b2n r.stuck.isSome),
    (RST_FAULT2_PORTBAY, k.1), (RST_FAULT3_REMOTE, b2n r.remote.isSome), (RST_FAULT3_RANK, r.remote.getD 0),
    (RST_FAULT3_ADDR, r.addr)]

/-- The pairs of a VF copy's field and the record's field (R510). -/
def vfFaultPairs (c : Nat) : List (Fld × Fld) :=
  [(VF_FAULT0_VALID c, RST_FAULT0_VALID), (VF_FAULT0_OVER c, RST_FAULT0_OVER), (VF_FAULT0_RECOV c, RST_FAULT0_RECOV),
    (VF_FAULT0_CAUSE c, RST_FAULT0_CAUSE), (VF_FAULT0_CTX c, RST_FAULT0_CTX), (VF_FAULT0_QUEUE c, RST_FAULT0_QUEUE),
    (VF_FAULT0_ENGINE c, RST_FAULT0_ENGINE), (VF_FAULT0_CTXV c, RST_FAULT0_CTXV), (VF_FAULT1_CMD c, RST_FAULT1_CMD),
    (VF_FAULT2_TILE c, RST_FAULT2_TILE), (VF_FAULT2_INST c, RST_FAULT2_INST), (VF_FAULT2_BAY c, RST_FAULT2_BAY),
    (VF_FAULT2_INSTV c, RST_FAULT2_INSTV), (VF_FAULT2_PORTREQ c, RST_FAULT2_PORTREQ),
    (VF_FAULT2_STUCK c, RST_FAULT2_STUCK), (VF_FAULT2_PORTBAY c, RST_FAULT2_PORTBAY),
    (VF_FAULT3_REMOTE c, RST_FAULT3_REMOTE), (VF_FAULT3_RANK c, RST_FAULT3_RANK), (VF_FAULT3_ADDR c, RST_FAULT3_ADDR)]

/-- Copy the record to the VF of its context, when that copy is free (R510). -/
def State.vfCopy (s : State) (c : Nat) : State :=
  if s.flag (VF_FAULT0_VALID c) then s
  else (s.setFs ((vfFaultPairs c).map fun p => (p.1, s.getF p.2))).irq (c + 1) 64

/-- A register's value composed from its fields. -/
def State.word (s : State) (l : List (Nat × Fld)) : Nat := l.foldl (fun n p => n + s.getF p.2 * 2 ^ p.1) 0

def State.fault0 (s : State) : Nat :=
  s.word [(63, RST_FAULT0_VALID), (62, RST_FAULT0_OVER), (61, RST_FAULT0_RECOV), (56, RST_FAULT0_CAUSE),
    (52, RST_FAULT0_CTX), (46, RST_FAULT0_QUEUE), (43, RST_FAULT0_ENGINE), (42, RST_FAULT0_CTXV)]

def State.fault2 (s : State) : Nat :=
  s.word [(32, RST_FAULT2_TILE), (23, RST_FAULT2_INST), (19, RST_FAULT2_BAY), (18, RST_FAULT2_INSTV),
    (15, RST_FAULT2_PORTREQ), (14, RST_FAULT2_STUCK), (10, RST_FAULT2_PORTBAY)]

def State.fault3 (s : State) : Nat := s.word [(52, RST_FAULT3_REMOTE), (40, RST_FAULT3_RANK), (0, RST_FAULT3_ADDR)]

/-- A fault (R465): written when no record is held or when it is a recovery cause, else only counted; then FAULT_N, the
alert, PF0 vector 64, the VF's copy, the class-5 trace record or the trigger record, and the freeze (R500). -/
def State.fault (s : State) (r : FaultRec) : State :=
  let held := s.flag RST_FAULT0_VALID
  if held && !r.recovery then s.addSat RST_STAT_LOST 1
  else
    let s := s.setFs (r.fields (held && r.recovery))
    let s := (s.alert SVC_ALERT_FAULT).irq 0 64
    let s := match r.owner with | some o => s.vfCopy o.1 | none => s
    let armed := bitOf (s.getF OBS_TRTRIG_ARM) 0 && !s.flag OBS_TRSTAT_TRIGD && !s.flag OBS_TRSTAT_FROZEN
    let s := if armed then s.trigger 1 s.fault0
      else s.traceRec 5 r.cause (r.owner.map (·.1) |>.getD 0) (r.owner.map (·.2.1) |>.getD 0) s.fault0 s.fault2
    s.setF OBS_TRSTAT_FROZEN 1

/-! ### Power-state and recovery steps -/

def State.pwrStat (s : State) : Nat :=
  s.word [(29, PWR_STAT_STATE), (26, PWR_STAT_STEP), (25, PWR_STAT_REFUSED), (24, PWR_STAT_CANCELLED),
    (23, PWR_STAT_LATCHED), (22, PWR_STAT_TRAINFULL), (0, PWR_STAT_WAKE_MS)]

def State.rstStat (s : State) : Nat :=
  s.word [(28, RST_STAT_STEP), (27, RST_STAT_FWNVM), (16, RST_STAT_LOST), (0, RST_STAT_COUNT)]

/-- `PWR_STAT.STATE` changes: PF0 vector 68, the alert and a class-8 record (R498, R511, R569). -/
def State.setPwrState (s : State) (v : Nat) : State :=
  if s.getF PWR_STAT_STATE = v then s
  else
    let s := ((s.setF PWR_STAT_STATE v).alert SVC_ALERT_STATE).irq 0 68
    s.traceRec 8 v 0 0 s.pwrStat s.rstStat

/-- `RST_STAT.STEP` moves: a class-8 record. -/
def State.setRstStep (s : State) (v : Nat) : State :=
  let s := s.setF RST_STAT_STEP v
  s.traceRec 8 (0x10 + v) 0 0 s.pwrStat s.rstStat

/-- `THERM_WARN_N` or `THERM_TRIP_N` changes (R511, R569). -/
def State.thermChanged (s : State) : State := (s.alert SVC_ALERT_THERM).irq 0 66

/-! ### The tap ring (R492, R493) -/

/-- One pad record. -/
def padRecord : List Byte := leBytes 32 0x5F

/-- Write a record to a context's tap ring, with the pads before it; drop it when it would make `WR` reach `RD`. -/
def State.ring (s : State) (c : Nat) (rec' : List Byte) : State :=
  let r := s.ringBytes
  let wr := s.getF (OBS_RING_WR c)
  let rdp := s.getF (OBS_RING_RD c)
  let pads := if rec'.length = 256 then (256 - wr % 256) % 256 / 32 else 0
  let total := 32 * pads + rec'.length
  let room := if rdp = wr then r else (rdp + r - wr) % r
  if !s.flag (OBS_CTX_OVWR c) && decide (room ≤ total) then s.addSat (OBS_CTX_DROPS c) 1
  else
    let bytes := (List.replicate pads padRecord).flatten ++ rec'
    let head := bytes.take (r - wr)
    let s := (s.dwrite (s.ringBase c + wr) head).dwrite (s.ringBase c) (bytes.drop (r - wr))
    s.setF (OBS_RING_WR c) ((wr + total) % r)

/-! ### Sync objects (R261–R264) -/

/-- The value of a sync object. -/
def State.sync (s : State) (n : Nat) : Nat := s.getF (SYNC_VALUE n)

/-- Whether an object lies in a context's range (R261). -/
def State.syncIn (s : State) (c n : Nat) : Bool :=
  decide (s.getF (CTX_SYNC_BASE c) ≤ n) && decide (n < s.getF (CTX_SYNC_BASE c) + s.getF (CTX_SYNC_COUNT c))

/-- An addition would carry past 2⁶⁴ − 1 (R261). -/
def State.syncOver (s : State) (n inc : Nat) : Bool := decide (2 ^ 64 ≤ s.sync n + inc)

/-- Apply a signal that does not carry: the object, the class-4 record and the SIGNAL trigger (R498, R501). `sub`: 0
local, 2 remote received. -/
def State.signalObj (s : State) (n inc sub c q : Nat) : State :=
  let s := s.setF (SYNC_VALUE n) (s.sync n + inc)
  let s := s.traceRec 4 sub c q n (s.sync n)
  if s.getF OBS_TRTRIG_SYNC_ID = n then s.trigger 4 (s.sync n) else s

/-- Add to an object; an addition that would carry leaves it unchanged (R261). -/
def State.syncAdd (s : State) (n inc sub c q : Nat) : State :=
  if s.syncOver n inc then s else s.signalObj n inc sub c q

end Sys2Proof.Machine
end

