-- ==== Sys2Proof/Machine/Start.lean ====
section
/-! DEFINITION. Queues: where commands lie, when the head command starts (R249–R258, R583), what a start does, and the
in-flight ledger (R475, R476, R480). -/

namespace Sys2Proof.Machine

open Sys2Proof

/-! ### Queue conditions -/

/-- The states of a queue (R288). -/
def qDisabled : Nat := 0
def qParked : Nat := 1
def qRunning : Nat := 2
def qWaiting : Nat := 3
def qStepHeld : Nat := 4
def qHalted : Nat := 5

/-- The module runs commands: READY reached, no recovery in progress, in ACTIVE or waiting to be quiet (R421–R424). -/
def State.running (s : State) : Bool :=
  s.power.life == .up && s.recov.isNone && (s.getF PWR_STAT_STATE == 0 || s.getF PWR_STAT_STATE == 3)

/-- Queue `q` is enabled and not halted. -/
def State.live (s : State) (q : Nat) : Bool := s.flag (QUE_CFG_EN q) && !s.flag (QUE_CTL_HALT q)

def State.ctxOf (s : State) (q : Nat) : Nat := s.getF (QUE_CFG_CTX q)
def State.headIdx (s : State) (q : Nat) : Nat := s.getF (QUE_STAT_HEAD q)
def State.setQState (s : State) (q v : Nat) : State := s.setF (QUE_STAT_STATE q) v

/-- The address of command `n` of a queue (R250). -/
def State.cmdAddr (s : State) (q n : Nat) : Nat :=
  match List.find? (fun p : Nat × Nat => decide (p.1 ≤ n)) (s.queue q).segs with
  | some (i, a) => a + 64 * (n - i)
  | none => s.getF (QUE_PTR_ADDR q 0) * 64 + 64 * n

/-- The commands of a queue in flight, oldest first. -/
def State.flightsOf (s : State) (q : Nat) : List Flight := s.flights.filter fun f => f.q == q

/-- Replace the flight of command `n` of queue `q`. -/
def State.setFlight (s : State) (f : Flight) : State :=
  { s with flights := s.flights.map fun g => if g.q == f.q && g.n == f.n then f else g }

/-- The flight of command `n` of queue `q`. -/
def State.flight? (s : State) (q n : Nat) : Option Flight := List.find? (fun f : Flight => f.q == q && f.n == n) s.flights

def isBarrier (o : Nat) : Bool := o == 0x03 || o == 0x04 || o == 0x05 || o == 0x71

/-- Every tile of a flight has been placed once (R258). -/
def Flight.allPlaced (f : Flight) : Bool := f.total ≤ f.nextTile

/-- An evaluation command: the flag, or its queue (R256). -/
def State.evalOf (s : State) (q : Nat) (ws : List Byte) : Bool := cEval ws || s.flag (QUE_CFG_EVAL q)

/-- Command bytes. -/
def State.cmdBytes (s : State) (q n : Nat) : List Byte :=
  let a := s.cmdAddr q n
  (List.range 64).map fun i => s.vbyte (s.ctxOf q) (a + i)

/-- What reading command `n` gives: its bytes, or the status of R583 and the uncorrectable line. -/
def State.fetchCmd (s : State) (q n : Nat) : Except (Status × Option Nat) (List Byte) :=
  let a := s.cmdAddr q n
  let c := s.ctxOf q
  match s.rangeTabBad c a 64 with
  | some pa => .error (.memoryUncorrectable, some pa)
  | none =>
    if s.rangeCheck c a 64 false != .ok then .error (.accessFault, none)
    else match s.rangeBad c a 64 with
      | some pa => .error (.memoryUncorrectable, some pa)
      | none => .ok (s.cmdBytes q n)

/-- Conditions on the queue alone under which its head command is due to start (R249, R252, R254, R258, R285, R287). -/
def State.due (s : State) (q : Nat) : Bool :=
  let fs := s.flightsOf q
  let n := s.headIdx q
  s.running && s.live q
    && decide (n < (s.queue q).tail) && decide (n < (s.queue q).cqHead + 4096)
    && decide (fs.length < 256)
    && fs.all (fun f => f.allPlaced && !isBarrier (cOpc f.words) && f.errs.isEmpty)
    && (!s.flag (QUE_CFG_EVAL q) || s.flag (CTX_CFG_INTERLUDE (s.ctxOf q)))

/-- A wait on an object holds (R261); an object outside the context's range does not hold the command, which then
completes ACCESS_FAULT. -/
def State.waits (s : State) (c id target : Nat) : Bool := s.syncIn c id && decide (s.sync id < target)

/-- The start conditions that a command's own words give: WAIT_EN, the operands of WAIT, and a full pending table
(R256, R266, R277, R324). -/
def State.waitHolds (s : State) (q : Nat) (ws : List Byte) : Bool :=
  let c := s.ctxOf q
  let a := wField ws 0x18 2
  let b := wField ws 0x1A 2
  (cWaitEn ws && s.waits c (cWaitId ws) (cWaitValue ws))
    || (cOpc ws == 0x02 && ((bitOf a 15 && s.waits c (bitsOf a 12 0) (wField ws 0x20 8))
        || (bitOf b 15 && s.waits c (bitsOf b 12 0) (wField ws 0x28 8))))
    || (opcEngine (cOpc ws) == 4 && decide (64 ≤ (s.coll.filter fun e => e.ctx == c).length))

/-! ### The in-flight ledger (R475) -/

/-- The BBF outputs of a plan. -/
def Plan.bbfs : Plan → List BbfOut
  | .matrix _ b => b.toList
  | .packed ps => ps.filterMap (·.2)
  | .convert _ b => b.toList
  | .update _ b => b.toList
  | _ => []

/-- The stat records and kinds that a command's writes add to (R220, R225): (record, lane). -/
def Flight.statKeys (f : Flight) (eval : Bool) : List (Nat × Bool) :=
  if cStatEn f.words && !eval then
    ((f.plan.bbfs.flatMap fun b => b.infos.map fun i => (i.statIdx, i.lane))).dedup
  else []

/-- `WMARK`: every tile below it is written. -/
def wmark (done : List Nat) (total : Nat) : Nat :=
  ((List.range total).find? fun i => !done.contains i).getD total

/-- The `PHASE` of a slot: 2 for a command past the decision of R181, also while it runs update tiles again (R189, R475). -/
def Flight.slotPhase (f : Flight) : Nat := if f.esc.isSome then 2 else f.phase

/-- The 704 bytes of a command's slot. -/
def Flight.slotBytes (f : Flight) : List Byte :=
  let wm := wmark f.done f.total
  let map := (List.range 576).map fun i =>
    BitVec.ofNat 8 ((List.range 8).foldl (fun n b => if f.done.contains (wm + 8 * i + b) then n + 2 ^ b else n) 0)
  leBytes 8 (2 ^ 63 + f.slotPhase * 2 ^ 60 + f.res * 2 ^ 58 + f.n % 2 ^ 48) ++ leBytes 4 f.total ++ leBytes 4 wm
    ++ leBytes 4 (f.torn.getD 0xFFFFFFFF) ++ leBytes 2 f.accFirst ++ leBytes 2 f.accCount ++ leBytes 40 0
    ++ (f.words ++ List.replicate 64 0).take 64 ++ map

/-- The address of a command's slot. -/
def slotAddr (q n : Nat) : Nat := ledgerBase + 0x30000 * q + 0x1000 + 0x2C0 * (n % 256)

/-- Write a command's slot. -/
def State.putSlot (s : State) (f : Flight) : State := s.dwrite (slotAddr f.q f.n) f.slotBytes

/-- Write a queue's header: `DONE` and `LHEAD`. -/
def State.putQHeader (s : State) (q done : Nat) : State :=
  s.dwrite (ledgerBase + 0x30000 * q) (leBytes 8 (done % 2 ^ 48) ++ leBytes 8 (s.headIdx q) ++ leBytes 48 0)

/-- `DONE`: the lowest index whose record is not yet written. -/
def State.doneIdx (s : State) (q : Nat) : Nat :=
  match s.flightsOf q with
  | f :: _ => f.n
  | [] => s.headIdx q

/-- Free entries of a queue's accumulation pool (R475, R476). -/
def State.accFree (s : State) (q : Nat) : Nat := 512 - ((s.flightsOf q).map (·.accCount)).sum

/-- The slot of the head command describes it and may be resumed (R480). -/
def State.resumable (s : State) (q n : Nat) (ws : List Byte) : Bool :=
  let w := s.dnat (slotAddr q n) 8
  decide (n < (s.queue q).resumeTo) && bitOf w 63 && bitsOf w 47 0 == n && bitsOf w 59 58 == 0
    && (List.range 64).map (fun i => s.dbyte (slotAddr q n + 0x40 + i)) == ws
    && !(s.flag (RST_QMODE_WHOLE q) && cIdemp ws)

/-- The step counter and the window at a command's start: those of its first start when it resumes (R160, R207, R226). -/
def State.startPoint (s : State) (q n : Nat) (ws : List Byte) : Nat × Nat :=
  let c := s.ctxOf q
  let now := (s.getF (CTX_STEP_STEP c), s.getF (CTX_GOVWIN_WIN c))
  if s.resumable q n ws then ((List.find? (fun p : Nat × Nat × Nat => p.1 == n) (s.queue q).starts).map (·.2)).getD now
  else now

/-- What a command sees at its start. -/
def State.env (s : State) (q : Nat) (ws : List Byte) : Env :=
  let c := s.ctxOf q
  let st := s.startPoint q (s.headIdx q) ws
  { rd := s.vbyte c
    check := fun a len w => s.rangeCheck c a len w
    bad := fun a len => s.rangeBad c a len
    badTab := fun a len => s.rangeTabBad c a len
    tgt := fun a _ => s.rangeTarget c a
    tabBase := fun i => s.getF (CTX_TAB_BASE c i) * 64
    tabLen := fun i => s.getF (CTX_TAB_LEN c i)
    step := st.1
    win := st.2
    escEn := s.flag (CTX_SCALECFG_ESC_EN c)
    ashFrac := s.getF (CTX_SCALECFG_ASH_FRAC c)
    reemitFrac := s.getF (CTX_SCALECFG_REEMIT_FRAC c)
    eval := s.evalOf q ws
    governed := s.getF (CTX_GOVCFG_MODE c) == 1 && !s.evalOf q ws
    rank := s.getF FLU_POS_RANK
    engine := s.getF (QUE_CFG_ENGINE q)
    syncBase := s.getF (CTX_SYNC_BASE c)
    syncCount := s.getF (CTX_SYNC_COUNT c)
    keyHeld := fun seq => s.coll.any fun e => e.ctx == c && e.job == s.getF (CTX_CFG_JOB c) && e.seq == seq }

/-- The tiles that a slot marks written. -/
def State.slotDone (s : State) (q n total : Nat) : List Nat :=
  let a := slotAddr q n
  let wm := s.dnat (a + 0xC) 4
  (List.range total).filter fun t => decide (t < wm)
    || (decide (t < wm + 4608) && bitOf (s.dnat (a + 0x80 + (t - wm) / 8) 1) ((t - wm) % 8))

/-- The `PHASE` that a slot records. -/
def State.slotPhase (s : State) (q n : Nat) : Nat := bitsOf (s.dnat (slotAddr q n) 8) 62 60

/-- The address of an entry of a queue's accumulation pool (R475). -/
def accAddr (q i : Nat) : Nat := ledgerBase + 0xC00000 + 0x10000 * q + 128 * (i % 512)

/-- The accumulation that a slot's entries hold: stat record, lane, counters and amax (R475, R226). -/
def State.slotHeld (s : State) (q n : Nat) : List (Nat × Bool × StatCounts × Nat) :=
  let a := slotAddr q n
  (List.range (s.dnat (a + 0x16) 2)).map fun i =>
    let e := accAddr q (s.dnat (a + 0x14) 2 + i)
    (s.dnat e 4, bitOf (s.dnat (e + 8) 1) 0, readBank s.dbyte (e + 0x20), s.dnat (e + 0xC) 4)

/-! ### Starting -/

/-- A flight at its start. -/
def Flight.fresh (q n addr : Nat) (ws : List Byte) (plan : Plan) (total : Nat) (errs : List Status) : Flight :=
  { q := q, n := n, addr := addr, words := ws, plan := plan, total := total, nextTile := 0, again := [], running := []
    done := [], failed := [], retryCnt := [], retries := 0, units := [], esc := none, emitted := false, errs := errs
    stepAt := 0, winAt := 0, tStart := 0, snapSel := [], snapStart := [], ready := false, recomputed := false, frozen := 0
    convAsh := 0, convClink := 0, remotes := [], lane := [], resumed := false, phase := 0, res := 0, torn := none
    accFirst := 0, accCount := 0, mism := [], parts := [], held := []
    energy := 0, dig := (0, 0) }

/-- The 16 event codes that a context selects, and its counters at this moment (R489). -/
def State.selected (s : State) (c : Nat) : List Nat :=
  (List.range 16).map fun i => s.getF (OBS_SEL_SEL c (i / 8)) / 2 ^ (8 * (i % 8)) % 256
def State.latches (s : State) (c : Nat) (sel : List Nat) : List Nat := sel.map fun e => s.getF (OBS_CNT_COUNT c e)

/-- Every page of the ranges that a plan names. -/
def Plan.pages : Plan → List Nat
  | .control => []
  | .matrix op _ => (op.a.ranges ++ op.b.ranges ++ op.out.ranges).flatMap fun r => pagesOf r.1 r.2
  | .packed ps => ps.flatMap fun p => (p.1.a.ranges ++ p.1.b.ranges ++ p.1.out.ranges).flatMap fun r => pagesOf r.1 r.2
  | .convert op _ => (op.inp.ranges ++ op.out.ranges).flatMap fun r => pagesOf r.1 r.2
  | .vector op => (op.inp.ranges ++ op.out.ranges).flatMap fun r => pagesOf r.1 r.2
  | .move op => pagesOf op.src op.len ++ (if op.dstT = .device || op.dstT = .host then pagesOf op.dst op.len else [])
  | .reduce op => if op.kind = .digestCheck then pagesOf op.buf 16 else pagesOf op.buf (op.size * 2 ^ 20)
  | .update op b =>
    pagesOf op.wHiSrc (4 * op.npar) ++ pagesOf op.wExtSrc (2 * op.npar) ++ pagesOf op.wHiDst (4 * op.npar)
      ++ pagesOf op.wExtDst (2 * op.npar) ++ pagesOf op.grad (4 * op.npar)
      ++ ((b.map fun o => o.td.ranges.flatMap fun r => pagesOf r.1 r.2).getD [])
  | .digest hi ext npar _ _ => pagesOf hi (4 * npar) ++ pagesOf ext (2 * npar)

/-- Write back the ledger entries that a start folded (R172); EVAL writes none (R188). -/
def State.writeFolds (s : State) (c : Nat) (eval : Bool) (b : BbfOut) : State :=
  if eval then s
  else b.ledger.foldl (fun s p => s.vwrite c (s.getF (CTX_TAB_BASE c 1) * 64 + 16 * p.1) p.2.bytes) s

/-- Note the step and window of a start, dropping those of commands whose slots later commands have taken (R475). -/
def State.noteStart (s : State) (f : Flight) : State :=
  let r := s.queue f.q
  let old := r.starts.filter fun p => p.1 != f.n && decide (f.n < p.1 + 256) && decide (p.1 < f.n + 256)
  s.setQueue f.q { r with starts := (f.n, f.stepAt, f.winAt) :: old }

/-- The trace record, header latches and head advance common to every start (R258, R475, R489, R498). -/
def State.launch (s : State) (f : Flight) : State :=
  let c := s.ctxOf f.q
  let sel := s.selected c
  let st := s.startPoint f.q f.n f.words
  let f := { f with stepAt := st.1, winAt := st.2, tStart := s.now, snapSel := sel, snapStart := s.latches c sel }
  let s := { s with flights := s.flights ++ [f] }
  let s := s.noteStart f
  let s := (s.setF (QUE_STAT_HEAD f.q) (f.n + 1)).setQState f.q qRunning
  let s := s.traceRec 1 (cOpc f.words) c f.q f.n (cTag f.words)
  (s.putSlot f).putQHeader f.q (s.doneIdx f.q)

/-- A row of a stack is due to be spared (R385). -/
def State.rowDue (s : State) (b row : Nat) : State :=
  let r := s.stackPort b
  if r.due.contains row then s else s.setStackPort b { r with due := r.due ++ [row] }

/-- Count an uncorrectable line: `MEM_ERRb.UE`, the address ring, and its row, which is to be spared (R381, R385,
R397). -/
def State.ueFound (s : State) (pa : Nat) (scrub : Bool) (ctx : Nat) : State :=
  let at' := s.stackAddr pa
  let s := s.rowDue at'.1 (at'.2 / 2048)
  let s := s.addSat (MEM_ERR_UE (s.stackAddr pa).1) 1
  let i := s.getF MEM_UEPTR_NEXT
  let s := s.setFs [(MEM_UEADR_VALID i, 1), (MEM_UEADR_SRC_SCRUB i, b2n scrub), (MEM_UEADR_CTX i, if scrub then 0 else ctx),
    (MEM_UEADR_ADDR i, pa / 64)]
  s.incF MEM_UEPTR_NEXT 1

/-- A command meets an uncorrectable line outside its tiles: the line is reported, and a fault record of cause MEM_UNCORR
names the command without instance (R246, R381, R466, R583). -/
def State.memFault (s : State) (q n pa : Nat) : State :=
  (s.ueFound pa false (s.ctxOf q)).fault ⟨false, 2, some (s.ctxOf q, q, s.getF (QUE_CFG_ENGINE q), n), none, none, pa, none⟩

/-- Command `n` cannot be read (R583): a flight that ends with the status and no effect. -/
def State.startUnreadable (s : State) (q : Nat) (e : Status × Option Nat) : State :=
  let n := s.headIdx q
  let s := s.launch (Flight.fresh q n (s.cmdAddr q n) (List.replicate 64 0) .control 0 [e.1])
  match e.2 with
  | some pa => s.memFault q n pa
  | none => s

/-- A new collective entry (R324). -/
def CollEntry.fresh (q n c job seq tag : Nat) : CollEntry :=
  { q := q, n := n, ctx := c, job := job, seq := seq, ready := [], staged := [], sentUp := [], sentDown := []
    ackedUp := [], ackedDown := [], written := [], laneIn := [], lane := none, upAcks := [], tag := tag, digIn := []
    dig := none }

/-- The next packet tag. -/
def State.newTag (s : State) : Nat × State :=
  (s.flue.ptag, { s with flue := { s.flue with ptag := (s.flue.ptag + 1) % 2 ^ 16 } })

/-- A command that fails its start checks or its wait: it ends with that status, before any effect (R17, R246, R266,
R284). Its record counts the tiles that its own words cut it into (R278, R282). -/
def State.startRejected (s : State) (q : Nat) (ws : List Byte) (e : Status × Option Nat) : State :=
  let n := s.headIdx q
  let total := commandTiles (s.env q ws) ws
  let s := s.launch { Flight.fresh q n (s.cmdAddr q n) ws .control total [e.1] with nextTile := total }
  match e.2 with
  | some pa => s.memFault q n pa
  | none => s

/-- A command that passes its start checks: LINK lays its segment (R250), folded entries are written back, a collective
takes its entry, accumulation entries are taken, and a resumed command takes its written tiles (R480). A resumed
STEP_MARK whose barrier has acted and whose interlude has closed holds no longer (R287, R477). -/
def State.startAccepted (s : State) (q : Nat) (ws : List Byte) (plan : Plan) : State :=
  let n := s.headIdx q
  let c := s.ctxOf q
  let eval := s.evalOf q ws
  let s := s.cachePages c plan.pages
  let f := Flight.fresh q n (s.cmdAddr q n) ws plan plan.tiles []
  let keys := (f.statKeys eval).length
  let resume := s.resumable q n ws && f.total != 0
  let first := s.accNext.get 0 q
  let acted := cOpc ws == 0x04 && s.resumable q n ws && s.slotPhase q n == 5
  let holds := cOpc ws == 0x04 && (s.flag (QUE_CFG_EVAL q) || s.flag (QUE_CFG_STEPPED q))
    && !(acted && !s.flag (CTX_CFG_INTERLUDE c))
  let f := { f with
    res := (match plan with | .reduce _ => 2 | _ => 0)
    ready := acted && !holds
    accFirst := first, accCount := keys, resumed := resume
    phase := if resume || acted then s.slotPhase q n else 0
    held := if resume && s.slotPhase q n != 3 then s.slotHeld q n else []
    done := if resume then s.slotDone q n f.total else [] }
  let s := { s with accNext := s.accNext.set 0 q ((first + keys) % 512) }
  let s := plan.bbfs.foldl (fun s b => s.writeFolds c eval b) s
  let s := if cOpc ws = 0x01 then
      let r := s.queue q
      s.setQueue q { r with segs := (n + 1, wField ws 0x18 6) :: r.segs }
    else s
  let s := match plan with
    | .reduce op =>
      let (tag, s) := s.newTag
      let e := CollEntry.fresh q n c (s.getF (CTX_CFG_JOB c)) op.seq tag
      let s := { s with coll := s.coll ++ [e] }
      s.addSat (FLU_RED_OCC c) 1
    | _ => s
  let s := if holds then
      let r := s.queue q
      s.setQueue q { r with mark := some (bitOf (wField ws 0x18 1) 0, wField ws 0x20 8) }
    else s
  let s := s.launch f
  if holds then s.setQState q qStepHeld else s

/-- The start checks of the head command: the decode, and the accumulation entries that its writes need (R476). -/
def State.startCheck (s : State) (q : Nat) (ws : List Byte) : Except (Status × Option Nat) Plan :=
  match decodeCommand (s.env q ws) ws with
  | .error e => .error e
  | .ok plan =>
    if 512 < ((Flight.fresh q 0 0 ws plan plan.tiles []).statKeys (s.evalOf q ws)).length then .error (.formatConflict, none)
    else .ok plan

/-- The head command needs more accumulation entries than the pool has free; this hold is not timed (R476). -/
def State.accHolds (s : State) (q : Nat) (ws : List Byte) (plan : Plan) : Bool :=
  decide (s.accFree q < ((Flight.fresh q 0 0 ws plan plan.tiles []).statKeys (s.evalOf q ws)).length)

/-- The start fails only because ATS refuses a host page: with every page granted it would not (R517). -/
def State.xlateRefused (s : State) (q : Nat) (ws : List Byte) (e : Status) : Bool :=
  e == .accessFault && !s.host.atsDeny.isEmpty &&
    match ({ s with host := { s.host with atsDeny := [] } } : State).startCheck q ws with
    | .error x => x.1 != .accessFault
    | .ok _ => true

/-- The head command of a queue that is due: a barrier holds for the earlier commands (R258); it waits; or it starts. -/
def State.startHead (s : State) (q : Nat) (ws : List Byte) : State :=
  if isBarrier (cOpc ws) && !(s.flightsOf q).isEmpty then s
  else if s.waitHolds q ws then s.setQState q qWaiting
  else
    match s.startCheck q ws with
    | .error e => (if s.xlateRefused q ws e.1 then s.addSat CXL_ERR_XLATE 1 else s).startRejected q ws e
    | .ok plan => if s.accHolds q ws plan then s else s.startAccepted q ws plan

/-- A queue whose head command is due and cannot be read starts it as R583 says. -/
def State.startIfUnreadable (s : State) (q : Nat) : State :=
  if s.due q then
    match s.fetchCmd q (s.headIdx q) with
    | .error e => s.startUnreadable q e
    | .ok _ => s
  else s

/-- The row of an opcode: it starts the head command of queue `q` when that command carries an opcode that `p` admits;
an unreadable head starts under any row (log entry 9). -/
def State.startRow (s : State) (q : Nat) (p : Nat → Bool) : State :=
  if s.due q then
    match s.fetchCmd q (s.headIdx q) with
    | .error e => s.startUnreadable q e
    | .ok ws => if p (cOpc ws) then s.startHead q ws else s
  else s

end Sys2Proof.Machine
end

