-- ==== Sys2Proof/Machine/Values.lean ====
section
/-! DEFINITION. What each tile reads and computes, over the bytes that its command sees: the inputs of the Glaze opcodes
(R162–R164), the values of a scale unit (R170, R183, R304), its emission, counts and bytes (R148–R160, R172–R180,
R220–R223), the rows of the vector opcodes (R272), the update blocks (R296–R300) and the products counted (R484). -/

namespace Sys2Proof.Machine

open Sys2Proof

/-! ### Inputs of the Glaze opcodes -/

/-- The decoded values of block (tk, tO) of a tensor; `none` for a tile that R64 or R580 makes faulty. MX input that is
not imported is rounded to FP32 (R162). -/
def inDecoded (rd : Nat → Byte) (t : TDesc) (tk tO : Nat) : Option (List (List FV)) :=
  let vals (f : Nat → Nat → FV) : List (List FV) := (tileSpan tO t.rows).map fun o => (tileSpan tk t.cols).map fun k => f o k
  if t.kind = kBBF then
    match readHdr rd (t.tileAddr tk tO) t.stride with
    | none => none
    | some h => if h.fmt.isCb then none else some (vals fun o k => decodedAt rd t o k)
  else if t.kind = kMX then some (vals fun o k => fl32 (mxValue rd t o k))
  else some (vals fun o k => t.wideAt rd o k)

/-- The header of block (tk, tO), for a BBF tensor. -/
def blockHdr (rd : Nat → Byte) (t : TDesc) (tk tO : Nat) : Option TileHdr :=
  if t.kind = kBBF && decide (tk < t.kTiles) then readHdr rd (t.tileAddr tk tO) t.stride else none

/-- Split pairs of lines of a pair of tiles and take the half that belongs to `tk`. -/
def halfOf (tk : Nat) (l : List FV) : List FV := if tk % 2 = 0 then l.take 128 else l.drop 128

/-- What a rotation does to a line: direction, size, key, index of its first rotation block, values. -/
abbrev RunFn := Bool → Nat → Nat → Nat → List FV → List FV

/-- The marks of R144 in place of a rotation's outputs: infinity where the rotation block has a non-finite input, else
zero. -/
def poisonRun : RunFn := fun _ n _ _ l =>
  (List.range (l.length / n)).flatMap fun j =>
    let blk := (l.drop (n * j)).take n
    blk.map fun _ => if blk.any fun v => !v.isFin then .inf false else FV.zero

/-- The values of block (tk, tO) with its stored rotation undone by `run` (R163, R164); `none` where it cannot be
undone. -/
def inUndoneBy (run : RunFn) (rd : Nat → Byte) (t : TDesc) (undo : Bool) (keys : List (Nat × Nat)) (tk tO : Nat) :
    Option (List (List FV)) :=
  match blockHdr rd t tk tO with
  | none => inDecoded rd t tk tO
  | some h =>
    if !undo || h.rot == 0 then inDecoded rd t tk tO
    else
      let n := rotSize h.rot
      let key := ((keys.find? fun p => p.1 == h.rotId).map (·.2)).getD 0
      if n ≤ 128 then
        if (tileSpan tk t.cols).length % n != 0 then none
        else (inDecoded rd t tk tO).map fun ls => ls.map fun l => run false n key (128 * tk / n) l
      else
        let pair := tk / 2 * 2
        match blockHdr rd t (if tk % 2 = 0 then tk + 1 else tk - 1) tO with
        | none => none
        | some g =>
          if g.rot != h.rot || g.rotId != h.rotId || decide (t.cols < 128 * pair + 256) then none
          else (inDecoded rd t pair tO).bind fun a => (inDecoded rd t (pair + 1) tO).map fun b =>
            (a.zip b).map fun p => halfOf tk (run false n key (tk / 2) (p.1 ++ p.2))

/-- The values of block (tk, tO) with its stored rotation undone (R163, R164). -/
def inUndone (rd : Nat → Byte) (t : TDesc) (undo : Bool) (keys : List (Nat × Nat)) (tk tO : Nat) :
    Option (List (List FV)) := inUndoneBy rotateRun rd t undo keys tk tO

/-- Apply a rotation by `run` to block (tk, ·), given every block's values: sizes to 128 stay in the tile, 256 pairs two
(R139). -/
def rotateTileBy (run : RunFn) (fwd : Bool) (rot key tk : Nat) (get : Nat → Option (List (List FV))) :
    Option (List (List FV)) :=
  let n := rotSize rot
  if rot = 0 then get tk
  else if n ≤ 128 then (get tk).map fun ls => ls.map fun l => run fwd n key (128 * tk / n) l
  else
    let pair := tk / 2 * 2
    (get pair).bind fun a => (get (pair + 1)).map fun b =>
      (a.zip b).map fun p => halfOf tk (run fwd n key (tk / 2) (p.1 ++ p.2))

/-- Apply a rotation to block (tk, ·), given every block's values (R139). -/
def rotateTile (fwd : Bool) (rot key tk : Nat) (get : Nat → Option (List (List FV))) : Option (List (List FV)) :=
  rotateTileBy rotateRun fwd rot key tk get

/-! ### Scale units -/

/-- The output, its problem and the unit there, of unit `u` of a plan; MATMUL_PACKED numbers its problems' units on. -/
def Plan.unitAt (p : Plan) (u : Nat) : Option (Nat × BbfOut × Nat) :=
  match p with
  | .packed ps =>
    (ps.zipIdx.foldl (fun (st : Option (Nat × BbfOut × Nat) × Nat) q =>
      match st.1, q.1.2 with
      | none, some b => if u < st.2 + b.unitCount then (some (q.2, b, u - st.2), 0) else (none, st.2 + b.unitCount)
      | _, _ => st) (none, 0)).1
  | p => p.bbfs.head?.bind fun b => if u < b.unitCount then some (0, b, u) else none

/-- Scale units of a plan. -/
def Plan.units (p : Plan) : Nat := (p.bbfs.map (·.unitCount)).sum

/-- Update tiles of an UPDATE (R278). -/
def UpdOp.tiles (op : UpdOp) : Nat := ceilDiv op.npar 4096

/-- The dispatch tiles that form a unit (R278). -/
def Plan.unitTileIdx (p : Plan) (u : Nat) : List Nat :=
  match p with
  | .matrix op _ => (List.range op.segments).map fun j => u * op.segments + j
  | .packed _ => [0]
  | .update op _ => [op.tiles + u]
  | _ => [u]

/-- The FP32 value of parameter `i` in a high plane (R304, R305). -/
def planeAt (rd : Nat → Byte) (a i : Nat) : FV := ofBits32 (rdNat rd (a + 4 * i) 4)

/-- The unrotated values of output block (tk, tO), by problem. -/
def Plan.rawBlock (rd : Nat → Byte) (p : Plan) (pi : Nat) (td : TDesc) (tO tk : Nat) : Option (List (List FV)) :=
  let mat (op : MatOp) := if matTileFaulty rd op tO tk then none else some (matTile rd op tO tk).1
  match p with
  | .matrix op _ => mat op
  | .packed ps => (ps[pi]?).bind fun q => mat q.1
  | .convert op _ => inUndone rd op.inp op.undo op.inKeys tk tO
  | .update op _ => some ((tileSpan tO td.rows).map fun o => (tileSpan tk td.cols).map fun k =>
      planeAt rd op.wHiDst (o * td.cols + k))
  | _ => none

/-- The rotated values of a unit (R142, R147, R162): `none` when a tile of it must fail (R64, R163). -/
def Plan.unitVals (rd : Nat → Byte) (p : Plan) (pi : Nat) (o : BbfOut) (u : Nat) : Option UnitVals :=
  (o.unitTiles u).mapM fun t =>
    let i := o.infoOf t.1
    (rotateTile true i.rot i.key t.1 (p.rawBlock rd pi o.td t.2)).map fun ls => (t, ls)

/-- How a unit is encoded, in its own format or in a wider one (R182). -/
def BbfOut.spec (o : BbfOut) (tk : Nat) (wide : Bool) : EncSpec :=
  let i := o.infoOf tk
  ⟨if wide then i.format.escalation.getD i.format else i.format, slotCount i.slotsCode,
    if i.sr then o.srKey else none, o.fold.isSome⟩

/-- The folded ledger entry of a unit. -/
def BbfOut.unitEntry (o : BbfOut) (u : Nat) : LEntry :=
  let t := (o.unitTiles u).headD (0, 0)
  ((o.ledger.find? fun p => p.1 == o.entryOf t.1 t.2).map (·.2)).getD ⟨0, 0, 0, false, false, false, 0, 0, 0⟩

/-- A unit goes through the ledger (R171). -/
def BbfOut.ledgered (o : BbfOut) (tk : Nat) : Bool := o.fold.isNone && !o.isImport tk

/-- A written tile: its place, scale, source code, emission number and blocks. -/
structure TileOut where
  tk : Nat
  tO : Nat
  fmt : Fmt
  scale : Ex
  src : Nat
  emit : Nat
  blocks : List Block
deriving DecidableEq, Repr

/-- The tiles of a unit as written, the observation it merges, and whether it stays unresolved. -/
structure UnitOut where
  tiles : List TileOut
  obs : Nat
  emit : Nat
  unresolved : Bool
  amax : Ex
deriving DecidableEq, Repr

def Emission.out (e : Emission) (f : Fmt) : UnitOut :=
  ⟨e.tiles.map fun t => ⟨t.1.1, t.1.2, f, e.scale, e.src, e.emit, t.2⟩, e.observation, e.emit, e.unresolved, e.amax⟩

/-- The first emission of a unit with its re-emissions; the fold-mode emission; or the import (R75, R166, R173–R179). -/
def Plan.emit (rd : Nat → Byte) (p : Plan) (o : BbfOut) (u : Nat) (vals : UnitVals) : UnitOut :=
  let tk := ((o.unitTiles u).headD (0, 0)).1
  let sp := o.spec tk false
  let kt := o.td.kTiles
  match o.fold, p with
  | some s, _ => (emitFold sp kt vals (ofBits32 s).getFin).out sp.fmt
  | none, .convert op _ =>
    if o.isImport tk then
      let ts := (o.unitTiles u).map fun t =>
        let r := importTile rd op.inp t.1 t.2 (tileSpan t.1 o.td.cols).length (tileSpan t.2 o.td.rows).length
        (⟨t.1, t.2, sp.fmt, r.1, 3, 0, r.2⟩ : TileOut)
      ⟨ts, 0, 0, false, (ts.flatMap (·.blocks)).foldl (fun a b => Ex.max a b.amax) Ex.zero⟩
    else (emitUnit sp kt (o.unitEntry u) vals).out sp.fmt
  | none, _ => (emitUnit sp kt (o.unitEntry u) vals).out sp.fmt

/-- The escalated emission of a unit and the observation it merges (R183). -/
def BbfOut.escalate (o : BbfOut) (u : Nat) (vals : UnitVals) : UnitOut :=
  let sp := o.spec ((o.unitTiles u).headD (0, 0)).1 true
  let e := emitEscalated sp o.td.kTiles (o.unitEntry u) vals
  let oAmax := unitAmax sp.slots vals
  let c := (e.corr.map fun c => Ex.max oAmax c).getD oAmax
  { e.out sp.fmt with obs := bits32 (.fin c) }

/-- The bytes of a written tile (R62, R63). `lidx`: the ledger entry; `step`: the step counter's bits [31:0]. An imported
tile has no slots, and no element of it is written by srnd() (R63, R75). -/
def BbfOut.tileBytes (o : BbfOut) (t : TileOut) (lidx step : Nat) : List Byte :=
  let i := o.infoOf t.tk
  tileBytesOut
    { fmt := t.fmt, sr := i.sr && t.src != 3, fold := o.fold.isSome, rot := i.rot
      slotsCode := if t.src = 3 then 0 else i.slotsCode, rotId := i.rotId
      scale := bits32 (.fin t.scale), validK := (tileSpan t.tk o.td.cols).length
      validLines := (tileSpan t.tO o.td.rows).length, ledgerIdx := lidx, step := step % 2 ^ 32, scaleSrc := t.src
      emit := t.emit } t.blocks

/-- The increments of events 0x10 to 0x15 for written tiles (R155–R157). -/
def blockEvents (bs : List Block) : List Nat :=
  [(bs.map fun b => countTrue b.ash).sum, (bs.map fun b => countTrue b.clinkFin + countTrue b.clinkNon).sum,
    (bs.filter (·.isZeroBlock)).length, (bs.filter (·.isClinkBlock)).length, (bs.map fun b => countTrue b.held).sum,
    (bs.filter (·.isOverflow)).length]

/-- The master value of a parameter from two planes (R49). -/
def masterAt (rd : Nat → Byte) (hi ext i : Nat) : FV := decodeMw48 (rdNat rd (hi + 4 * i) 4) (rdNat rd (ext + 2 * i) 2)

/-- The 48-bit code of a parameter's master value (R307). -/
def codeAt (rd : Nat → Byte) (hi ext i : Nat) : Nat := rdNat rd (hi + 4 * i) 4 * 2 ^ 16 + rdNat rd (ext + 2 * i) 2

/-- |w_new − w_old| of a parameter (R223, R306): `none` in place, or when either is not finite. -/
def UpdOp.moved (rd : Nat → Byte) (op : UpdOp) (i : Nat) : Option Ex :=
  if op.wHiSrc = op.wHiDst then none
  else match masterAt rd op.wHiDst op.wExtDst i, masterAt rd op.wHiSrc op.wExtSrc i with
    | .fin a, .fin b => some (a.sub b).abs
    | _, _ => none

/-- The statistics of a written tile (R221–R223, R300). -/
def Plan.tileStats (rd : Nat → Byte) (p : Plan) (o : BbfOut) (t : TileOut) : StatCounts :=
  let param (b i : Nat) : Nat := (128 * t.tO + b / 4) * o.td.cols + 128 * t.tk + 32 * (b % 4) + i
  let live (b i : Nat) : Bool := match p with
    | .update op _ => !op.freeze.getD (param b i / 4096) false
    | _ => true
  let moved (b i : Nat) : Option Ex := match p with
    | .update op _ => op.moved rd (param b i)
    | _ => none
  t.blocks.zipIdx.foldl (fun acc q => addCounts acc (blockStats q.2 q.1 (if o.fold.isSome then none else some t.scale) (live q.2) (moved q.2))) zeroCounts

/-- The record that a written unit leaves (R181, R185, R226). -/
def Plan.unitRec (rd : Nat → Byte) (p : Plan) (o : BbfOut) (u uIdx : Nat) (out : UnitOut) : UnitRec :=
  let tk := ((o.unitTiles u).headD (0, 0)).1
  let i := o.infoOf tk
  let bs := out.tiles.flatMap (·.blocks)
  let ev := blockEvents bs
  { unitIdx := uIdx, emit := out.emit, reemitted := out.emit != 0, ash := ev.getD 0 0
    values := (bs.map fun b => b.xs.length).sum, clink := ev.getD 1 0, tiles := out.tiles.length, events := ev
    statIdx := i.statIdx, lane := i.lane
    counts := out.tiles.foldl (fun acc t => addCounts acc (p.tileStats rd o t)) zeroCounts
    amax := bits32 (.fin out.amax), obs := out.obs, writes := [] }

/-! ### Wide outputs of the Glaze opcodes -/

/-- The values of output block (tk, tO) of DEQUANTISE or ROTATE with a wide or MX output (R163, R164). -/
def ConvOp.block (rd : Nat → Byte) (op : ConvOp) (tk tO : Nat) : Option (List (List FV)) :=
  rotateTile (!op.dirInv || op.kind != .rotate) (if op.kind = .rotate then op.rot else 0) op.key tk
    fun k => inUndone rd op.inp op.undo op.inKeys k tO

/-- The outputs of block (tk, tO) of DEQUANTISE or ROTATE that a rotation block with a non-finite input makes NaN (R144,
R155): those of the rotation applied, or, where none is applied, of the one undone. -/
def ConvOp.poisoned (rd : Nat → Byte) (op : ConvOp) (tk tO : Nat) : Nat :=
  let marks := if op.kind = .rotate && op.rot != 0 then
      rotateTileBy poisonRun true op.rot op.key tk fun k => inUndone rd op.inp op.undo op.inKeys k tO
    else if (blockHdr rd op.inp tk tO).any fun h => op.undo && h.rot != 0 then
      inUndoneBy poisonRun rd op.inp op.undo op.inKeys tk tO
    else none
  ((marks.getD []).flatten.filter fun v => !v.isFin).length

/-- Bytes to write at an address. -/
abbrev Writes := List (Nat × List Byte)

/-- The writes of a block of a wide tensor, line by line. -/
def wideWrites (t : TDesc) (tk tO : Nat) (ls : List (List FV)) : Writes :=
  ((tileSpan tO t.rows).zip ls).map fun p =>
    (t.base + p.1 * t.stride + t.elemBytes * (128 * tk), p.2.flatMap fun v => wideBytes t.kind v)

/-- Values lost by a narrowing write to BF16 or FP16: ash and clinker (R163). -/
def wideLosses (kind : Nat) (ls : List (List FV)) : Nat × Nat :=
  if kind = kFP32 then (0, 0)
  else
    let back (v : FV) : FV := if kind = kBF16 then ofBitsBf (bitsBf v) else ofBits16 (bits16 v)
    let vs := ls.flatten
    ((vs.filter fun v => v.isFin && v.isNonzero && !(back v).isNonzero).length,
      (vs.filter fun v => v.isFin && !(back v).isFin).length)

/-- One exported MX block (R76): scale code, element codes, ash and clinker; non-finite values convert by R55. DESIGN
CHOICE: `a`, which R76 calls the block's largest decoded magnitude, is taken over the finite values, so a block without
a finite nonzero value takes scale code 0x00 (log entry 44). -/
def exportVals (f : Fmt) (xs : List FV) : Nat × List Nat × Nat × Nat :=
  let r := exportBlock f (xs.map FV.getFin)
  (r.1, (xs.zip r.2.1).map fun p => if p.1.isFin then p.2 else f.encodeSigned (f.toNarrowV p.1 .rne),
    r.2.2.1, r.2.2.2 + (xs.filter fun x => !x.isFin).length)

/-- The exponent t of a scale that is 2ᵗ. -/
def powExp (s : Ex) : Option Int := let l := s.lam; if (s.div (Ex.pow2 l)).sub Ex.one |>.isZero then some l else none

/-- The codes of a block that R76 copies bit for bit, when its conditions hold. -/
def exportCopy (rd : Nat → Byte) (op : ConvOp) (tk tO j b : Nat) : Option (Nat × List Nat) :=
  match blockHdr rd op.inp tk tO with
  | none => none
  | some h =>
    let a := op.inp.tileAddr tk tO
    match powExp (ofBits32 h.scale).getFin with
    | none => none
    | some t =>
      let x := t - (tileShift rd a h (4 * j + b) : Int) - mxOffset h.fmt
      if op.dirInv || h.fmt != op.out.mxFmt || h.slots != 0 || decide (x < -127) || decide (127 < x) then none
      else some ((x + 127).toNat,
        (List.range (min 32 ((tileSpan tk op.inp.cols).length - 32 * b))).map fun i => tileCode rd a h j (32 * b + i))

/-- The writes of a block of an MX tensor with its losses (R74, R76). -/
def exportWrites (rd : Nat → Byte) (op : ConvOp) (tk tO : Nat) (ls : List (List FV)) : Writes × Nat × Nat :=
  let f := op.out.mxFmt
  let w := f.width
  ((ls.zipIdx.flatMap fun p => (List.range (ceilDiv p.1.length 32)).map fun b => (p.1, p.2, b)).foldl
    (fun acc q =>
      let xs := (q.1.drop (32 * q.2.2)).take 32
      let o := 128 * tO + q.2.1
      let r : Nat × List Nat × Nat × Nat := match exportCopy rd op tk tO q.2.1 q.2.2 with
        | some c => (c.1, c.2, 0, 0)
        | none => exportVals f xs
      (acc.1 ++ [(op.out.aux + o * op.out.kBlocks + 4 * tk + q.2.2, leBytes 1 r.1),
          (op.out.base + o * op.out.stride + (128 * tk + 32 * q.2.2) * w / 8,
            leBytes (ceilDiv (r.2.1.length * w) 8) (packCodes w r.2.1))],
        acc.2.1 + r.2.2.1, acc.2.2 + r.2.2.2)) ([], 0, 0))

/-! ### Vector rows -/

/-- A row of a tensor read as FP32. -/
def rowVals (rd : Nat → Byte) (t : TDesc) (o : Nat) : List FV := (List.range t.cols).map fun k => t.wideAt rd o k

/-- The INT32 label of a row (R273). -/
def labelAt (rd : Nat → Byte) (t : TDesc) (o : Nat) : Int :=
  let w := rdNat rd (t.base + o * t.stride) 4
  if w < 2 ^ 31 then (w : Int) else (w : Int) - 2 ^ 32

/-- The outputs of one row and whether its label is out of range (R272, R273). -/
def VecOp.row (rd : Nat → Byte) (op : VecOp) (o : Nat) : List FV × List FV × Bool :=
  let x := rowVals rd op.inp o
  let x2 (r : Nat) : List FV := (op.in2.map fun t => rowVals rd t r).getD (x.map fun _ => FV.one)
  match op.kind with
  | .map => ((x.zip (if op.in2.isSome then x2 o else x)).map fun p =>
      (Sys2Proof.Machine.vecMap op.func op.c0 p.1 p.2).getD .nan, [], false)
  | .norm => let r := Sys2Proof.Machine.vecNorm op.mode op.c0 x (x2 0); (r.1, [r.2], false)
  | .softmax => let r := softmaxRow op.c0 x; (r.1, [r.2], false)
  | .loss => let r := lossRow op.c0 x ((op.in2.map fun t => labelAt rd t o).getD (-1)); ([r.loss], r.grad, r.range)
  | .reduce => ([Sys2Proof.Machine.vecReduce op.mode x], [], false)

/-- The writes of a row of a wide tensor. -/
def rowWrite (t : TDesc) (o : Nat) (l : List FV) : Nat × List Byte :=
  (t.base + o * t.stride, l.flatMap fun v => wideBytes t.kind v)

/-- The writes of a VECTOR tile and its labels out of range. -/
def VecOp.tile (rd : Nat → Byte) (op : VecOp) (i : Nat) : Writes × Nat :=
  let rows := tileSpan i op.inp.rows
  let rs := rows.map fun o => (o, op.row rd o)
  (rs.flatMap fun r => rowWrite op.out r.1 r.2.1 :: (op.out2.toList.map fun t => rowWrite t r.1 r.2.2.1),
    (rs.filter fun r => r.2.2.2).length)

/-! ### Update blocks (R296–R300) -/

/-- What an update tile writes and counts: writes, ZERO_RMS_BLOCK, UPD_NONFINITE, FROZEN_BLOCK. -/
structure UpdOut where
  codes : List Nat
  writes : Writes
  zeroRms : Nat
  nonfin : Nat
  frozen : Nat
deriving DecidableEq, Repr

/-- The momentum of a parameter. -/
def UpdOp.mom (rd : Nat → Byte) (op : UpdOp) (i : Nat) : FV :=
  if op.rule = .sgd then FV.zero
  else if op.bf then ofBitsBf (rdNat rd (op.mSrc + 2 * i) 2) else ofBits32 (rdNat rd (op.mSrc + 4 * i) 4)

/-- Bytes `n` at an address. -/
def bytesAt (rd : Nat → Byte) (a n : Nat) : List Byte := (List.range n).map fun i => rd (a + i)

/-- The writes of one update block. -/
def UpdOp.block (rd : Nat → Byte) (op : UpdOp) (b : Nat) : UpdOut :=
  let i0 := 4096 * b
  let n := min 4096 (op.npar - i0)
  let idx := (List.range n).map (i0 + ·)
  let mw := if op.bf then 2 else 4
  if op.freeze.getD b false then
    let copy := if op.wHiSrc = op.wHiDst then []
      else [(op.wHiDst + 4 * i0, bytesAt rd (op.wHiSrc + 4 * i0) (4 * n)),
        (op.wExtDst + 2 * i0, bytesAt rd (op.wExtSrc + 2 * i0) (2 * n))]
        ++ (if op.rule = .sgd then [] else [(op.mDst + mw * i0, bytesAt rd (op.mSrc + mw * i0) (mw * n))])
    ⟨idx.map (codeAt rd op.wHiSrc op.wExtSrc), copy, 0, 0, 1⟩
  else
    let srm (i : Nat) : Option Nat := if op.srM then some (srDraw op.key (2 * i + 1)) else none
    let srw (i : Nat) : Option Nat := if op.srW then some (srDraw op.key (2 * i)) else none
    let g (i : Nat) : FV := fmul op.h.gscale (planeAt rd op.grad i)
    let ms := idx.map fun i => newMomentum op.rule op.h op.bf (srm i) (op.mom rd i) (g i)
    let r := if op.rule = .blockNorm then blockRms ms else FV.zero
    let ws := (idx.zip ms).map fun p =>
      let w := masterAt rd op.wHiSrc op.wExtSrc p.1
      let d := fl32 (op.h.lambda.mul w)
      newMaster op.h (srw p.1) w (updateStep op.rule op.h (op.mom rd p.1) p.2 (g p.1) d r)
    let bad := ((ws.zip ms).filter fun p => !(decodeMw48 (p.1 / 2 ^ 16) (p.1 % 2 ^ 16)).isFin
      || (op.rule != .sgd && !p.2.isFin)).length
    let zero := op.rule == .blockNorm && !op.h.eps.isNonzero && !r.isNonzero
    ⟨ws, [(op.wHiDst + 4 * i0, ws.flatMap fun c => leBytes 4 (c / 2 ^ 16)),
        (op.wExtDst + 2 * i0, ws.flatMap fun c => leBytes 2 (c % 2 ^ 16))]
        ++ (if op.rule = .sgd then []
          else [(op.mDst + mw * i0, ms.flatMap fun m => if op.bf then leBytes 2 (bitsBf m) else leBytes 4 (bits32 m))]),
      b2n zero, bad, 0⟩

/-- The digest with the partial sum of a tile already done, formed again from the destination planes (R308). -/
def UpdOp.digestTile (rd : Nat → Byte) (op : UpdOp) (d : Nat × Nat) (t : Nat) : Nat × Nat :=
  if op.tiles ≤ t then d
  else digestAdd d ((List.range (min 4096 (op.npar - 4096 * t))).map fun i => codeAt rd op.wHiDst op.wExtDst (4096 * t + i))
    op.dseed (4096 * t)

/-! ### Read ranges (R280, R306) -/

/-- The bytes that a block of a tensor is read from: a BBF tile as its header sizes it, or lines of the others. -/
def TDesc.blockReads (rd : Nat → Byte) (t : TDesc) (tk tO : Nat) : List (Nat × Nat) :=
  if t.kind = kBBF then
    let a := t.tileAddr tk tO
    [(a, match readHdr rd a t.stride with
      | none => 64
      | some h => Sys2Proof.Machine.tileBytes h.fmt h.slots)]
  else (tileSpan tO t.rows).flatMap fun o =>
    let n := (tileSpan tk t.cols).length
    if t.kind = kMX then
      [(t.base + o * t.stride + 128 * tk * t.mxFmt.width / 8, ceilDiv (n * t.mxFmt.width) 8),
        (t.aux + o * t.kBlocks + 4 * tk, ceilDiv n 32)]
    else [(t.base + o * t.stride + t.elemBytes * (128 * tk), t.elemBytes * n)]

/-- The K tiles that segment `j` of an output tile reads (R118). -/
def MatOp.segTiles (op : MatOp) (j : Nat) : List Nat :=
  (List.range op.a.kTiles).filter fun tk => decide (op.segLen * j < 4 * tk + 4) && decide (4 * tk < op.segLen * (j + 1))

/-- The codebook records that segment `j` of a table product loads: address and bytes (R194, R197). -/
def MatOp.codebook (op : MatOp) (tn j : Nat) : Nat × Nat :=
  let per := 128 / cbSpanCols op.cbSpan
  let g0 := op.segLen * j
  (op.cbBase + 32 * ((tn * op.b.kTiles * 4 + g0) * per), 32 * ((min op.segLen (op.groups - g0)) * per))

/-- The reads of segment `j` of an output tile of a product: its operand tiles, its codebook records, and the vectors and
the old output that the epilogue takes (R117–R119, R126, R197). -/
def MatOp.segReads (rd : Nat → Byte) (op : MatOp) (tm tn j : Nat) : List (Nat × Nat) :=
  let vec (a t n : Nat) : List (Nat × Nat) := if a = 0 then [] else [(a + 512 * t, 4 * (tileSpan t n).length)]
  ((op.segTiles j).flatMap fun tk => op.a.blockReads rd tk tm ++ op.b.blockReads rd tk tn)
    ++ vec op.bias tn op.out.cols ++ vec op.rho tm op.a.rows ++ vec op.gamma tn op.b.rows
    ++ (if op.kind = .table then [op.codebook tn j] else [])
    ++ (if op.accum then op.out.blockReads rd tn tm else [])

/-- The reads of an output tile of a product, all its segments. -/
def MatOp.reads (rd : Nat → Byte) (op : MatOp) (tm tn : Nat) : List (Nat × Nat) :=
  (List.range op.segments).flatMap fun j => op.segReads rd tm tn j

/-- The reads of some dispatch tiles of a product (R278). -/
def MatOp.tilesReads (rd : Nat → Byte) (op : MatOp) (ts : List Nat) : List (Nat × Nat) :=
  ts.flatMap fun t => op.segReads rd (t / op.segments / op.b.oTiles) (t / op.segments % op.b.oTiles) (t % op.segments)

/-- The blocks along K whose values block `tk` of an output depends on: its partner too under size 256 (R139, R163). -/
def pairBlocks (wide : Bool) (kt tk : Nat) : List Nat :=
  if wide then (List.range kt).filter fun k => k / 2 == tk / 2 else [tk]

/-- The input blocks that a Glaze output block reads. -/
def ConvOp.reads (rd : Nat → Byte) (op : ConvOp) (outRot tk tO : Nat) : List (Nat × Nat) :=
  let kt := op.inp.kTiles
  let stored := (blockHdr rd op.inp tk tO).any fun h => op.undo && h.rot == 4
  (pairBlocks (outRot == 4 || stored) kt tk).flatMap fun k => op.inp.blockReads rd k tO

/-- The reads of a scale unit, without those of the segments in `held`, whose partials are formed already (R119). Under
size 256 the values of the partner panel are read too; the old master and the extensions are read for the unit's own
parameters only (R306). -/
def Plan.unitReads (rd : Nat → Byte) (p : Plan) (pi : Nat) (o : BbfOut) (u : Nat) (stat : Bool) (held : List Nat) :
    List (Nat × Nat) :=
  (o.unitTiles u).flatMap fun t =>
    let rot := (o.infoOf t.1).rot
    let blocks := pairBlocks (rot == 4) o.td.kTiles t.1
    match p with
    | .matrix op _ => blocks.flatMap fun k => op.tilesReads rd
        (((List.range op.segments).map fun j => (t.2 * op.b.oTiles + k) * op.segments + j).filter fun x => !held.contains x)
    | .packed ps => ((ps[pi]?).map fun q => blocks.flatMap fun k => q.1.reads rd t.2 k).getD []
    | .convert op _ => op.reads rd rot t.1 t.2
    | .update op _ => blocks.flatMap fun k => (tileSpan t.2 o.td.rows).flatMap fun r =>
        let i := r * o.td.cols + 128 * k
        let n := (tileSpan k o.td.cols).length
        (op.wHiDst + 4 * i, 4 * n) ::
          (if stat && k == t.1 && op.wHiSrc != op.wHiDst then
            [(op.wExtDst + 2 * i, 2 * n), (op.wHiSrc + 4 * i, 4 * n), (op.wExtSrc + 2 * i, 2 * n)] else [])
    | _ => []

/-- The reads of a dispatch tile that writes no scale unit. -/
def Plan.tileReads (rd : Nat → Byte) (p : Plan) (tile : Nat) : List (Nat × Nat) :=
  match p with
  | .matrix op _ => op.tilesReads rd [tile]
  | .packed ps => ps.flatMap fun q => (List.range (q.1.a.oTiles * q.1.b.oTiles)).flatMap fun u =>
      q.1.reads rd (u / q.1.b.oTiles) (u % q.1.b.oTiles)
  | .convert op _ => op.reads rd (if op.kind = .rotate then op.rot else 0) (tile % op.out.kTiles) (tile / op.out.kTiles)
  | .vector op => (tileSpan tile op.inp.rows).flatMap fun o =>
      let row (t : TDesc) (r : Nat) : Nat × Nat := (t.base + r * t.stride, t.elemBytes * t.cols)
      row op.inp o :: (op.in2.toList.map fun t => row t (if op.kind = .norm then 0 else o))
  | .move op => [(op.src + 65536 * tile, min 65536 (op.len - 65536 * tile))]
  | .update op _ =>
    let i := 4096 * tile
    let n := min 4096 (op.npar - i)
    let mw := if op.bf then 2 else 4
    let frozen := op.freeze.getD tile false
    if frozen && op.wHiSrc == op.wHiDst then
      (if op.digOut = 0 then [] else [(op.wHiSrc + 4 * i, 4 * n), (op.wExtSrc + 2 * i, 2 * n)])
    else [(op.wHiSrc + 4 * i, 4 * n), (op.wExtSrc + 2 * i, 2 * n)]
      ++ (if frozen then [] else [(op.grad + 4 * i, 4 * n)])
      ++ (if op.rule = .sgd then [] else [(op.mSrc + mw * i, mw * n)])
  | .digest hi ext npar _ _ =>
    let i := 4096 * tile
    let n := min 4096 (npar - i)
    [(hi + 4 * i, 4 * n), (ext + 2 * i, 2 * n)]
  | _ => []

/-! ### Outputs that are tapped (R494) -/

/-- One row of FP32 values as a tensor. -/
def rowTensor (base n : Nat) : TDesc := ⟨base, kFP32, 0, 4 * n, 0, 1, n⟩

/-- The outputs that TAP_EN taps: the record's `SRC` and the tensor (R494). -/
def Plan.tapOuts (p : Plan) : List (Nat × TDesc) :=
  match p with
  | .matrix op b => [(1, (b.map (·.td)).getD op.out)]
  | .packed ps => ps.map fun q => (1, (q.2.map (·.td)).getD q.1.out)
  | .convert op b => if op.kind = .amax then [] else [(1, (b.map (·.td)).getD op.out)]
  | .vector op => (1, op.out) :: op.out2.toList.map fun t => (2, t)
  | .update op b => (1, rowTensor op.wHiDst op.npar) :: (if op.emit then b.toList.map fun o => (2, o.td) else [])
  | .reduce op => if op.kind = .digestCheck then [] else [(1, rowTensor op.buf (op.size * 2 ^ 18))]
  | _ => []

/-! ### Products counted (R79, R484) -/

/-- The class of a format (R58). -/
def Fmt.cls (f : Fmt) : Nat :=
  match f with
  | .int n => if n = 1 then 1 else if n = 2 then 2 else if n ≤ 4 then 4 else 8
  | .fp4e2m1 => 4
  | _ => 8

/-- Products that one pair of elements counts: 1, or 2 for 8 × 4 and 4 for 8 × 8, and again for each piece pass. -/
def pairProducts (fa fb : Fmt) (fast : Bool) : Nat :=
  if fa.isNarrow && fb.isNarrow then
    if max fa.cls fb.cls < 8 then 1 else if min fa.cls fb.cls < 8 then 2 else 4
  else 4 * (passes fa fb fast).length

/-- Data positions of block (tk, tO) along its lines and along K (R69). -/
def TDesc.validOf (rd : Nat → Byte) (t : TDesc) (tk tO : Nat) : Nat × Nat × Fmt :=
  match blockHdr rd t tk tO with
  | some h => (min h.validLines (tileSpan tO t.rows).length, min h.validK (tileSpan tk t.cols).length, h.fmt)
  | none => ((tileSpan tO t.rows).length, (tileSpan tk t.cols).length, t.wideFmt)

/-! ### Read-side losses (R155) -/

/-- The read-side ash and clinker of one tile: elements that a Hearth reads as zero because their code is subnormal, and
elements with a valid slot whose residual is NaN. DESIGN CHOICE: an element that is both counts as clinker, since R155
counts a value once and does not say which comes first (log entry 46). -/
def tileLosses (rd : Nat → Byte) (a : Nat) (h : TileHdr) (hearth : Bool) : Nat × Nat :=
  (List.range h.validLines).foldl (fun acc j =>
    (List.range h.validK).foldl (fun acc k =>
      if (tileSlots rd a h (4 * j + k / 32)).any fun w => bitOf w 15 && bitsOf w 12 8 == k % 32 && w % 128 == 0x7F then
        (acc.1, acc.2 + 1)
      else if hearth && h.fmt.isSubCode (tileCode rd a h j k) then (acc.1 + 1, acc.2)
      else acc) acc) (0, 0)

/-- The read-side losses of a BBF tensor. -/
def TDesc.readLosses (rd : Nat → Byte) (t : TDesc) (hearth : Bool) : Nat × Nat :=
  if t.kind != kBBF then (0, 0)
  else (List.range (t.kTiles * t.oTiles)).foldl (fun acc i =>
    match readHdr rd (t.base + i * t.stride) t.stride with
    | none => acc
    | some h =>
      let l := tileLosses rd (t.base + i * t.stride) h hearth
      (acc.1 + l.1, acc.2 + l.2)) (0, 0)

/-- The read-side ash and clinker of a command, each value once (R155). -/
def Plan.readLosses (rd : Nat → Byte) (p : Plan) : Nat × Nat :=
  let add (a b : Nat × Nat) : Nat × Nat := (a.1 + b.1, a.2 + b.2)
  let mat (op : MatOp) : Nat × Nat := add (op.a.readLosses rd true) (op.b.readLosses rd true)
  match p with
  | .matrix op _ => mat op
  | .packed ps => ps.foldl (fun acc q => add acc (mat q.1)) (0, 0)
  | .convert op _ => op.inp.readLosses rd false
  | _ => (0, 0)

end Sys2Proof.Machine
end

