-- ==== Sys2Proof/Machine/Cells.lean ====
section
/-! DEFINITION. The Hearth's array as a product uses it: the cell operations (R58, R81), sub-arrays (R85), the passes of a
segment with their latch loads and their time (R83, R91, R96, R97, R200, R201, R212), and the witness check (R80,
R438–R441). -/

namespace Sys2Proof.Machine

open Sys2Proof

/-! ### Cell operations and sub-arrays -/

/-- The operations of a pass: the five of R81, and table and stream passes (R91, R201, R212). -/
inductive CellOp where
  | x1
  | x2
  | x4
  | x84
  | x88
  | table
  | stream
deriving DecidableEq, Repr

/-- The number by which the event log names an operation, which R532 does not give (log entry 47). -/
def CellOp.code : CellOp → Nat
  | .x1 => 0
  | .x2 => 1
  | .x4 => 2
  | .x84 => 3
  | .x88 => 4
  | .table => 5
  | .stream => 6

/-- The operation of two element formats (R58, R124). -/
def cellOp (fa fb : Fmt) : CellOp :=
  if fa.isNarrow && fb.isNarrow then
    let a := max fa.cls fb.cls
    let b := min fa.cls fb.cls
    if a ≤ 1 then .x1 else if a ≤ 2 then .x2 else if a ≤ 4 then .x4 else if b < 8 then .x84 else .x88
  else .x88

/-- K positions of one pass over `rows` logical rows (R81, R85, R212). -/
def CellOp.depth (o : CellOp) (rows : Nat) : Nat :=
  match o with
  | .x1 => 16 * rows
  | .x2 => 4 * rows
  | .x84 => rows / 2
  | .x88 => rows / 2
  | _ => rows

/-- Outputs of one pass over `cols` logical columns (R81, R85). -/
def CellOp.width (o : CellOp) (cols : Nat) : Nat := if o = .x88 then cols / 2 else cols

/-- The pipeline depth (R88, R201, R212). -/
def CellOp.pipe : CellOp → Nat
  | .x1 => 13
  | .x2 => 13
  | .x4 => 13
  | _ => 14

/-- A sub-array: its first logical row and column, its size, its accumulators and its check units (R85). -/
structure SubArray where
  row : Nat
  col : Nat
  rows : Nat
  cols : Nat
  accs : Nat
  units : List Nat
deriving DecidableEq, Repr

/-- Logical rows and columns of a partition's sub-arrays, and `n_c` (R85). -/
def partDims (part : Nat) : Nat × Nat × Nat :=
  if part = 0 then (128, 128, 1) else if part = 1 then (128, 64, 2) else if part = 2 then (64, 64, 2) else (32, 32, 4)

/-- Sub-array `i` of a partition (R85): row block ⌊i / n_c⌋, column block i mod n_c, its share of the accumulators and
the check units that cover it (R80). -/
def subArray (part i : Nat) : SubArray :=
  let d := partDims part
  let row := i / d.2.2 * d.1
  let col := i % d.2.2 * d.2.1
  { row := row, col := col, rows := d.1, cols := d.2.1, accs := 4 * d.1 * d.2.1
    units := (List.range (d.1 / 32)).flatMap fun r => (List.range (d.2.1 / 32)).map fun c =>
      4 * (row / 32 + r) + (col / 32 + c) }

/-- The sub-array that a product runs on (R86). -/
def MatOp.array (op : MatOp) : SubArray := subArray op.part op.prob

/-! ### Passes -/

/-- One pass: its operation, the formats it pairs, its K range, the range of latched outer positions within the output
tile, its piece pair, and the time of its latch load. -/
structure Pass where
  cell : CellOp
  fa : Fmt
  fb : Fmt
  k0 : Nat
  kn : Nat
  n0 : Nat
  nn : Nat
  piece : Nat × Nat
  load : Nat
deriving DecidableEq, Repr

/-- IS latches A; WS and OS latch B (R83). -/
def MatOp.latchesA (op : MatOp) : Bool := op.df == 2

/-- The element format of block (tk, tO) of an operand. -/
def TDesc.fmtAt (rd : Nat → Byte) (t : TDesc) (tk tO : Nat) : Fmt := (t.validOf rd tk tO).2.2

/-- The operation of the passes over a K tile (R82, R201, R212). -/
def MatOp.cellAt (rd : Nat → Byte) (op : MatOp) (tm tn tk : Nat) : CellOp :=
  if op.kind = .table then .table
  else if op.kind = .stream then .stream
  else cellOp (op.a.fmtAt rd tk tm) (op.b.fmtAt rd tk tn)

/-- The K positions of a table pass (R200). -/
def tableDepth (span width : Nat) : Nat := min 128 (32 * span / 2 ^ width)

/-- Consecutive K ranges of one operation, joined: R82 parts passes only where the operation changes, and a 1 × 1 or 2 × 2
pass spans several tiles (R81). -/
def joinRanges : List (CellOp × Fmt × Fmt × Nat × Nat) → List (CellOp × Fmt × Fmt × Nat × Nat)
  | [] => []
  | x :: l =>
    match joinRanges l with
    | [] => [x]
    | y :: r =>
      if x.1 = y.1 && x.2.1 == y.2.1 && x.2.2.1 == y.2.2.1 && x.2.2.2.2 == y.2.2.2.1 then
        (x.1, x.2.1, x.2.2.1, x.2.2.2.1, y.2.2.2.2) :: r
      else x :: y :: r

/-- The K ranges of segment `j` of an output tile with their operation and formats: (operation, A, B, first, end). -/
def MatOp.kRanges (rd : Nat → Byte) (op : MatOp) (tm tn j : Nat) : List (CellOp × Fmt × Fmt × Nat × Nat) :=
  joinRanges ((op.segTiles j).map fun tk =>
    (op.cellAt rd tm tn tk, op.a.fmtAt rd tk tm, op.b.fmtAt rd tk tn, max (128 * tk) (32 * op.segLen * j),
      min (min (128 * tk + 128) op.a.cols) (32 * op.segLen * (j + 1))))

/-- The latch load of a pass (R97, R201, R212). -/
def latchLoad (c : CellOp) (latched : Fmt) (depth : Nat) : Nat :=
  match c with
  | .x1 => 128
  | .x2 => 64
  | .x4 => 32
  | .x84 => if latched.cls = 8 then 32 else 16
  | .x88 => 16
  | .table => depth * latched.width / 16
  | .stream => 8 * latched.width

/-- The passes of segment `j` of an output tile, in order: K ranges ascending; within each, the columns of the latched
side; within those, the piece passes (R81, R83, R84, R124). -/
def MatOp.passList (rd : Nat → Byte) (op : MatOp) (tm tn j : Nat) : List Pass :=
  let sa := op.array
  (op.kRanges rd tm tn j).flatMap fun r =>
    let (c, fa, fb, lo, hi) := r
    let latched := if op.latchesA then fa else fb
    let depth := max 1 (if c = .table then tableDepth (cbSpanCols op.cbSpan) fb.width else c.depth sa.rows)
    let width := max 1 (c.width sa.cols)
    let outer := if op.latchesA then (tileSpan tm op.a.rows).length else (tileSpan tn op.b.rows).length
    let pairs := if c = .x88 && !(fa.isNarrow && fb.isNarrow) then passes fa fb op.fast else [(2, 2)]
    (List.range (ceilDiv (hi - lo) depth)).flatMap fun i => (List.range (ceilDiv outer width)).flatMap fun b =>
      pairs.map fun p =>
        { cell := c, fa := fa, fb := fb, k0 := lo + depth * i, kn := min depth (hi - lo - depth * i), n0 := width * b
          nn := min width (outer - width * b), piece := p, load := latchLoad c latched depth }

/-- Streamed rows of an output tile (R83). -/
def MatOp.rowsStreamed (op : MatOp) (tm tn : Nat) : Nat :=
  if op.latchesA then (tileSpan tn op.b.rows).length else (tileSpan tm op.a.rows).length

/-- Fetch cycles of a streamed row (R212). -/
def MatOp.rowCycles (op : MatOp) : Nat := if op.kind = .stream then streamLen op.slen / 16 else 1

/-- Operation changes between consecutive passes (R91). -/
def cellChanges : List Pass → Nat
  | p :: q :: l => (if p.cell = q.cell then 0 else 1) + cellChanges (q :: l)
  | _ => 0

/-- R96 over a list of passes that each stream `rows` cycles. -/
def passTime (rows : Nat) (ps : List Pass) : Nat :=
  let loads := ps.map (·.load)
  loads.headD 0 + ((ps.zip (loads.drop 1 ++ [0])).map fun p => max rows p.2).sum + 6 * cellChanges ps
    + ((ps.getLast?).elim 0 fun p => p.cell.pipe) + 4

/-! ### The witness check -/

/-- The K positions and output positions that check unit (r, c) covers in a pass, as ranges within it (R80, R81): each
unit holds the share of 32 logical rows and columns of its sub-array. -/
def MatOp.unitRange (op : MatOp) (p : Pass) (u : Nat) : Option ((Nat × Nat) × (Nat × Nat)) :=
  let sa := op.array
  if !sa.units.contains u then none
  else
    let kPer := max 1 (p.cell.depth 32)
    let nPer := max 1 (p.cell.width 32)
    let k0 := kPer * (u / 4 - sa.row / 32)
    let n0 := nPer * (u % 4 - sa.col / 32)
    if p.kn ≤ k0 || p.nn ≤ n0 then none
    else some ((p.k0 + k0, min kPer (p.kn - k0)), (p.n0 + n0, min nPer (p.nn - n0)))

/-- The parts of an element that the rows of a unit hold, each with its weight (R438): the nibbles of an 8-bit integer in
the fused operations, else the whole element or piece. -/
def elemParts (c : CellOp) (f : Fmt) (x : Ex) : List (Nat × Ex) :=
  if (c = .x84 || c = .x88) && f.isInt && f.cls == 8 then
    let i := x.rneInt
    let hi := i.fdiv 16
    [(1, Ex.ofInt (i - 16 * hi)), (16, Ex.ofInt hi)]
  else [(1, x)]

/-- The piece of an operand that a pass pairs; a pass that is not a piece pass takes the whole value (R123). -/
def pieceOf (f : Fmt) (whole : Bool) (i : Nat) (x : Ex) : Ex :=
  if whole then x else ((((pieces f x).filter fun q => q.1 == i).map (·.2)).headD Ex.zero)

/-- The streamed and the latched operand of a pass at streamed row `m`, latched position `n` and K position `k`. -/
def MatOp.pairAt (rd : Nat → Byte) (op : MatOp) (p : Pass) (m n k : Nat) : Ex × Ex :=
  let whole := p.fa.isNarrow && p.fb.isNarrow || op.kind == .table
  let a (o : Nat) := pieceOf p.fa whole p.piece.1 (operandAt rd op.a o k).x.getFin
  let b (o : Nat) := pieceOf p.fb whole p.piece.2 (operandB rd op o k).x.getFin
  if op.latchesA then (b m, a n) else (a m, b n)

/-- One checksum entry (R438): for latched K position `k`, the sums over the unit's columns of each part of the latched
element. -/
def MatOp.chi (rd : Nat → Byte) (op : MatOp) (p : Pass) (m : Nat) (cols : List Nat) (k : Nat) : List (Nat × Ex) :=
  let f := if op.latchesA then p.fa else p.fb
  let parts := cols.map fun n => elemParts p.cell f (op.pairAt rd p m n k).2
  (List.range (if (p.cell = .x84 || p.cell = .x88) && f.isInt && f.cls == 8 then 2 else 1)).map fun i =>
    (if i = 0 then 1 else 16, (parts.map fun l => (l.getD i (1, Ex.zero)).2).foldl Ex.add Ex.zero)

/-- Whether a pass is checked exactly (R439). -/
def MatOp.exactPass (op : MatOp) (p : Pass) : Bool :=
  op.kind == .stream || ((op.kind == .plain || op.kind == .binary) && p.fa.isInt && p.fb.isInt)

/-- χ̂ (R439): χ itself in an exact pass, else χ rounded by RNE to a signed 12-bit significand, 11 bits of magnitude. -/
def MatOp.chiHat (op : MatOp) (p : Pass) (x : Ex) : Ex :=
  if op.exactPass p || x.isZero then x else x.rneGrid 11 (x.lam - 10)

/-- The stream bits of an operand at K position `k` (R206–R208, R210). -/
def MatOp.streamBit (op : MatOp) (gen : Nat) (f : Fmt) (x : Ex) (k t : Nat) : Bool :=
  let n := (streamNorm f).getD 1
  decide (streamDraw op gen k t < ((Ex.one.add (x.div (Ex.ofNat n))).truncInt (-15)).toNat)

/-- Window top `T` of a column's group (R114): over the whole operand values of the group. -/
def MatOp.windowTop (rd : Nat → Byte) (op : MatOp) (m n g : Nat) : Option Int :=
  let row := if op.latchesA then n else m
  let col := if op.latchesA then m else n
  let ts := ((groupTerms rd op row col g).map fun t => (t.2.1.x.getFin, t.2.2.x.getFin)).filter fun t =>
    !t.1.isZero && !t.2.isZero
  match ts with
  | [] => none
  | t :: l => some ((l.map fun p => p.1.lam + p.2.lam).foldl max (t.1.lam + t.2.lam) + 1)

/-- What a check instance compares (R440, R441): S, V and τ. -/
structure Check where
  s : Ex
  v : Ex
  tau : Ex
deriving DecidableEq, Repr

/-- A stream pass: S counts the matching bits of the unit's columns, V counts them from the entries, the numbers of latched
bits that are 1 (R438, R440). -/
def MatOp.streamCheck (rd : Nat → Byte) (op : MatOp) (p : Pass) (m : Nat) (ks cols : List Nat) : Check :=
  let len := streamLen op.slen
  let each (k : Nat) : Nat × Nat :=
    (List.range len).foldl (fun acc t =>
      let bits := cols.map fun n =>
        let x := op.pairAt rd p m n k
        (op.streamBit op.genA p.fa x.1 k t, op.streamBit op.genB p.fb x.2 k t)
      let ones := (bits.filter (·.2)).length
      let row := (bits.map (·.1)).headD false
      (acc.1 + (bits.filter fun b => b.1 == b.2).length, acc.2 + (if row then ones else cols.length - ones))) (0, 0)
  let sums := ks.map each
  ⟨Ex.ofNat (sums.map (·.1)).sum, Ex.ofNat (sums.map (·.2)).sum, Ex.zero⟩

/-- Any other pass: S sums the products as R114 truncates them, V the streamed elements by the entries; τ by R441, zero in
an exact pass. -/
def MatOp.sumCheck (rd : Nat → Byte) (op : MatOp) (p : Pass) (m : Nat) (ks cols : List Nat) : Check :=
  let narrow := p.fa.isNarrow && p.fb.isNarrow && op.kind != .table
  let terms := cols.flatMap fun n => ks.map fun k =>
    let x := op.pairAt rd p m n k
    let prod := x.1.mul x.2
    match op.windowTop rd m n (k / 32) with
    | some top => if narrow then (prod, Ex.zero)
        else (Ex.ofScaled prod.neg (prod.truncInt (top - 63)).natAbs (top - 63), if prod.isZero then Ex.zero else Ex.pow2 (top - 63))
    | none => (Ex.zero, Ex.zero)
  let rows := ks.map fun k => ((op.pairAt rd p m (cols.headD 0) k).1, op.chi rd p m cols k)
  let v := rows.foldl (fun acc r => r.2.foldl (fun acc e => acc.add ((Ex.ofNat e.1).mul (r.1.mul (op.chiHat p e.2)))) acc) Ex.zero
  let mag := rows.foldl (fun acc r => r.2.foldl (fun acc e => acc.add ((Ex.ofNat e.1).mul (r.1.mul (op.chiHat p e.2)).abs)) acc) Ex.zero
  ⟨(terms.map (·.1)).foldl Ex.add Ex.zero, v,
    if op.exactPass p then Ex.zero else ((Ex.pow2 (-10)).mul mag).add ((terms.map (·.2)).foldl Ex.add Ex.zero)⟩

/-- Check instance (unit, row, pass) of output tile (tm, tn) (R440); `none` where the pass or the row is not the tile's or
the unit holds nothing of it. -/
def MatOp.check (rd : Nat → Byte) (op : MatOp) (tm tn j : Nat) (w : CheckFault) : Option Check :=
  match (op.passList rd tm tn j)[w.pass]? with
  | none => none
  | some p =>
    match op.unitRange p w.unit with
    | none => none
    | some r =>
      if op.rowsStreamed tm tn ≤ w.row then none
      else
        let outer := if op.latchesA then tm else tn
        let m := 128 * (if op.latchesA then tn else tm) + w.row
        let ks := (List.range r.1.2).map fun i => r.1.1 + i
        let cols := (List.range r.2.2).map fun i => 128 * outer + r.2.1 + i
        some (if op.kind = .stream then op.streamCheck rd p m ks cols else op.sumCheck rd p m ks cols)

/-- The checker reports a mismatch when a fault moves S and V by the given errors (R440, R441): S ≠ V in an exact pass, and
|S − V| > τ in a tolerance pass. -/
def Check.mismatch (c : Check) (w : CheckFault) : Bool :=
  let err (i : Int) : Ex := (Ex.ofInt i).mul (Ex.pow2 w.scale)
  c.tau.absLt ((c.s.add (err w.dS)).sub (c.v.add (err w.dV)))

/-- A check instance of an output tile reports a mismatch, and in which operation. -/
def MatOp.mismatch (rd : Nat → Byte) (op : MatOp) (tm tn j : Nat) (w : CheckFault) : Option CellOp :=
  (op.check rd tm tn j w).bind fun c =>
    if c.mismatch w then ((op.passList rd tm tn j)[w.pass]?).map (·.cell) else none

/-- The operation of the pass in which a fault makes a tile's check fail (R438–R442); `none` when every check instance
still compares equal. A packed tile's checks are those of its problems (R87). -/
def Plan.mismatch (rd : Nat → Byte) (p : Plan) (t : Nat) (w : CheckFault) : Option CellOp :=
  match p with
  | .matrix op _ => op.mismatch rd (t / op.segments / op.b.oTiles) (t / op.segments % op.b.oTiles) (t % op.segments) w
  | .packed ps => (ps[w.prob]?).bind fun q => q.1.mismatch rd (w.tile / q.1.b.oTiles) (w.tile % q.1.b.oTiles) 0 w
  | _ => none

end Sys2Proof.Machine
end

