-- ==== Sys2Proof/Machine/Fabric.lean ====
section
/-! DEFINITION. The Flue's shared operations: coordinates and routes (R339–R343, R358, R359), packets (R353–R355), local
injection, floods, the buffer classes (R357) and the retry buffer (R348, R349). -/

namespace Sys2Proof.Machine

open Sys2Proof

/-! ### Port states (R352) -/

def portDisabled : Nat := 0
def portTraining : Nat := 1
def portActive : Nat := 2
def portRetrain : Nat := 3
def portFailed : Nat := 4

def State.portState (s : State) (p : Nat) : Nat := s.getF (FLU_PORT_STATE p)

/-- The module takes no further action until it is power-cycled (R31, R427, R482). -/
def State.stopped (s : State) : Bool := s.power.failed && s.power.life == .latched

/-- The port carries traffic and the module has power for its switch. -/
def State.linkUp (s : State) (p : Nat) : Bool :=
  (s.power.life == .up || s.power.life == .latched) && !s.stopped && s.portState p == portActive

/-! ### Coordinates -/

/-- The coordinate of a rank in dimension `d` (R339). -/
def rankCoord (r d : Nat) : Nat := if d = 0 then r % 16 else if d = 1 then r / 16 % 16 else r / 256 % 16

/-- A rank with one coordinate replaced. -/
def setCoord (r d v : Nat) : Nat :=
  if d = 0 then r - r % 16 + v else if d = 1 then r - r / 16 % 16 * 16 + v * 16 else r - r / 256 % 16 * 256 + v * 256

/-- The size of dimension `d`. -/
def dimOf (dims : Nat × Nat × Nat) (d : Nat) : Nat := if d = 0 then dims.1 else if d = 1 then dims.2.1 else dims.2.2

/-- The rank at the far end of a port (R340); `none` for a dimension of one. -/
def neighbour (dims : Nat × Nat × Nat) (r p : Nat) : Option Nat :=
  let d := p / 2
  let n := dimOf dims d
  if n ≤ 1 then none
  else
    let c := rankCoord r d
    some (setCoord r d (if p % 2 = 0 then (c + 1) % n else (c + n - 1) % n))

/-- Own rank. -/
def State.rank (s : State) : Nat := s.getF FLU_POS_RANK

/-! ### The routing function (R359) -/

/-- A link named from either end: from its even port. -/
def linkKey (dims : Nat × Nat × Nat) (l : Nat × Nat) : Nat × Nat :=
  if l.2 % 2 = 0 then l else ((neighbour dims l.1 l.2).getD l.1, l.2 - 1)

/-- Whether the link at port `p` of rank `r` counts as failed. -/
def linkFailed (dims : Nat × Nat × Nat) (failed : List (Nat × Nat)) (r p : Nat) : Bool :=
  failed.any fun l => linkKey dims l == linkKey dims (r, p)

/-- No failed link on `n` steps from rank `r` through port `p`. -/
def pathClear (dims : Nat × Nat × Nat) (failed : List (Nat × Nat)) (p : Nat) : Nat → Nat → Bool
  | 0, _ => true
  | n + 1, r => !linkFailed dims failed r p && pathClear dims failed p n ((neighbour dims r p).getD r)

/-- The route in one dimension: the port and whether it detours; `none` when both ways meet a failed link. -/
def routeDim (dims : Nat × Nat × Nat) (failed : List (Nat × Nat)) (own dest d : Nat) : Option (Nat × Bool) :=
  let n := dimOf dims d
  let fwd := (rankCoord dest d + n - rankCoord own d) % n
  let plus := decide (fwd ≤ n - fwd)
  let len (dir : Bool) : Nat := if dir then fwd else n - fwd
  let port (dir : Bool) : Nat := 2 * d + (if dir then 0 else 1)
  if pathClear dims failed (port plus) (len plus) own then some (port plus, false)
  else if pathClear dims failed (port !plus) (len !plus) own then some (port !plus, true)
  else none

/-- `route(dest)`: port 0–5, 6 LOCAL or 7 UNREACHABLE, and `DETOUR` (R359, R360). -/
def routeTo (dims : Nat × Nat × Nat) (failed : List (Nat × Nat)) (own dest : Nat) : Nat × Bool :=
  if dest = own then (6, false)
  else if [0, 1, 2].any fun d => decide (dimOf dims d ≤ rankCoord dest d) then (7, false)
  else
    match [0, 1, 2].find? fun d => rankCoord own d != rankCoord dest d with
    | none => (7, false)
    | some d => (routeDim dims failed own dest d).getD (7, false)

/-- Every link that counts as failed: those of ROUTING and those reported down (R343, R359). -/
def State.failedLinks (s : State) : List (Nat × Nat) :=
  ((s.flue.excluded ++ s.flue.failed).map (linkKey s.flue.dims)).dedup

/-- The table recomputed and its banks swapped (R360, R361): every entry, the generation and the failed count; the
parent of the timebase follows (R367, R369). -/
def State.swapRoutes (s : State) : State :=
  let bad := s.failedLinks
  let s := (List.range 4096).foldl (fun s r =>
    let e := routeTo s.flue.dims bad s.rank r
    s.setFs [(FLU_RTE_PORT r, e.1), (FLU_RTE_DETOUR r, b2n e.2)]) s
  let s := s.setFs [(FLU_RTGEN_FAILED, bad.length)]
  let s := s.incF FLU_RTGEN_GEN 1
  let p := s.getF (FLU_RTE_PORT s.flue.root)
  let s := s.setF FLU_TSTAT_PARENT p
  if p = 7 then s.setF FLU_TSTAT_SYNCED 0 else if p = 6 then s.setF FLU_TSTAT_SYNCED 1 else s

/-! ### Packets -/

def tyWrite : Nat := 0x01
def tyWriteAck : Nat := 0x02
def tyReadReq : Nat := 0x03
def tyReadRsp : Nat := 0x04
def tySignal : Nat := 0x05
def tySignalAck : Nat := 0x06
def tyCollData : Nat := 0x10
def tyCollCtl : Nat := 0x11
def tyUnreach : Nat := 0x20
def tyLinkstate : Nat := 0x21
def tyEndpoint : Nat := 0x22
def tyIdle : Nat := 0x30
def tyCredit : Nat := 0x31
def tyNak : Nat := 0x32

/-- The VC of a type (R355); link-local types have none. -/
def typeVc (ty : Nat) : Option Nat :=
  if ty = tyWrite || ty = tyReadReq || ty = tySignal then some 0
  else if ty = tyWriteAck || ty = tyReadRsp || ty = tySignalAck then some 1
  else if ty = tyCollData then some 2
  else if ty = tyCollCtl || ty = tyUnreach || ty = tyLinkstate || ty = tyEndpoint then some 3
  else none

def linkLocal (ty : Nat) : Bool := ty == tyIdle || ty == tyCredit || ty == tyNak

/-- Flits of a packet that carries `lines` lines of data (R353, R354); a WRITE and a READ_RSP have at least 2 (R355). -/
def flitsFor (ty lines : Nat) : Nat :=
  max (if ty = tyWrite || ty = tyReadRsp then 2 else 1) (ceilDiv (lines + 1) 4)

/-- A packet of this module (R353): the type, destination and contexts, tag, type fields and data. -/
def State.packet (s : State) (ty dest dctx sctx ptag : Nat) (args : List Nat) (data : List Byte) : Packet :=
  { ty := ty, vc := (typeVc ty).getD 0, dl := 0
    flits := if ty = tyCollData then 17 else flitsFor ty (data.length / 64)
    hops := 0, dest := dest, dctx := dctx, src := s.rank, sctx := sctx
    job := s.getF (CTX_CFG_JOB sctx), ptag := ptag, args := args, data := data }

/-- An answer to a packet: back to its source, with its tag, from the context that the packet was for (R353). -/
def State.answer (s : State) (pk : Packet) (ty : Nat) (args : List Nat) (data : List Byte) : Packet :=
  s.packet ty pk.src pk.sctx pk.dctx pk.ptag args data

/-- A packet whose destination is this module: it stays inside the switch and waits at the local ejection, which the
model keeps with port F0's input (log entry 12). -/
def State.loopback (s : State) (pk : Packet) : State :=
  let r := s.port 0
  s.setPort 0 { r with inbuf := r.inbuf ++ [{ pk with hops := 0 }] }

/-- The dateline class with which a packet leaves through port `p`, coming from dimension `fromDim` (R358). -/
def outDl (dims : Nat × Nat × Nat) (own p : Nat) (fromDim : Option Nat) (dl : Nat) : Nat :=
  let d := p / 2
  let c := rankCoord own d
  let n := dimOf dims d
  let next := if p % 2 = 0 then (c + 1) % n else (c + n - 1) % n
  let dl := if fromDim = some d then dl else 0
  if (c + 1 == n && next == 0) || (c == 0 && next + 1 == n) then 1 else dl

/-- A packet joins requester `req` of output `p` (R364). -/
def State.enqueue (s : State) (p req : Nat) (pk : Packet) : State :=
  let r := s.port p
  s.setPort p { r with outq := r.outq.modify req fun l => l ++ [pk] }

/-- The causes of an UNREACH (R362, R365); its type fields also name the type of the packet that it answers (log entry
12). -/
def unreachRoute : Nat := 0
def unreachRecovering : Nat := 1

/-- Where a packet goes from here (R362): delivered locally, discarded, or to an output. -/
def State.routeOut (s : State) (dest : Nat) : Nat :=
  let p := s.getF (FLU_RTE_PORT dest)
  if p < 6 && (s.getF (FLU_PORT_STATE p) == 4 || s.getF (FLU_PORT_STATE p) == 0) then 7 else p

/-- Send a packet of the switch or the endpoint into the fabric; one that cannot be routed comes back as UNREACH,
unless it is an UNREACH (R362). -/
def State.inject (s : State) (pk : Packet) : State :=
  let p := s.routeOut pk.dest
  if p = 6 then s.loopback pk
  else if p = 7 then
    if pk.ty = tyUnreach then s
    else s.loopback { s.packet tyUnreach s.rank pk.sctx pk.dctx pk.ptag [unreachRoute, pk.ty] [] with src := pk.dest }
  else s.enqueue p (4 + pk.vc) { pk with dl := outDl s.flue.dims s.rank p none 0 }

/-- Send packets of the endpoint, in order; none while local injection is stopped (R365). -/
def State.injectAll (s : State) (l : List Packet) : State := if s.flue.accepting then l.foldl State.inject s else s

/-- Discard a packet and send UNREACH to its source; an UNREACH is never answered (R362). -/
def State.discardPacket (s : State) (pk : Packet) (cause : Nat) : State :=
  if pk.ty = tyUnreach then s else s.inject (s.answer pk tyUnreach [cause, pk.ty] [])

/-- Flood an SVC packet through every ACTIVE port but one (R361, R365). -/
def State.flood (s : State) (ty : Nat) (args : List Nat) (except : Option Nat) : State :=
  ((List.range 6).filter fun p => s.portState p == portActive && except != some p).foldl
    (fun s p => s.enqueue p 7 { s.packet ty ((neighbour s.flue.dims s.rank p).getD s.rank) 0 0 0 args [] with
      dl := outDl s.flue.dims s.rank p none 0 }) s

/-- Note a link's state and flood it (R361): rank, port, generation, 1 up or 0 down. -/
def State.floodLink (s : State) (p : Nat) (up : Bool) : State :=
  let g := s.flue.gen
  let link := (s.rank, p)
  let failed := if up then s.flue.failed.filter fun l => linkKey s.flue.dims l != linkKey s.flue.dims link
    else s.flue.failed ++ [link]
  let s := { s with flue := { s.flue with gen := g + 1, failed := failed, seen := (s.rank, p, g) :: s.flue.seen } }
  s.flood tyLinkstate [s.rank, p, g, b2n up] none

/-- Flood this endpoint's state: 1 READY, 0 RECOVERING (R355, R365). -/
def State.floodEndpoint (s : State) (ready : Bool) : State :=
  let g := s.flue.gen
  let s := { s with flue := { s.flue with gen := g + 1, epSeen := (s.rank, g) :: s.flue.epSeen } }
  s.flood tyEndpoint [s.rank, g, b2n ready] none

/-! ### Buffers, credits and frames (R348, R349, R357) -/

/-- The buffer class of a packet. -/
def bufClass (pk : Packet) : Nat := 4 * pk.dl + pk.vc

/-- Buffers that a class holds beyond its 64 reserved ones. -/
def overReserved (sent granted extra : Nat) : Nat := (sent + 2 ^ 16 - granted) % 2 ^ 16 + extra - 64

/-- The sender holds credits for every flit of a packet (R357). -/
def PortRt.hasCredits (r : PortRt) (pk : Packet) : Bool :=
  decide (((List.range 8).map fun c =>
    overReserved (r.sent.getD c 0) (r.granted.getD c 0) (if c = bufClass pk then pk.flits else 0)).sum ≤ 512)

/-- One step of the CRC-24 of R348 over a byte, most significant bit first. -/
def crc24Byte (c : Nat) (b : Byte) : Nat :=
  (List.range 8).foldl (fun c _ => if c < 2 ^ 23 then 2 * c else (2 * c) ^^^ 0x1864CFB) (c ^^^ (b.toNat * 2 ^ 16))

/-- The CRC-24 of a frame: polynomial 0x86_4CFB, initial value 0xB7_04CE, over the slots, `SEQ` and `ACK` (R348). -/
def crc24 (slots : List Byte) (seq ack : Nat) : Nat :=
  (slots ++ [BitVec.ofNat 8 seq, BitVec.ofNat 8 ack]).foldl crc24Byte 0xB704CE

/-- The 64-byte header of a packet (R353); its type fields have no given layout. -/
def packetHeader (pk : Packet) : List Byte :=
  leBytes 1 pk.ty ++ leBytes 1 (pk.vc % 4 + 4 * (pk.dl % 2)) ++ leBytes 1 (pk.flits - 1) ++ leBytes 1 pk.hops
    ++ leBytes 2 (pk.dest % 2 ^ 12 + 2 ^ 12 * (pk.dctx % 16)) ++ leBytes 2 (pk.src % 2 ^ 12 + 2 ^ 12 * (pk.sctx % 16))
    ++ leBytes 2 (pk.job % 2 ^ 12) ++ leBytes 2 pk.ptag ++ leBytes 4 0 ++ leBytes 48 (Config.typeFields pk.ty pk.args)

/-- The bytes of a flit: the packet's header and data, filled up with zeros (R353). -/
def flitBytes (f : Packet × Nat) : List Byte :=
  let l := ((packetHeader f.1 ++ f.1.data).drop (256 * f.2)).take 256
  l ++ List.replicate (256 - l.length) 0

/-- The flits of a packet. -/
def packetFlits (pk : Packet) : List (Packet × Nat) := (List.range pk.flits).map fun i => (pk, i)

/-- A filler packet (R355). -/
def State.idlePacket (s : State) : Packet := { s.packet tyIdle s.rank 0 0 0 [] [] with vc := 0 }

/-- The 1,280 bytes of a frame's slots, the empty ones filled with IDLE (R348, R355). -/
def State.slotBytes (s : State) (l : List (Packet × Nat)) : List Byte :=
  (l ++ List.replicate (5 - l.length) (s.idlePacket, 0)).flatMap flitBytes

/-- The packets whose last flit is among some flits. -/
def wholePackets (l : List (Packet × Nat)) : List Packet := (l.filter fun f => f.2 + 1 == f.1.flits).map (·.1)

/-- What a frame sent now looks like on the wire: it acknowledges the last frame accepted (R348). -/
def State.sentFrame (s : State) (p seq : Nat) (l : List (Packet × Nat)) : Sent :=
  let ack := ((s.port p).rxSeq + 255) % 256
  ⟨p, seq, ack, crc24 (s.slotBytes l) seq ack, wholePackets l⟩

/-- Put sent frames on the record of the wire, newest first. -/
def State.onWire (s : State) (l : List Sent) : State :=
  { s with flue := { s.flue with wire := l.reverse ++ s.flue.wire } }

/-- Send a SKIP frame: `SEQ` and `ACK` 0xFF, with the time of its first symbol and of the last SKIP received here (R351,
R368). -/
def State.sendSkip (s : State) (p : Nat) : State :=
  let r := s.port p
  let pk := { s.idlePacket with args := [s.now, r.skipRx] }
  (s.setPort p { r with framesSent := 0, skipTx := some s.now }).onWire
    [⟨p, 0xFF, 0xFF, crc24 (s.slotBytes [(pk, 0)]) 0xFF 0xFF, [pk]⟩]

/-- A frame goes onto the wire; every 4,096th frame is a SKIP frame, which takes its turn first (R346). -/
def State.putFrame (s : State) (p : Nat) (f : Nat × Nat × List (Packet × Nat)) : State :=
  let s := if 4095 ≤ (s.port p).framesSent then s.sendSkip p else s
  (s.setPort p { s.port p with framesSent := (s.port p).framesSent + 1 }).onWire [s.sentFrame p f.1 f.2.2]

/-- Flits of frames: five slots each (R348). -/
def State.countFlits (s : State) (code p frames : Nat) : State := s.gcount (code + p) (5 * frames)

/-- The retry buffer takes one more frame (R349). -/
def PortRt.room (r : PortRt) : Bool := decide (r.unacked.length < 128)

/-- A new frame: it takes the next `SEQ`, waits in the retry buffer and leaves (R348, R349). -/
def State.newFrame (s : State) (p : Nat) (l : List (Packet × Nat)) : State :=
  let r := s.port p
  let f := (r.txSeq, 0, l)
  ((s.setPort p { r with txSeq := (r.txSeq + 1) % 256, unacked := r.unacked ++ [f] }).putFrame p f).countFlits 0x60 p 1

/-- Frames that leave when a packet joins the frame being filled (R353). -/
def PortRt.framesFor (r : PortRt) (pk : Packet) : Nat := (r.slots.length + pk.flits) / 5

/-- Packets are placed contiguously across frame boundaries: a packet fills the frame at hand and as many more as are full
with it; the rest waits for the next packet or for a fill of IDLE (R353, R355). -/
def State.placePacket (s : State) (p : Nat) (pk : Packet) : State :=
  let r := s.port p
  let l := r.slots ++ packetFlits pk
  let n := r.framesFor pk
  (List.range n).foldl (fun s i => s.newFrame p ((l.drop (5 * i)).take 5)) (s.setPort p { r with slots := l.drop (5 * n) })

/-- The frame at hand leaves, its empty slots filled with IDLE (R355). -/
def State.fillFrame (s : State) (p : Nat) : State :=
  let r := s.port p
  (s.setPort p { r with slots := [] }).newFrame p r.slots

/-- A link-local packet takes the next slot, and its frame leaves at once; it takes no credits (R348, R355). -/
def State.sendLocal (s : State) (p ty : Nat) (args : List Nat) : State :=
  let r := s.port p
  let pk := { s.packet ty s.rank 0 0 0 args [] with vc := 0 }
  (s.setPort p { r with slots := r.slots ++ [(pk, 0)] }).fillFrame p

/-- Replay the retry buffer from a frame on (R349, R350): frames counted in `REPLAY`, each frame's own count raised. -/
def State.replayFrom (s : State) (p seq : Nat) : State :=
  let r := s.port p
  let i := (r.unacked.findIdx fun f => f.1 == seq)
  let i := if i < r.unacked.length then i else 0
  let old := r.unacked.take i
  let again := (r.unacked.drop i).map fun f => (f.1, f.2.1 + 1, f.2.2)
  let s := s.setPort p { r with unacked := old ++ again }
  let s := s.addSat (FLU_PERR_REPLAY p) again.length
  again.foldl (fun s f => s.putFrame p f) s

/-- Report what has been freed (R357). -/
def State.reportCredit (s : State) (p : Nat) : State :=
  let r := s.port p
  (s.setPort p { r with reported := r.freed }).sendLocal p tyCredit r.freed

/-- Freed flits that no CREDIT has reported. -/
def PortRt.unreported (r : PortRt) : Nat :=
  ((List.range 8).map fun c => (r.freed.getD c 0 + 2 ^ 16 - r.reported.getD c 0) % 2 ^ 16).sum

/-- Flits freed from an input buffer, once the packet has left it; 256 unreported ones send a CREDIT (R357). A packet that
never crossed a link holds none. -/
def State.freeFlits (s : State) (p : Nat) (pk : Packet) : State :=
  if pk.hops = 0 then s
  else
    let r := s.port p
    let r := { r with freed := r.freed.modify (bufClass pk) fun n => (n + pk.flits) % 2 ^ 16 }
    let s := s.setPort p r
    if 256 ≤ r.unreported && s.linkUp p && r.room then s.reportCredit p else s

/-- The first packet at a port's input that a row takes, and the port without it. -/
def State.takeFirst (s : State) (p : Nat) (f : Packet → Bool) : Option (Packet × State) :=
  let r := s.port p
  (r.inbuf.find? f).map fun pk =>
    let s := s.setPort p { r with inbuf := r.inbuf.eraseP f }
    (pk, s.freeFlits p pk)

end Sys2Proof.Machine
end

