-- ==== Sys2Proof/Machine/Energy.lean ====
section
/-! DEFINITION. Paths between Bays (R32, R33, R35) and the dispatcher's energy model: the counts of a tile, their charge to
Bays and the uncore, its power and its energy (R214, R410–R414). -/

namespace Sys2Proof.Machine

open Sys2Proof

/-! ### Paths -/

/-- The Kiln of a Bay and its quadrant there (R21). -/
def kilnOf (b : Nat) : Nat := b / 4
def quadrant (b : Nat) : Nat := b % 4

/-- Mesh hops between two quadrants of a Kiln: 0–1, 0–2, 3–1 and 3–2 are links (R32). -/
def meshHops (a b : Nat) : Nat := (if a % 2 = b % 2 then 0 else 1) + (if a / 2 = b / 2 then 0 else 1)

/-- The die-to-die links by the attach Bays of their lower- and higher-numbered Kiln (R33). -/
def d2dLinks : List (Nat × Nat) := [(1, 4), (2, 8), (3, 12), (6, 9), (7, 13), (11, 14)]

/-- The attach Bays of the link between two Kilns, the first Kiln's first. -/
def attachBays (j k : Nat) : Option (Nat × Nat) :=
  (d2dLinks.find? fun l => (kilnOf l.1 == j && kilnOf l.2 == k) || (kilnOf l.1 == k && kilnOf l.2 == j)).map fun l =>
    if kilnOf l.1 = j then l else (l.2, l.1)

/-- Mesh hops and die-to-die crossings of the path between two Bays: inside a Kiln by its mesh, between Kilns by their
direct link (R32, R33, R35). -/
def bayPath (a b : Nat) : Nat × Nat :=
  if kilnOf a = kilnOf b then (meshHops (quadrant a) (quadrant b), 0)
  else match attachBays (kilnOf a) (kilnOf b) with
    | none => (0, 1)
    | some l => (meshHops (quadrant a) (quadrant l.1) + meshHops (quadrant l.2) (quadrant b), 1)

/-- The unloaded read latency between two Bays in MESH cycles, of a DRAM read or of a bay buffer read (R35). -/
def readLatency (dram : Bool) (a b : Nat) : Nat :=
  (if dram then 96 else 24) + 8 * (bayPath a b).1 + 40 * (bayPath a b).2

/-! ### Bytes by where they lie -/

/-- A range cut at 4 KiB boundaries: (address, bytes). -/
def blocks4k : Nat → Nat → Nat → List (Nat × Nat)
  | 0, _, _ => []
  | f + 1, a, n =>
    if n = 0 then []
    else
      let m := min n (4096 - a % 4096)
      (a, m) :: blocks4k f (a + m) (n - m)

/-- Bytes held by each stack, by host memory and behind Flue ports. -/
structure Placed where
  perStack : List Nat
  host : Nat
  flue : Nat
deriving DecidableEq, Repr

/-- Where the bytes of some ranges of a context lie (R371, R377). -/
def State.placed (s : State) (c : Nat) (rs : List (Nat × Nat)) : Placed :=
  (rs.flatMap fun r => blocks4k (r.2 / 4096 + 2) r.1 r.2).foldl (fun p x =>
    match s.resolve c x.1 with
    | some (.device, pa) => { p with perStack := p.perStack.set (s.stackAddr pa).1 (p.perStack.getD (s.stackAddr pa).1 0 + x.2) }
    | some (.host, _) => { p with host := p.host + x.2 }
    | some (.window _, _) => { p with flue := p.flue + x.2 }
    | none => p) ⟨List.replicate 16 0, 0, 0⟩

/-! ### The counts of a tile (R410) -/

/-- What a tile's estimate counts apart from its stack-port, mesh and die-to-die bytes, which follow from its ranges: the
operations by coefficient index, and the ranges that it moves. -/
structure Counts where
  ops : List (Nat × Nat)
  ranges : List (Nat × Nat)
deriving DecidableEq, Repr

/-- The element plane of a block of an operand: what the worked example of R414 counts of a BBF tile. -/
def TDesc.plane (rd : Nat → Byte) (t : TDesc) (tk tO : Nat) : List (Nat × Nat) :=
  match blockHdr rd t tk tO with
  | some h => [(t.tileAddr tk tO + 320 + 1024 * h.slots, 2048 * h.fmt.width)]
  | none => t.blockReads rd tk tO

/-- Products of segment `j` of an output tile over one K tile: positions where both elements hold data (R484). -/
def MatOp.pairsAt (rd : Nat → Byte) (op : MatOp) (tm tn j tk : Nat) : Nat :=
  let a := op.a.validOf rd tk tm
  let b := op.b.validOf rd tk tn
  let lo := 32 * op.segLen * j - 128 * tk
  let hi := min (min a.2.1 b.2.1) (32 * op.segLen * (j + 1) - 128 * tk)
  a.1 * b.1 * (hi - lo)

/-- The coefficient of an operation's products (R410). -/
def CellOp.coef : CellOp → Nat
  | .x1 => 0
  | .x2 => 1
  | .x4 => 2
  | .x84 => 3
  | .x88 => 4
  | .table => 5
  | .stream => 6

/-- Products, table products or stream bits of segment `j` over one K tile, with their coefficient. -/
def MatOp.opsAt (rd : Nat → Byte) (op : MatOp) (tm tn j tk : Nat) : Nat × Nat :=
  let c := op.cellAt rd tm tn tk
  let n := op.pairsAt rd tm tn j tk
  let fa := op.a.fmtAt rd tk tm
  let fb := op.b.fmtAt rd tk tn
  (c.coef, match c with
    | .stream => n * streamLen op.slen
    | .x88 => if fa.isNarrow && fb.isNarrow then n else n * (passes fa fb op.fast).length
    | _ => n)

/-- Hearth store bytes of a pass: the streamed rows, and the latch load at 256 bytes a cycle unless an earlier tile of the
work group has loaded it (R83, R93, R97). -/
def MatOp.storeBytes (op : MatOp) (rows : Nat) (first : Bool) (p : Pass) : Nat :=
  rows * p.kn * (if op.latchesA then p.fb.width else p.fa.width) / 8 + (if first then 256 * p.load else 0)

/-- The counts of segment `j` of an output tile (R410): operations, store bytes, values encoded, and the ranges moved: the
operands' element planes, codebook records, the epilogue's vectors and old output, and the output with the last segment.
`first`: the tile loads the latched side for its work group. -/
def MatOp.counts (rd : Nat → Byte) (op : MatOp) (bbf : Option BbfOut) (tm tn j : Nat) (first : Bool) : Counts :=
  let ps := op.passList rd tm tn j
  let rows := op.rowsStreamed tm tn
  let last := j + 1 == op.segments
  let values := (tileSpan tm op.a.rows).length * (tileSpan tn op.b.rows).length
  let vec (a t n : Nat) : List (Nat × Nat) := if a = 0 then [] else [(a + 512 * t, 4 * (tileSpan t n).length)]
  let streamed (tk : Nat) := if op.latchesA then op.b.plane rd tk tn else op.a.plane rd tk tm
  let latched (tk : Nat) := if op.latchesA then op.a.plane rd tk tm else op.b.plane rd tk tn
  let out : List (Nat × Nat) := match bbf with
    | some o => [(o.td.tileAddr tn tm, Sys2Proof.Machine.tileBytes (o.infoOf tn).format (slotCount (o.infoOf tn).slotsCode))]
    | none => op.out.blockReads rd tn tm
  { ops := ((op.segTiles j).map fun tk => op.opsAt rd tm tn j tk)
      ++ [(7, (ps.map fun p => op.storeBytes rows first p).sum), (9, if bbf.isSome && last then values else 0)]
    ranges := ((op.segTiles j).flatMap fun tk => streamed tk ++ (if first then latched tk else []))
      ++ vec op.bias tn op.out.cols ++ vec op.rho tm op.a.rows ++ vec op.gamma tn op.b.rows
      ++ (if op.kind = .table && first then [op.codebook tn j] else [])
      ++ (if op.accum && last then op.out.blockReads rd tn tm else []) ++ (if last then out else []) }

/-- Parameters of an update or digest tile. -/
def paramsOf (npar t : Nat) : Nat := min 4096 (npar - 4096 * t)

/-- The bytes that tile `t` of a plan writes, as ranges. -/
def Plan.outRanges (p : Plan) (rd : Nat → Byte) (t : Nat) : List (Nat × Nat) :=
  let unit (o : BbfOut) (u : Nat) := (o.unitTiles u).map fun x =>
    (o.td.tileAddr x.1 x.2, Sys2Proof.Machine.tileBytes (o.infoOf x.1).format (slotCount (o.infoOf x.1).slotsCode))
  match p with
  | .convert op (some o) => if op.kind = .amax then [] else unit o t
  | .convert op none => op.out.blockReads rd (t % op.out.kTiles) (t / op.out.kTiles)
  | .vector op => (tileSpan t op.inp.rows).flatMap fun o =>
      (op.out.base + o * op.out.stride, op.out.elemBytes * op.out.cols)
        :: op.out2.toList.map fun x => (x.base + o * x.stride, x.elemBytes * x.cols)
  | .move op => [(op.dst + 65536 * t, min 65536 (op.len - 65536 * t))]
  | .update op b =>
    if op.tiles ≤ t then (b.toList.flatMap fun o => unit o (t - op.tiles))
    else
      let i := 4096 * t
      let n := paramsOf op.npar t
      let mw := if op.bf then 2 else 4
      [(op.wHiDst + 4 * i, 4 * n), (op.wExtDst + 2 * i, 2 * n)] ++ (if op.rule = .sgd then [] else [(op.mDst + mw * i, mw * n)])
  | _ => []

/-- The values of a block of a tensor. -/
def TDesc.blockValues (t : TDesc) (tk tO : Nat) : Nat := (tileSpan tk t.cols).length * (tileSpan tO t.rows).length

/-- The values of a scale unit. -/
def BbfOut.unitValues (o : BbfOut) (u : Nat) : Nat := ((o.unitTiles u).map fun x => o.td.blockValues x.1 x.2).sum

/-- The counts of tile `t` of a command (R410). -/
def Plan.counts (rd : Nat → Byte) (p : Plan) (opc t : Nat) (first : Bool) : Counts :=
  match p with
  | .matrix op bbf =>
    op.counts rd bbf (t / op.segments / op.b.oTiles) (t / op.segments % op.b.oTiles) (t % op.segments) first
  | .packed ps =>
    let cs := ps.flatMap fun q => (List.range (q.1.a.oTiles * q.1.b.oTiles)).map fun u =>
      q.1.counts rd q.2 (u / q.1.b.oTiles) (u % q.1.b.oTiles) 0 true
    ⟨cs.flatMap (·.ops), cs.flatMap (·.ranges)⟩
  | .convert op bbf =>
    let inp := if op.inp.kind = kBBF then 1 else 0
    let vals := match bbf with
      | some o => o.unitValues t
      | none => op.out.blockValues (t % op.out.kTiles) (t / op.out.kTiles)
    let reads := match bbf with
      | some o => p.unitReads rd 0 o t false []
      | none => p.tileReads rd t
    ⟨[(9, vals * (inp + (if bbf.isSome then 1 else 0)))], reads ++ p.outRanges rd t⟩
  | .vector op =>
    ⟨[(10, Config.hobOps opc op.func ((tileSpan t op.inp.rows).length * op.inp.cols))], p.tileReads rd t ++ p.outRanges rd t⟩
  | .update op b =>
    if op.tiles ≤ t then
      let us := b.toList
      ⟨[(9, (us.map fun o => o.unitValues (t - op.tiles)).sum)],
        (us.flatMap fun o => p.unitReads rd 0 o (t - op.tiles) false []) ++ p.outRanges rd t⟩
    else ⟨[(11, paramsOf op.npar t)], p.tileReads rd t ++ p.outRanges rd t⟩
  | .digest _ _ npar _ _ => ⟨[(11, paramsOf npar t)], p.tileReads rd t⟩
  | _ => ⟨[], p.tileReads rd t ++ p.outRanges rd t⟩

/-! ### Charges (R412) -/

/-- The raw estimate of a tile in units of 2⁻⁸ fJ: the part charged to the Bay where it runs, the part charged to the Bay
under each stack, and the part charged to the uncore. -/
structure Charge where
  own : Nat
  perStack : List Nat
  uncore : Nat
deriving DecidableEq, Repr

/-- The effective coefficient cᵢ (R410). -/
def State.coef (s : State) (i : Nat) : Nat := s.getF (DMP_ECOEF_EFF i)

/-- The charge of a tile that runs in Bay `b`: stack-port bytes to the stacks' Bays, CXL bytes to the uncore, all else to
the Bay where it runs; mesh and die-to-die bytes along the paths of R35 from the stack that holds each byte. Host bytes
travel between the Bay and B5, where host traffic enters (R35). -/
def State.chargeOf (s : State) (c b : Nat) (n : Counts) : Charge :=
  let p := s.placed c n.ranges
  let bytes := p.perStack.sum + p.host + p.flue
  let hops := ((List.range 16).map fun k => p.perStack.getD k 0 * (bayPath k b).1).sum + p.host * (bayPath 5 b).1
  let cross := ((List.range 16).map fun k => p.perStack.getD k 0 * (bayPath k b).2).sum + p.host * (bayPath 5 b).2
  { own := (n.ops.map fun x => s.coef x.1 * x.2).sum + s.coef 8 * bytes + s.coef 13 * hops + s.coef 14 * cross
      + s.coef 15 * p.flue
    perStack := p.perStack.map fun x => s.coef 12 * x
    uncore := s.coef 15 * p.host }

/-- What Bay `k` is charged of a tile that runs in Bay `b`. -/
def Charge.to (c : Charge) (b k : Nat) : Nat := c.perStack.getD k 0 + if k = b then c.own else 0

/-- The time of a tile at duty 16 in ARITH cycles: R96 for a product, over the rows of its whole work group; a packed
tile's slowest problem (R86); any other tile's is not given. -/
def Plan.fullTime (rd : Nat → Byte) (p : Plan) (opc : Nat) (ts : List Nat) (bytes : Nat) : Nat :=
  match p with
  | .matrix op _ =>
    let pos (t : Nat) := (t / op.segments / op.b.oTiles, t / op.segments % op.b.oTiles)
    match ts with
    | [] => 1
    | t :: _ =>
      passTime (op.rowCycles * (ts.map fun t => op.rowsStreamed (pos t).1 (pos t).2).sum)
        (op.passList rd (pos t).1 (pos t).2 (t % op.segments))
  | .packed ps => (ps.map fun q => ((List.range (q.1.a.oTiles * q.1.b.oTiles)).map fun u =>
      passTime (q.1.rowCycles * q.1.rowsStreamed (u / q.1.b.oTiles) (u % q.1.b.oTiles))
        (q.1.passList rd (u / q.1.b.oTiles) (u % q.1.b.oTiles) 0)).sum).foldl max 1
  | _ => Config.tileTime opc bytes + 1

/-- An energy in units of 2⁻¹⁶ fJ over a time in ARITH cycles of 940 MHz, as power in 1/16 W. -/
def powerOf (e t : Nat) : Rat := mkRat (e * 16 * 94) (2 ^ 16 * 10 ^ 8 * t)

end Sys2Proof.Machine
end

