-- ==== Sys2Proof/Machine/Hearths.lean ====
section
/-! DEFINITION. Hearth groups and physical positions (R22, R102), Hearth states (R104–R111), the enabled count and map (R5, R24), suspicion, quarantine and the
withdrawal of a Bay's Glaze or Hob (R446–R449), and tiles that a Hearth gives up (R106). -/

namespace Sys2Proof.Machine

open Sys2Proof

/-! ### States -/

def hOffline : Nat := 0
def hEnabled : Nat := 1
def hDrained : Nat := 2
def hQuarantined : Nat := 3
def hSparePending : Nat := 4
def hRetired : Nat := 5
def hFusedOff : Nat := 6

/-- The Bay of a Hearth: 18 Hearths in each. -/
def hearthBay (h : Nat) : Nat := h / 18

/-- The Hearth group `HG` of a Hearth in its Bay, which is also the index of the stack-port requester that moves its
operands and outputs (R22, R387). -/
def hearthGroup (h : Nat) : Nat := h % 18 / 6

/-- The physical rows and columns that a Hearth's active records skip: valid and not pending (R102). -/
def State.skippedRows (s : State) (h : Nat) : List Nat :=
  (if s.flag (HTH_RREP_VALID0 h) && !s.flag (HTH_RREP_PEND0 h) then [s.getF (HTH_RREP_PHYS0 h)] else [])
    ++ (if s.flag (HTH_RREP_VALID1 h) && !s.flag (HTH_RREP_PEND1 h) then [s.getF (HTH_RREP_PHYS1 h)] else [])
def State.skippedCols (s : State) (h : Nat) : List Nat :=
  (if s.flag (HTH_CREP_VALID0 h) && !s.flag (HTH_CREP_PEND0 h) then [s.getF (HTH_CREP_PHYS0 h)] else [])
    ++ (if s.flag (HTH_CREP_VALID1 h) && !s.flag (HTH_CREP_PEND1 h) then [s.getF (HTH_CREP_PHYS1 h)] else [])

/-- Logical position `r` lies on the `r`-th of the physical positions 0–129 that no active record names (R102). -/
def physicalOf (skipped : List Nat) (r : Nat) : Option Nat := ((List.range 130).filter fun p => !skipped.contains p)[r]?

/-- The physical row of logical row `r`, and the physical column of logical column `c`, of a Hearth (R102). -/
def State.physRow (s : State) (h r : Nat) : Option Nat := if r < 128 then physicalOf (s.skippedRows h) r else none
def State.physCol (s : State) (h c : Nat) : Option Nat := if c < 128 then physicalOf (s.skippedCols h) c else none

/-- A physical cell that carries a logical position of the array in use (R78, R102). -/
def State.cellInUse (s : State) (h row col : Nat) : Bool :=
  (List.range 128).any (fun r => s.physRow h r == some row) && (List.range 128).any (fun c => s.physCol h c == some col)

def State.hState (s : State) (h : Nat) : Nat := s.getF (HTH_STATE_STATE h)

/-- Counted in `HEARTHS_ENABLED` (R104). -/
def hCounted (st : Nat) : Bool := decide (1 ≤ st) && decide (st ≤ 4)

/-- The map, the count and `DEGRADED` follow the states (R5, R24, R110, R454). -/
def State.syncHearths (s : State) : State :=
  let on := (List.range 288).filter fun h => hCounted (s.hState h)
  let s := (List.range 9).foldl (fun s n =>
    s.setF (ID_HMAP_EN n) ((on.filter fun h => h / 32 == n).map fun h => 2 ^ (h % 32)).sum) s
  let s := s.setF ID_HEARTHS_HEARTHS_ENABLED on.length
  let deg := decide (on.length < s.getF ID_PART_HEARTHS_GRADE)
  let was := s.flag ID_HEARTHS_DEGRADED
  let s := s.setF ID_HEARTHS_DEGRADED (b2n deg)
  if deg && !was then
    let s := s.alert SVC_ALERT_DEGRADED
    let s := s.logEvent 0x0022 0 (leBytes 4 (s.word [(31, ID_HEARTHS_DEGRADED), (0, ID_HEARTHS_HEARTHS_ENABLED)]))
    s.irq 0 69
  else if was && !deg then s.irq 0 69
  else s

/-- `HTH_RREPh` and `HTH_CREPh` as words. -/
def State.rrep (s : State) (h : Nat) : Nat :=
  s.word [(31, HTH_RREP_VALID1 h), (30, HTH_RREP_FIELD1 h), (29, HTH_RREP_PEND1 h), (16, HTH_RREP_PHYS1 h),
    (15, HTH_RREP_VALID0 h), (14, HTH_RREP_FIELD0 h), (13, HTH_RREP_PEND0 h), (0, HTH_RREP_PHYS0 h)]

def State.crep (s : State) (h : Nat) : Nat :=
  s.word [(31, HTH_CREP_VALID1 h), (30, HTH_CREP_FIELD1 h), (29, HTH_CREP_PEND1 h), (16, HTH_CREP_PHYS1 h),
    (15, HTH_CREP_VALID0 h), (14, HTH_CREP_FIELD0 h), (13, HTH_CREP_PEND0 h), (0, HTH_CREP_PHYS0 h)]

/-- Record a Hearth's state in the NVM: the persistent event and the fact that the next boot reads (R105, R532). -/
def State.recordHearth (s : State) (h st : Nat) : State :=
  let s := s.logEvent 0x0010 1 (leBytes 4 h ++ leBytes 4 st ++ leBytes 4 (s.rrep h) ++ leBytes 4 (s.crep h))
  { s with stoker := { s.stoker with states := s.stoker.states.set 0 h st } }

/-- A Hearth takes a state: RETIRED, QUARANTINED and SPARE_PENDING are recorded (R105, R532). -/
def State.noteHearth (s : State) (h st : Nat) : State :=
  let s := s.setF (HTH_STATE_STATE h) st
  if st = hRetired || st = hQuarantined || st = hSparePending then s.recordHearth h st
  else { s with stoker := { s.stoker with states := s.stoker.states.set 0 h 0 } }

/-- A Hearth takes a state, and the map and count follow. -/
def State.setHearthState (s : State) (h st : Nat) : State := (s.noteHearth h st).syncHearths

/-! ### Tiles given up -/

/-- The engine type of a queue. -/
def State.engine (s : State) (q : Nat) : Nat := s.getF (QUE_CFG_ENGINE q)

/-! ### Runs and what they count -/

/-- The counter events of a run over segment `j` of an output tile: products, truncations and conversions (R115, R122,
R484). -/
def MatOp.runCounts (rd : Nat → Byte) (op : MatOp) (tm tn j : Nat) : List (Nat × Nat) :=
  let m := (segmentPart rd op tm tn j).2
  let weight (tk : Nat) : Nat :=
    if op.kind = .table || op.kind = .stream then 1
    else pairProducts (op.a.fmtAt rd tk tm) (op.b.fmtAt rd tk tn) op.fast
  [(0x05, ((op.segTiles j).map fun tk => op.pairsAt rd tm tn j tk * weight tk).sum), (0x1A, m.trunc),
    (0x1B, m.truncGroups), (0x1C, m.convert)]

/-- A product reads a tile with a valid outlier slot, so that the outlier lane may stall (R153, R154). -/
def MatOp.hasSlots (rd : Nat → Byte) (op : MatOp) (tm tn j : Nat) : Bool :=
  let any (t : TDesc) (tO : Nat) : Bool := (op.segTiles j).any fun tk => match blockHdr rd t tk tO with
    | some h => (List.range 512).any fun b => (tileSlots rd (t.tileAddr tk tO) h b).any fun w => bitOf w 15
    | none => false
  any op.a tm || any op.b tn

/-- The products that a tile runs: problem, output tile and segment. -/
def Plan.runs (p : Plan) (t : Nat) : List (MatOp × Nat × Nat × Nat) :=
  match p with
  | .matrix op _ => [(op, t / op.segments / op.b.oTiles, t / op.segments % op.b.oTiles, t % op.segments)]
  | .packed ps => ps.flatMap fun q => (List.range (q.1.a.oTiles * q.1.b.oTiles)).map fun u =>
      (q.1, u / q.1.b.oTiles, u % q.1.b.oTiles, 0)
  | _ => []

/-- The events of the products of a tile's run, whole; the stalls of the outlier lane or of the generators are free values
(R154, R213; log entry 2), and none arises where no operand holds a valid slot. -/
def State.countRun (s : State) (f : Flight) (t : Nat) : State :=
  let c := s.ctxOf f.q
  let rd := s.vbyte c
  (f.plan.runs t).foldl (fun s x =>
    let s := s.countAll c (x.1.runCounts rd x.2.1 x.2.2.1 x.2.2.2)
    let (n, s) := s.fresh
    if x.1.kind = .stream then s.count c 0x1E n
    else s.count c 0x1D (if x.1.hasSlots rd x.2.1 x.2.2.1 x.2.2.2 then n else 0)) s

/-- The events of a vector or update tile's own computation (R273, R297, R298, R300). -/
def Plan.ownCounts (rd : Nat → Byte) (p : Plan) (t : Nat) : List (Nat × Nat) :=
  match p with
  | .vector op => [(0x23, (op.tile rd t).2)]
  | .update op _ =>
    if op.tiles ≤ t then []
    else
      let r := op.block rd t
      [(0x20, r.zeroRms), (0x21, r.nonfin), (0x22, r.frozen)]
  | _ => []

/-- The busy-time events of a tile that ends; their cycles are free values (R484; log entry 2). -/
def State.countBusy (s : State) (f : Flight) (t : Nat) : State :=
  let e := s.getF (QUE_CFG_ENGINE f.q)
  let c := s.ctxOf f.q
  let (n, s) := s.fresh
  match f.running.find? fun r => r.tile == t with
  | none => s
  | some r =>
    if e = 1 then (s.count c 0x03 n).setHearth r.inst { s.hearth r.inst with busy := (s.hearth r.inst).busy + n }
    else if e = 2 || e = 5 then s.count c 0x04 n else s

/-- A tile's run ends with its work done. -/
def State.runEnds (s : State) (f : Flight) (t : Nat) : State :=
  let s := s.countBusy f t
  if f.running.any fun r => r.tile == t then s.countRun f t else s

/-- A tile's run is cut short: it fails, or is abandoned. R485 counts the work that it did; how far it had come is not
stated, so each event takes a free part of the whole run's count (DESIGN CHOICE, log entry 49). -/
def State.runCut (s : State) (f : Flight) (t : Nat) : State :=
  let c := s.ctxOf f.q
  let rd := s.vbyte c
  if f.running.any fun r => r.tile == t then
    let whole := ((f.plan.runs t).flatMap fun x => x.1.runCounts rd x.2.1 x.2.2.1 x.2.2.2) ++ f.plan.ownCounts rd t
    let s := whole.foldl (fun s e =>
      let (n, s) := s.fresh
      s.count c e.1 (n % (e.2 + 1))) (s.countBusy f t)
    let (n, s) := s.fresh
    if (f.plan.runs t).any fun x => x.1.kind == .stream then s.count c 0x1E n
    else s.count c 0x1D (if (f.plan.runs t).any fun x => x.1.hasSlots rd x.2.1 x.2.2.1 x.2.2.2 then n else 0)
  else s

/-- What Glaze holds of the units of some tiles is dropped (R87, R139). -/
def Flight.dropHeld (f : Flight) (ts : List Nat) : Flight :=
  { f with units := f.units.filter fun r => r.writes.isEmpty || !((f.plan.unitTileIdx r.unitIdx).any ts.contains) }

/-- A flight's tile goes back to the dispatcher; a rotation pair goes back together (R106, R444). -/
def Flight.putBack (f : Flight) (tile : Nat) : Flight :=
  let f := f.dropHeld [tile]
  { f with running := f.running.filter fun r => r.tile != tile
           again := if f.again.contains tile then f.again else f.again ++ [tile] }

/-- Every MATRIX tile that a Hearth holds is abandoned and placed again without counting a retry (R106). -/
def State.abandonOn (s : State) (h : Nat) : State :=
  let hit (s : State) (f : Flight) : List Nat :=
    if s.engine f.q == 1 then (f.running.filter fun r => r.inst == h).map (·.tile) else []
  let s := s.flights.foldl (fun s f => (hit s f).foldl (fun s t => s.runCut f t) s) s
  { s with flights := s.flights.map fun f => (hit s f).foldl Flight.putBack f }

/-- A Hearth enters QUARANTINED: its tiles are abandoned at once and the quarantine is counted over 168 h of ACTIVE time
(R106, R447, R448, R460). -/
def State.quarantine (s : State) (h : Nat) : State :=
  if s.hState h == hEnabled || s.hState h == hDrained then
    let r := s.hearth h
    let keep := (s.damper.periods :: r.quar).filter fun t => decide (s.damper.periods < t + 168 * 36000000)
    let s := s.setHearth h { r with quar := keep, testing := false }
    let s := s.setF (HTH_CONE_QUAR h) (min keep.length 3)
    (s.setHearthState h hQuarantined).abandonOn h
  else s

/-- A mismatch on a Hearth's own path: counted; a first one makes it suspect, a second quarantines it (R443, R445,
R447). -/
def State.hearthMismatch (s : State) (h : Nat) : State :=
  let s := s.addSat (HTH_STATE_MISMATCH h) 1
  if s.flag (HTH_CONE_SUSPECT h) then s.quarantine h else s.setF (HTH_CONE_SUSPECT h) 1

/-- The Bay's Glaze is marked faulty, a mark that the next maintenance reset must still find, and every Hearth of the Bay
is quarantined (R449). -/
def State.glazeFault (s : State) (b : Nat) : State :=
  let s := s.setBit HTH_GLZSTAT_GLAZEBAD b true
  let s := { s with stoker := { s.stoker with glazeMark := s.getF HTH_GLZSTAT_GLAZEBAD } }
  (List.range 18).foldl (fun s i => s.quarantine (18 * b + i)) s

/-- The times, in 100 µs periods of ACTIVE time, that lie within the last hour. -/
def State.withinHour (s : State) (l : List Nat) : List Nat :=
  (s.damper.periods :: l).filter fun t => decide (s.damper.periods < t + 36000000)

/-- A residue mismatch of a Bay's Glaze: two within 1 h fault it (R449). -/
def State.glazeMismatch (s : State) (b : Nat) : State :=
  let r := s.bay b
  let l := s.withinHour r.glzTimes
  let s := s.setBay b { r with glzTimes := l }
  if 2 ≤ l.length then s.glazeFault b else s

/-- A residue mismatch of a Bay's Hob or update datapath: two within 1 h withdraw both (R446). -/
def State.unitMismatch (s : State) (b : Nat) : State :=
  let r := s.bay b
  let l := s.withinHour r.resTimes
  let s := s.setBay b { r with resTimes := l }
  if 2 ≤ l.length then s.setBit HTH_GLZSTAT_HOBOFF b true else s

/-! ### Instances that may take a tile -/

def State.glazeBad (s : State) (b : Nat) : Bool := bitOf (s.getF HTH_GLZSTAT_GLAZEBAD) b
def State.hobOff (s : State) (b : Nat) : Bool := bitOf (s.getF HTH_GLZSTAT_HOBOFF) b

/-- An instance of an engine holds a tile. -/
def State.instBusy (s : State) (engine inst : Nat) : Bool :=
  s.flights.any fun f => s.engine f.q == engine && f.running.any fun r => r.inst == inst

/-- The instances of an engine in a Bay that may take tiles: ENABLED Hearths; the Hob, move unit or update datapath
(R36, R104, R446, R449). `emit`: an UPDATE that emits. -/
def State.instances (s : State) (engine b : Nat) (emit : Bool) : List Nat :=
  if engine = 1 then
    if s.glazeBad b then [] else ((List.range 18).map fun i => 18 * b + i).filter fun h => s.hState h == hEnabled
  else if engine = 2 then (if s.hobOff b then [] else [b])
  else if engine = 5 then (if s.hobOff b || (emit && s.glazeBad b) then [] else [b])
  else if engine = 3 then [b]
  else []

/-- An instance is free: no tile, and no cone test in progress (R414, R417). -/
def State.instFree (s : State) (engine inst : Nat) : Bool :=
  !s.instBusy engine inst && !(engine == 1 && (s.hearth inst).testing)

/-- The Bays that are excluded for a tile by its mismatches there (R443–R445). -/
def Flight.exclBays (f : Flight) (engine : Nat) (tiles : List Nat) : List Nat :=
  (f.mism.filter fun m => tiles.contains m.1 && m.2.2).map fun m => if engine = 1 then hearthBay m.2.1 else m.2.1

/-- A retry may run on an instance: not where the tile failed, and not in an excluded Bay unless every other Bay is
unavailable (R279, R443–R445). -/
def State.retryOk (s : State) (f : Flight) (emit : Bool) (tiles : List Nat) (inst : Nat) : Bool :=
  let e := s.engine f.q
  let b := if e = 1 then hearthBay inst else inst
  let ex := f.exclBays e tiles
  let noOther := (List.range 16).all fun b => ex.contains b || (s.instances e b emit).isEmpty
  !(f.mism.any fun m => tiles.contains m.1 && m.2.1 == inst) && (!ex.contains b || noOther)

/-- Some instance could ever take a retry. -/
def State.retryPossible (s : State) (f : Flight) (emit : Bool) (tiles : List Nat) : Bool :=
  (List.range 16).any fun b => (s.instances (s.engine f.q) b emit).any fun i => s.retryOk f emit tiles i

end Sys2Proof.Machine
end

