-- ==== Sys2Proof/Machine/Dispatcher.lean ====
section
/-! DEFINITION. The dispatcher (R413–R415): candidates, eligible Bays, placement, and how tiles end: landed (R476),
failed (R279, R280) or given back. -/

namespace Sys2Proof.Machine

open Sys2Proof

/-! ### The in-flight ledger's accumulation (R226, R475) -/

/-- The counts and the amax of a command under one stat key: those held from before a resumption and those of the
units that `p` takes. -/
def Flight.sumFor (f : Flight) (key : Nat × Bool) (p : UnitRec → Bool) : StatCounts × Nat :=
  let us := f.units.filter fun r => r.statIdx == key.1 && r.lane == key.2 && p r
  let hs := f.held.filter fun h => h.1 == key.1 && h.2.1 == key.2
  (hs.foldl (fun a h => addCounts a h.2.2.1) (us.foldl (fun a r => addCounts a r.counts) zeroCounts),
    hs.foldl (fun a h => max a h.2.2.2) (us.foldl (fun a r => max a r.amax) 0))

/-- The 128 bytes of an accumulation entry: the counts of the tiles recorded as done. -/
def Flight.accBytes (f : Flight) (key : Nat × Bool) : List Byte :=
  let r := f.sumFor key fun r => (f.plan.unitTileIdx r.unitIdx).all f.done.contains
  leBytes 4 key.1 ++ leBytes 4 (if key.2 then f.stepAt % 2 ^ 32 else f.winAt) ++ leBytes 4 (b2n key.2) ++ leBytes 4 r.2
    ++ leBytes 16 0 ++ bankBytes r.1 ++ leBytes 32 0

/-- Write a command's accumulation entries. -/
def State.putAcc (s : State) (f : Flight) : State :=
  ((f.statKeys (s.evalOf f.q f.words)).zipIdx).foldl (fun s k => s.dwrite (accAddr f.q (f.accFirst + k.2)) (f.accBytes k.1)) s

/-- Replace a flight, its slot and its accumulation. -/
def State.putFlight (s : State) (f : Flight) : State := ((s.setFlight f).putSlot f).putAcc f

/-! ### Candidates -/

/-- An UPDATE whose narrow emission needs Glaze (R449). -/
def Flight.emits (f : Flight) : Bool := match f.plan with
  | .update op _ => op.emit
  | _ => false

/-- The command has decided to escalate into a wider format and the passes have not run (R181, R183). -/
def Flight.escOpen (f : Flight) : Bool := f.esc.any fun e => e.wide && !e.passed

/-- Tiles that may be placed so far: an UPDATE's emission panels wait for its update tiles (R305); a command that has
decided to escalate places no output tile (R181). -/
def Flight.limit (f : Flight) : Nat :=
  match f.plan with
  | .update op _ => if f.phase < 2 then min f.total op.tiles else if f.escOpen then 0 else f.total
  | _ => if f.escOpen then 0 else f.total

/-- A tile is neither running, held as a partial, done nor failed. -/
def Flight.isOpen (f : Flight) (t : Nat) : Bool :=
  !(f.running.any fun r => r.tile == t) && !f.parts.contains t && !f.done.contains t
    && !(f.failed.any fun p => p.1 == t)

/-- The candidate tile of a flight: one to place again, or its lowest unplaced tile, within the ledger's window
(R413, R476). A command that has ended with a status places none. -/
def Flight.candidate (f : Flight) : Option Nat :=
  if !f.errs.isEmpty then none
  else
    let t := match f.again with
      | t :: _ => some t
      | [] => ((List.range f.limit).drop f.nextTile).find? f.isOpen
    t.filter fun t => decide (t < wmark f.done f.total + 4608)

/-- The candidate of a queue: its oldest flight that has one. -/
def State.candidateOf (s : State) (q : Nat) : Option (Flight × Nat) :=
  (s.flightsOf q).findSome? fun f => f.candidate.map fun t => (f, t)

/-- The other tile of a size-256 rotation pair (R139): the partner unit's, for the same segment. -/
def Flight.pairTile (f : Flight) (t : Nat) : Option Nat :=
  let swap (k : Nat) : Nat := if k % 2 = 0 then k + 1 else k - 1
  let inRow (o : BbfOut) (u : Nat) : Nat := u / o.td.kTiles * o.td.kTiles + swap (u % o.td.kTiles)
  match f.plan with
  | .matrix op (some o) =>
    if (o.infoOf 0).rot = 4 then some (inRow o (t / op.segments) * op.segments + t % op.segments) else none
  | .convert _ (some o) =>
    if o.panel then (if (o.infoOf t).rot = 4 then some (swap t) else none)
    else if (o.infoOf 0).rot = 4 then some (inRow o t) else none
  | .update op (some o) =>
    if op.tiles ≤ t && (o.infoOf (t - op.tiles)).rot == 4 then some (op.tiles + swap (t - op.tiles)) else none
  | _ => none

/-- A candidate and its partner run on two Hearths of one Bay: an epilogue output's rotation pair (R139, R414). -/
def Flight.paired (f : Flight) (t : Nat) : Option Nat :=
  match f.plan, f.pairTile t with
  | .matrix _ _, some p =>
    if f.again.contains p || (f.isOpen p && decide (p < f.limit)) then some p else none
  | _, _ => none

/-- Two tiles of a product share a latch load (R83): under WS the column range, under IS the row range, with the same
segment and the same operations pass by pass. -/
def MatOp.sharesLatch (rd : Nat → Byte) (op : MatOp) (t u : Nat) : Bool :=
  let pos (t : Nat) := (t / op.segments / op.b.oTiles, t / op.segments % op.b.oTiles)
  let cells (t : Nat) := (op.passList rd (pos t).1 (pos t).2 (t % op.segments)).map (·.cell)
  t % op.segments == u % op.segments
    && ((op.df == 0 && (pos t).2 == (pos u).2) || (op.df == 2 && (pos t).1 == (pos u).1)) && cells t == cells u

/-- The work group of a candidate (R83, R96): up to three further unplaced tiles that share its latch load. A tile that is
placed again, and one of a rotation pair, goes without (DESIGN CHOICE: R83 says "up to 4" and not when fewer, log entry
50). -/
def Flight.mates (rd : Nat → Byte) (f : Flight) (t : Nat) : List Nat :=
  match f.plan with
  | .matrix op _ =>
    if f.again.contains t || (f.pairTile t).isSome then []
    else (((List.range (min f.limit (wmark f.done f.total + 4608))).drop (t + 1)).filter fun u =>
      !f.again.contains u && f.isOpen u && op.sharesLatch rd t u).take 3
  | _ => []

/-- The tiles that are placed together with a candidate: its rotation pair, or its work group. -/
def State.group (s : State) (f : Flight) (t : Nat) : List Nat :=
  match f.paired t with
  | some p => [t, p]
  | none => t :: f.mates (s.vbyte (s.ctxOf f.q)) t

/-- The instances that a group takes: one for each tile of a rotation pair, one for a work group (R83, R139). -/
def Flight.instCount (f : Flight) (ts : List Nat) : Nat :=
  if (ts.head?.bind f.paired).isSome && decide (1 < ts.length) then 2 else 1

/-! ### Eligible Bays (R414) -/

/-- A signed field of `n` bits. -/
def signedOf (n w : Nat) : Int := if w < 2 ^ (n - 1) then (w : Int) else (w : Int) - 2 ^ n

/-- A stack's temperature in 1/16 °C: the larger of its two sensors (R400). -/
def State.stackTemp (s : State) (b : Nat) : Int :=
  max (signedOf 12 (s.getF (DMP_TDRM_TOP b))) (signedOf 12 (s.getF (DMP_TDRM_BOT b)))

/-- A Bay's committed power in 1/16 W (R414). -/
def State.committed (s : State) (b : Nat) : Rat := ((s.flights.flatMap (·.running)).map fun r => r.power.getD b 0).sum

/-- The charge of tile `t` of a group placed in Bay `b` (R410, R412): the first tile of a work group loads the latched side
for all (R83). -/
def State.tileCharge (s : State) (f : Flight) (ts : List Nat) (t b : Nat) : Charge :=
  let c := s.ctxOf f.q
  s.chargeOf c b (f.plan.counts (s.vbyte c) (cOpc f.words) t (f.instCount ts == 2 || ts.head? == some t))

/-- `T_full` of tile `t` of a group: its work group counts as one tile (R96, R414). -/
def State.tileTime (s : State) (f : Flight) (ts : List Nat) (t : Nat) : Nat :=
  let rd := s.vbyte (s.ctxOf f.q)
  let bytes := ((f.plan.counts rd (cOpc f.words) t true).ranges.map (·.2)).sum
  f.plan.fullTime rd (cOpc f.words) (if f.instCount ts = 2 then [t] else ts) bytes

/-- `P_t,k` in 1/16 W: what Bay `k` is charged for a tile that runs in Bay `b`, corrected by k_k (R411, R412, R414). -/
def State.tileShare (s : State) (f : Flight) (ts : List Nat) (t b k : Nat) : Rat :=
  powerOf (s.getF (DMP_BAY_KCORR k) * (s.tileCharge f ts t b).to b k) (s.tileTime f ts t)

/-- The corrected energy estimate of a tile in units of 2⁻¹⁶ fJ, over every Bay charged and the uncore (R411, R412). -/
def State.tileEnergy (s : State) (f : Flight) (ts : List Nat) (t b : Nat) : Nat :=
  let g := s.tileCharge f ts t b
  256 * g.uncore + ((List.range 16).map fun k => s.getF (DMP_BAY_KCORR k) * g.to b k).sum

/-- The allowance of a Bay in force, in 1/16 W (R405). -/
def State.allowance (s : State) (b : Nat) : Rat := s.damper.allow.getD b (s.getF (DMP_BAY_ALLOW b))

/-- `A_b − Pc_b − P` (R414). -/
def State.headroom (s : State) (b : Nat) (p : Rat) : Rat := s.allowance b - s.committed b - p

/-- The Bay holds no hard limit (R414). -/
def State.bayRuns (s : State) (b : Nat) : Bool := !s.flag DMP_STAT_TRIP && s.getF (DMP_BAY_DUTY b) != 0

/-! ### Profiles (R402) -/

def profThroughput : Nat := 0
def profEfficient : Nat := 1
def profCapped : Nat := 2

/-- The stack target of a profile in °C. -/
def State.targetS (s : State) (profile : Nat) : Nat :=
  if profile = profEfficient then min s.seval.tDram 84 else s.seval.tDram

/-- The Bay's stack is below its target and `P` fits its allowance (R414). -/
def State.bayFits (s : State) (b : Nat) (p : Rat) : Bool :=
  decide (s.stackTemp b < 16 * (s.targetS s.damper.profile : Int)) && decide (0 ≤ s.headroom b p)

/-- The free instances of a Bay that may take the tiles of a group. -/
def State.freeFor (s : State) (f : Flight) (ts : List Nat) (b : Nat) : List Nat :=
  let e := s.engine f.q
  (s.instances e b f.emits).filter fun i => s.instFree e i && s.retryOk f f.emits ts i

/-- `P` of a group in a Bay. -/
def State.groupP (s : State) (f : Flight) (ts : List Nat) (b : Nat) : Rat := (ts.map fun t => s.tileShare f ts t b b).sum

/-- The Bay that takes a group: of the eligible ones, the one with the highest headroom, the lower number on ties. -/
def State.chooseBay (s : State) (f : Flight) (ts : List Nat) (aged : Bool) : Option Nat :=
  let ok := (List.range 16).filter fun b =>
    decide (f.instCount ts ≤ (s.freeFor f ts b).length) && s.bayRuns b && (aged || s.bayFits b (s.groupP f ts b))
  ok.foldl (fun (best : Option Nat) b => match best with
    | none => some b
    | some a => if s.headroom a (s.groupP f ts a) < s.headroom b (s.groupP f ts b) then some b else some a) none

/-- The instances of a Bay in the order in which they are taken: least busy time first, then lower index (R414). -/
def State.byBusy (s : State) (engine : Nat) (l : List Nat) : List Nat :=
  if engine = 1 then l.mergeSort fun a b => decide ((s.hearth a).busy ≤ (s.hearth b).busy) else l

/-- The order of candidates: aged ones as given, then by priority, then from the rotating pointer (R257, R413). -/
def State.candidates (s : State) (aged : List Nat) : List (Nat × Bool) :=
  let qs := (List.range 64).map fun i => (s.damper.ptr + i) % 64
  let prio (q : Nat) : Nat := match s.candidateOf q with
    | some (f, _) => min (cPriority f.words) (s.getF (QUE_CFG_PRIO_MAX q))
    | none => 0
  let rest := (List.range 16).reverse.flatMap fun p => qs.filter fun q => prio q == p && !aged.contains q
  aged.map (·, true) ++ rest.map (·, false)

/-- The first candidate that fits: the flight, its tiles, the Bay, and whether it was aged. -/
def State.firstFit (s : State) (aged : List Nat) : Option (Flight × List Nat × Nat × Bool) :=
  (s.candidates aged).findSome? fun c =>
    (s.candidateOf c.1).bind fun p =>
      let ts := s.group p.1 p.2
      (s.chooseBay p.1 ts c.2).map fun b => (p.1, ts, b, c.2)

/-! ### Placement -/

/-- Move the next-tile pointer past tiles that are no longer open. -/
def Flight.advance (f : Flight) : Flight :=
  { f with nextTile := (((List.range f.limit).drop f.nextTile).find? f.isOpen).getD (max f.nextTile f.limit) }

/-- The ranges that a tile of a product stages in the hearth store, and its codebook records (R93, R95). -/
def Plan.staging (rd : Nat → Byte) (p : Plan) (t : Nat) : List (Nat × Nat) × List (Nat × Nat) :=
  match p with
  | .matrix op _ =>
    let cb := if op.kind = .table then [op.codebook (t / op.segments % op.b.oTiles) (t % op.segments)] else []
    ((op.tilesReads rd [t]).filter fun r => !cb.contains r, cb)
  | .packed _ => (p.tileReads rd t, [])
  | _ => ([], [])

/-- Lay ranges out one after another from a line on, wrapping at the store's end. The spec leaves the place of a region
in the store to the dispatcher: DESIGN CHOICE, log entry 51. -/
def layRegions (lines : Nat) : Nat → List (Nat × Nat) → List Region
  | _, [] => []
  | l, r :: rs => ⟨l % lines, r.1, r.2⟩ :: layRegions lines (l + ceilDiv r.2 64) rs

/-- The line after the regions of a store. -/
def nextLine (rs : List Region) : Nat := (rs.getLast?).elim 0 fun r => r.line + ceilDiv r.len 64

/-- Lines of the hearth store and of the codebook store, and the bank of a hearth-store line (R93, R95). -/
def storeLines : Nat := 65536
def codebookLines : Nat := 1024
def storeBank (line : Nat) : Nat := line % 16

/-- The kind tag with which the slot of a product's tile opens (R89, R121); `none` for a tile that takes no slot. -/
def Plan.slotTag (rd : Nat → Byte) (p : Plan) (t : Nat) : Option Bool :=
  match p with
  | .matrix op _ => some (opensInt rd op (t / op.segments / op.b.oTiles) (t / op.segments % op.b.oTiles) (op.segLen * (t % op.segments)))
  | .packed ps => some (ps.all fun q => opensInt rd q.1 0 0 0)
  | _ => none

/-- Start one tile of a group of `f0` on an instance: its slot opens, and what no mate on the same Hearth has staged is staged
(R83, R89, R93, R95). -/
def State.placeOne (s : State) (f0 : Flight) (ts : List Nat) (f : Flight) (t inst b : Nat) : Flight :=
  let rd := s.vbyte (s.ctxOf f.q)
  let mates := f.running.filter fun r => r.inst == inst
  let held := mates.flatMap (·.staged)
  let heldCb := mates.flatMap (·.codebook)
  let new := f.plan.staging rd t
  let fresh (l : List (Nat × Nat)) (rs : List Region) := l.filter fun x => !(rs.any fun r => r.addr == x.1 && r.len == x.2)
  { f with
    running := f.running ++ [{
      tile := t, inst := inst, bay := b, power := (List.range 16).map (s.tileShare f0 ts t b)
      slot := f.plan.slotTag rd t
      staged := layRegions storeLines (nextLine held) (fresh new.1 held)
      codebook := layRegions codebookLines (nextLine heldCb) (fresh new.2 heldCb) }]
    again := f.again.erase t
    phase := if f.phase = 0 then 1 else f.phase
    energy := f.energy + s.tileEnergy f0 ts t b }

/-- The placement of one tile: the trace record, the Bays' work, and a gated Hearth's start (R101, R411, R498). -/
def State.notePlaced (s : State) (ts : List Nat) (f : Flight) (t inst b : Nat) : State :=
  let e := s.engine f.q
  let s := (List.range 16).foldl (fun s k =>
    s.setBay k { s.bay k with work := (s.bay k).work + (s.tileCharge f ts t b).to b k }) s
  let s := if e = 1 then s.setHearth inst { s.hearth inst with gated := false } else s
  s.traceRec 3 e (s.ctxOf f.q) f.q f.n (t + 2 ^ 32 * inst)

/-! ### How tiles end -/

/-- The instance that runs a tile: tile, Hearth (0 for other engines) and Bay, for a fault record (R466). -/
def State.instOf (s : State) (f : Flight) (t : Nat) : Option (Nat × Nat × Nat) :=
  (f.running.find? fun r => r.tile == t).map fun r => (t, if s.engine f.q = 1 then r.inst else 0, r.bay)

/-- The owner that a fault record names (R466). -/
def State.ownerOf (s : State) (q n : Nat) : Option (Nat × Nat × Nat × Nat) := some (s.ctxOf q, q, s.engine q, n)

/-- The tiles that stay unwritten when `t` fails finally: the other segments of its output tile, none of which is written
before all are (R119, R476; DEDUCED, log entry 52), and with its partner those of a rotation pair (R139). -/
def Flight.fate (f : Flight) (t : Nat) : List Nat :=
  let mates (t : Nat) : List Nat := match f.plan with
    | .matrix op _ => (List.range op.segments).map fun j => t / op.segments * op.segments + j
    | _ => [t]
  mates t ++ ((f.pairTile t).toList.flatMap mates)

/-- Tiles of a flight fail finally, with those that share their fate (R119, R139, R279). -/
def State.failTiles (s : State) (f : Flight) (ts : List Nat) (st : Status) : State :=
  let all := (ts.flatMap f.fate).dedup.filter fun t => decide (t < f.total) && !(f.failed.any fun p => p.1 == t)
  let s := all.foldl (fun s t => s.runCut f t) s
  let f := f.dropHeld all
  s.putFlight { f with
    running := f.running.filter fun r => !all.contains r.tile
    again := f.again.filter fun t => !all.contains t
    parts := f.parts.filter fun t => !all.contains t
    done := f.done.filter fun t => !all.contains t
    failed := f.failed ++ all.map (·, st) }.advance

/-- Tiles fail on an uncorrectable line: the address enters the ring and the fault record (R280, R381, R466). -/
def State.failMemory (s : State) (f : Flight) (ts : List Nat) (pa : Nat) : State :=
  let s := s.ueFound pa false (s.ctxOf f.q)
  let s := s.fault ⟨false, 2, s.ownerOf f.q f.n, (ts.head?.bind fun t => s.instOf f t), none, pa, none⟩
  s.failTiles f ts .memoryUncorrectable

/-- Tiles of a flight are written: their ledger bits set, their committed power released (R414, R476, R484). -/
def State.landTiles (s : State) (f : Flight) (ts : List Nat) : State :=
  let s := ts.foldl (fun s t => s.runEnds f t) s
  let s := s.count (s.ctxOf f.q) 0x01 ts.length
  s.putFlight { f with
    running := f.running.filter fun r => !ts.contains r.tile
    parts := f.parts.filter fun t => !ts.contains t
    done := f.done ++ ts.filter fun t => !f.done.contains t }.advance

/-- Write bytes at a context's virtual addresses, counting what goes to host memory (R484). -/
def State.applyWrites (s : State) (c : Nat) (ws : Writes) : State :=
  ws.foldl (fun s w =>
    let host := s.rangeTarget c w.1 == .host
    (s.vwrite c w.1 w.2).count c 0x09 (if host then w.2.length else 0)) s

/-- The first uncorrectable line of some ranges. -/
def State.badOf (s : State) (c : Nat) (rs : List (Nat × Nat)) : Option Nat := rs.findSome? fun r => s.rangeBad c r.1 r.2

/-- The writes of a product's wide output tile. -/
def MatOp.wideTile (rd : Nat → Byte) (op : MatOp) (tm tn : Nat) : Writes :=
  wideWrites op.out tn tm (matTile rd op tm tn).1

/-- Other segments of an output tile are still to be formed (R119, R476). -/
def Flight.waitsSegments (f : Flight) (op : MatOp) (t : Nat) : Bool :=
  (List.range op.segments).any fun j =>
    let x := t / op.segments * op.segments + j
    x != t && !f.parts.contains x

/-- A unit of a flight has been encoded by Glaze, and its bytes have been written too. -/
def Flight.encoded (f : Flight) (u : Nat) : Bool := f.units.any fun r => r.unitIdx == u
def Flight.written (f : Flight) (u : Nat) : Bool := f.units.any fun r => r.unitIdx == u && r.writes.isEmpty

/-- The unit that a dispatch tile writes. -/
def Flight.unitOf (f : Flight) (t : Nat) : Option Nat :=
  match f.plan with
  | .matrix op (some _) => some (t / op.segments)
  | .convert op (some _) => if op.kind = .amax then none else some t
  | .update op (some _) => if op.tiles ≤ t then some (t - op.tiles) else none
  | _ => none

/-- A tile may complete: it runs, its remote transfers are acknowledged, and Glaze has written its units (R90, R260). -/
def Flight.mayLand (f : Flight) (t : Nat) : Bool :=
  (f.running.any fun r => r.tile == t) && !(f.remotes.any fun r => r.tile == t)
    && (match f.plan with
        | .matrix op (some _) => f.written (t / op.segments) || f.waitsSegments op t
        | .packed _ => (List.range f.plan.units).all f.encoded
        | _ => (f.unitOf t).all f.written)

/-- The partial of a segment is formed and held; its Hearth is free (R119). An uncorrectable line of its reads fails it
(R280). -/
def State.holdPart (s : State) (f : Flight) (t : Nat) : State :=
  match s.badOf (s.ctxOf f.q) (f.plan.tileReads (s.vbyte (s.ctxOf f.q)) t) with
  | some pa => s.failMemory f [t] pa
  | none =>
  let s := s.runEnds f t
  s.putFlight { f with running := f.running.filter fun r => r.tile != t, parts := f.parts ++ [t] }

/-- Land some writes of tiles, unless a read of theirs is uncorrectable or they must fail (R64, R280). -/
def State.landWrites (s : State) (f : Flight) (ts : List Nat) (reads : List (Nat × Nat)) (out : Option Writes)
    (events : List (Nat × Nat)) : State :=
  let c := s.ctxOf f.q
  match s.badOf c reads with
  | some pa => s.failMemory f ts pa
  | none => match out with
    | none => s.failTiles f ts .formatConflict
    | some ws => ((s.applyWrites c ws).countAll c events).landTiles f ts

/-- A merge into a ledger entry, as one read-modify-write (R175). -/
def State.mergeLedger (s : State) (c : Nat) (o : BbfOut) (u obs step : Nat) (repl : Bool) : State :=
  let t := (o.unitTiles u).headD (0, 0)
  let a := s.getF (CTX_TAB_BASE c 1) * 64 + 16 * o.entryOf t.1 t.2
  match readLEntry (s.vbyte c) a with
  | none => s
  | some e => s.vwrite c a (e.merge obs (step % 2 ^ 32) repl).bytes

/-- Write what Glaze holds of the units that `p` takes, and merge their observations (R87, R139, R175, R188). -/
def State.flushUnits (s : State) (q n : Nat) (p : Nat → Bool) : State :=
  match s.flight? q n with
  | none => s
  | some f =>
    let due := f.units.filter fun r => !r.writes.isEmpty && p r.unitIdx
    let s := due.foldl (fun s r =>
      let s := s.applyWrites (s.ctxOf q) r.writes
      match f.plan.unitAt r.unitIdx with
      | none => s
      | some (_, o, lu) =>
        if o.ledgered ((o.unitTiles lu).headD (0, 0)).1 && !s.evalOf q f.words then s.mergeLedger (s.ctxOf q) o lu r.obs f.stepAt false
        else s) s
    s.putFlight { f with units := f.units.map fun r => if p r.unitIdx then { r with writes := [] } else r }

/-- The tile of an AMAX_PASS: measure a unit and merge it with `REPL` (R187, R188). -/
def State.amaxTile (s : State) (f : Flight) (op : ConvOp) (o : BbfOut) (u : Nat) : State :=
  let c := s.ctxOf f.q
  let rd := s.vbyte c
  match s.badOf c (f.plan.unitReads rd 0 o u false []) with
  | some pa => s.failMemory f [u] pa
  | none => match f.plan.unitVals rd 0 o u with
    | none => s.failTiles f [u] .formatConflict
    | some vals =>
      let obs := bits32 (.fin (unitAmax (o.spec ((o.unitTiles u).headD (0, 0)).1 false).slots vals))
      let s := if s.evalOf f.q f.words || op.kind != .amax then s else s.mergeLedger c o u obs f.stepAt true
      s.landTiles f [u]

/-- A packed tile lands: its wide problems are computed and written, and the units that Glaze holds are written (R87). -/
def State.landPacked (s : State) (f : Flight) (ps : List (MatOp × Option BbfOut)) : State :=
  let c := s.ctxOf f.q
  let rd := s.vbyte c
  let tiles := (ps.filter fun p => p.2.isNone).flatMap fun p => (List.range (p.1.a.oTiles * p.1.b.oTiles)).map fun u =>
    (p.1, u / p.1.b.oTiles, u % p.1.b.oTiles)
  match s.badOf c (tiles.flatMap fun x => x.1.reads rd x.2.1 x.2.2) with
  | some pa => s.failMemory f [0] pa
  | none =>
    if tiles.any fun x => matTileFaulty rd x.1 x.2.1 x.2.2 then s.failTiles f [0] .formatConflict
    else
      let s := (s.applyWrites c (tiles.flatMap fun x => x.1.wideTile rd x.2.1 x.2.2)).flushUnits f.q f.n fun _ => true
      s.landTiles ((s.flight? f.q f.n).getD f) [0]

/-- A tile completes (R476): a segment's partial is held until the others are formed (R119); an output region is
computed and written; a unit that Glaze has written, or a remote transfer that is acknowledged, is marked. -/
def State.completeTile (s : State) (f : Flight) (t : Nat) : State :=
  let c := s.ctxOf f.q
  let rd := s.vbyte c
  match f.plan with
  | .matrix op bbf =>
    let u := t / op.segments
    let ts := (List.range op.segments).map fun j => u * op.segments + j
    match bbf with
    | some _ => if f.written u then s.landTiles f ts else s.holdPart f t
    | none =>
      if f.waitsSegments op t then s.holdPart f t
      else
        let tm := u / op.b.oTiles
        let tn := u % op.b.oTiles
        s.landWrites f ts (op.tilesReads rd [t])
          (if matTileFaulty rd op tm tn then none else some (op.wideTile rd tm tn)) []
  | .packed ps => s.landPacked f ps
  | .convert op (some o) => if op.kind = .amax then s.amaxTile f op o t else s.landTiles f [t]
  | .convert op none =>
    let tk := t % op.out.kTiles
    let tO := t / op.out.kTiles
    let vals := op.block rd tk tO
    let loss : Nat × Nat := match vals with
      | none => (0, 0)
      | some ls => if op.out.kind = kMX then (exportWrites rd op tk tO ls).2
        else
          let l := if op.kind = .dequantise then wideLosses op.out.kind ls else (0, 0)
          (l.1, l.2 + op.poisoned rd tk tO)
    let f := { f with convAsh := f.convAsh + loss.1, convClink := f.convClink + loss.2 }
    s.landWrites f [t] (f.plan.tileReads rd t)
      (vals.map fun ls => if op.out.kind = kMX then (exportWrites rd op tk tO ls).1 else wideWrites op.out tk tO ls)
      [(0x10, loss.1), (0x11, loss.2)]
  | .vector op =>
    let r := op.tile rd t
    s.landWrites f [t] (f.plan.tileReads rd t) (some r.1) [(0x23, r.2)]
  | .move op =>
    let off := 65536 * t
    let n := min 65536 (op.len - off)
    match op.srcT, op.dstT with
    | .window _, _ => s.landTiles f [t]
    | _, .window _ => s.landTiles f [t]
    | src, _ => s.landWrites f [t] (f.plan.tileReads rd t) (some [(op.dst + off, bytesAt rd (op.src + off) n)])
        [(0x08, if src = .host then n else 0)]
  | .update op _ =>
    if op.tiles ≤ t then s.landTiles f [t]
    else
      let r := op.block rd t
      let dig := if op.digOut = 0 then f.dig else digestAdd f.dig r.codes op.dseed (4096 * t)
      s.landWrites { f with frozen := f.frozen + r.frozen, dig := dig } [t] (f.plan.tileReads rd t) (some r.writes)
        [(0x20, r.zeroRms), (0x21, r.nonfin), (0x22, r.frozen)]
  | .digest _ _ _ _ _ => s.landWrites f [t] (f.plan.tileReads rd t) (some []) []
  | _ => s.landTiles f [t]

end Sys2Proof.Machine
end

