-- ==== Sys2Proof/Machine/Emit.lean ====
section
/-! DEFINITION. GLAZE_ENCODE, ESCALATION_PASS and NARROW_EMISSION (R148–R186, R305, R581). -/

namespace Sys2Proof.Machine

open Sys2Proof

/-! ### Writing a unit -/

/-- The bytes of a unit's tiles. A tile whose scale no ledger entry supplied records a `LEDGER_IDX` that the spec does not
state (R63, R171): `Config.ledgerIdx` (log entry 48). -/
def State.unitWrites (s : State) (f : Flight) (o : BbfOut) (out : UnitOut) : Writes :=
  out.tiles.map fun t =>
    let e := o.entryOf t.tk t.tO
    (o.td.tileAddr t.tk t.tO, o.tileBytes t (if o.ledgered t.tk then e else Config.ledgerIdx t.src e)
      (s.getF (CTX_STEP_STEP (s.ctxOf f.q))))

/-- The work of forming a unit's values once more (R484): its products again. -/
def State.countUnit (s : State) (f : Flight) (pi u : Nat) : State :=
  match f.plan with
  | .packed ps => (ps[pi]?).elim s fun q => s.countRun { f with plan := .packed [q] } 0
  | .matrix _ _ => (f.plan.unitTileIdx u).foldl (fun s t => s.countRun f t) s
  | _ => s

/-- The unit that shares a size-256 rotation with unit `u` (R139). -/
def Flight.partnerUnit (f : Flight) (u : Nat) : Option Nat :=
  ((f.plan.unitTileIdx u).head?.bind f.pairTile).bind f.unitOf

/-- Units whose bytes may be written once `u` is encoded: of a packed command none before its tile lands (R87); of a
rotation pair both, once both are encoded (R139); else `u` itself. -/
def Flight.mayWrite (f : Flight) (u : Nat) : List Nat :=
  match f.plan, f.partnerUnit u with
  | .packed _, _ => []
  | _, some p => if f.encoded p then [u, p] else []
  | _, none => [u]

/-- Glaze encodes a unit: it counts what R186 counts and keeps the unit's record; Glaze has then accepted the tile, whose
slot is released (R90); the bytes and the observation are written as soon as the units that share their fate are encoded
(R87, R139, R175). DESIGN CHOICE: a cold unit that only an escalation pass writes does not count COLD_EMIT, since R186 counts
a unit by R174 and its first emission never took place (log entry 53). -/
def State.writeUnit (s : State) (f : Flight) (o : BbfOut) (lu u : Nat) (out : UnitOut) (wide : Bool) : State :=
  let c := s.ctxOf f.q
  let tk := ((o.unitTiles lu).headD (0, 0)).1
  let cold := o.ledgered tk && !wide && !(o.unitEntry lu).init
  let rec' := { f.plan.unitRec (s.vbyte c) o lu u out with writes := s.unitWrites f o out }
  let s := s.countAll c [(0x16, b2n cold), (0x17, out.emit * out.tiles.length), (0x18, b2n out.unresolved)]
  let ts := f.plan.unitTileIdx u
  let g := { f with
    units := f.units ++ [rec']
    running := match f.plan with
      | .packed _ => f.running
      | _ => f.running.map fun r => if ts.contains r.tile then { r with slot := none } else r }
  (s.setFlight g).flushUnits f.q f.n fun x => (g.mayWrite u).contains x

/-! ### Layer escalation (R181–R184, R581) -/

/-- Whether a unit's panel has a wider format to escalate to. -/
def BbfOut.widens (o : BbfOut) (lu : Nat) : Bool :=
  let tk := ((o.unitTiles lu).headD (0, 0)).1
  o.ledgered tk && ((o.infoOf tk).format.escalation).isSome

/-- A final failure stands on a unit. -/
def Flight.unitFailed (f : Flight) (u : Nat) : Bool :=
  (f.plan.unitTileIdx u).any fun t => f.failed.any fun p => p.1 == t

/-- `N_u` and `V` of a command's ledgered outputs (R181). DESIGN CHOICE: a MATMUL_PACKED with several BBF outputs is judged as
one command, over all its problems' units; R181 speaks of one output (log entry 54). -/
def Plan.unitTotal (p : Plan) : Nat := ((p.bbfs.filter fun o => o.fold.isNone).map (·.unitCount)).sum
def Plan.valueTotal (p : Plan) : Nat := ((p.bbfs.filter fun o => o.fold.isNone).map fun o => o.td.rows * o.td.cols).sum

/-- The formats that the escalation record names (R182, R581): of the lowest-numbered panel that widens, else of the
first panel and 0. A panel outside the ledger never widens (R171, R181). -/
def Plan.escFmts (p : Plan) : Bool × Nat × Nat :=
  let infos := (p.bbfs.filter fun o => o.fold.isNone).flatMap fun o => o.infos.zipIdx.map fun i => (i.1, o.ledgered i.2)
  match infos.find? fun i => i.2 && i.1.format.escalation.isSome with
  | some i => (true, i.1.fmt, ((i.1.format.escalation).map Fmt.code).getD 0)
  | none => (false, (infos.head?.map (·.1.fmt)).getD 0, 0)

/-- The 32-byte escalation record (R184). DESIGN CHOICE: of a MATMUL_PACKED with several BBF outputs it carries the first
output's `LBASE`; R184 knows one output (log entry 54). -/
def Flight.escRecord (f : Flight) (e : EscState) : List Byte :=
  let lb := (f.plan.bbfs.head?.map (·.lbase)).getD 0
  leBytes 1 0x51 ++ leBytes 1 e.cause ++ leBytes 1 e.fmtFrom ++ leBytes 1 e.fmtTo ++ leBytes 2 (cTag f.words) ++ leBytes 1 f.q
    ++ leBytes 1 0 ++ leBytes 8 f.stepAt ++ leBytes 4 f.plan.unitTotal ++ leBytes 4 e.ru ++ leBytes 4 e.ash ++ leBytes 4 lb

/-- Write a governor or escalation record: the tap ring and the class-9 trace record (R242, R498). -/
def State.logRing (s : State) (c q : Nat) (rec' : List Byte) : State :=
  (s.ring c rec').traceRec 9 (leNat (rec'.take 1)) c q (leNat (rec'.take 8)) (leNat ((rec'.drop 8).take 8))

/-- The triggers as they stand: re-emission, ash, and whether every unit is settled (R181). DESIGN CHOICE: a unit that failed
finally, and so is never written, counts as settled for the ash decision; R181 speaks of the last unit written (log entry
55). -/
def Flight.triggers (f : Flight) : Bool × Bool × Bool :=
  match f.plan.bbfs.head? with
  | none => (false, false, false)
  | some o =>
    let ru := (f.units.filter (·.reemitted)).length
    let a := (f.units.map (·.ash)).sum
    let last := (List.range f.plan.units).all fun u => f.encoded u || f.unitFailed u
    (o.reemitFrac != 0 && decide (o.reemitFrac * f.plan.unitTotal < 256 * ru),
      last && o.ashFrac != 0 && decide (o.ashFrac * f.plan.valueTotal < 1024 * a), last)

/-- The command escalates: its tiles in flight are abandoned, and what will be rewritten counts as unwritten. -/
def Flight.escalating (f : Flight) (e : EscState) : Flight :=
  let keep (u : Nat) : Bool := !((f.plan.unitAt u).elim false fun x => x.2.1.widens x.2.2)
  let units := f.units.filter fun r => keep r.unitIdx
  let outTiles := (List.range f.plan.units).flatMap fun u => if keep u && f.encoded u then [] else f.plan.unitTileIdx u
  { f with
    running := [], again := [], parts := [], units := units, esc := some e, phase := 2, nextTile := f.total
    done := f.done.filter fun t => !outTiles.contains t }

/-- Decide escalation (R181): once a trigger holds, and only once in a command. -/
def State.decideEsc (s : State) (q n : Nat) : State :=
  match s.flight? q n with
  | none => s
  | some f =>
    let t := f.triggers
    let on := (f.plan.bbfs.head?.elim false (·.escEn)) && f.esc.isNone && f.errs.isEmpty && decide (0 < f.plan.unitTotal)
    if on && (t.1 || t.2.1) then
      let fm := f.plan.escFmts
      let e : EscState :=
        { cause := b2n t.1 + 2 * b2n t.2.1, ru := (f.units.filter (·.reemitted)).length
          ash := if t.2.2 then (f.units.map (·.ash)).sum else 0
          wide := fm.1, fmtFrom := fm.2.1, fmtTo := fm.2.2, passed := !fm.1 }
      let c := s.ctxOf q
      let s := s.count c 0x19 1
      if fm.1 then
        let s := f.running.foldl (fun s r => s.runCut f r.tile) s
        s.putFlight (f.escalating e)
      else (s.putFlight { f with esc := some e, phase := 2 }).logRing c q (f.escRecord e)
    else s

/-! ### GLAZE_ENCODE -/

/-- A unit may be encoded now: its tiles are on their engines or held as partials, with those of the unit that shares its
rotation (R139), and it is not encoded yet. -/
def Flight.mayEncode (f : Flight) (u : Nat) : Bool :=
  decide (u < f.plan.units) && !f.encoded u && !f.unitFailed u && f.errs.isEmpty
    && !f.escOpen
    && (match f.plan with
        | .convert op _ => op.kind != .amax
        | .update _ _ => decide (2 ≤ f.phase)
        | _ => true)
    && (f.plan.unitTileIdx u ++ (match f.plan with
        | .matrix _ _ => (f.partnerUnit u).toList.flatMap f.plan.unitTileIdx
        | _ => [])).all fun t => f.parts.contains t || f.running.any fun r => r.tile == t

/-- The command gathers statistics (R220). -/
def State.gathers (s : State) (f : Flight) : Bool := cStatEn f.words && !s.evalOf f.q f.words

/-- Encode one unit; `wide`: in the escalation format. -/
def State.encodeUnit (s : State) (f : Flight) (u : Nat) (wide : Bool) : State :=
  match f.plan.unitAt u with
  | none => s
  | some (pi, o, lu) =>
    let c := s.ctxOf f.q
    let rd := s.vbyte c
    let ts := f.plan.unitTileIdx u
    match s.badOf c (f.plan.unitReads rd pi o lu (s.gathers f) f.parts) with
    | some pa => s.failMemory f ts pa
    | none => match f.plan.unitVals rd pi o lu with
      | none => s.failTiles f ts .formatConflict
      | some vals =>
        if wide && o.widens lu then ((s.countUnit f pi u).countUnit f pi u).writeUnit f o lu u (o.escalate lu vals) true
        else s.writeUnit f o lu u (f.plan.emit rd o lu vals) false

/-- The flight whose unit may be encoded. -/
def State.encoding (s : State) (q n u : Nat) : Option Flight :=
  if s.running then (s.flight? q n).filter fun f => f.mayEncode u else none

/-- GLAZE_ENCODE (R148, R173–R181). -/
def execGlazeEncode (q : Fin 64) (n unit : Nat) (s : State) : Out :=
  match s.encoding q n unit with
  | some f => .next ((s.encodeUnit f unit false).decideEsc q n)
  | none => .next s

/-! ### NARROW_EMISSION -/

/-- The emission panels that hold a parameter of a block. -/
def panelsOf (o : BbfOut) (npar b : Nat) : List Nat :=
  (List.range o.td.kTiles).filter fun p =>
    (List.range (min 4096 (npar - 4096 * b))).any fun i => (4096 * b + i) % o.td.cols / 128 == p

/-- The UPDATE whose update tiles are all settled and whose emission has not begun. -/
def State.emissionDue (s : State) (q n : Nat) : Option (Flight × UpdOp × BbfOut) :=
  if s.running then
    (s.flight? q n).bind fun f => match f.plan with
      | .update op (some o) =>
        if op.emit && decide (f.phase < 2) && f.errs.isEmpty
          && (List.range op.tiles).all (fun t => f.done.contains t || f.failed.any fun p => p.1 == t) then some (f, op, o)
        else none
      | _ => none
  else none

/-- The emission begins (R305): its panels become candidates; a panel that holds a parameter of a failed tile fails
with it. -/
def State.beginEmission (s : State) (f : Flight) (op : UpdOp) (o : BbfOut) : State :=
  let bad := ((f.failed.filter fun p => decide (p.1 < op.tiles)).flatMap fun p => panelsOf o op.npar p.1).dedup
  let f := { f with phase := if f.esc.isSome then 2 else 3 }
  let s := s.putFlight f
  if bad.isEmpty then s else s.failTiles f (bad.map (op.tiles + ·)) .partialTiles

/-- NARROW_EMISSION (R305). -/
def execNarrowEmission (q : Fin 64) (n : Nat) (s : State) : Out :=
  match s.emissionDue q n with
  | some (f, op, o) => .next (s.beginEmission f op o)
  | none => .next s

end Sys2Proof.Machine
end

