-- ==== Sys2Proof/Machine/Tiles.lean ====
section
/-! DEFINITION. TILE_PLACE, TILE_COMPLETE and TILE_FAIL (R276–R280, R413–R415, R440–R449). -/

namespace Sys2Proof.Machine

open Sys2Proof

/-! ### Remote tiles (R274, R354, R394, R395) -/

/-- A range in pieces of at most 255 lines that do not cross a 2 MiB page (R354, R377): (address, bytes). -/
def lineChunks : Nat → Nat → Nat → List (Nat × Nat)
  | 0, _, _ => []
  | f + 1, a, n =>
    if n = 0 then []
    else
      let m := min (min n 16320) (2 ^ 21 - a % 2 ^ 21)
      (a, m) :: lineChunks f (a + m) (n - m)

/-- Send one packet of a tile and note what its acknowledgement completes. -/
def State.sendRemote (s : State) (f : Flight) (t ty port dst lines : Nat) (args : List Nat) (data : List Byte) : State :=
  match neighbour s.flue.dims s.rank port with
  | none => s
  | some rank =>
    let c := s.ctxOf f.q
    let (tag, s) := s.newTag
    let f := (s.flight? f.q f.n).getD f
    let s := s.setFlight { f with remotes := f.remotes ++ [⟨tag, t, dst, lines⟩] }
    (s.count c 0x0A data.length).injectAll [s.packet ty rank c c tag args data]

/-- The packets of a SPILL tile: WRITEs into the window of the same context on the neighbour. An uncorrectable source
line fails the tile; a port without a neighbour fails it LINK_FAILED. -/
def State.sendSpill (s : State) (f : Flight) (op : MoveOp) (port t : Nat) : State :=
  let c := s.ctxOf f.q
  let off := 65536 * t
  let n := min 65536 (op.len - off)
  match s.badOf c [(op.src + off, n)] with
  | some pa => s.failMemory f [t] pa
  | none =>
    if (neighbour s.flue.dims s.rank port).isNone then s.failTiles f [t] .linkFailed
    else (lineChunks 8 (op.dst + off) n).foldl (fun s p =>
      s.sendRemote f t tyWrite port p.1 (p.2 / 64) [p.1] (bytesAt (s.vbyte c) (op.src + (p.1 - op.dst)) p.2)) s

/-- The packets of a MOVE tile whose source is a window: READ_REQs of the window offsets that its pages name. -/
def State.sendFetch (s : State) (f : Flight) (op : MoveOp) (port t : Nat) : State :=
  let c := s.ctxOf f.q
  let off := 65536 * t
  let n := min 65536 (op.len - off)
  if (neighbour s.flue.dims s.rank port).isNone then s.failTiles f [t] .linkFailed
  else (lineChunks 8 (op.src + off) n).foldl (fun s p =>
    let woff := ((s.resolve c p.1).map (·.2)).getD 0
    s.sendRemote f t tyReadReq port (op.dst + (p.1 - op.src)) (p.2 / 64) [woff, p.2 / 64] []) s

/-- What a tile does as soon as it is placed: a remote one sends its packets. -/
def State.tileStarted (s : State) (q n t : Nat) : State :=
  match s.flight? q n with
  | none => s
  | some f =>
    match f.plan with
    | .move op =>
      match op.srcT, op.dstT with
      | _, .window p => s.sendSpill f op p t
      | .window p, _ => s.sendFetch f op p t
      | _, _ => s
    | _ => s

/-! ### TILE_PLACE -/

/-- Place the tiles of a group in a Bay: a rotation pair on two free instances, a work group on one (R83, R139, R414). -/
def State.placeGroup (s : State) (f : Flight) (ts : List Nat) (b : Nat) : State :=
  let insts := s.byBusy (s.engine f.q) (s.freeFor f ts b)
  let pairs := if f.instCount ts = 2 then ts.zip insts else ts.zip (ts.map fun _ => insts.headD 0)
  let g := (pairs.foldl (fun g p => s.placeOne f ts g p.1 p.2 b) f).advance
  let s := s.putFlight g
  let s := pairs.foldl (fun s p => s.notePlaced ts f p.1 p.2 b) s
  pairs.foldl (fun s p => s.tileStarted f.q f.n p.1) s

/-- The rotating pointer moves past the queue just served (R413). -/
def State.passQueue (s : State) (q : Nat) (aged : Bool) : State :=
  if aged then s else { s with damper := { s.damper with ptr := (q + 1) % 64 } }

/-- One CTRL cycle of the dispatcher (R413): the first candidate that fits is placed. -/
def State.placeCycle (s : State) (aged : List Nat) : State :=
  match s.firstFit aged with
  | none => s
  | some (f, ts, b, old) => (s.placeGroup f ts b).passQueue f.q old

/-- TILE_PLACE (R413–R415). `aged`: the queues whose candidate has been ready for more than 2 ms, oldest first. -/
def execTilePlace (aged : List (Fin 64)) (s : State) : Out :=
  onlyIf s.running (fun s => s.placeCycle (aged.map (·.val))) s

/-! ### TILE_COMPLETE -/

/-- The flight of a command, when one of its tiles may complete. -/
def State.landing (s : State) (q n t : Nat) : Option Flight :=
  if s.running then (s.flight? q n).filter fun f => f.mayLand t else none

/-! ### TILE_FAIL -/

/-- A running tile that a check may still fail, and where it runs (R443, R445): once a line of it has left for memory every
check has passed (R442). -/
def State.runningAt (s : State) (q n t : Nat) : Option (Flight × Running) :=
  if s.running then
    (s.flight? q n).bind fun f =>
      if (f.unitOf t).any f.written then none
      else (f.running.find? fun r => r.tile == t).map fun r => (f, r)
  else none

/-- Whether a check's mismatch keeps the retry out of the whole Bay: a witness or Glaze residue does, a Hearth's own
path does not (R443–R445). -/
def failWholeBay : FailCause → Bool
  | .witness _ => true
  | .residueGlaze => true
  | .residueUnit => true
  | _ => false

/-- Whether a check exists on an engine's path (R445): witness and Hearth stages on MATRIX tiles, Glaze on MATRIX and
UPDATE tiles, the Hob and the update datapath on VECTOR and UPDATE tiles, on-die stores on those three. -/
def causeFits (engine : Nat) : FailCause → Bool
  | .witness _ => engine == 1
  | .residueHearth _ => engine == 1
  | .residueGlaze => engine == 1 || engine == 5
  | .residueUnit => engine == 2 || engine == 5
  | .sram => engine == 1 || engine == 2 || engine == 5
  | .dram _ => true

/-- The check reports: it lies on the engine's path, and a fault in a check instance makes its sums differ by more than the
tolerance (R440, R441, R445). -/
def State.causeHolds (s : State) (f : Flight) (t : Nat) (cause : FailCause) : Bool :=
  causeFits (s.engine f.q) cause && match cause with
    | .witness w => (f.plan.mismatch (s.vbyte (s.ctxOf f.q)) t w).isSome
    | _ => true

/-- What a failing check leaves behind beside the tile: the counter, the event and the suspect (R443, R445–R449). -/
def State.noteFailure (s : State) (f : Flight) (r : Running) (cause : FailCause) : State :=
  let c := s.ctxOf f.q
  let b := r.bay
  let h := if s.engine f.q = 1 then r.inst else 0
  let ev (s : State) (place unit op : Nat) : State :=
    s.logEvent 0x0021 0 (leBytes 4 place ++ leBytes 4 unit ++ leBytes 4 op)
  match cause with
  | .witness w =>
    let op := ((f.plan.mismatch (s.vbyte c) r.tile w).map CellOp.code).getD 0
    (ev (s.count c 0x28 1) h w.unit op).hearthMismatch h
  | .residueHearth op => (ev (s.count c 0x29 1) h 0 op).hearthMismatch h
  | .residueGlaze => (ev (s.count c 0x29 1) b 0 0).glazeMismatch b
  | .residueUnit => (ev (s.count c 0x29 1) b 0 0).unitMismatch b
  | _ => s

/-- Tries that a tile has used. -/
def Flight.tries (f : Flight) (t : Nat) : Nat := ((f.retryCnt.find? fun p => p.1 == t).map (·.2)).getD 0

/-- The flight with one tile returned to the dispatcher as a retry on another instance (R279, R444). -/
def Flight.retried (f : Flight) (ts : List Nat) (t inst : Nat) (bayOut : Bool) : Flight :=
  let f := ts.foldl Flight.putBack f
  { f with
    retryCnt := (f.retryCnt.filter fun p => p.1 != t) ++ [(t, f.tries t + 1)]
    retries := f.retries + 1, recomputed := true, mism := f.mism ++ [(t, inst, bayOut)] }

/-- The tiles that go back together: a placed pair moves as one (R139, R444). -/
def Flight.backWith (f : Flight) (t : Nat) : List Nat :=
  t :: match f.plan with
    | .matrix _ _ => (f.pairTile t).toList.filter fun p => f.running.any fun r => r.tile == p
    | _ => []

/-- A tile that failed a check: retried on another instance at most twice, then final (R279). -/
def State.retryOrFail (s : State) (q n t inst : Nat) (bayOut : Bool) : State :=
  match s.flight? q n with
  | none => s
  | some f =>
    let ts := f.backWith t
    let g := f.retried ts t inst bayOut
    if f.tries t < 2 && s.retryPossible g g.emits ts then
      (((ts.foldl (fun s t => s.runCut f t) s)).count (s.ctxOf q) 0x02 1).putFlight g
    else s.failTiles { f with mism := g.mism } [t] .partialTiles

/-- A tile fails (R279, R280, R443, R445). -/
def State.tileFails (s : State) (f : Flight) (r : Running) (cause : FailCause) : State :=
  match cause with
  | .dram line =>
    let pa := line % 2 ^ 34 * 64
    (s.setBad (pa / 64) true).failMemory f [r.tile] pa
  | _ => (s.noteFailure f r cause).retryOrFail f.q f.n r.tile r.inst (failWholeBay cause)

/-! ### ESCALATION_PASS -/

/-- The flight that has decided to escalate and is idle. -/
def State.escIdle (s : State) (q n : Nat) : Option Flight :=
  if s.running then
    (s.flight? q n).filter fun f => f.running.isEmpty && f.errs.isEmpty && f.escOpen && decide (2 ≤ f.phase)
  else none

/-- One check that reports a mismatch while a unit is recomputed (R183): `inst`, the Hearth or Bay that ran it. It is
counted, and the tile is recomputed at most twice more (R279). -/
def State.escFailure (s : State) (q n : Nat) (x : Nat × Nat × FailCause) : State :=
  match s.flight? q n with
  | none => s
  | some f =>
    let e := s.engine q
    let t := (f.plan.unitTileIdx x.1).headD 0
    let r : Running := ⟨t, x.2.1, if e = 1 then hearthBay x.2.1 else x.2.1, [], none, [], []⟩
    if decide (x.1 < f.plan.units) && !f.encoded x.1 && !f.unitFailed x.1 && s.causeHolds f t x.2.2 then
      (s.noteFailure f r x.2.2).retryOrFail q n t x.2.1 (failWholeBay x.2.2)
    else s

/-- The passes of R183 over every unit that is neither written nor failed finally, the tiles marked, and the record of
R184. -/
def State.escalate (s : State) (f : Flight) (e : EscState) (fails : List (Nat × Nat × FailCause)) : State :=
  let s := fails.foldl (fun s x => s.escFailure f.q f.n x) s
  let s := (List.range f.plan.units).foldl (fun s u =>
    match s.flight? f.q f.n with
    | none => s
    | some g => if g.encoded u || g.unitFailed u then s else s.encodeUnit g u true) s
  let s := match f.plan, s.flight? f.q f.n with
    | .packed ps, some g => if g.failed.isEmpty then s.landPacked g ps else s
    | _, _ => s
  match s.flight? f.q f.n with
  | none => s
  | some g =>
    let new := (List.range g.total).filter fun t => !g.done.contains t && !(g.failed.any fun p => p.1 == t)
    let s := s.count (s.ctxOf f.q) 0x01 new.length
    let s := s.putFlight { g with done := g.done ++ new, again := [], esc := some { e with passed := true } }
    s.logRing (s.ctxOf f.q) f.q (f.escRecord e)

/-- ESCALATION_PASS (R183, R581). -/
def execEscalationPass (q : Fin 64) (p : PassEnd) (s : State) : Out :=
  match s.escIdle q p.n with
  | some f => match f.esc with
    | some e => .next (s.escalate f e p.fails)
    | none => .next s
  | none => .next s

end Sys2Proof.Machine
end

