-- ==== Sys2Proof/Machine/Reduce.lean ====
section
/-! DEFINITION. The Flue reducer (R314–R333, R455, R456, R585): trees and chunks, what a member sends as soon as it can,
completion of a slice, and aborts. -/

namespace Sys2Proof.Machine

open Sys2Proof

/-! ### Trees and chunks (R317, R318, R320) -/

/-- The ALLREDUCE shape of R318, which DIGEST_CHECK shares (R323). -/
def RedOp.allreduce (op : RedOp) : Bool := op.kind == .digestCheck || (op.kind == .bucket && op.mode == 0)

/-- The member at a heap position of a slice. -/
def RedOp.memberAt (op : RedOp) (sl h : Nat) : Nat := heapMember op.allreduce op.ranks.length op.owner h sl

/-- The module's own heap position in a slice. -/
def RedOp.heap (op : RedOp) (sl : Nat) : Nat :=
  (((List.range op.ranks.length).find? fun i => op.memberAt sl (i + 1) == op.me).getD 0) + 1

/-- The rank at a heap position. -/
def RedOp.rankAt (op : RedOp) (sl h : Nat) : Nat := op.ranks.getD (op.memberAt sl h) 0

def RedOp.slices (op : RedOp) : List Nat := if op.kind = .digestCheck then [0] else List.range 6

/-- The children of the module in a slice. -/
def RedOp.children (op : RedOp) (sl : Nat) : List Nat :=
  [2 * op.heap sl, 2 * op.heap sl + 1].filter fun h => decide (h ≤ op.ranks.length)

/-- The parent and the children. -/
def RedOp.nbrs (op : RedOp) (sl : Nat) : List Nat :=
  (if op.heap sl = 1 then [] else [op.heap sl / 2]) ++ op.children sl

/-- Every tree neighbour's rank, once. -/
def RedOp.nbrRanks (op : RedOp) : List Nat := (op.slices.flatMap fun sl => (op.nbrs sl).map (op.rankAt sl)).dedup

/-- The first line of a slice (R317). -/
def RedOp.sliceLine (op : RedOp) (sl : Nat) : Nat := sl * (op.size * 16384) / 6

/-- Chunks of a slice (R320); a DIGEST_CHECK exchanges one message per edge. -/
def RedOp.chunks (op : RedOp) (sl : Nat) : Nat :=
  if op.kind = .digestCheck then 1 else ceilDiv (64 * (op.sliceLine (sl + 1) - op.sliceLine sl)) 4096

/-- The address and bytes of a chunk. -/
def RedOp.chunkAt (op : RedOp) (sl k : Nat) : Nat × Nat :=
  (op.buf + 64 * op.sliceLine sl + 4096 * k, min 4096 (64 * (op.sliceLine (sl + 1) - op.sliceLine sl) - 4096 * k))

/-- FP32 values of a chunk and back. -/
def fpOf (bs : List Byte) : List FV :=
  (List.range (bs.length / 4)).map fun i => ofBits32 (leNat ((bs.drop (4 * i)).take 4))
def fpTo (l : List FV) : List Byte := l.flatMap fun v => leBytes 4 (bits32 v)

/-- `node_sum` of R319 over a chunk: the own contribution, then each child's partial in order; a leaf's passes unrounded. -/
def nodeSum (own : List Byte) (kids : List (List Byte)) : List Byte :=
  if kids.isEmpty then own
  else fpTo (kids.foldl (fun t k => (t.zip (fpOf k)).map fun p => fadd p.1 p.2) (fpOf own))

/-- Sum of two lanes (R228). -/
def addLanes (a b : List StatCounts) : List StatCounts :=
  (List.range 4).map fun i => addCounts (a.getD i zeroCounts) (b.getD i zeroCounts)

/-- A member's digest entry: minimum key, its lowest index and count, the same for the maximum, the label flag and the
label (R455). -/
def digOwn (key me l0 l1 : Nat) : List Nat := [key, me, 1, key, me, 1, 1, l0, l1]

/-- Combine two entries; the label is the first one's. -/
def digJoin (a b : List Nat) : List Nat :=
  let x (l : List Nat) (i : Nat) : Nat := l.getD i 0
  let side (better : Bool) (i : Nat) : List Nat :=
    if x a i = x b i then [x a i, min (x a (i + 1)) (x b (i + 1)), x a (i + 2) + x b (i + 2)]
    else if better then [x b i, x b (i + 1), x b (i + 2)] else [x a i, x a (i + 1), x a (i + 2)]
  side (decide (x b 0 < x a 0)) 0 ++ side (decide (x a 3 < x b 3)) 3
    ++ [if x a 6 = 1 && x b 6 = 1 && x a 7 = x b 7 && x a 8 = x b 8 then 1 else 0, x a 7, x a 8]

/-- The 64-byte result record (R456). -/
def digRecord (op : RedOp) (d : List Nat) : List Byte :=
  let x (i : Nat) : Nat := d.getD i 0
  let rank (i : Nat) : Nat := op.ranks.getD (x i) 0
  leBytes 1 (b2n (x 6 == 0) * 2 + b2n (x 0 == x 3)) ++ leBytes 1 0 ++ leBytes 2 (x 2) ++ leBytes 2 (rank 1)
    ++ leBytes 2 (rank 4) ++ leBytes 8 op.seq ++ leBytes 16 (x 0) ++ leBytes 16 (x 3) ++ leBytes 4 (x 7) ++ leBytes 4 (x 8)
    ++ leBytes 2 (x 5) ++ leBytes 6 0

/-! ### Entries -/

/-- The entry of a command. -/
def State.entry? (s : State) (q n : Nat) : Option CollEntry :=
  List.find? (fun e : CollEntry => e.q == q && e.n == n) s.coll

/-- The entry of a key (R324). -/
def State.keyed? (s : State) (job seq : Nat) : Option CollEntry :=
  List.find? (fun e : CollEntry => e.job == job && e.seq == seq) s.coll

def State.setEntry (s : State) (e : CollEntry) : State :=
  { s with coll := s.coll.map fun d => if d.q == e.q && d.n == e.n then e else d }

/-- Free an entry (R324). -/
def State.freeEntry (s : State) (q n : Nat) : State :=
  match s.entry? q n with
  | none => s
  | some e =>
    let s := { s with coll := s.coll.filter fun d => !(d.q == q && d.n == n) }
    s.setF (FLU_RED_OCC e.ctx) (s.getF (FLU_RED_OCC e.ctx) - 1)

/-- The plan of a reduce command. -/
def Flight.red (f : Flight) : Option RedOp := match f.plan with
  | .reduce op => some op
  | _ => none

/-! ### Messages (R316, R326, R327; log entry 12) -/

def ctlReady : Nat := 0
def ctlAbort : Nat := 1
def ctlAck : Nat := 2

/-- A control message to a tree neighbour: kind, key, slice, the sender's position, direction and chunk it answers. -/
def State.sendCtl (s : State) (e : CollEntry) (op : RedOp) (kind sl toHeap dir k : Nat) : State :=
  s.injectAll [s.packet tyCollCtl (op.rankAt sl toHeap) e.ctx e.ctx e.tag [kind, e.seq, sl, op.heap sl, dir, k] []]

/-- A data message: key, slice, the sender's position, direction (0 up, 1 down), chunk, the values of R316 and what
travels beside the chunk. -/
def State.sendData (s : State) (e : CollEntry) (op : RedOp) (sl toHeap dir k : Nat) (more : List Nat)
    (data : List Byte) : State :=
  (s.count e.ctx 0x0A data.length).injectAll [s.packet tyCollData (op.rankAt sl toHeap) e.ctx e.ctx e.tag
    ([e.seq, sl, op.heap sl, dir, k, op.gchk, op.size, op.mode, op.owner] ++ more) data]

/-! ### Aborts (R331, R585) -/

/-- A member ends its command and aborts the key: ABORT to every tree neighbour but the one that sent one, and the entry
is freed. -/
def State.abortKey (s : State) (e : CollEntry) (st : Option Status) (from? : Option Nat) : State :=
  match s.flight? e.q e.n with
  | none => s
  | some f =>
    match f.red with
    | none => s
    | some op =>
      let s := ((op.nbrRanks.filter fun r => from? != some r)).foldl (fun s r =>
        s.injectAll [s.packet tyCollCtl r e.ctx e.ctx e.tag [ctlAbort, e.seq, 0, op.heap 0, 0, 0] []]) s
      (s.freeEntry e.q e.n).putFlight { f with errs := f.errs ++ st.toList }

/-- A member cannot read its own data (R585): the fault record names the slice and the Bay beside the reducer half. -/
def State.ownDataBad (s : State) (e : CollEntry) (sl pa : Nat) : State :=
  let s := s.ueFound pa false e.ctx
  let s := s.fault ⟨false, 2, s.ownerOf e.q e.n, some (sl, 0, if sl % 2 = 0 then 0 else 8), none, pa, none⟩
  s.abortKey e (some .memoryUncorrectable) none

/-- A slice fails finally: PARTIAL with the slice in the bitmap, and the key aborts (R332). -/
def State.sliceFailed (s : State) (f : Flight) (t : Nat) : State :=
  let s := s.failTiles f [t] .partialTiles
  match s.entry? f.q f.n with
  | none => s
  | some e => s.abortKey e none none

/-! ### What a member sends as soon as it can (R320, R326, R329) -/

/-- Chunks sent and not acknowledged on an edge; at most 16 may be (R326). -/
def CollEntry.openUp (e : CollEntry) (sl : Nat) : Nat :=
  (e.sentUp.filter fun x => x.1 == sl && !e.ackedUp.contains x).length
def CollEntry.openDown (e : CollEntry) (sl h : Nat) : Nat :=
  (e.sentDown.filter fun x => x.1 == sl && x.2.1 == h && !e.ackedDown.contains x).length

/-- Every child's partial of a chunk is staged. -/
def CollEntry.haveKids (e : CollEntry) (op : RedOp) (sl k : Nat) : Bool :=
  (op.children sl).all fun h => e.staged.any fun x => x.1 == (sl, h, k)

/-- The node's sum of a chunk: its own bytes and the children's. -/
def CollEntry.partialOf (e : CollEntry) (op : RedOp) (own : List Byte) (sl k : Nat) : List Byte :=
  nodeSum own ((op.children sl).filterMap fun h => (e.staged.find? fun x => x.1 == (sl, h, k)).map (·.2))

/-- The node's sum of the stat lanes. -/
def CollEntry.laneOf (e : CollEntry) (own : List StatCounts) : List StatCounts := e.laneIn.foldl (fun a x => addLanes a x.2) own

/-- The node's digest entry. -/
def CollEntry.digOf (e : CollEntry) (op : RedOp) (own : List Nat) : List Nat :=
  (op.children 0).foldl (fun a h => digJoin a (((e.digIn.find? fun x => x.1 == h).map (·.2)).getD [])) own

/-- The module's own digest entry, from its 128-bit digest at `BUF`. -/
def State.ownDigest (s : State) (e : CollEntry) (op : RedOp) : List Nat :=
  let rd := s.vbyte e.ctx
  digOwn (rdNat rd (op.buf + 8) 8 * 2 ^ 64 + rdNat rd op.buf 8) op.me (op.stats.getD 2 0) (op.stats.getD 3 0)

/-- What travels beside a chunk: the lane with chunk 0 of slice 0 of a bucket, or the digest entry. -/
def laneArgs (l : List StatCounts) : List Nat := l.flatten
def lanesOf (l : List Nat) : List StatCounts := (List.range 4).map fun i => (l.drop (8 * i)).take 8

/-- Send or finish one chunk at this node (R320): upward, or at the root into `BUF`. -/
def State.chunkUp (s : State) (e : CollEntry) (op : RedOp) (f : Flight) (sl k : Nat) : State :=
  let c := e.ctx
  let a := if op.kind = .digestCheck then (op.buf, 16) else op.chunkAt sl k
  match s.badOf c [a] with
  | some pa => s.ownDataBad e sl pa
  | none =>
    let own := bytesAt (s.vbyte c) a.1 a.2
    let root := op.heap sl == 1
    let first := sl == 0 && k == 0
    let lane := e.laneOf f.lane
    let dig := e.digOf op (s.ownDigest e op)
    let more := if op.kind = .digestCheck then dig else if first then laneArgs lane else []
    let used := { e with staged := e.staged.filter fun x => !(x.1.1 == sl && x.1.2.2 == k) }
    if root then
      let s := if op.kind = .digestCheck then s.vwrite c op.res (digRecord op dig)
        else s.vwrite c a.1 (e.partialOf op own sl k)
      s.setEntry { used with
        written := used.written ++ [(sl, k)]
        lane := if first && op.kind = .bucket then some lane else used.lane
        dig := if op.kind = .digestCheck then some dig else used.dig }
    else
      let s := s.setEntry { used with sentUp := used.sentUp ++ [(sl, k)] }
      s.sendData e op sl (op.heap sl / 2) 0 k more (if op.kind = .digestCheck then [] else e.partialOf op own sl k)

/-- Chunk `k` of a slice may be summed now. -/
def CollEntry.upReady (e : CollEntry) (op : RedOp) (sl k : Nat) : Bool :=
  let kids := if op.kind = .digestCheck then (op.children 0).all fun h => e.digIn.any fun x => x.1 == h
    else e.haveKids op sl k
  op.kind != .broadcast && kids
    && (if op.heap sl = 1 then !e.written.contains (sl, k)
        else !e.sentUp.contains (sl, k) && e.ready.contains (sl, op.heap sl / 2) && decide (e.openUp sl < 16))

/-- The result of a chunk may go down to a child now. Under REDUCE_TO_OWNER only the lane goes down (R329). -/
def CollEntry.downReady (e : CollEntry) (op : RedOp) (sl h k : Nat) : Bool :=
  let have' := if op.allreduce then e.written.contains (sl, k)
    else if op.kind = .broadcast then op.heap sl == 1 || e.written.contains (sl, k)
    else sl == 0 && k == 0 && e.lane.isSome
  have' && !e.sentDown.contains (sl, h, k) && e.ready.contains (sl, h) && decide (e.openDown sl h < 16)

/-- Send one chunk down to a child. -/
def State.chunkDown (s : State) (e : CollEntry) (op : RedOp) (sl h k : Nat) : State :=
  let c := e.ctx
  let a := op.chunkAt sl k
  let payload := op.allreduce && op.kind == .bucket || op.kind == .broadcast
  match (if payload then s.badOf c [a] else none) with
  | some pa => s.ownDataBad e sl pa
  | none =>
    let more := if op.kind = .digestCheck then e.dig.getD []
      else if sl = 0 && k = 0 && op.kind = .bucket then laneArgs (e.lane.getD []) else []
    let s := s.setEntry { e with sentDown := e.sentDown ++ [(sl, h, k)] }
    s.sendData e op sl h 1 k more (if payload then bytesAt (s.vbyte c) a.1 a.2 else [])

/-- A downward chunk is acknowledged to the parent once this node and its whole subtree hold it (R330). -/
def CollEntry.ackDue (e : CollEntry) (op : RedOp) (sl k : Nat) : Bool :=
  op.heap sl != 1 && !e.upAcks.contains (sl, k)
    && (op.children sl).all (fun h => e.ackedDown.contains (sl, h, k))
    && (if op.allreduce || op.kind == .broadcast then e.written.contains (sl, k) else sl == 0 && k == 0 && e.lane.isSome)

/-- Do what chunk `k` of a slice allows now. -/
def State.pumpChunk (s : State) (q n sl k : Nat) : State :=
  let up (s : State) : State := match s.entry? q n, s.flight? q n with
    | some e, some f => match f.red with
      | some op => if e.upReady op sl k then s.chunkUp e op f sl k else s
      | none => s
    | _, _ => s
  let down (h : Nat) (s : State) : State := match s.entry? q n, s.flight? q n with
    | some e, some f => match f.red with
      | some op => if e.downReady op sl h k then s.chunkDown e op sl h k else s
      | none => s
    | _, _ => s
  let ack (s : State) : State := match s.entry? q n, s.flight? q n with
    | some e, some f => match f.red with
      | some op =>
        if e.ackDue op sl k then (s.setEntry { e with upAcks := e.upAcks ++ [(sl, k)] }).sendCtl e op ctlAck sl (op.heap sl / 2) 1 k
        else s
      | none => s
    | _, _ => s
  let kids := ((s.flight? q n).bind Flight.red).elim [] fun op => op.children sl
  ack (kids.foldl (fun s h => down h s) (up s))

/-- A slice of a member is complete (R330). -/
def CollEntry.sliceDone (e : CollEntry) (op : RedOp) (sl : Nat) : Bool :=
  let ks := List.range (op.chunks sl)
  let kidsAcked (k : Nat) : Bool := (op.children sl).all fun h => e.ackedDown.contains (sl, h, k)
  let root := op.heap sl == 1
  let laneDone := sl != 0 || (e.lane.isSome && kidsAcked 0)
  if op.kind = .broadcast then ks.all fun k => (root || e.written.contains (sl, k)) && kidsAcked k
  else if op.allreduce then ks.all fun k => e.written.contains (sl, k) && kidsAcked k
  else if root then (ks.all fun k => e.written.contains (sl, k)) && laneDone
  else (ks.all fun k => e.ackedUp.contains (sl, k)) && laneDone

/-- Mark the slices of a command that are complete. -/
def State.markSlices (s : State) (q n : Nat) : State :=
  match s.entry? q n, s.flight? q n with
  | some e, some f => match f.red with
    | some op =>
      let new := op.slices.filter fun sl => !f.done.contains sl && e.sliceDone op sl
      if new.isEmpty then s
      else (s.count e.ctx 0x01 new.length).putFlight { f with done := f.done ++ new }
    | none => s
  | _, _ => s

/-- Everything that a command may send or finish now. -/
def State.pump (s : State) (q n : Nat) : State :=
  match (s.flight? q n).bind Flight.red with
  | none => s
  | some op =>
    (op.slices.foldl (fun s sl => (List.range (op.chunks sl)).foldl (fun s k => s.pumpChunk q n sl k) s) s).markSlices q n

/-- A collective has just started (R228, R326): its own lane is read, READY goes to every tree neighbour, and what can
be sent is sent. -/
def State.openColl (s : State) (q n : Nat) : State :=
  match s.entry? q n, s.flight? q n with
  | some e, some f => match f.red with
    | some op =>
      let c := e.ctx
      let t := f.stepAt % 2 ^ 32
      let slot (i : Nat) : StatCounts := if op.kind != .bucket || i == 0xFFFFFFFF then zeroCounts
        else (readStat (s.vbyte c) (s.getF (CTX_TAB_BASE c 3) * 64 + 384 * i)).laneSlot t
      let s := s.putFlight { f with lane := op.stats.map slot, nextTile := f.total }
      let mine (x : Nat × Nat × Nat × Nat) : Bool := x.1 == e.job && x.2.1 == e.seq
      let s := s.setEntry { e with ready := (s.flue.early.filter mine).map fun x => (x.2.2.1, x.2.2.2) }
      let s := { s with flue := { s.flue with early := s.flue.early.filter fun x => !mine x } }
      let s := op.slices.foldl (fun s sl => (op.nbrs sl).foldl (fun s h => s.sendCtl e op ctlReady sl h 0 0) s) s
      s.pump q n
    | none => s
  | _, _ => s

/-- Abort every key whose tree has a rank that cannot be reached or is recovering (R331). -/
def State.abortRank (s : State) (rank : Nat) : State :=
  (s.coll.filter fun e => ((s.flight? e.q e.n).bind Flight.red).elim false fun op => op.nbrRanks.contains rank).foldl
    (fun s e => s.abortKey e (some .linkFailed) none) s

/-! ### TILE_COMPLETE -/

/-- The host pages that a tile reaches: of the bytes it reads, and of its outputs (R518). -/
def State.tilePages (s : State) (f : Flight) (t : Nat) : List Nat :=
  let reads := (f.plan.tileReads (s.vbyte (s.ctxOf f.q)) t).flatMap fun r => pagesOf r.1 r.2
  match f.plan with
  | .move op => reads ++ pagesOf (op.dst + 65536 * t) (min 65536 (op.len - 65536 * t))
  | p => reads ++ p.tapOuts.flatMap fun o => o.2.ranges.flatMap fun r => pagesOf r.1 r.2

/-- A tile needs a host page whose translation the host now refuses (R518). -/
def State.hostLost (s : State) (f : Flight) (t : Nat) : Bool :=
  let c := s.ctxOf f.q
  (s.host.atsDeny.any fun d => d.1 == c) &&
    (s.tilePages f t).any fun p => s.rangeTarget c (p * 2 ^ 21) == .host && s.host.atsDeny.contains (c, p)

/-- The corrected reads of a tile's Hearth and the corrected die-to-die transfers of its traffic are counted, and it
proceeds (R34, R89, R94, R95). -/
def State.countCorrected (s : State) (f : Flight) (t reads : Nat) (links : List (Fin 6 × Nat)) : State :=
  let s := links.foldl (fun s l => { s with d2dCorr := s.d2dCorr.set 0 l.1.val (s.d2dCorr.get 0 l.1.val + l.2) }) s
  match f.running.find? fun r => r.tile == t with
  | some r =>
    if s.engine f.q = 1 then s.setHearth r.inst { s.hearth r.inst with corrected := (s.hearth r.inst).corrected + reads } else s
  | none => s

/-- The end of a tile: what it writes, or, when a retranslation fails, a tile failure (R518); an output through the ledger
then decides escalation (R181). -/
def State.tileEnds (s : State) (f : Flight) (t : Nat) : State :=
  let s' := if s.hostLost f t then
      let inst := ((f.running.find? fun r => r.tile == t).map (·.inst)).getD 0
      (s.addSat CXL_ERR_XLATE 1).retryOrFail f.q f.n t inst false
    else s.completeTile f t
  if f.plan.bbfs.isEmpty then s' else s'.decideEsc f.q f.n

/-- TILE_COMPLETE (R34, R94, R119, R414, R476). -/
def execTileComplete (q : Fin 64) (n : Nat) (e : TileEnd) (s : State) : Out :=
  match s.landing q n e.tile with
  | some f => .next ((s.countCorrected f e.tile e.reads e.links).tileEnds f e.tile)
  | none => .next s

/-! ### TILE_FAIL -/

/-- A slice of the Flue reducer reports a residue mismatch: added again by the other half, at most twice (R279, R332,
R445). -/
def State.sliceFails (s : State) (f : Flight) (t : Nat) : State :=
  let s := (s.count (s.ctxOf f.q) 0x29 1).logEvent 0x0021 0 (leBytes 4 (if t % 2 = 0 then 0 else 8) ++ leBytes 8 0)
  if f.tries t < 2 then
    (s.count (s.ctxOf f.q) 0x02 1).putFlight { f with
      retryCnt := (f.retryCnt.filter fun p => p.1 != t) ++ [(t, f.tries t + 1)]
      retries := f.retries + 1, recomputed := true }
  else s.sliceFailed f t

/-- The flight whose reducer slice may fail. -/
def State.slicing (s : State) (q n t : Nat) (cause : FailCause) : Option Flight :=
  if s.running && cause == .residueUnit then
    (s.flight? q n).filter fun f => f.red.any fun op => op.slices.contains t && !f.done.contains t
  else none

/-- TILE_FAIL (R279, R280, R332, R443, R445). -/
def execTileFail (q : Fin 64) (n tile : Nat) (cause : FailCause) (s : State) : Out :=
  match s.runningAt q n tile, s.slicing q n tile cause with
  | some (f, r), _ => onlyIf (s.causeHolds f tile cause) (fun s => (s.tileFails f r cause).decideEsc q n) s
  | none, some f => .next (s.sliceFails f tile)
  | none, none => .next s

end Sys2Proof.Machine
end

