-- ==== Sys2Proof/Machine/Complete.lean ====
section
/-! DEFINITION. how commands complete, and WAIT_TIMEOUT: statuses (R185, R283, R284), what a completion adds and writes (R226,
R236, R260, R281, R282, R308, R489–R496), and halts (R285). -/

namespace Sys2Proof.Machine

open Sys2Proof

/-! ### Queue states -/

/-- A live queue holds at a mark, parks at its tail, or runs (R252, R286, R288). -/
def State.settle (s : State) (q : Nat) : State :=
  if !s.live q then s
  else if (s.queue q).mark.isSome then s.setQState q qStepHeld
  else if s.headIdx q = (s.queue q).tail then s.setQState q qParked
  else if s.getF (QUE_STAT_STATE q) = qParked || s.getF (QUE_STAT_STATE q) = qStepHeld then s.setQState q qRunning
  else s

/-- A queue halts (R285): its fault object, `HALT` and the state; `LAST_STATUS` is the caller's. -/
def State.haltQueue (s : State) (q : Nat) : State :=
  let c := s.ctxOf q
  let id := s.getF (QUE_CFG_FAULT_SYNC q)
  let s := if s.syncIn c id then s.syncAdd id 1 0 c q else s
  (s.setF (QUE_CTL_HALT q) 1).setQState q qHalted

/-! ### Statuses -/

/-- The order of R284 while running. -/
def Status.runRank : Status → Nat
  | .decodeError => 0
  | .streamCorrelated => 0
  | .abortedByRecovery => 1
  | .timeout => 2
  | .memoryUncorrectable => 3
  | .linkFailed => 4
  | .accessFault => 5
  | .formatConflict => 6
  | .partialTiles => 7
  | .syncRange => 8
  | _ => 9

/-- The outcomes of R185 when no error applies; OK_RECOMPUTED last for every opcode (R284). -/
def Flight.okStatus (f : Flight) : Status :=
  if f.esc.any (·.wide) then .okWidened
  else if f.units.any (·.reemitted) then .okRescaled
  else if 0 < f.frozen then .okFrozenSkipped
  else if 0 < f.retries then .okRecomputed
  else .ok

/-- The status of a command that is ready, before its signals. -/
def Flight.status (f : Flight) : Status :=
  (firstStatus Status.runRank (f.errs ++ f.failed.map (·.2))).getD f.okStatus

/-! ### PRECISION_APPLY (R236) -/

def State.ftAddr (s : State) (c i : Nat) : Nat := s.getF (CTX_TAB_BASE c 2) * 64 + 32 * i

/-- An entry is skipped: malformed by R218, or marked `MALF`. -/
def State.ftSkip (s : State) (c : Nat) (e : FtEntry) : Bool :=
  let len := s.getF (CTX_TAB_LEN c 2)
  let lead := if e.rlead < len then (readFt (s.vbyte c) (s.ftAddr c e.rlead)).rlead else rleadSelf
  e.malf || e.malformed len (s.getF (CTX_TAB_LEN c 3)) lead

/-- Rewrite the entries of a range that are not skipped. -/
def State.ftMap (s : State) (c first count : Nat) (g : State → FtEntry → FtEntry) : State :=
  (List.range count).foldl (fun s i =>
    let a := s.ftAddr c (first + i)
    let e := readFt (s.vbyte c) a
    if s.ftSkip c e then s else s.vwrite c a (g s e).bytes) s

/-- PRECISION_APPLY commits: GOVERNED mode and no EVAL (R236, R239). -/
def State.commits (s : State) (f : Flight) : Bool :=
  cOpc f.words == 0x71 && s.getF (CTX_GOVCFG_MODE (s.ctxOf f.q)) == 1 && !s.evalOf f.q f.words

/-- Steps 2 to 4 of R236. -/
def State.precisionApply (s : State) (f : Flight) : State :=
  let c := s.ctxOf f.q
  let first := wField f.words 0x18 4
  let count := wField f.words 0x1C 4
  let s := s.ftMap c first count fun _ e => e.commitRot
  let s := s.ftMap c first count fun _ e => e.commitPend
  s.ftMap c first count fun s e =>
    if e.rlead = rleadSelf then e else { e with rot := (readFt (s.vbyte c) (s.ftAddr c e.rlead)).rot }

/-- The entries that PRECISION_APPLY reads: its range and the leads that it names. -/
def State.applyReads (s : State) (f : Flight) : List (Nat × Nat) :=
  let c := s.ctxOf f.q
  let first := wField f.words 0x18 4
  let count := wField f.words 0x1C 4
  (s.ftAddr c first, 32 * count) :: (List.range count).filterMap fun i =>
    let l := (readFt (s.vbyte c) (s.ftAddr c (first + i))).rlead
    if l < s.getF (CTX_TAB_LEN c 2) then some (s.ftAddr c l, 32) else none

/-! ### Tap records (R494–R496) -/

/-- The tensor that a TAP names. -/
def State.tapTensor (s : State) (f : Flight) : TDesc :=
  let rd := rdNat (s.vbyte (s.ctxOf f.q))
  let a := wField f.words 0x18 6
  ⟨rd a 6, rd (a + 6) 1, rd (a + 7) 1, rd (a + 8) 4, rd (a + 0x10) 6, rd (a + 0x18) 4, rd (a + 0x1C) 4⟩

/-- `ASH` and `CLINKER` summed over a BBF tensor's headers (R496). -/
def hdrSums (rd : Nat → Byte) (t : TDesc) : Nat × Nat :=
  (List.range (t.kTiles * t.oTiles)).foldl (fun acc i =>
    let a := t.base + i * t.stride
    (acc.1 + rdNat rd (a + 0x14) 2, acc.2 + rdNat rd (a + 0x16) 2)) (0, 0)

/-- The 256 bytes of a tap record. -/
def tapRecord (src tag tapId q kind step hb : Nat) (loss : Nat × Nat) (t : TapStats) : List Byte :=
  leBytes 1 0x53 ++ leBytes 1 (64 * src) ++ leBytes 2 tag ++ leBytes 2 tapId ++ leBytes 1 q ++ leBytes 1 kind ++ leBytes 8 step
    ++ leBytes 8 t.count ++ leBytes 8 t.zeros ++ leBytes 8 loss.1 ++ leBytes 8 loss.2 ++ leBytes 4 t.nonfin
    ++ leBytes 4 (bits32 t.min) ++ leBytes 4 (bits32 t.max) ++ leBytes 4 (bits32 t.sum) ++ leBytes 4 (bits32 t.sumsq)
    ++ leBytes 1 hb ++ leBytes 11 0 ++ (t.hist.flatMap fun n => leBytes 4 n) ++ t.digest ++ leBytes 32 0

/-- Write one tap record. -/
def State.tapOne (s : State) (f : Flight) (src : Nat) (t : TDesc) (tapId hb dseed : Nat) : State :=
  let c := s.ctxOf f.q
  let rd := s.vbyte c
  let loss := if t.kind = kBBF then hdrSums rd t else if src = 0 then (0, 0) else (f.convAsh, f.convClink)
  s.ring c (tapRecord src (cTag f.words) tapId f.q t.kind f.stepAt hb loss (tensorStats rd t (signedOf 8 hb) dseed))

/-- The tap records of a command that ends in the OK family. -/
def State.tapAll (s : State) (f : Flight) : State :=
  if cOpc f.words = 0x70 then
    s.tapOne f 0 (s.tapTensor f) (wField f.words 0x1E 2) (wField f.words 0x20 1) (wField f.words 0x1E 2)
  else if cTapEn f.words then
    let hb := s.getF (OBS_CTX_HBIAS (s.ctxOf f.q))
    f.plan.tapOuts.foldl (fun s o => s.tapOne f o.1 o.2 0 hb (cTag f.words)) s
  else s

/-! ### What a command finds only when it ends -/

/-- The reads that a command makes as it ends: the tensor of a TAP, the entries of PRECISION_APPLY, and what a resumed
command reads again (R308, R494). -/
def State.lateReads (s : State) (f : Flight) : List (Nat × Nat) :=
  if cOpc f.words = 0x70 then (s.tapTensor f).ranges
  else if s.commits f then s.applyReads f
  else if f.resumed then
    (match f.plan with
      | .update op _ => if op.digOut = 0 then [] else [(op.wHiDst, 4 * op.npar), (op.wExtDst, 2 * op.npar)]
      | _ => [])
      ++ (if cTapEn f.words then f.plan.tapOuts.flatMap fun o => o.2.ranges else [])
  else []

/-- A TAP meets a CBn tile or a faulty header (R64, R580). -/
def State.tapFaulty (s : State) (f : Flight) : Bool :=
  cOpc f.words == 0x70 &&
    (let t := s.tapTensor f
     let rd := s.vbyte (s.ctxOf f.q)
     t.kind == kBBF && (List.range (t.kTiles * t.oTiles)).any fun i =>
      (readHdr rd (t.base + i * t.stride) t.stride).elim true fun h => h.fmt.isCb)

/-- The errors that show only as the command ends, with the line of an uncorrectable read. -/
def State.lateErrors (s : State) (f : Flight) : List Status × Option Nat :=
  if !f.errs.isEmpty then ([], none)
  else
    let c := s.ctxOf f.q
    match s.badOf c (s.lateReads f) with
    | some pa => ([.memoryUncorrectable], some pa)
    | none =>
      (if s.commits f && (s.applyReads f).any (fun r => s.rangeCheck c r.1 r.2 false != .ok) then [.accessFault]
       else if s.tapFaulty f then [.formatConflict] else [], none)

/-! ### Statistics, counters and digests -/

/-- Data values that panels of a stat key cover (R221, R581). -/
def BbfOut.valuesFor (o : BbfOut) (live : Nat → Bool) (key : Nat × Bool) : Nat :=
  ((List.range o.unitCount).map fun u =>
    let ts := o.unitTiles u
    let i := o.infoOf (ts.headD (0, 0)).1
    if i.statIdx = key.1 && i.lane == key.2 then
      (ts.map fun t => ((tileSpan t.2 o.td.rows).map fun r =>
        (tileSpan t.1 o.td.cols).countP fun c => live (r * o.td.cols + c)).sum).sum
    else 0).sum

/-- The parameters of a frozen block of an UPDATE add nothing to any stat counter (R300). -/
def Plan.liveValue (p : Plan) (i : Nat) : Bool :=
  match p with
  | .update op _ => !op.freeze.getD (i / 4096) false
  | _ => true

/-- The counts that a command adds under a key: its units', what it held, and the escalation term of `SAT`. -/
def Flight.countsFor (f : Flight) (key : Nat × Bool) : StatCounts × Nat :=
  let r := f.sumFor key fun _ => true
  let extra := if f.esc.isSome then (f.plan.bbfs.map fun o => o.valuesFor f.plan.liveValue key).sum else 0
  (addCounts r.1 [0, 0, extra, 0, 0, 0, 0, 0], r.2)

/-- Add a command's counts to its stat records (R225, R226). -/
def State.addStats (s : State) (f : Flight) : State :=
  let c := s.ctxOf f.q
  (f.statKeys (s.evalOf f.q f.words)).foldl (fun s k =>
    let a := s.getF (CTX_TAB_BASE c 3) * 64 + 384 * k.1
    let r := f.countsFor k
    s.vwrite c a ((readStat (s.vbyte c) a).addWrite k.2 f.winAt (f.stepAt % 2 ^ 32) r.1 r.2).bytes) s

/-- The data events of the emissions as written (R157, R485). -/
def State.countUnits (s : State) (f : Flight) : State :=
  let n (i : Nat) : Nat := (f.units.map fun r => r.events.getD i 0).sum
  s.countAll (s.ctxOf f.q) ((List.range 6).map fun i => (0x10 + i, n i))

/-- The read-side ash and clinker of a command (R155); those of a TAP are its tensor's slots. -/
def State.countReads (s : State) (f : Flight) : State :=
  let rd := s.vbyte (s.ctxOf f.q)
  let r := if cOpc f.words = 0x70 then (s.tapTensor f).readLosses rd false else f.plan.readLosses rd
  s.countAll (s.ctxOf f.q) [(0x10, r.1), (0x11, r.2)]

/-- The digest that an UPDATE or DIGEST writes (R307, R308): an UPDATE's is what its tiles have formed. -/
def State.writeDigest (s : State) (f : Flight) : State :=
  let c := s.ctxOf f.q
  match f.plan with
  | .update op _ => if op.digOut = 0 then s else s.applyWrites c [(op.digOut, digestOut f.dig)]
  | .digest hi ext npar dout dseed =>
    s.applyWrites c [(dout, digestBytes ((List.range npar).map (codeAt (s.vbyte c) hi ext)) dseed)]
  | _ => s

/-- A DIGEST, whose digest is its own effect; an UPDATE's is for a command without any error (R308). -/
def Plan.isDigest : Plan → Bool
  | .digest .. => true
  | _ => false

/-- The reduced lane of a bucket enters its stat records (R229, R329). -/
def State.applyLane (s : State) (f : Flight) : State :=
  match f.red, (s.entry? f.q f.n).bind (·.lane) with
  | some op, some lane =>
    let c := s.ctxOf f.q
    op.stats.zipIdx.foldl (fun s p =>
      if p.1 = 0xFFFFFFFF then s
      else
        let a := s.getF (CTX_TAB_BASE c 3) * 64 + 384 * p.1
        s.vwrite c a ((readStat (s.vbyte c) a).takeLane (f.stepAt % 2 ^ 32) f.winAt (lane.getD p.2 zeroCounts)).bytes) s
  | _, _ => s

/-- A DIGEST_CHECK that does not match counts and freezes a trace armed for faults (R456). -/
def State.noteDigest (s : State) (f : Flight) : State :=
  match (s.entry? f.q f.n).bind (·.dig) with
  | some d =>
    if d.getD 0 0 = d.getD 3 0 then s
    else
      let s := s.count (s.ctxOf f.q) 0x2A 1
      if bitOf (s.getF OBS_TRTRIG_ARM) 0 then s.setF OBS_TRSTAT_FROZEN 1 else s
  | none => s

/-! ### Signals (R260, R261) -/

/-- The additions that a command makes: a local SIGNAL's, then SIG_EN's. -/
def Flight.signals (f : Flight) : List (Nat × Nat) :=
  let ws := f.words
  (if cOpc ws = 0x03 && wField ws 0x1A 2 = 0 then [(wField ws 0x18 2, wField ws 0x20 8)] else [])
    ++ (if cSigEn ws then [(cSigId ws, cSigInc ws)] else [])

/-- Apply the additions in order, up to one that would carry: it changes nothing, and the command then ends SYNC_RANGE, so
that no later one is applied either (R260, R261). The flag says whether there is such a one. -/
def State.applySignals (s : State) (f : Flight) : State × Bool :=
  f.signals.foldl (fun r p =>
    if r.2 || r.1.syncOver p.1 p.2 then (r.1, true) else (r.1.syncAdd p.1 p.2 0 (s.ctxOf f.q) f.q, false)) (s, false)

/-- The status of a command whose other outcomes are `st`: SYNC_RANGE when one of its additions would carry (R261). -/
def State.signalStatus (s : State) (f : Flight) (st : Status) : Status :=
  if st.isOk && (s.applySignals f).2 then .syncRange else st

/-! ### Records -/

/-- The failed-tile bitmap and its offset in the arena (R281): 0 when it does not fit. -/
def State.writeBitmap (s : State) (f : Flight) : Nat × State :=
  if f.failed.isEmpty then (0, s)
  else
    let c := s.ctxOf f.q
    let need := ceilDiv f.total 512
    let len := s.getF (CTX_TAB_LEN c 4)
    let next := max 1 (s.arena.get 0 c)
    let at' := if len < next + need then 1 else next
    if len < 1 + need then (0, s)
    else
      let bytes := (List.range (64 * need)).map fun i =>
        BitVec.ofNat 8 ((List.range 8).foldl (fun n b => if f.failed.any (fun p => p.1 == 8 * i + b) then n + 2 ^ b else n) 0)
      let s := { s with arena := s.arena.set 0 c (at' + need) }
      (at', s.applyWrites c [(s.getF (CTX_TAB_BASE c 4) * 64 + 64 * at', bytes)])

/-- The `ENERGY` of a command in µJ, rounded to the nearest and saturated (R282, R412). -/
def Flight.microjoules (f : Flight) : Nat := min ((2 * f.energy + 10 ^ 9 * 2 ^ 16) / (2 * 10 ^ 9 * 2 ^ 16)) 0xFFFFFFFF

/-- The 32 bytes of a completion record (R282). -/
def Flight.record (f : Flight) (st : Status) (bitmap cycles : Nat) : List Byte :=
  let emits := (f.units.map fun r => r.emit * r.tiles).sum
  let first := f.failed.foldl (fun m p => min m p.1) 0xFFFFFFFF
  leBytes 1 st.code ++ leBytes 1 (1 - f.n / 4096 % 2) ++ leBytes 2 (cTag f.words) ++ leBytes 4 f.total
    ++ leBytes 4 f.done.length ++ leBytes 2 (min emits 0xFFFF) ++ leBytes 2 (min f.retries 0xFFFF) ++ leBytes 4 first
    ++ leBytes 4 bitmap ++ leBytes 4 f.microjoules ++ leBytes 4 (min cycles 0xFFFFFFFF)

/-- The slot of a completion record (R254). -/
def State.recordAddr (s : State) (q n : Nat) : Nat := s.getF (QUE_PTR_ADDR q 2) * 64 + 32 * (n % 4096)

/-- The 256 bytes of a snapshot record (R491). -/
def Flight.snapBytes (f : Flight) (st : Status) (tEnd : Nat) (ends : List Nat) : List Byte :=
  leBytes 1 0x50 ++ leBytes 1 st.code ++ leBytes 2 (cTag f.words) ++ leBytes 4 f.q ++ leBytes 8 f.n ++ leBytes 8 f.tStart
    ++ leBytes 8 tEnd ++ (f.snapSel.flatMap fun e => leBytes 1 e) ++ leBytes 16 0 ++ (f.snapStart.flatMap fun v => leBytes 6 v)
    ++ (ends.flatMap fun v => leBytes 6 v)

/-- Write a command's completion record, its snapshot, its interrupt and what counts it; an error halts the queue (R254,
R282, R285, R491, R511). The flight leaves the queue, and its ledger slot no longer describes it. -/
def State.finish (s : State) (f : Flight) (st : Status) : State :=
  let q := f.q
  let c := s.ctxOf q
  let (bitmap, s) := s.writeBitmap f
  let (cycles, s) := s.fresh
  let s := s.applyWrites c [(s.recordAddr q f.n, f.record st bitmap cycles)]
  let ends := s.latches c f.snapSel
  let s := s.setF (QUE_STAT_LAST_STATUS q) st.code
  let s := if cTapEn f.words || bitOf (s.getF OBS_QSNAP_SNAP) q then s.ring c (f.snapBytes st s.now ends) else s
  let s := s.countAll c [(0x00, 1), (0x0C, f.microjoules)]
  let s := s.traceRec 2 st.code c q f.n (f.done.length % 2 ^ 32 + min f.retries 0xFFFF * 2 ^ 32)
  let s := if s.getF OBS_TRTRIG_ST_VAL = st.code && bitOf (s.getF OBS_TRTRIG_CTXMASK) c then s.trigger 2 st.code else s
  let s := s.freeEntry q f.n
  let s := { s with flights := s.flights.filter fun g => !(g.q == q && g.n == f.n) }
  let s := (s.dwrite (slotAddr q f.n) (leBytes 8 (f.n % 2 ^ 48))).putQHeader q (s.doneIdx q)
  let s := if st.isOk then s else s.haltQueue q
  let s := if cLast f.words || !st.isOk then s.queueIrq q else s
  s.settle q

/-! ### COMMAND_COMPLETE -/

/-- Every tile of a flight is settled, and nothing of it is outstanding. -/
def State.tilesSettled (s : State) (f : Flight) : Bool :=
  match f.plan with
  | .reduce op => (s.entry? f.q f.n).isNone || op.slices.all f.done.contains
  | _ => (List.range f.total).all (fun t => f.done.contains t || f.failed.any fun p => p.1 == t)
      && f.remotes.isEmpty && !(f.esc.any fun e => e.wide && !e.passed)
      && (match f.plan with
          | .update op _ => !op.emit || f.phase == 3 || f.phase == 2
          | _ => true)

/-- A control, observation or governor command is done: a STEP_MARK that holds waits for its interlude, a remote SIGNAL
for its acknowledgement, a committing PRECISION_APPLY for its decision step (R236, R264, R287). -/
def State.controlDone (s : State) (f : Flight) : Bool :=
  let c := s.ctxOf f.q
  let o := cOpc f.words
  if o = 0x04 && (s.flag (QUE_CFG_EVAL f.q) || s.flag (QUE_CFG_STEPPED f.q)) then f.ready
  else if o = 0x03 && wField f.words 0x1A 2 = 1 then f.ready
  else if s.commits f then
    s.getF (CTX_GOVWIN_WIN c) == 0
      || (s.getF (CTX_GOVDONE_DONE_WIN c) + 1) % 2 ^ 32 == s.getF (CTX_GOVWIN_WIN c)
  else true

/-- A command and its writes are complete. -/
def State.isReady (s : State) (f : Flight) : Bool :=
  if !f.errs.isEmpty then f.running.isEmpty
  else match f.plan with
    | .control => s.controlDone f
    | _ => s.tilesSettled f

/-- The oldest command of a queue, when it is complete: every earlier one has then completed too (R260). -/
def State.completing (s : State) (q : Nat) : Option Flight :=
  if s.running then ((s.flightsOf q).head?).filter fun f => s.isReady f else none

/-- Complete a command (R260): its counts and late writes, its signals, then its record. What it writes beside its tiles
stays in place when an addition of its own carries (R261), but `DIGOUT` of an UPDATE, tap records, the stat lane and the
SIG_EN addition are for a status of the OK family alone (R260, R308, R329, R494). -/
def State.complete (s : State) (f : Flight) : State :=
  let late := s.lateErrors f
  let s := match late.2 with
    | some pa => s.memFault f.q f.n pa
    | none => s
  let f := { f with errs := f.errs ++ late.1 }
  let st := s.signalStatus f f.status
  let s := ((s.addStats f).countUnits f).countReads f
  let s := if st == .syncRange || st.isOk then (if s.commits f then s.precisionApply f else s).noteDigest f else s
  let s := if st.isOk || (st == .syncRange && f.plan.isDigest) then s.writeDigest f else s
  let s := if st.isOk then (s.tapAll f).applyLane f else s
  let s := if f.status.isOk then (s.applySignals f).1 else s
  s.finish f st

/-! ### WAIT_TIMEOUT -/

/-- The wait limit applies (R266): it is not disabled. -/
def State.waitLimited (s : State) (q : Nat) : Bool := s.getF (CTX_CFG_WAIT_TO (s.ctxOf q)) != 31

/-- The head command that waits: its bytes (R266). -/
def State.waitingHead (s : State) (q : Nat) : Option (List Byte) :=
  if s.due q && s.waitLimited q then
    match s.fetchCmd q (s.headIdx q) with
    | .ok ws => if (!isBarrier (cOpc ws) || (s.flightsOf q).isEmpty) && s.waitHolds q ws then some ws else none
    | .error _ => none
  else none

/-- The STEP_MARK at which a queue holds (R266). -/
def State.heldMark (s : State) (q : Nat) : Option Flight :=
  if s.running && s.waitLimited q && (s.queue q).mark.isSome then
    List.find? (fun f : Flight => cOpc f.words == 0x04 && !f.ready) (s.flightsOf q)
  else none

/-- WAIT_TIMEOUT (R266): the waiting command completes TIMEOUT with no effect; a mark stops holding its queue. -/
def execWaitTimeout (q : Fin 64) (s : State) : Out :=
  match s.waitingHead q, s.heldMark q with
  | some ws, _ => .next (s.startRejected q ws (.timeout, none))
  | none, some f =>
    .next ((s.setQueue q { s.queue q with mark := none }).putFlight { f with errs := [.timeout] })
  | none, none => .next s

end Sys2Proof.Machine
end

