-- ==== Sys2Proof/Machine/Commands.lean ====
section
/-! DEFINITION. The opcode rows: each starts the head command of a queue when it carries that opcode (R248–R258, R583);
and the watch line (R251, R252, R515). -/

namespace Sys2Proof.Machine

open Sys2Proof

/-! ### What follows a start -/

/-- The record of a unit that a resumed command finds written: what its tile headers say; its counts are among those
held (R185, R477). -/
def Plan.oldUnit (rd : Nat → Byte) (p : Plan) (u : Nat) : Option UnitRec :=
  (p.unitAt u).map fun x =>
    let o := x.2.1
    let ts := o.unitTiles x.2.2
    let i := o.infoOf (ts.headD (0, 0)).1
    let at' := o.td.tileAddr (ts.headD (0, 0)).1 (ts.headD (0, 0)).2
    let emit := rdNat rd (at' + 0x1A) 1 % 4
    { unitIdx := u, emit := emit, reemitted := emit != 0
      ash := (ts.map fun t => rdNat rd (o.td.tileAddr t.1 t.2 + 0x14) 2).sum
      values := (ts.map fun t => (tileSpan t.1 o.td.cols).length * (tileSpan t.2 o.td.rows).length).sum
      clink := (ts.map fun t => rdNat rd (o.td.tileAddr t.1 t.2 + 0x16) 2).sum
      tiles := ts.length, events := [], statIdx := i.statIdx, lane := i.lane, counts := zeroCounts, amax := 0, obs := 0
      writes := [] }

/-- The emission of a resumed UPDATE runs again from its first panel, and what was held of it is discarded (R477). While
an update tile is unwritten the emission has not begun again, whatever the slot's phase (R305). -/
def Flight.redo (f : Flight) : Flight :=
  match f.plan with
  | .update op _ =>
    let upd := f.done.filter fun t => decide (t < op.tiles)
    if decide (2 ≤ f.phase) && decide (upd.length < op.tiles) then { f with done := upd, held := [], phase := 1 }
    else if f.phase = 3 then { f with done := upd, held := [] }
    else f
  | _ => f

/-- What a resumed command takes up again (R477, R480): written units, frozen blocks, the digest of the tiles done (R308),
and a decided escalation, whose cause and counts the slot does not hold (free values, log entry 2). A decision without a
wider format is past too (R182, R189). -/
def State.takeUp (s : State) (f : Flight) : State :=
  let decided := f.phase == 2
  let f := f.redo
  let units := ((List.range f.plan.units).filter fun u => (f.plan.unitTileIdx u).all f.done.contains).filterMap
    fun u => f.plan.oldUnit (s.vbyte (s.ctxOf f.q)) u
  let frozen := match f.plan with
    | .update op _ => (f.done.filter fun t => decide (t < op.tiles) && op.freeze.getD t false).length
    | _ => 0
  let dig := match f.plan with
    | .update op _ => if op.digOut = 0 then f.dig else f.done.foldl (UpdOp.digestTile (s.vbyte (s.ctxOf f.q)) op) (0, 0)
    | _ => f.dig
  let fm := f.plan.escFmts
  let (a, s) := s.fresh
  let (b, s) := s.fresh
  let (c, s) := s.fresh
  let left := (List.range f.total).any fun t => !f.done.contains t
  let esc : Option EscState := if decided then some ⟨a % 4, b, c, fm.1, fm.2.1, fm.2.2, !fm.1 || !left⟩ else none
  s.putFlight { f with units := units, frozen := frozen, esc := esc, dig := dig }.advance

/-- A remote SIGNAL sends its increment (R264); from then on its fate is uncertain to a recovery (R477). -/
def State.sendSignal (s : State) (f : Flight) : State :=
  let ws := f.words
  let c := s.ctxOf f.q
  let id := wField ws 0x18 2
  let (tag, s) := s.newTag
  let (v, s) := s.fresh
  let s := s.putFlight { f with res := 3, remotes := [⟨tag, 0, id, 0⟩] }
  let s := s.traceRec 4 1 c f.q id v
  s.injectAll [s.packet tySignal (bitsOf (wField ws 0x1C 2) 11 0) (bitsOf (wField ws 0x1E 2) 3 0) c tag
    [id, wField ws 0x20 8] []]

/-- What a command does as soon as it has started. -/
def State.started (s : State) (q n : Nat) : State :=
  match s.flight? q n with
  | none => s
  | some f =>
    let s := if f.resumed then s.takeUp f
      else if f.red.isSome && f.errs.isEmpty then s.openColl q n
      else if cOpc f.words = 0x03 && wField f.words 0x1A 2 = 1 && f.errs.isEmpty then s.sendSignal f
      else s.putFlight f
    s.settle q

/-- Start the head command of a queue when its opcode is one that the row takes. -/
def State.issue (s : State) (q : Nat) (p : Nat → Bool) : State :=
  let t := s.startRow q p
  if t.headIdx q = s.headIdx q then t else t.started q (s.headIdx q)

/-- A head command that cannot be read starts at once when the queue wakes (R583). -/
def State.issueUnreadable (s : State) (q : Nat) : State := s.issue q fun _ => false

/-- COMMAND_COMPLETE (R260): the oldest command of the queue; a next command that cannot be read starts at once
(R583). -/
def execCommandComplete (q : Fin 64) (s : State) : Out :=
  match s.completing q with
  | some f => .next ((s.complete f).issueUnreadable q)
  | none => .next s

/-! ### The rows -/

/-- NOP; a reserved opcode starts here too and completes DECODE_ERROR (R17, R248). -/
def execNop (q : Fin 64) (s : State) : Out := .next (s.issue q fun o => o == 0x00 || opcEngine o == 9)
/-- LINK (R250). -/
def execLink (q : Fin 64) (s : State) : Out := .next (s.issue q fun o => o == 0x01)
/-- WAIT (R248, R277). -/
def execWait (q : Fin 64) (s : State) : Out := .next (s.issue q fun o => o == 0x02)
/-- SIGNAL (R264). -/
def execSignal (q : Fin 64) (s : State) : Out := .next (s.issue q fun o => o == 0x03)
/-- STEP_MARK (R286). -/
def execStepMark (q : Fin 64) (s : State) : Out := .next (s.issue q fun o => o == 0x04)
/-- FENCE (R258). -/
def execFence (q : Fin 64) (s : State) : Out := .next (s.issue q fun o => o == 0x05)
/-- MATMUL (R127). -/
def execMatmul (q : Fin 64) (s : State) : Out := .next (s.issue q fun o => o == 0x10)
/-- MATMUL_PACKED (R86). -/
def execMatmulPacked (q : Fin 64) (s : State) : Out := .next (s.issue q fun o => o == 0x11)
/-- MATMUL_TABLE (R199). -/
def execMatmulTable (q : Fin 64) (s : State) : Out := .next (s.issue q fun o => o == 0x12)
/-- MATMUL_BINARY (R202). -/
def execMatmulBinary (q : Fin 64) (s : State) : Out := .next (s.issue q fun o => o == 0x13)
/-- MATMUL_STREAM (R210). -/
def execMatmulStream (q : Fin 64) (s : State) : Out := .next (s.issue q fun o => o == 0x14)
/-- ROTATE (R164). -/
def execRotate (q : Fin 64) (s : State) : Out := .next (s.issue q fun o => o == 0x20)
/-- QUANTISE (R162). -/
def execQuantise (q : Fin 64) (s : State) : Out := .next (s.issue q fun o => o == 0x21)
/-- DEQUANTISE (R163). -/
def execDequantise (q : Fin 64) (s : State) : Out := .next (s.issue q fun o => o == 0x22)
/-- AMAX_PASS (R187). -/
def execAmaxPass (q : Fin 64) (s : State) : Out := .next (s.issue q fun o => o == 0x23)
/-- VEC_MAP (R272). -/
def execVecMap (q : Fin 64) (s : State) : Out := .next (s.issue q fun o => o == 0x30)
/-- VEC_NORM (R272). -/
def execVecNorm (q : Fin 64) (s : State) : Out := .next (s.issue q fun o => o == 0x31)
/-- VEC_SOFTMAX (R272). -/
def execVecSoftmax (q : Fin 64) (s : State) : Out := .next (s.issue q fun o => o == 0x32)
/-- VEC_LOSS (R273). -/
def execVecLoss (q : Fin 64) (s : State) : Out := .next (s.issue q fun o => o == 0x33)
/-- VEC_REDUCE (R272). -/
def execVecReduce (q : Fin 64) (s : State) : Out := .next (s.issue q fun o => o == 0x34)
/-- MOVE (R394). -/
def execMove (q : Fin 64) (s : State) : Out := .next (s.issue q fun o => o == 0x40)
/-- OFFLOAD (R336). -/
def execOffload (q : Fin 64) (s : State) : Out := .next (s.issue q fun o => o == 0x41)
/-- PREFETCH (R336). -/
def execPrefetch (q : Fin 64) (s : State) : Out := .next (s.issue q fun o => o == 0x42)
/-- SPILL (R336). -/
def execSpill (q : Fin 64) (s : State) : Out := .next (s.issue q fun o => o == 0x43)
/-- REDUCE_BUCKET (R319). -/
def execReduceBucket (q : Fin 64) (s : State) : Out := .next (s.issue q fun o => o == 0x50)
/-- BROADCAST (R323). -/
def execBroadcast (q : Fin 64) (s : State) : Out := .next (s.issue q fun o => o == 0x51)
/-- DIGEST_CHECK (R455). -/
def execDigestCheck (q : Fin 64) (s : State) : Out := .next (s.issue q fun o => o == 0x52)
/-- UPDATE (R296). -/
def execUpdate (q : Fin 64) (s : State) : Out := .next (s.issue q fun o => o == 0x60)
/-- DIGEST (R308). -/
def execDigest (q : Fin 64) (s : State) : Out := .next (s.issue q fun o => o == 0x61)
/-- TAP (R494). -/
def execTap (q : Fin 64) (s : State) : Out := .next (s.issue q fun o => o == 0x70)
/-- PRECISION_APPLY (R236). -/
def execPrecisionApply (q : Fin 64) (s : State) : Out := .next (s.issue q fun o => o == 0x71)

/-! ### The watch line (R251, R252) -/

/-- The virtual address of a queue's watch line. -/
def State.watchVA (s : State) (q : Nat) : Nat := s.getF (QUE_PTR_ADDR q 1) * 64

/-- Where a queue's watch line lies. -/
def State.watchAt (s : State) (q : Nat) : Option (Target × Nat) := s.resolve (s.ctxOf q) (s.watchVA q)

/-- A watch line that breaks the rule of `TAIL` halts the queue with no completion record (R252). -/
def State.badTail (s : State) (q : Nat) : State :=
  ((s.setF (QUE_STAT_LAST_STATUS q) Status.decodeError.code).haltQueue q).queueIrq q

/-- A watch line in host memory is held from its read on (R519). -/
def State.holdWatch (s : State) (q : Nat) : State :=
  match s.watchAt q with
  | some (.host, a) =>
    if s.host.watch.contains (a / 64) then s else { s with host := { s.host with watch := s.host.watch ++ [a / 64] } }
  | _ => s

/-- A queue takes what its watch line says (R252). -/
def State.takeWatch (s : State) (q tail cqHead : Nat) : State :=
  if tail < (s.queue q).tail || s.headIdx q + 2 ^ 47 < tail then s.badTail q
  else
    let s := s.setQueue q { s.queue q with tail := tail, cqHead := cqHead }
    (s.settle q).issueUnreadable q

/-- Read a queue's watch line as one unit. A line of another epoch is ignored, and so is one that cannot be read (log
entry 15); one with an uncorrectable error is reported as any read's is (R381, R385). -/
def State.readWatch (s : State) (q : Nat) : State :=
  let c := s.ctxOf q
  let a := s.watchVA q
  let rd := rdNat (s.vbyte c)
  if !s.live q || s.rangeCheck c a 64 false != .ok then s
  else if let some pa := s.rangeBad c a 64 then s.ueFound pa false c
  else if rd (a + 6) 2 != s.getF (QUE_PTR_EPOCH q 1) then s.holdWatch q
  else (s.holdWatch q).takeWatch q (rd a 6) (rd (a + 8) 6)

/-- The queues whose watch line a write of device memory touches wake (R252, R515). -/
def State.snoopWrite (s : State) (pa n : Nat) : State :=
  ((List.range 64).filter fun q => s.live q && match s.watchAt q with
    | some (.device, a) => touches pa n (a / 64)
    | _ => false).foldl State.readWatch s

/-- WATCH_LINE_POLL (R515): a parked queue rereads its watch line in device memory. -/
def execWatchLinePoll (q : Fin 64) (s : State) : Out :=
  onlyIf (s.running && s.live q && s.getF (QUE_STAT_STATE q) == qParked
    && (match s.watchAt q with
        | some (.device, _) => true
        | _ => false)) (fun s => s.readWatch q) s

end Sys2Proof.Machine
end

