-- ==== Sys2Proof/Machine/Steps.lean ====
section
/-! DEFINITION. STEP_BARRIER, DECISION_STEP_END and INTERLUDE_CLOSE (R229–R235, R239, R286, R287). -/

namespace Sys2Proof.Machine

open Sys2Proof

/-! ### The decision step (R231–R235) -/

/-- The thresholds of a context (R232, R244). -/
def State.govThr (s : State) (c : Nat) : GovThr :=
  { ashHi := s.getF (CTX_GOVTHR0_ASH_HI c), ashLo := s.getF (CTX_GOVTHR0_ASH_LO c), clkHi := s.getF (CTX_GOVTHR0_CLK_HI c)
    ovfHi := s.getF (CTX_GOVTHR0_OVF_HI c), noiseHi := s.getF (CTX_GOVTHR1_NOISE_HI c)
    noiseLo := s.getF (CTX_GOVTHR1_NOISE_LO c), stallHi := s.getF (CTX_GOVTHR1_STALL_HI c)
    occLo := s.getF (CTX_GOVTHR1_OCC_LO c), hyst := s.getF (CTX_GOVCFG_HYST c), intFloor := s.seval.intFloor
    fpFloor := s.seval.fpFloor }

/-- The address of a stat record. -/
def State.statAddr (s : State) (c i : Nat) : Nat := s.getF (CTX_TAB_BASE c 3) * 64 + 384 * i

/-- A decision step can read a range; an uncorrectable line that it meets is counted (R218, R381). -/
def State.govRead (s : State) (c a len : Nat) : Bool × State :=
  if s.rangeCheck c a len false != .ok then (false, s)
  else match s.rangeBad c a len with
    | some pa => (false, s.ueFound pa false c)
    | none => (true, s)

/-- Fold the reduced lane of window `w` into a record (R229). -/
def State.foldRecord (s : State) (c w i : Nat) : State :=
  let a := s.statAddr c i
  let (ok, s) := s.govRead c a 384
  let r := readStat (s.vbyte c) a
  if ok && r.rvalid && !r.rfold && r.rwin == w then s.vwrite c a r.foldRed.bytes else s

/-- `trend_ok` (R233). -/
def trendOk (lane : Bool) (amax prev : Nat) : Bool :=
  lane || (ofBits32 amax).le (FV.mul (.fin ⟨false, 2, 1⟩) (ofBits32 prev))

/-- The action of an entry under `DEC_LIMIT` (R235): the decision taken and whether the limit refused one. -/
def limited (limit acted : Nat) (e : FtEntry) (d : Decision) : Decision × Bool :=
  if d.action.code != 0 && limit != 0 && decide (limit ≤ acted) then (⟨.noAction, e.nwin, 0⟩, true) else (d, false)

/-- How far a decision step has come: actions taken towards the limit and the count for `CHANGES`. -/
structure GovTally where
  acted : Nat
  changes : Nat
deriving DecidableEq, Repr

/-- Decide one entry whose reads succeed and which is well formed (R232–R235, R239, R242). -/
def State.decideEntry (s : State) (c w i : Nat) (t : GovTally) (e : FtEntry) : State × GovTally :=
  let adv := s.getF (CTX_GOVCFG_MODE c) != 1
  let ra := s.statAddr c e.statIdx
  let (ok, s) := s.govRead c ra 384
  if !ok then (s, t)
  else
    let r := readStat (s.vbyte c) ra
    let b := r.windowBank w
    let e := { e with malf := false }
    let d := limited s.seval.decLimit t.acted e (govDecide e b.1 (s.govThr c) (trendOk e.lane b.2 r.amaxPrev))
    let act := d.1.action
    let s := s.vwrite c ra { r with amaxPrev := b.2 }.bytes
    let s := if act = .noAction then s else s.logRing c 0 (decisionRecord adv d.1 i w e b.2 (b.1.getD 0 0))
    let e := { e with nwin := d.1.nwin, decWin := w }
    let e := if act.code != 0 && !adv then e.setPending act w else e
    (s.vwrite c (s.ftAddr c i) e.bytes,
      ⟨t.acted + b2n (act.code != 0), t.changes + b2n (act != .noAction || d.2)⟩)

/-- The same for a record that an entry names, when it does. -/
def State.govReadIf (s : State) (b : Bool) (c a n : Nat) : Bool × State := if b then s.govRead c a n else (true, s)

/-- Process one entry (R218, R234): skipped when done for this window; an entry or lead that cannot be read is left as
it is; a malformed one gets `MALF`. -/
def State.processEntry (s : State) (c w i : Nat) (t : GovTally) : State × GovTally :=
  let a := s.ftAddr c i
  let (ok, s) := s.govRead c a 32
  if !ok then (s, t)
  else
    let e := readFt (s.vbyte c) a
    let len := s.getF (CTX_TAB_LEN c 2)
    if e.decWin = w then (s, t)
    else
      let la := s.ftAddr c e.rlead
      let named := decide (e.rlead < len)
      let (ok, s) := s.govReadIf named c la 32
      if !ok then (s, t)
      else
        let lead := if named then (readFt (s.vbyte c) la).rlead else rleadSelf
        if e.malformed len (s.getF (CTX_TAB_LEN c 3)) lead then (s.vwrite c a { e with malf := true, decWin := w }.bytes, t)
        else s.decideEntry c w i t e

/-- The decision step of a window (R231): reduced lanes are folded first, then the entries in ascending index. `t`: what
the step has decided before, when it runs again after a recovery. -/
def State.decideWindow (s : State) (c w : Nat) (t : GovTally) : State :=
  let s := (List.range (s.getF (CTX_TAB_LEN c 3))).foldl (fun s i => s.foldRecord c w i) s
  let r := (List.range (s.getF (CTX_TAB_LEN c 2))).foldl (fun p i => p.1.processEntry c w i p.2) (s, t)
  r.1.setF (CTX_GOVSTAT_CHANGES c) (min r.2.changes (2 ^ 20 - 1))

/-- The decision step at the front of the list runs (R231): decision steps of different contexts run one at a time. -/
def State.runDecision (s : State) : State :=
  match s.decisions with
  | [] => s
  | (c, w) :: _ => (s.setF (CTX_GOVSTAT_BUSY c) 1).decideWindow c w ⟨0, 0⟩

/-- The entries whose pending decision a window's step has set already: what counts towards `DEC_LIMIT` (R234, R235). -/
def State.decidedIn (s : State) (c w : Nat) : Nat :=
  (List.range (s.getF (CTX_TAB_LEN c 2))).countP fun i =>
    let e := readFt (s.vbyte c) (s.ftAddr c i)
    e.pend && e.decWin == w && e.pWin == w

/-- The interrupted decision step runs again for the same window (R241): the entries already processed keep what they were
given, and `CHANGES`, restored, counts on. In ADVISORY mode no entry shows an action, and `CHANGES` stands for their number
(log entry 57). -/
def State.rerunDecision (s : State) : State :=
  match s.decisions with
  | [] => s
  | (c, w) :: _ =>
    let n := s.getF (CTX_GOVSTAT_CHANGES c)
    let t : GovTally := ⟨if s.getF (CTX_GOVCFG_MODE c) = 1 then s.decidedIn c w else n, n⟩
    (s.setF (CTX_GOVSTAT_BUSY c) 1).decideWindow c w t

/-! ### The step barrier (R286) -/

/-- The enabled training queues, and the enabled evaluation queues, of a context. -/
def State.trainQs (s : State) (c : Nat) : List Nat :=
  (List.range 64).filter fun q => s.flag (QUE_CFG_EN q) && s.ctxOf q == c && s.flag (QUE_CFG_STEPPED q) && !s.flag (QUE_CFG_EVAL q)
def State.evalQs (s : State) (c : Nat) : List Nat :=
  (List.range 64).filter fun q => s.flag (QUE_CFG_EN q) && s.ctxOf q == c && s.flag (QUE_CFG_EVAL q)

/-- The queue holds at a STEP_MARK. -/
def State.holding (s : State) (q : Nat) : Bool := (s.queue q).mark.isSome

/-- Every enabled training queue of a context holds, and its interlude is closed. -/
def State.barrierMet (s : State) (c : Nat) : Bool :=
  s.running && !s.flag (CTX_CFG_INTERLUDE c) && !(s.trainQs c).isEmpty && (s.trainQs c).all s.holding

/-- The `STEP`s that the marks load. -/
def State.loads (s : State) (c : Nat) : List Nat :=
  ((s.trainQs c).filterMap fun q => (s.queue q).mark.bind fun m => if m.1 then some m.2 else none).dedup

/-- The counter after the barrier. -/
def State.nextStep (s : State) (c : Nat) : Nat :=
  match s.loads c with
  | v :: _ => v
  | [] => (s.getF (CTX_STEP_STEP c) + 1) % 2 ^ 64

/-- The barrier would close a window. -/
def State.closesWindow (s : State) (c : Nat) : Bool :=
  s.getF (CTX_GOVCFG_WINDOW c) != 0 && s.nextStep c % s.getF (CTX_GOVCFG_WINDOW c) == 0

/-- The decision step of the context's last window has not finished (R231). -/
def State.deciding (s : State) (c : Nat) : Bool := s.decisions.any fun d => d.1 == c

/-- Change the flight of a queue's STEP_MARK. -/
def State.onMark (s : State) (g : Flight → Flight) (q : Nat) : State :=
  match List.find? (fun f : Flight => cOpc f.words == 0x04 && !f.ready) (s.flightsOf q) with
  | some f => s.putFlight (g f)
  | none => s

/-- A queue's mark stops holding it. -/
def State.dropMark (s : State) (q : Nat) : State := s.setQueue q { s.queue q with mark := none }

/-- A window closes (R231, R239). -/
def State.closeWindow (s : State) (c : Nat) : State :=
  let w := s.getF (CTX_GOVWIN_WIN c)
  let s := s.incF (CTX_GOVWIN_WIN c) 1
  if s.getF (CTX_GOVCFG_MODE c) = 0 then s.setF (CTX_GOVDONE_DONE_WIN c) w
  else
    let idle := s.decisions.isEmpty
    let s := { s with decisions := s.decisions ++ [(c, w)] }
    if idle then s.runDecision else s

/-- The interlude closes (R287): the training queues' marks and the evaluation queues' marks complete together. -/
def State.closeInterlude (s : State) (c : Nat) : State :=
  let s := s.setF (CTX_CFG_INTERLUDE c) 0
  ((s.trainQs c ++ s.evalQs c).filter s.holding).foldl
    (fun s q => ((s.onMark (fun f => { f with ready := true }) q).dropMark q).settle q) s

/-- The barrier acts once (R286): marks with different `STEP`s end DECODE_ERROR together; else the counter moves, a
window may close, and the interlude opens; with no evaluation queue it closes in the same cycle (R287). -/
def State.actBarrier (s : State) (c : Nat) : State :=
  if 1 < (s.loads c).length then
    (s.trainQs c).foldl (fun s q => (s.onMark (fun f => { f with errs := [.decodeError] }) q).dropMark q) s
  else
    let closes := s.closesWindow c
    let s := s.setF (CTX_STEP_STEP c) (s.nextStep c)
    let s := if closes then s.closeWindow c else s
    let s := s.setF (CTX_CFG_INTERLUDE c) 1
    let s := (s.trainQs c).foldl (fun s q => s.onMark (fun f => { f with phase := 5 }) q) s
    if (s.evalQs c).isEmpty then s.closeInterlude c else s

/-- The barrier of a context is met: it acts, or the closing mark holds for a decision step and `OVERRUN` is set
(R231). -/
def State.barrier (s : State) (c : Nat) : State :=
  if s.closesWindow c && s.deciding c && decide ((s.loads c).length ≤ 1) then s.setF (CTX_GOVSTAT_OVERRUN c) 1
  else s.actBarrier c

/-- STEP_BARRIER (R286). -/
def execStepBarrier (c : Fin 16) (s : State) : Out := onlyIf (s.barrierMet c) (fun s => s.barrier c) s

/-! ### DECISION_STEP_END -/

/-- The running decision step finishes (R231): `DONE_WIN`, `BUSY`, the next one starts, and a mark that it held is
released. -/
def State.endDecision (s : State) (c w : Nat) : State :=
  let s := s.setFs [(CTX_GOVDONE_DONE_WIN c, w), (CTX_GOVSTAT_BUSY c, 0)]
  let s := ({ s with decisions := s.decisions.tail }).runDecision
  if s.barrierMet c then s.barrier c else s

/-- DECISION_STEP_END (R231): the decision step at the front is the context's. -/
def execDecisionStepEnd (c : Fin 16) (s : State) : Out :=
  match s.decisions with
  | (d, w) :: _ => onlyIf (s.running && d == c.val) (fun s => s.endDecision c w) s
  | [] => .next s

/-! ### INTERLUDE_CLOSE -/

/-- Every enabled evaluation queue holds at a mark or is parked at its tail with no command in flight (R287). -/
def State.interludeDone (s : State) (c : Nat) : Bool :=
  s.running && s.flag (CTX_CFG_INTERLUDE c)
    && (s.evalQs c).all fun q => s.holding q || (s.getF (QUE_STAT_STATE q) == qParked && (s.flightsOf q).isEmpty)

/-- INTERLUDE_CLOSE (R287). -/
def execInterludeClose (c : Fin 16) (s : State) : Out := onlyIf (s.interludeDone c) (fun s => s.closeInterlude c) s

end Sys2Proof.Machine
end

