-- ==== Sys2Proof/Machine/Link.lean ====
section
/-! DEFINITION. The Flue's link layer: frames, SKIP frames and the timebase, replay, credits, port states and training
(R341, R345–R352, R357, R361, R367–R369). -/

namespace Sys2Proof.Machine

open Sys2Proof

/-! ### Port registers (R352, R370) -/

/-- `FLU_PORTp` and `FLU_RTGEN` as words. -/
def State.portWord (s : State) (p : Nat) : Nat :=
  s.word [(29, FLU_PORT_STATE p), (27, FLU_PORT_WIDTH p), (26, FLU_PORT_HIGHSET p), (23, FLU_PORT_CAUSE p),
    (0, FLU_PORT_LANE_FAIL p)]
def State.rtgenWord (s : State) : Nat := s.word [(16, FLU_RTGEN_FAILED), (0, FLU_RTGEN_GEN)]

/-- A port takes a state: a class-7 trace record (R498). -/
def State.setPort' (s : State) (p st : Nat) (l : List (Fld × Nat)) : State :=
  let s := s.setFs ((FLU_PORT_STATE p, st) :: l)
  s.traceRec 7 p 0 0 (s.portWord p) s.rtgenWord

/-! ### Frames (R348, R349) -/

/-- Frames up to and including the acknowledged one leave the retry buffer. -/
def PortRt.acked (r : PortRt) (ack : Nat) : PortRt :=
  match r.unacked.findIdx? fun f => f.1 == ack with
  | some i => { r with unacked := r.unacked.drop (i + 1) }
  | none => r

/-- A packet whose `TYPE` is reserved or which travels on another VC (R355). -/
def badPacket (pk : Packet) : Bool :=
  if linkLocal pk.ty then false else match typeVc pk.ty with
    | some v => v != pk.vc
    | none => true

/-- The run of uncorrectable codewords after one more; eight in a row lose lock, until training finds it again (R345). -/
def lockStep (run : Nat) (bad : Bool) : Nat := if 8 ≤ run then run else if bad then run + 1 else 0

/-- The codewords of a frame are counted, SKIP frames' too (R345, R350, R370). -/
def State.takeWords (s : State) (p : Nat) (w : Codewords) : State :=
  let n := b2n w.bad1 + b2n w.bad2
  let s := (s.addSat (FLU_PERR_CORR p) w.corrected.val).addSat (FLU_PERR_UNCORR p) n
  let r := s.port p
  s.setPort p { r with
    lockBad := lockStep (lockStep r.lockBad w.bad1) w.bad2
    uncTimes := (List.replicate n s.now ++ r.uncTimes).take 17 }

/-- Both codewords of a frame decode. -/
def wordsGood (w : Codewords) : Bool := !w.bad1 && !w.bad2

/-- The CRC of a frame matches (R348). -/
def frameCrcOk (f : FrameIn) : Bool := crc24 f.slots f.seq f.ack == f.crc

/-- The CRC of a SKIP frame matches (R348, R351). -/
def skipCrcOk (f : SkipIn) : Bool := crc24 f.slots 0xFF 0xFF == f.crc

/-- The frame is accepted (R349). -/
def PortRt.accepts (r : PortRt) (f : FrameIn) : Bool := wordsGood f.words && frameCrcOk f && f.seq.val == r.rxSeq

/-- An accepted frame: its packets reach the input buffer, malformed ones are counted and discarded, and its `ACK`
frees the retry buffer. -/
def State.acceptFrame (s : State) (p : Nat) (f : FrameIn) : State :=
  let r := s.port p
  let bad := f.packets.filter badPacket
  let good := f.packets.filter fun pk => !badPacket pk
  let s := s.setPort p ({ r with rxSeq := (r.rxSeq + 1) % 256, nakSent := false, inbuf := r.inbuf ++ good }.acked f.ack)
  let s := bad.foldl (fun s pk => s.freeFlits p pk) s
  (s.addSat (FLU_PERR_BADPKT p) bad.length).countFlits 0x66 p 1

/-- A discarded frame: one NAK goes out for the expected `SEQ`, once the retry buffer has room for its frame. -/
def State.refuseFrame (s : State) (p : Nat) : State :=
  let r := s.port p
  if r.nakSent || !r.room then s else (s.setPort p { r with nakSent := true }).sendLocal p tyNak [r.rxSeq]

/-- A frame arrives (R345, R349). -/
def State.takeFrame (s : State) (p : Nat) (f : FrameIn) : State :=
  let s := s.takeWords p f.words
  if (s.port p).accepts f then s.acceptFrame p f else s.refuseFrame p

/-- FRAME_RECEIVE (R345, R349, R355). -/
def execFrameReceive (p : Fin 6) (f : FrameIn) (s : State) : Out := onlyIf (s.linkUp p) (fun s => s.takeFrame p f) s

/-! ### SKIP frames and the timebase (R351, R367–R369) -/

/-- The largest rate trim, ±200 ppm of 10 ns in steps of 2⁻³² ns (R367). -/
def trimMax : Nat := 8589934

/-- One exchange of SKIP frames (R368), in ns: ours sent and received at `t1` and `t2`, the neighbour's at `t3` and `t4`. -/
structure Exchange where
  t1 : Nat
  t2 : Nat
  t3 : Nat
  t4 : Nat
deriving DecidableEq, Repr

/-- The link delay that one exchange gives (R368). -/
def Exchange.delay (x : Exchange) : Int := (((x.t2 : Int) - x.t1) + ((x.t4 : Int) - x.t3)) / 2

/-- The offset of our timebase from the neighbour's that one exchange gives (R368). -/
def Exchange.offset (x : Exchange) : Int := (((x.t4 : Int) - x.t3) - ((x.t2 : Int) - x.t1)) / 2

/-- `OFFSET`'s coding: signed, saturating. -/
def offsetCode (o : Int) : Nat := ((min (max o (-32768)) 32767) % 65536).toNat

/-- Hops from here to the root (R368). -/
def State.rootHops (s : State) : Nat :=
  ([0, 1, 2].map fun d =>
    let n := dimOf s.flue.dims d
    let a := rankCoord s.rank d
    let b := rankCoord s.flue.root d
    min ((a + n - b) % n) ((b + n - a) % n)).sum

/-- Correct the timebase by an offset (R368): a step above 1 µs; otherwise the rate is trimmed by an amount within its
limits that the spec does not state (log entry 2). -/
def State.correct (s : State) (o : Int) : State :=
  if 1000 < o.natAbs then
    s.setF FLU_TIME_NS (((s.now : Int) - o) % 2 ^ 64).toNat
  else
    let (v, s) := s.fresh
    { s with flue := { s.flue with trim := ((v % (2 * trimMax + 1) : Nat) : Int) - trimMax } }

/-- The exchange that a SKIP frame completes: with the last that we sent, once one has been sent (R368). -/
def State.exchange (s : State) (p : Nat) (f : SkipIn) : Option Exchange :=
  (s.port p).skipTx.map fun t => ⟨t, f.rx, f.tx, s.now⟩

/-- A measured offset from the parent is shown and corrected (R368). -/
def State.takeOffset (s : State) (o : Int) : State :=
  let s := (s.setF FLU_TSTAT_OFFSET (offsetCode o)).correct o
  s.setF FLU_TSTAT_SYNCED (b2n (decide (1000 < o.natAbs) || decide (o.natAbs ≤ 4 * s.rootHops)))

/-- A sample arrives from a port (R368): the link delay, and an offset from the parent. -/
def State.takeSkip (s : State) (p : Nat) (f : SkipIn) : State :=
  let x := s.exchange p f
  let r := s.port p
  let s := s.setPort p { r with skipRx := s.now, delay := (x.map Exchange.delay).getD r.delay }
  match x with
  | some x => if s.getF FLU_TSTAT_PARENT = p then s.takeOffset x.offset else s
  | none => s

/-- SKIP_FRAME_RECEIVE (R345, R351, R368): a frame that fails its check is ignored, but its codewords count. -/
def execSkipFrameReceive (p : Fin 6) (f : SkipIn) (s : State) : Out :=
  onlyIf (s.linkUp p) (fun s =>
    let s := s.takeWords p f.words
    if skipCrcOk f then s.takeSkip p f else s) s

/-- SKIP_FRAME_SEND (R346): after 4,095 other frames. -/
def execSkipFrameSend (p : Fin 6) (s : State) : Out :=
  onlyIf (s.linkUp p && decide (4095 ≤ (s.port p).framesSent)) (fun s => s.sendSkip p) s

/-- A tick of the reference clock (R367): 10 ns, and the rate trim of a module that is not the root; the
clocks stand in OFF, in reset and in EMBER, and a module that has stopped keeps no time (R31, R421, R564). -/
def State.tick (s : State) : State :=
  if s.power.life = .off || s.power.life = .inReset || s.stopped || s.getF PWR_STAT_STATE = 2 then s
  else
    let t : Int := (s.flue.frac : Int) + (if s.rank = s.flue.root then 0 else s.flue.trim)
    { s with flue := { s.flue with frac := (t % 2 ^ 32).toNat } }.setF FLU_TIME_NS
      (((s.now : Int) + 10 + t / 2 ^ 32) % 2 ^ 64).toNat

/-! ### Replay (R349, R350) -/

/-- Replay from a frame and count its flits. -/
def State.replay (s : State) (p seq : Nat) : State :=
  let before := (s.port p).unacked
  let i := before.findIdx fun f => f.1 == seq
  let n := before.length - (if i < before.length then i else 0)
  (s.replayFrom p seq).countFlits 0x60 p n

/-- The oldest unacknowledged frame. -/
def PortRt.oldest (r : PortRt) : Option Nat := r.unacked.head?.map (·.1)

/-- Replay everything that is unacknowledged. -/
def State.replayAll (s : State) (p : Nat) : State := match (s.port p).oldest with
  | some seq => s.replay p seq
  | none => s

/-- REPLAY_TIMEOUT (R349): no `ACK` has progressed for 1 µs. -/
def execReplayTimeout (p : Fin 6) (s : State) : Out := onlyIf (s.linkUp p) (fun s => s.replayAll p) s

/-! ### Link-local packets (R349, R355, R357) -/

/-- The packet at the front of a VC's input order at a port; link-local packets keep an order of their own. A module that has
stopped takes none (R31). -/
def State.front (s : State) (p : Nat) (vc : Option Nat) : Option Packet :=
  if s.stopped then none else (s.port p).inbuf.find? fun pk => typeVc pk.ty == vc

/-- Take the front packet of a VC's order when it is one that `f` admits. -/
def State.takeFront (s : State) (p : Nat) (vc : Option Nat) (f : Packet → Bool) : Option (Packet × State) :=
  match s.front p vc with
  | some pk => if f pk then s.takeFirst p fun x => typeVc x.ty == vc else none
  | none => none

/-- A link-local packet of a type. -/
def State.takeLocal (s : State) (p ty : Nat) : Option (Packet × State) := s.takeFront p none fun pk => pk.ty == ty

/-- NAK (R349): the transmitter replays from the frame it names, while its port carries traffic (R352). -/
def execNak (p : Fin 6) (s : State) : Out :=
  match s.takeLocal p tyNak with
  | some (pk, t) => onlyIf (s.linkUp p) (fun _ => t.replay p (pk.args.getD 0 0)) s
  | none => .next s

/-- CREDIT (R357): the cumulative count of each class. -/
def execCredit (p : Fin 6) (s : State) : Out :=
  match s.takeLocal p tyCredit with
  | some (pk, s) =>
    .next (s.setPort p { s.port p with granted := (List.range 8).map fun c => pk.args.getD c 0 % 2 ^ 16 })
  | none => .next s

/-- CREDIT_REPORT (R357): some freed flit is unreported, and the retry buffer takes the frame. -/
def execCreditReport (p : Fin 6) (s : State) : Out :=
  onlyIf (s.linkUp p && (s.port p).freed != (s.port p).reported && (s.port p).room) (fun s => s.reportCredit p) s

/-- IDLE (R355): a filler packet says nothing. -/
def execIdle (p : Fin 6) (s : State) : Out :=
  match s.takeLocal p tyIdle with
  | some (_, s) => .next s
  | none => .next s

/-! ### Training (R341, R347, R350, R352) -/

/-- Retraining begins (R350, R352). -/
def State.enterRetrain (s : State) (p cause : Nat) : State := s.setPort' p portRetrain [(FLU_PORT_CAUSE p, cause)]

/-- The cause of RETRAIN_ENTRY holds (R350): a frame replayed 8 times, lock lost, or more than 16 uncorrectable codewords in
1 ms, measured on the timebase (log entry 33). -/
def State.retrainDue (s : State) (p cause : Nat) : Bool :=
  let r := s.port p
  if cause = 1 then r.unacked.any fun f => decide (8 ≤ f.2.1)
  else if cause = 2 then decide (8 ≤ r.lockBad)
  else cause == 3 && decide (16 < r.uncTimes.countP fun t => decide (s.now < t + 1000000))

/-- RETRAIN_ENTRY (R350). -/
def execRetrainEntry (p : Fin 6) (cause : Fin 8) (s : State) : Out :=
  onlyIf (s.linkUp p && s.retrainDue p cause) (fun s => s.enterRetrain p cause) s

/-- The allowed lane sets, widest first, lower first lane first (R347): width, first lane, `WIDTH` code. -/
def laneSets : List (Nat × Nat × Nat) := [(20, 0, 3), (16, 0, 2), (16, 4, 2), (10, 0, 1), (10, 10, 1)]

/-- The lane set that training takes, among those no wider than `cap` (R347, R352). -/
def chooseLanes (cap laneFail : Nat) : Option (Nat × Nat × Nat) :=
  laneSets.find? fun l => decide (l.1 ≤ cap) && (List.range l.1).all fun i => !bitOf laneFail (l.2.1 + i)

/-- The neighbour that R340 requires, seen by its rank and port. -/
def State.wiredRight (s : State) (p : Nat) (o : TrainOut) : Bool :=
  neighbour s.flue.dims s.rank p == some (o.nx + 16 * o.ny + 256 * o.nz)
    && o.nport == (if p % 2 = 0 then p + 1 else p - 1)

/-- Packets that wait for an output which can no longer send come back as UNREACH (R362, R584). -/
def State.drainOutput (s : State) (p : Nat) : State :=
  let waiting := (s.port p).outq.flatten
  let s := s.setPort p { s.port p with outq := List.replicate 8 [] }
  waiting.foldl (fun s pk => s.discardPacket pk unreachRoute) s

/-- A port enters FAILED (R341, R347, R352): the flood tells every module. -/
def State.failPort (s : State) (p cause : Nat) (miswired : Bool) : State :=
  let s := s.setPort p { s.port p with miswired := miswired }
  let s := s.setPort' p portFailed [(FLU_PORT_CAUSE p, cause), (FLU_PORT_WIDTH p, 0), (FLU_PORT_HIGHSET p, 0),
    (FLU_PCTL_RETRAIN p, 0)]
  (s.floodLink p false).drainOutput p

/-- A port becomes ACTIVE on a lane set (R347, R350, R352): it replays what is unacknowledged; one that was not ACTIVE
before floods LINKSTATE up. -/
def State.activatePort (s : State) (p : Nat) (l : Nat × Nat × Nat) : State :=
  let fromTraining := s.portState p == portTraining
  let s := s.setPort p { s.port p with lockBad := 0, uncTimes := [], nakSent := false, cap := l.1 }
  let s := s.setPort' p portActive [(FLU_PORT_WIDTH p, l.2.2), (FLU_PORT_HIGHSET p, b2n (l.2.1 != 0)),
    (FLU_PCTL_RETRAIN p, 0)]
  let s := s.replayAll p
  if fromTraining then s.floodLink p true else s

/-- A port in TRAINING or RETRAIN. -/
def State.training (s : State) (p : Nat) : Bool := s.portState p == portTraining || s.portState p == portRetrain

/-- Training ends (R341, R347). -/
def State.endTraining (s : State) (p : Nat) (o : TrainOut) : State :=
  let s := s.setF (FLU_PORT_LANE_FAIL p) o.laneFail
  if !s.wiredRight p o then s.failPort p 5 true
  else match chooseLanes (s.port p).cap o.laneFail with
    | none => s.failPort p 4 false
    | some l => s.activatePort p l

/-- RETRAIN_DONE (R347, R352). `done`: whether the lanes were measured at both ends. -/
def execRetrainDone (p : Fin 6) (out : TrainOut) (s : State) : Out :=
  onlyIf (s.training p && out.done && !s.stopped) (fun s => s.endTraining p out) s

/-- RETRAIN_TIMEOUT (R352): the limit of training or retraining has passed. -/
def execRetrainTimeout (p : Fin 6) (s : State) : Out :=
  onlyIf (s.training p && !s.stopped) (fun s => s.failPort p 6 false) s

/-- FAILED_PORT_RETRY (R352): every 10 s, except after MISWIRE. -/
def execFailedPortRetry (p : Fin 6) (s : State) : Out :=
  onlyIf (s.portState p == portFailed && !(s.port p).miswired && !s.stopped) (fun s => s.setPort' p portTraining []) s

/-- The state that PF0's write of 1 to `RETRAIN` gives a port (R352, R370): one in training goes on at full width; a
DISABLED or MISWIRED one is never trained. -/
def State.retrainState (s : State) (p : Nat) : Option Nat :=
  let st := s.portState p
  if st = portActive || st = portRetrain then some portRetrain
  else if st = portTraining || (st = portFailed && !(s.port p).miswired) then some portTraining
  else none

/-- PF0's write of 1 to `RETRAIN` (R352, R370): retrain at full width. -/
def State.retrainFull (s : State) (p : Nat) : State :=
  match s.retrainState p with
  | some st => ((s.setPort p { s.port p with cap := 20 }).setF (FLU_PCTL_RETRAIN p) 1).setPort' p st []
  | none => s

/-- The tree neighbours of this module's collectives whose routes are UNREACHABLE (R331). -/
def State.lostNbrs (s : State) : List Nat :=
  ((s.coll.flatMap fun e => (((s.flight? e.q e.n).bind Flight.red).map RedOp.nbrRanks).getD []).filter fun r =>
    s.getF (FLU_RTE_PORT r) == 7).dedup

/-- The new table is in force: collectives with a neighbour that it cannot reach abort (R331). -/
def State.takeRoutes (s : State) : State :=
  let s := s.swapRoutes
  s.lostNbrs.foldl State.abortRank s

/-- The Stoker computes routes: the module has booted, and is not in EMBER (R359, R421). -/
def State.routes (s : State) : Bool := s.power.life == .up && s.getF PWR_STAT_STATE != 2

/-- ROUTING_TABLE_SWAP (R331, R359–R361). -/
def execRoutingTableSwap (s : State) : Out := onlyIf s.routes State.takeRoutes s

end Sys2Proof.Machine
end

