-- ==== Sys2Proof/Machine/Flue.lean ====
section
/-! DEFINITION. The Flue's packets: remote writes, reads and signals (R264, R355, R356, R395), collective messages (R316,
R324–R331), UNREACH, floods, transit (R358, R362, R363) and the output arbiter (R357, R364). -/

namespace Sys2Proof.Machine

open Sys2Proof

/-! ### Packets for this endpoint (R365) -/

/-- The input that a rotating service reaches first, from a pointer on (R364). -/
def rotate6 (ptr : Nat) (f : Nat → Bool) : Option Nat := ((List.range 6).map fun i => (ptr + i) % 6).find? f

/-- The input whose turn it is at the local ejection port of a VC: in rotating order, the next whose front packet is for this
module (R364). -/
def State.ejectNext (s : State) (v : Nat) : Option Nat :=
  rotate6 (s.flue.eject.getD v 0) fun i => (s.front i (some v)).any fun pk => pk.dest == s.rank

/-- The front packet of a VC at a port, when it is for this module, it is its turn, and it is of a type (and kind) that the
row takes. -/
def State.arrival (s : State) (p ty : Nat) (kind : Packet → Bool) : Option (Packet × State) :=
  let v := (typeVc ty).getD 0
  if s.ejectNext v = some p then
    (s.takeFront p (some v) fun pk => pk.ty == ty && pk.dest == s.rank && kind pk).map fun x =>
      (x.1, { x.2 with flue := { x.2.flue with eject := x.2.flue.eject.set v ((p + 1) % 6) } })
  else none

/-- Deliver an arrival to the endpoint; while the endpoint recovers it is answered with UNREACH (R365). -/
def State.deliver (s : State) (p ty : Nat) (kind : Packet → Bool) (f : State → Packet → State) : Out :=
  match s.arrival p ty kind with
  | none => .next s
  | some (pk, t) => .next (if t.flue.accepting then f t pk else t.discardPacket pk unreachRecovering)

def anyKind : Packet → Bool := fun _ => true

/-! ### Neighbour windows (R395) -/

/-- A WRITE or READ_REQ of `n` bytes is accepted. -/
def State.windowOk (s : State) (pk : Packet) (n : Nat) : Bool :=
  let d := pk.dctx
  s.flag (CTX_NWIN_EN d) && pk.job == s.getF (CTX_CFG_JOB d)
    && decide (pk.args.getD 0 0 + n ≤ s.getF (CTX_NWIN_LEN d) * 2 ^ 21)

/-- The PA that a window offset addresses. -/
def State.windowPa (s : State) (pk : Packet) : Nat := s.getF (CTX_NWIN_BASE pk.dctx) * 2 ^ 21 + pk.args.getD 0 0

/-- An incoming WRITE: written and acknowledged, or refused. -/
def State.takeWrite (s : State) (pk : Packet) : State :=
  if s.windowOk pk pk.data.length then
    ((s.dwrite (s.windowPa pk) pk.data).count pk.dctx 0x0B pk.data.length).inject (s.answer pk tyWriteAck [0] [])
  else s.inject (s.answer pk tyWriteAck [1] [])

/-- An incoming READ_REQ: answered with its lines, refused, or answered as uncorrectable. -/
def State.takeRead (s : State) (pk : Packet) : State :=
  let n := 64 * pk.args.getD 1 0
  if s.windowOk pk n then
    match s.badIn (s.windowPa pk) n with
    | some pa => (s.ueFound pa false pk.dctx).inject (s.answer pk tyReadRsp [2] [])
    | none =>
      let data := bytesAt s.dbyte (s.windowPa pk) n
      (s.count pk.dctx 0x0A n).inject (s.answer pk tyReadRsp [0] data)
  else s.inject (s.answer pk tyReadRsp [1] [])

/-- WRITE (R356, R395). -/
def execWritePacket (p : Fin 6) (s : State) : Out := s.deliver p tyWrite anyKind State.takeWrite
/-- READ_REQ (R356, R395). -/
def execReadReq (p : Fin 6) (s : State) : Out := s.deliver p tyReadReq anyKind State.takeRead

/-! ### Answers at the source (R356, R395) -/

/-- The command and transfer that a tag names. -/
def State.owner? (s : State) (tag : Nat) : Option (Flight × Remote) :=
  s.flights.findSome? fun f => (f.remotes.find? fun r => r.tag == tag).map fun r => (f, r)

/-- A transfer is over: the command no longer waits for it. -/
def Flight.without (f : Flight) (tag : Nat) : Flight := { f with remotes := f.remotes.filter fun r => r.tag != tag }

/-- A command ends with a status because of one of its packets (R356, R395): its tile is not written. -/
def State.endRemote (s : State) (f : Flight) (r : Remote) (st : Status) : State :=
  let g := { f.without r.tag with errs := f.errs ++ [st] }
  if f.running.any fun x => x.tile == r.tile then
    s.failTiles { g with remotes := g.remotes.filter fun x => x.tile != r.tile } [r.tile] st
  else s.putFlight g

/-- An uncorrectable line of a neighbour (R395): the fault record names the remote rank and the window offset. -/
def State.remoteBad (s : State) (f : Flight) (r : Remote) (pk : Packet) : State :=
  let off := match f.plan with
    | .move op => ((s.resolve (s.ctxOf f.q) (op.src + (r.dst - op.dst))).map (·.2)).getD 0
    | _ => 0
  let s := s.fault ⟨false, 2, s.ownerOf f.q f.n, s.instOf f r.tile, none, off, some pk.src⟩
  s.endRemote f r .memoryUncorrectable

/-- A WRITE_ACK arrives. -/
def State.takeWriteAck (s : State) (pk : Packet) : State :=
  match s.owner? pk.ptag with
  | none => s
  | some (f, r) => if pk.args.getD 0 0 = 0 then s.putFlight (f.without r.tag) else s.endRemote f r .accessFault

/-- A READ_RSP arrives: its data is written at the destination of the MOVE. -/
def State.takeReadRsp (s : State) (pk : Packet) : State :=
  match s.owner? pk.ptag with
  | none => s
  | some (f, r) =>
    if pk.args.getD 0 0 = 0 then
      let c := s.ctxOf f.q
      let s := (s.count c 0x0B pk.data.length).vwrite c r.dst pk.data
      s.putFlight (f.without r.tag)
    else if pk.args.getD 0 0 = 2 then s.remoteBad f r pk
    else s.endRemote f r .accessFault

/-- READ_RSP (R354, R395). -/
def execReadRsp (p : Fin 6) (s : State) : Out := s.deliver p tyReadRsp anyKind State.takeReadRsp
/-- WRITE_ACK (R356, R395). -/
def execWriteAck (p : Fin 6) (s : State) : Out := s.deliver p tyWriteAck anyKind State.takeWriteAck

/-! ### Remote signals (R261, R264) -/

/-- What a SIGNAL_ACK says: accepted, refused, or accepted where the addition would have carried (log entry 12). -/
def sigAccepted : Nat := 0
def sigRefused : Nat := 1
def sigCarried : Nat := 2

/-- The destination applies a signal. -/
def State.signalOk (s : State) (pk : Packet) : Bool :=
  let d := pk.dctx
  s.flag (CTX_CFG_EN d) && s.flag (CTX_SYNC_REMOTE_OK d) && pk.job == s.getF (CTX_CFG_JOB d) && s.syncIn d (pk.args.getD 0 0)

/-- An incoming SIGNAL. -/
def State.takeSignal (s : State) (pk : Packet) : State :=
  let id := pk.args.getD 0 0
  let inc := pk.args.getD 1 0
  let reply (s : State) (st : Nat) : State := s.inject (s.answer pk tySignalAck [st] [])
  if !s.signalOk pk then reply s sigRefused
  else if s.syncOver id inc then reply s sigCarried
  else reply (s.signalObj id inc 2 pk.dctx 0) sigAccepted

/-- SIGNAL from another module (R264). -/
def execSignalPacket (p : Fin 6) (s : State) : Out := s.deliver p tySignal anyKind State.takeSignal

/-- A SIGNAL_ACK arrives. -/
def State.takeSignalAck (s : State) (pk : Packet) : State :=
  match s.owner? pk.ptag with
  | none => s
  | some (f, r) =>
    let st := pk.args.getD 0 0
    if st = sigAccepted then s.putFlight { f.without r.tag with ready := true }
    else s.endRemote f r (if st = sigCarried then .syncRange else .accessFault)

/-- SIGNAL_ACK (R264, R356). -/
def execSignalAck (p : Fin 6) (s : State) : Out := s.deliver p tySignalAck anyKind State.takeSignalAck

/-! ### Collective messages (R316, R324–R331; log entry 12) -/

/-- The entry of a message's key and its command. -/
def State.keyOf (s : State) (pk : Packet) (seq : Nat) : Option (CollEntry × Flight × RedOp) :=
  (s.keyed? pk.job seq).bind fun e => (s.flight? e.q e.n).bind fun f => f.red.map fun op => (e, f, op)

/-- A data message agrees with the member's own command (R316). -/
def RedOp.agrees (op : RedOp) (args : List Nat) : Bool :=
  args.getD 5 0 == op.gchk && args.getD 6 0 == op.size && args.getD 7 0 == op.mode && args.getD 8 0 == op.owner

/-- An upward chunk: staged, with what travels beside it, and acknowledged (R320, R326, R329). -/
def State.stageChunk (s : State) (e : CollEntry) (op : RedOp) (sl h k : Nat) (more : List Nat) (data : List Byte) : State :=
  let first := sl == 0 && k == 0
  let e' := { e with
    staged := if op.kind = .digestCheck then e.staged else e.staged ++ [((sl, h, k), data)]
    laneIn := if first && op.kind = .bucket then e.laneIn ++ [(h, lanesOf more)] else e.laneIn
    digIn := if op.kind = .digestCheck then e.digIn ++ [(h, more)] else e.digIn }
  (s.setEntry e').sendCtl e' op ctlAck sl h 0 k

/-- A downward chunk: written into `BUF`, with the lane or the digest result (R319, R323, R329, R456). -/
def State.takeResult (s : State) (e : CollEntry) (op : RedOp) (sl k : Nat) (more : List Nat) (data : List Byte) : State :=
  let lane := if sl = 0 && k = 0 && op.kind = .bucket then some (lanesOf more) else e.lane
  if op.kind = .digestCheck then
    (s.vwrite e.ctx op.res (digRecord op more)).setEntry { e with written := e.written ++ [(sl, k)], dig := some more }
  else if op.allreduce || op.kind = .broadcast then
    (s.vwrite e.ctx (op.chunkAt sl k).1 data).setEntry { e with written := e.written ++ [(sl, k)], lane := lane }
  else s.setEntry { e with lane := lane }

/-- A data message arrives. -/
def State.takeData (s : State) (pk : Packet) : State :=
  let a := pk.args
  match s.keyOf pk (a.getD 0 0) with
  | none => s.addSat (FLU_RED_STALE pk.dctx) 1
  | some (e, _, op) =>
    let s := s.count e.ctx 0x0B pk.data.length
    if !op.agrees a then s.abortKey e (some .linkFailed) none
    else
      let s := if a.getD 3 0 = 0 then s.stageChunk e op (a.getD 1 0) (a.getD 2 0) (a.getD 4 0) (a.drop 9) pk.data
        else s.takeResult e op (a.getD 1 0) (a.getD 4 0) (a.drop 9) pk.data
      s.pump e.q e.n

/-- COLL_DATA (R316, R320, R327). -/
def execCollData (p : Fin 6) (s : State) : Out := s.deliver p tyCollData anyKind State.takeData

/-- A control message of a kind. -/
def ctlKind (k : Nat) : Packet → Bool := fun pk => pk.args.getD 0 0 == k

/-- A READY arrives; one that comes before its entry is kept for it (R326). -/
def State.takeReady (s : State) (pk : Packet) : State :=
  let a := pk.args
  let at' := (a.getD 2 0, a.getD 3 0)
  match s.keyOf pk (a.getD 1 0) with
  | some (e, _, _) => (s.setEntry { e with ready := e.ready ++ [at'] }).pump e.q e.n
  | none => { s with flue := { s.flue with early := s.flue.early ++ [(pk.job, a.getD 1 0, at'.1, at'.2)] } }

/-- READY (R326). -/
def execCollReady (p : Fin 6) (s : State) : Out := s.deliver p tyCollCtl (ctlKind ctlReady) State.takeReady

/-- ABORT (R331). -/
def execCollAbort (p : Fin 6) (s : State) : Out := s.deliver p tyCollCtl (ctlKind ctlAbort) fun s pk =>
  match s.keyOf pk (pk.args.getD 1 0) with
  | some (e, _, _) => s.abortKey e (some .linkFailed) (some pk.src)
  | none => s

/-- A chunk is acknowledged by a tree neighbour (R326, R330). -/
def State.takeAck (s : State) (pk : Packet) : State :=
  let a := pk.args
  match s.keyOf pk (a.getD 1 0) with
  | some (e, _, _) =>
    let e' := if a.getD 4 0 = 0 then { e with ackedUp := e.ackedUp ++ [(a.getD 2 0, a.getD 5 0)] }
      else { e with ackedDown := e.ackedDown ++ [(a.getD 2 0, a.getD 3 0, a.getD 5 0)] }
    (s.setEntry e').pump e.q e.n
  | none => s

/-- The acknowledgement of a chunk (R326, R330). -/
def execCollAck (p : Fin 6) (s : State) : Out := s.deliver p tyCollCtl (ctlKind ctlAck) State.takeAck

/-! ### UNREACH and floods (R331, R356, R361, R365) -/

/-- The types whose tag is this module's own: an answer carries the other side's, and a flood has none (R355, R356). -/
def ownTag (ty : Nat) : Bool :=
  ty == tyWrite || ty == tyReadReq || ty == tySignal || ty == tyCollData || ty == tyCollCtl

/-- An UNREACH arrives: the command that owns the packet ends LINK_FAILED; a collective aborts its key. -/
def State.takeUnreach (s : State) (pk : Packet) : State :=
  if !ownTag (pk.args.getD 1 0) then s
  else match s.owner? pk.ptag, List.find? (fun e : CollEntry => e.tag == pk.ptag) s.coll with
    | some (f, r), _ => s.endRemote f r .linkFailed
    | none, some e => s.abortKey e (some .linkFailed) none
    | none, none => s

/-- UNREACH (R356, R362). -/
def execUnreach (p : Fin 6) (s : State) : Out := s.deliver p tyUnreach anyKind State.takeUnreach

/-- Deliver a flood to the switch, which consumes it whatever the endpoint does (R365). -/
def State.deliverSwitch (s : State) (p ty : Nat) (f : State → Packet → State) : Out :=
  match s.arrival p ty anyKind with
  | none => .next s
  | some (pk, t) => .next (f t pk)

/-- A LINKSTATE that has not been seen is noted and forwarded once (R361). -/
def State.takeLinkstate (s : State) (p : Nat) (pk : Packet) : State :=
  let k := (pk.args.getD 0 0, pk.args.getD 1 0, pk.args.getD 2 0)
  if s.flue.seen.contains k then s
  else
    let link := linkKey s.flue.dims (k.1, k.2.1)
    let failed := s.flue.failed.filter fun l => linkKey s.flue.dims l != link
    let failed := if pk.args.getD 3 0 = 0 then failed ++ [(k.1, k.2.1)] else failed
    ({ s with flue := { s.flue with seen := k :: s.flue.seen, failed := failed } }).flood tyLinkstate pk.args (some p)

/-- LINKSTATE (R361). -/
def execLinkstate (p : Fin 6) (s : State) : Out := s.deliverSwitch p tyLinkstate fun s pk => s.takeLinkstate p pk

/-- An ENDPOINT that has not been seen is noted and forwarded once; collectives with a recovering neighbour abort
(R331, R365). -/
def State.takeEndpoint (s : State) (p : Nat) (pk : Packet) : State :=
  let k := (pk.args.getD 0 0, pk.args.getD 1 0)
  if s.flue.epSeen.contains k then s
  else
    let others := s.flue.recovering.filter fun r => r != k.1
    let ready := pk.args.getD 2 0 == 1
    let s := ({ s with flue := { s.flue with
      epSeen := k :: s.flue.epSeen, recovering := if ready then others else k.1 :: others } }).flood tyEndpoint pk.args (some p)
    if ready then s else s.abortRank k.1

/-- ENDPOINT (R331, R365). -/
def execEndpoint (p : Fin 6) (s : State) : Out := s.deliverSwitch p tyEndpoint fun s pk => s.takeEndpoint p pk

/-! ### Transit (R358, R362, R363) -/

/-- The front packet of a VC at an input, when it is for another rank. -/
def State.passing (s : State) (p v : Nat) : Option Packet := (s.front p (some v)).filter fun pk => pk.dest != s.rank

/-- The output that a transit packet takes; `none` when it is discarded (R362). -/
def State.transitOut (s : State) (pk : Packet) : Option Nat :=
  let o := s.routeOut pk.dest
  if 48 ≤ pk.hops || 6 ≤ o then none else some o

/-- It is an input's turn in the merge of a VC's transit packets for an output: in rotating order, the next that has one
(R364). -/
def State.mergeTurn (s : State) (o v p : Nat) : Bool :=
  rotate6 ((s.port o).merge.getD v 0) (fun i => ((s.passing i v).bind s.transitOut) == some o) == some p

/-- Forward a packet for another rank (R358, R362), or discard it. -/
def State.transit (s : State) (p : Nat) (pk : Packet) : State :=
  match s.transitOut pk with
  | none => s.discardPacket pk unreachRoute
  | some o =>
    let r := s.port o
    (s.setPort o { r with merge := r.merge.set pk.vc ((p + 1) % 6) }).enqueue o pk.vc
      { pk with dl := outDl s.flue.dims s.rank o (some (p / 2)) pk.dl }

/-- The transit packet that an input may hand on: the front of its first VC that is discarded or whose turn it is. -/
def State.passes (s : State) (p : Nat) : Option (Packet × State) :=
  [0, 1, 2, 3].findSome? fun v => s.takeFront p (some v) fun pk =>
    pk.dest != s.rank && (s.transitOut pk).elim true fun o => s.mergeTurn o v p

/-- TRANSIT_PACKET (R358, R362, R363). -/
def execTransitPacket (p : Fin 6) (s : State) : Out :=
  match s.passes p with
  | some (pk, t) => .next (t.transit p pk)
  | none => .next s

/-! ### The output arbiter (R364, R388) -/

/-- The arbiter of R388: requester granted, counters, pointers. -/
def arbitrate (req : List Bool) (hp : Nat) (quota used : List Nat) (ptrH ptrL : Nat) :
    Option (Nat × List Nat × Nat × Nat) :=
  let order (p : Nat) : List Nat := (List.range 8).map fun i => (p + i) % 8
  match (order ptrH).find? fun i => req.getD i false && bitOf hp i && decide (used.getD i 0 < quota.getD i 0) with
  | some g => some (g, used.modify g (· + 1), (g + 1) % 8, ptrL)
  | none => match (order ptrL).find? fun i => req.getD i false && !bitOf hp i with
    | some g => some (g, used, ptrH, (g + 1) % 8)
    | none => none

/-- A packet may leave: credits for all its flits, and room in the retry buffer for the frames that it fills (R349, R357). -/
def PortRt.mayLeave (r : PortRt) (pk : Packet) : Bool :=
  r.hasCredits pk && decide (r.unacked.length + r.framesFor pk ≤ 128)

/-- The requests at an output: the head of each requester, with credits for all its flits and room in the retry
buffer. -/
def PortRt.requests (r : PortRt) : List Bool :=
  (List.range 8).map fun i => match (r.outq.getD i []).head? with
    | some pk => r.mayLeave pk
    | none => false

/-- The counters at a cycle: a new window starts with every count at 0 (R389). -/
def usedAt (used : List Nat) (win now : Nat) : List Nat := if win = now then used else List.replicate 8 0

/-- A packet leaves an output: its flits join the frames, take credits, and it has crossed one more link (R349, R353,
R357). -/
def State.sendOut (s : State) (p g : Nat) (pk : Packet) : State :=
  let r := s.port p
  (s.setPort p { r with
    sent := r.sent.modify (bufClass pk) fun x => (x + pk.flits) % 2 ^ 16
    outq := r.outq.modify g List.tail }).placePacket p { pk with hops := pk.hops + 1 }

/-- One grant of an output (R364); with no packet to grant, the frame at hand leaves with IDLE in its empty slots
(R355). -/
def State.grantOutput (s : State) (p cycle : Nat) : State :=
  let r := s.port p
  let w := cycle / s.seval.flWin
  let used := usedAt r.used r.win w
  match arbitrate r.requests s.seval.flHp s.seval.flQ used r.ptrH r.ptrL with
  | none =>
    let s := s.setPort p { r with used := used, win := w }
    if r.room then s.fillFrame p else s
  | some (g, used, h, l) =>
    let s := s.setPort p { r with used := used, win := w, ptrH := h, ptrL := l }
    match (r.outq.getD g []).head? with
    | some pk => s.sendOut p g pk
    | none => s

/-- OUTPUT_GRANT (R364): the output is ready when it is ACTIVE. -/
def execOutputGrant (p : Fin 6) (cycle : Nat) (s : State) : Out := onlyIf (s.linkUp p) (fun s => s.grantOutput p cycle) s

/-- The head of a requester that has no credits. -/
def State.starved (s : State) (p req : Nat) : Option Packet :=
  (((s.port p).outq.getD req []).head?).filter fun pk => !(s.port p).hasCredits pk

/-- CREDIT_WAIT_TIMEOUT (R362, R584): a head that has waited 1 ms for credits is discarded; at a port that does not carry
traffic it waits for the port. -/
def execCreditWaitTimeout (p : Fin 6) (requester : Fin 8) (s : State) : Out :=
  match s.starved p requester with
  | none => .next s
  | some pk =>
    let r := s.port p
    onlyIf (s.linkUp p) (fun s => (s.setPort p { r with outq := r.outq.modify requester.val List.tail }).discardPacket pk unreachRoute) s

end Sys2Proof.Machine
end

