-- ==== Sys2Proof/Machine/Memory.lean ====
section
/-! DEFINITION. The stack ports: the arbiter (R387–R389), read beats (R380, R381, R390), refresh (R386), the patrol
scrubber (R382–R384) and row sparing (R385). -/

namespace Sys2Proof.Machine

open Sys2Proof

/-! ### Refresh (R386) -/

/-- A MESH cycle lies in a refresh blackout of the window in force. -/
def inBlackout (ref2x : Bool) (cycle : Nat) : Bool :=
  if ref2x then decide (504 ≤ cycle % 512) else decide (1016 ≤ cycle % 1024)

/-- A blackout of 8 cycles begins at a cycle. -/
def startsBlackout (ref2x : Bool) (cycle : Nat) : Bool :=
  if ref2x then cycle % 512 == 504 else cycle % 1024 == 1016

/-- REFRESH_BLACKOUT (R386): the port is out of grant for 8 cycles. -/
def execRefreshBlackout (b : Fin 16) (cycle : Nat) (s : State) : Out :=
  onlyIf (s.running && startsBlackout (s.flag (MEM_STK_REF2X b)) cycle)
    (fun s => s.setStackPort b { s.stackPort b with blackout := cycle + 8 }) s

/-- A DRAM sensor's reading in 1/16 °C. -/
def State.dramTop (s : State) (b : Nat) : Int := signedOf 12 (s.getF (DMP_TDRM_TOP b))
def State.dramBot (s : State) (b : Nat) : Int := signedOf 12 (s.getF (DMP_TDRM_BOT b))

/-- The window that a stack's sensors call for: 32 ms above 85.0 °C; back to 64 ms when both have read 83.0 °C or less
for 100 ms. -/
def State.refreshFor (s : State) (b : Nat) (temp : Int) (calm : Bool) : Nat :=
  if 1360 < temp then 1
  else if calm && decide (temp ≤ 1328) then 0 else s.getF (MEM_STK_REF2X b)

/-- The stacks refresh themselves: in BANKED, in EMBER and during chip recovery (R386). -/
def State.selfRefresh (s : State) : Bool :=
  s.power.life == .up && (s.recov.isSome || s.getF PWR_STAT_STATE == 1 || s.getF PWR_STAT_STATE == 2)

/-- REFRESH_WINDOW_CHANGE (R386): at a cycle whose count is a multiple of 1,024 by the sensors as sampled; in self-refresh by
the stack's own sensors. -/
def execRefreshWindowChange (b : Fin 16) (cycle : Nat) (heat : StackHeat) (s : State) : Out :=
  if s.running then
    onlyIf (cycle % 1024 == 0) (fun s => s.setF (MEM_STK_REF2X b) (s.refreshFor b (s.stackTemp b) heat.calm)) s
  else onlyIf s.selfRefresh (fun s => s.setF (MEM_STK_REF2X b) (s.refreshFor b heat.own heat.calm)) s

/-! ### The stack-port arbiter (R387–R389) -/

/-- The lines of a beat, by their index in the block. -/
def beatIdx (x : Beat) : List Nat := (List.range 64).filter fun i => bitOf x.mask i

/-- The PAs of a beat's lines. -/
def State.beatLines (s : State) (b : Nat) (x : Beat) : List Nat :=
  (beatIdx x).map fun i => s.paOf b (x.offset / 4096 * 4096 + 64 * i)

/-- The port is ready: no blackout, and fewer than 64 read beats outstanding (R388). -/
def State.portReady (s : State) (b cycle : Nat) : Bool :=
  let r := s.stackPort b
  !inBlackout (s.flag (MEM_STK_REF2X b)) cycle && !(decide (r.blackout ≤ cycle + 8) && decide (cycle < r.blackout))
    && decide (r.outstanding.length < 64)

/-- The data of a write beat reach the stack (R387). -/
def State.storeBeat (s : State) (b : Nat) (x : Beat) : State :=
  ((s.beatLines b x).zipIdx).foldl (fun s p =>
    let d := (x.data.drop (64 * p.2)).take 64
    if d.length = 64 then s.dwrite p.1 d else s) s

/-- The beat that a grant transfers: bytes counted; a read waits for its data; a write stores its lines and drops their
corrective writes (R382, R387, R484). -/
def State.transfer (s : State) (b g : Nat) (x : Beat) : State :=
  let n := 64 * (beatIdx x).length
  let s := s.gcount ((if x.write then 0x50 else 0x40) + b) n
  let s := match x.ctx with
    | some c => s.count c (if x.write then 0x07 else 0x06) n
    | none => s
  let r := s.stackPort b
  if x.write then
    let lines := s.beatLines b x
    (s.storeBeat b x).setStackPort b { r with corrective := r.corrective.filter fun a => !lines.contains a }
  else s.setStackPort b { r with outstanding := r.outstanding ++ [(g, x)] }

/-- One decision of a stack port's arbiter. -/
def State.grantStack (s : State) (b cycle : Nat) (requests : List (Option Beat)) : State :=
  let r := s.stackPort b
  let w := cycle / s.getF MEM_ARBCFG_WIN
  let used := usedAt r.used r.win w
  if !s.portReady b cycle then s.setStackPort b { r with used := used, win := w }
  else
    match arbitrate (requests.map Option.isSome) (s.getF MEM_ARBCFG_HP) s.seval.spQ used r.ptrH r.ptrL with
    | none => s.setStackPort b { r with used := used, win := w }
    | some (g, used, h, l) =>
      let s := s.setStackPort b { r with used := used, win := w, ptrH := h, ptrL := l }
      match requests.getD g none with
      | some x => s.transfer b g x
      | none => s

/-- STACK_PORT_GRANT (R388, R389). -/
def execStackPortGrant (b : Fin 16) (cycle : Nat) (requests : List (Option Beat)) (s : State) : Out :=
  onlyIf s.running (fun s => s.grantStack b cycle requests) s

/-! ### Read checks (R381) -/

/-- What a check finds in a line whose stored code may already fail: such a line fails again. -/
def State.checked (s : State) (pa : Nat) (x : LineCheck) : LineCheck :=
  if s.badLines.get false (pa / 64) then .uncorrectable else x

/-- A corrected line: counted and queued for a corrective write. -/
def State.correctedLine (s : State) (b pa : Nat) : State :=
  let s := s.addSat (MEM_ERR_CE b) 1
  let r := s.stackPort b
  if r.corrective.contains pa then s else s.setStackPort b { r with corrective := r.corrective ++ [pa] }

/-- The requester through which a tile's traffic reaches the port of a Bay (R22, R387): in its own Bay its Hearth's group,
the Hob and update datapath, or the Bellows; over the mesh from any other. -/
def Running.requester (r : Running) (engine b : Nat) : Nat :=
  if r.bay != b then 6
  else match engine with
    | 1 => hearthGroup r.inst
    | 3 => 4
    | 4 => 5
    | _ => 3

/-- The tile that reads through a requester of a port (R280, R387). -/
def State.readerAt (s : State) (b g : Nat) (reader : Option (Nat × Nat × Nat)) : Option (Flight × Running) :=
  (reader.bind fun r => s.runningAt r.1 r.2.1 r.2.2).filter fun x => x.2.requester (s.engine x.1.q) b == g

/-- A read of one line by a reader: a command's tile fails on an uncorrectable line, which may be the last that a trigger of
R181 waited for; any other reader only has it recorded. -/
def State.checkLine (s : State) (b g pa : Nat) (x : LineCheck) (reader : Option (Nat × Nat × Nat)) (ctx : Nat) : State :=
  match s.checked pa x with
  | .clean => s
  | .corrected => s.correctedLine b pa
  | .uncorrectable =>
    let s := s.setBad (pa / 64) true
    match s.readerAt b g reader with
    | some (f, t) => (s.failMemory f [t.tile] pa).decideEsc f.q f.n
    | none => s.ueFound pa false ctx

/-- The data of a requester's read beat are accepted and checked (R380, R381, R390): `rest`, the beats that stay. -/
def State.returnBeat (s : State) (b g : Nat) (x : Beat) (rest : List (Nat × Beat)) (lines : List LineCheck)
    (reader : Option (Nat × Nat × Nat)) : State :=
  let s := s.setStackPort b { s.stackPort b with outstanding := rest }
  ((s.beatLines b x).zipIdx).foldl (fun s p =>
    s.checkLine b g p.1 (lines.getD p.2 .clean) reader ((x.ctx.map (·.val)).getD 0)) s

/-- The oldest outstanding beat of a requester, and the others: another requester that does not accept its data holds up
its own beats only (R390). -/
def StackRt.oldestOf (r : StackRt) (g : Nat) : Option (Beat × List (Nat × Beat)) :=
  (List.find? (fun y : Nat × Beat => y.1 == g) r.outstanding).map fun y => (y.2, r.outstanding.erase y)

/-- READ_BEAT_RETURN (R380, R381, R390). -/
def execReadBeatReturn (b : Fin 16) (beat : BeatReturn) (reader : Option (Fin 64 × Nat × Nat)) (s : State) : Out :=
  match (s.stackPort b).oldestOf beat.requester with
  | some (x, rest) => onlyIf s.running
      (fun s => s.returnBeat b beat.requester x rest beat.lines (reader.map fun r => (r.1.val, r.2.1, r.2.2))) s
  | none => .next s

/-! ### Patrol scrub (R382–R384) -/

/-- A line that the scrubber corrects: a row corrected on two consecutive passes is due to be spared (R385). -/
def State.scrubCorrected (s : State) (b pa : Nat) : State :=
  let s := s.correctedLine b pa
  let pass := s.getF (MEM_SCRUB_PASSES b)
  let row := (s.stackAddr pa).2 / 2048
  let r := s.stackPort b
  let before := r.rows.contains (row, (pass + 2 ^ 24 - 1) % 2 ^ 24)
  let s := s.setStackPort b { r with rows := (r.rows.filter fun x => x.1 != row) ++ [(row, pass)] }
  if before then s.rowDue b row else s

/-- The scrubber's read of one line. -/
def State.scrubLine (s : State) (b pa : Nat) (x : LineCheck) : State :=
  match s.checked pa x with
  | .clean => s
  | .corrected => s.scrubCorrected b pa
  | .uncorrectable => (s.setBad (pa / 64) true).ueFound pa true 0

/-- The scrubber reads its next block and moves on. -/
def State.scrubBlock (s : State) (b : Nat) (lines : List LineCheck) : State :=
  let ptr := s.getF (MEM_SCRUB_PTR b)
  let s := (List.range 64).foldl (fun s i => s.scrubLine b (s.paOf b (4096 * ptr + 64 * i)) (lines.getD i .clean)) s
  let s := s.incF (MEM_SCRUB_PTR b) 1
  if ptr + 1 = 2 ^ 24 then s.incF (MEM_SCRUB_PASSES b) 1 else s

/-- The module is in ACTIVE. -/
def State.active (s : State) : Bool := s.running && s.getF PWR_STAT_STATE == 0

/-- PATROL_SCRUB (R383): in ACTIVE only. -/
def execPatrolScrub (b : Fin 16) (lines : List LineCheck) (s : State) : Out :=
  onlyIf s.active (fun s => s.scrubBlock b lines) s

/-- CORRECTIVE_WRITE (R382): the oldest correction is written; its line holds the corrected data already, since reads
deliver it. One whose line has been written since has left the list. -/
def execCorrectiveWrite (b : Fin 16) (s : State) : Out :=
  onlyIf s.running (fun s =>
    s.setStackPort b { s.stackPort b with corrective := (s.stackPort b).corrective.tail }) s

/-! ### Row sparing (R385) -/

/-- Spare a row: the copy keeps raw symbols, so no line changes; with no spare row left the fault is only logged and
counted. -/
def State.spareRow (s : State) (b row : Nat) : State :=
  let r := s.stackPort b
  let s := s.setStackPort b { r with due := r.due.erase row, rows := r.rows.filter fun x => x.1 != row }
  let left := s.getF (MEM_STK_SPARE b)
  if left = 0 then s
  else
    let s := (s.setF (MEM_STK_SPARE b) (left - 1)).addSat (MEM_ERR_RETIRED b) 1
    s.logEvent 0x0011 1 (leBytes 4 b ++ leBytes 4 row ++ leBytes 4 (8192 - left))

/-- ROW_SPARE (R385): the row is due. -/
def execRowSpare (b : Fin 16) (row : Nat) (s : State) : Out :=
  onlyIf (s.running && (s.stackPort b).due.contains row) (fun s => s.spareRow b row) s

end Sys2Proof.Machine
end

