-- ==== Sys2Proof/Machine/TraceOps.lean ====
section
/-! DEFINITION. The trace's ends: TRACE_FREEZE, TRACE_FULL, and what REARM and FIRE do (R499–R501). -/

namespace Sys2Proof.Machine

open Sys2Proof

/-- TRACE_FREEZE (R499): the post-trigger records have been written. -/
def execTraceFreeze (s : State) : Out :=
  onlyIf (s.trace.post == some 0 && !s.flag OBS_TRSTAT_FROZEN && !s.stopped) (fun s => s.setF OBS_TRSTAT_FROZEN 1) s

/-- STOP_FULL has reached the region's end. -/
def State.traceAtEnd (s : State) : Bool :=
  s.getF OBS_TRCFG_MODE == 1 && s.traceBytes != 0 && decide (s.traceBytes ≤ s.getF OBS_TRSTAT_WOFF)
    && !s.flag OBS_TRSTAT_FULL && !s.flag OBS_TRSTAT_FROZEN

/-- TRACE_FULL (R499). -/
def execTraceFull (s : State) : Out := onlyIf (s.traceAtEnd && !s.stopped) (fun s => s.setF OBS_TRSTAT_FULL 1) s

/-- A write of 1 to `REARM` (R500): the freeze and `FULL` are cleared, `SEQ` and the write offset are 0, and the trigger
is armed again. -/
def State.rearm (s : State) : State :=
  { s with trace := ⟨0, none⟩ }.setFs [(OBS_TRSTAT_FROZEN, 0), (OBS_TRSTAT_FULL, 0), (OBS_TRSTAT_TRIGD, 0),
    (OBS_TRSTAT_CAUSE, 0), (OBS_TRSTAT_WOFF, 0)]

/-- A write of 1 to `FIRE` (R501): the HOST cause. -/
def State.fire (s : State) : State := s.trigger 5 1

end Sys2Proof.Machine
end

