-- ==== Sys2Proof/Machine/Damper.lean ====
section
/-! DEFINITION. The Damper: sensors (R399–R401, R433), the budget loop (R402–R407), the fast limiter and the fallback
(R406), thermal limits (R408), k_b (R411), gating (R101) and busy-time saving (R416). Allowances are exact (R18); what a
register or a reading shows is rounded down to its resolution (log entry 16). -/

namespace Sys2Proof.Machine

open Sys2Proof

/-- The code of a signed value in `n` bits, saturating. -/
def signedCode (n : Nat) (v : Int) : Nat :=
  ((min (max v (-(2 ^ (n - 1) : Int))) (2 ^ (n - 1) - 1)) % 2 ^ n).toNat

/-! ### Sensors (R399–R401, R431, R433) -/

/-- The effective temperature of sensor `i` in 1/16 °C (R433). -/
def State.sensorTemp (s : State) (i code : Nat) : Int :=
  ((s.getF (CAL_TSNS_FSLOPE i) * code : Nat) + 4096 * signedOf 16 (s.getF (CAL_TSNS_EOFS i)) + 2048) / 4096

/-- The current of channel `i` in 2⁻¹⁶ mA: the effective gain times the code (R399, R431, R433). -/
def State.current (s : State) (i code : Nat) : Nat := s.getF (CAL_ISNS_EGAIN i) * code

/-- The power of rail `i` in 2⁻¹⁶ µW, from its voltage in mV and its current (R399). -/
def State.railPower (s : State) (i : Nat) (volts amps : List Nat) : Nat := volts.getD i 0 * s.current i (amps.getD i 0)

/-- P_b of a period in 1/16 W: the Bay's logic rail and its stack's rail (R399, R431). -/
def State.bayPower (s : State) (m : PeriodIn) (b : Nat) : Nat :=
  (s.railPower b m.volts m.amps + s.railPower (16 + b) m.volts m.amps) / (62500 * 2 ^ 16)

/-- The power of the 52 V input in W (R399, R431). -/
def State.inputPower (s : State) (volt amp : Nat) : Nat := volt * s.current 33 amp / (10 ^ 6 * 2 ^ 16)

/-- P_in of a period in W. -/
def State.periodPower (s : State) (m : PeriodIn) : Nat := s.inputPower (m.volts.getD 33 0) (m.amps.getD 33 0)

/-- A reading outside −40 °C to 150 °C (R401). -/
def outOfRange (t : Int) : Bool := decide (t < -640) || decide (2400 < t)

/-- Logic sensor `j` of Bay `b` has failed. -/
def State.logicFailed (s : State) (b j : Nat) : Bool := bitOf (s.bay b).logicBad j

/-- The Bay is held at its minimum allowance: both DRAM sensors, or all five logic sensors, have failed (R401). -/
def State.blind (s : State) (b : Nat) : Bool :=
  (s.flag (DMP_TDRM_FAIL_TOP b) && s.flag (DMP_TDRM_FAIL_BOT b)) || (List.range 5).all (s.logicFailed b)

/-- Some sensor of the Bay that the Damper reads has failed. -/
def State.anyFailed (s : State) (b : Nat) : Bool :=
  s.flag (DMP_TDRM_FAIL_TOP b) || s.flag (DMP_TDRM_FAIL_BOT b) || (List.range 5).any (s.logicFailed b)

/-- A sensor fails (R401): its mark, the Bay's sensor-fault bit, the event and the alert (R569). Sensor 7 of a Bay
protects its regulator and is not the Damper's (R431). -/
def State.failSensor (s : State) (i : Nat) : State :=
  let b := i / 8
  let j := i % 8
  let known := if j = 5 then s.flag (DMP_TDRM_FAIL_BOT b) else if j = 6 then s.flag (DMP_TDRM_FAIL_TOP b)
    else j == 7 || s.logicFailed b j
  if known then s
  else
    let s := if j = 5 then s.setF (DMP_TDRM_FAIL_BOT b) 1 else if j = 6 then s.setF (DMP_TDRM_FAIL_TOP b) 1
      else s.setBay b { s.bay b with logicBad := (s.bay b).logicBad + 2 ^ j }
    let s := s.setBit (DMP_BAY_LIMIT b) 6 true
    (s.logEvent 0x0020 0 (leBytes 4 i)).alert SVC_ALERT_SENSOR

/-- The values that the Damper uses for a Bay (R401): logic S0–S4, bottom and top DRAM, with substitutes of 3 °C above
what remains. -/
def State.usedTemps (s : State) (b : Nat) (t : List Int) : List Int :=
  let good := ((List.range 5).filter fun j => !s.logicFailed b j).map fun j => t.getD j 0
  let sub := good.foldl max (good.headD 0) + 48
  let bot := t.getD 5 0
  let top := t.getD 6 0
  let fb := s.flag (DMP_TDRM_FAIL_BOT b)
  let ft := s.flag (DMP_TDRM_FAIL_TOP b)
  ((List.range 5).map fun j => if s.logicFailed b j && !good.isEmpty then sub else t.getD j 0)
    ++ [if fb && !ft then top + 48 else bot, if ft && !fb then bot + 48 else top]

/-- A sample of one Bay's sensors reaches its registers. -/
def State.sampleBay (s : State) (codes : List Nat) (b : Nat) : State :=
  let t := (List.range 7).map fun j => s.sensorTemp (8 * b + j) (codes.getD (8 * b + j) 0)
  let s := (List.range 7).foldl (fun s j => if outOfRange (t.getD j 0) then s.failSensor (8 * b + j) else s) s
  let u := s.usedTemps b t
  let c (j : Nat) : Nat := signedCode 12 (u.getD j 0)
  s.setFs [(DMP_TLOG_S0 b, c 0), (DMP_TLOG_S1 b, c 1), (DMP_TLOG_S2 b, c 2), (DMP_TLOG_S3 b, c 3), (DMP_TLOG_S4 b, c 4),
    (DMP_TDRM_BOT b, c 5), (DMP_TDRM_TOP b, c 6)]

/-- The Stoker runs its loops: READY, no recovery, not asleep. -/
def State.stokerUp (s : State) : Bool := s.running

/-- SENSOR_SAMPLE (R399): every 10 µs. -/
def execSensorSample (m : SampleIn) (s : State) : Out :=
  onlyIf s.stokerUp (fun s =>
    ((List.range 16).foldl (fun s b => s.sampleBay m.codes b) s).setF DMP_PWR_INST (s.inputPower m.volt m.amp)) s

/-- SENSOR_FAILURE (R401): a sensor is out of range or has been stuck for 1 s. -/
def execSensorFailure (i : Fin 128) (s : State) : Out := onlyIf s.stokerUp (fun s => s.failSensor i) s

/-! ### Profiles (R402, R407) -/

/-- The averaging window in periods. -/
def avgPeriods (profile : Nat) : Nat := if profile = profCapped then 100 else 10000

/-- The short limit of a profile in W. -/
def shortLimit (profile : Nat) : Nat := if profile = profThroughput then 2100 else 1800

/-- The logic target in °C. -/
def State.targetL (s : State) (profile : Nat) : Nat :=
  if profile = profEfficient then min s.seval.tLogic 90 else s.seval.tLogic

/-- The duty ceiling of a Bay (R407): in EFFICIENT, the largest duty whose energy per work is at most 1.04 times that of
every lower duty; an unmeasured duty is eligible. -/
def BayRt.ceiling (r : BayRt) (profile : Nat) : Nat :=
  let e (d : Nat) : Option (Nat × Nat) := ((r.eff.find? fun x => x.1 == d).map (·.2)).filter fun x => x.2 != 0
  let ok (d : Nat) : Bool := match e d with
    | none => true
    | some (en, wk) => (List.range d).all fun c => match e c with
      | none => true
      | some (ec, wc) => decide (100 * en * wc ≤ 104 * ec * wk)
  if profile = profEfficient then (((List.range 17).filter ok).getLast?).getD 16 else 16

/-! ### The budget loop (R404–R406, R411) -/

/-- Duties packed as a class-6 record shows them. -/
def State.dutyWord (s : State) : Nat :=
  ((List.range 16).map fun b => min (s.getF (DMP_BAY_DUTY b)) 15 * 2 ^ (4 * b)).sum

/-- New duties take effect together; each change is traced (R406, R498). -/
def State.setDuties (s : State) (d : List Nat) : State :=
  let old := (List.range 16).map fun b => s.getF (DMP_BAY_DUTY b)
  let s := (List.range 16).foldl (fun s b => s.setF (DMP_BAY_DUTY b) (d.getD b 0)) s
  (List.range 16).foldl (fun s b =>
    if old.getD b 0 = d.getD b 0 then s else s.traceRec 6 b 0 0 s.dutyWord (s.getF (DMP_BAY_LIMIT b))) s

/-- The excursion's run and the quiet run before it, after a period (R402). -/
def DamperRt.excursion (d : DamperRt) (pIn : Nat) : DamperRt :=
  if 1800 < pIn then { d with excLen := d.excLen + 1, sinceExc := 0 }
  else { d with excLen := 0, sinceExc := d.sinceExc + 1 }

/-- The short limit in force (R402, R404). -/
def DamperRt.short (d : DamperRt) (profile : Nat) : Nat :=
  if profile = profThroughput && ((d.excLen != 0 && decide (d.excLen < 100)) || (d.excLen == 0 && decide (900 ≤ d.sinceExc)))
  then 2100 else 1800

/-- `period_budget` in W (R404). `pins`: the input power of the periods just ended, newest first. -/
def periodBudget (pCap n short : Nat) (pins : List Nat) : Int :=
  min (short : Int) ((pCap * n : Nat) - ((pins.take (n - 1)).sum : Nat))

/-- The least and the largest allowance in 1/16 W. -/
def aMin : Rat := 96
def aMax : Rat := 1760

/-- The temperature 1 ms before, of ten periods' temperatures, newest first (R400). -/
def before (l : List Int) (now : Int) : Int := l.getD 9 (l.getLastD now)

/-- The cap of a Bay by its stack, in 1/16 W (R405). -/
def State.capS (s : State) (profile b : Nat) : Rat :=
  let now := s.stackTemp b
  s.allowance b + (6 * (16 * (s.targetS profile : Int) - (now + 2 * (now - before (s.bay b).ts now))) : Int)

/-- The largest of a Bay's logic sensors. -/
def State.logicTemp (s : State) (b : Nat) : Int :=
  let t := [DMP_TLOG_S0 b, DMP_TLOG_S1 b, DMP_TLOG_S2 b, DMP_TLOG_S3 b, DMP_TLOG_S4 b].map fun f => signedOf 12 (s.getF f)
  t.foldl max (t.headD 0)

/-- The cap of a Bay by its own logic, in 1/16 W (R405). -/
def State.capL (s : State) (profile b : Nat) : Rat :=
  let now := s.logicTemp b
  s.allowance b + (4 * (16 * (s.targetL profile : Int) - (now + (now - before (s.bay b).tl now))) : Int)

/-- A Bay's cap; one without usable sensors is held at the least allowance (R401, R405). -/
def State.cap (s : State) (profile b : Nat) : Rat :=
  if s.blind b then aMin else min (max (min (s.capS profile b) (s.capL profile b)) aMin) aMax

/-- The caps scaled to the Bays' share of the budget, in 1/16 W (R405). -/
def scaleCaps (caps : List Rat) (budget : Int) : List Rat :=
  if (budget : Rat) < caps.sum then
    let above := (caps.map fun c => c - aMin).sum
    let f := max 0 ((budget - 16 * aMin) / above)
    caps.map fun c => aMin + f * (c - aMin)
  else caps

/-- The duty that a Bay takes (R406). `p`, `a` in 1/16 W; `issued`: 2 when it issued work in at least half of the period. -/
def nextDuty (d ceiling p : Nat) (a : Rat) (issued : Nat) : Nat :=
  if a < p then d - (16 * (p - a) / a).ceil.toNat
  else if 16 * p < 15 * a && issued == 2 then min ceiling (d + 1)
  else d

/-- The energy of 1/16 W over a period, in the energy model's units of 2⁻⁸ fJ. -/
def periodUnit : Nat := 1600000000000

/-- k_b in 1/256 (R411), from the period's measured energy above the idle baseline, in 1/16 W × 100 µs, and its work in
2⁻⁸ fJ. -/
def nextK (k : Nat) (e : Rat) (w : Nat) : Nat :=
  (min (max ((k : Rat) + (256 * periodUnit * e / w - k) / 16) 128) 512).floor.toNat

/-- What a period tells of a Bay: in EFFICIENT its energy against its work at the duty in force, the idle baseline and k_b
(R407, R411). -/
def State.learnBay (s : State) (profile b p issued : Nat) : State :=
  let r := s.bay b
  let d := s.getF (DMP_BAY_DUTY b)
  let old := ((r.eff.find? fun x => x.1 == d).map (·.2)).getD (0, 0)
  let eff := if r.work = 0 || profile != profEfficient then r.eff
    else (r.eff.filter fun x => x.1 != d) ++ [(d, old.1 + p, old.2 + r.work)]
  let e : Rat := p - (if r.idleCnt = 0 then 0 else mkRat r.idleSum r.idleCnt)
  let s := if s.allowance b * periodUnit ≤ 10 * r.work && r.work != 0 then
      s.setF (DMP_BAY_KCORR b) (nextK (s.getF (DMP_BAY_KCORR b)) e r.work)
    else s
  s.setBay b { r with
    eff := eff
    idleSum := if issued = 0 then r.idleSum + p else r.idleSum
    idleCnt := if issued = 0 then r.idleCnt + 1 else r.idleCnt }

/-- A period ends for a Bay: its temperatures join the last ten, and its work starts again (R400, R411). -/
def State.periodEnds (s : State) (b : Nat) : State :=
  let r := s.bay b
  s.setBay b { r with work := 0, ts := (s.stackTemp b :: r.ts).take 10, tl := (s.logicTemp b :: r.tl).take 10 }

/-- `LIMIT` after a period (R420): what bounded the allowance or the duty in it. -/
def State.limitBits (s : State) (profile b : Nat) (scaled fast fall : Bool) : Nat :=
  let cs := s.capS profile b
  let cl := s.capL profile b
  b2n (decide (cs < aMax) && decide (cs ≤ cl)) + 2 * b2n (decide (cl < aMax) && decide (cl ≤ cs)) + 4 * b2n scaled
    + 8 * b2n fast + 16 * b2n (s.flag DMP_STAT_TRIP) + 32 * b2n fall + 64 * b2n (s.anyFailed b)

/-- The slope of a stack in 1/256 °C per ms (R400). -/
def State.slopeS (s : State) (b : Nat) : Int :=
  16 * (s.stackTemp b - before (s.bay b).ts (s.stackTemp b))

/-- The Bays' power of a period, in 1/16 W. -/
def State.bayPowers (s : State) (m : PeriodIn) : Nat := ((List.range 16).map (s.bayPower m)).sum

/-- The measurements of a period reach their registers (R399, R484). -/
def State.recordPeriod (s : State) (profile : Nat) (m : PeriodIn) : State :=
  let bays := s.bayPowers m
  let pIn := s.periodPower m
  let s := (List.range 16).foldl (fun s b =>
    let s := s.setFs [(DMP_BAY_POWER b, s.bayPower m b), (DMP_TDRM_SLOPE b, signedCode 12 (s.slopeS b)),
      (DMP_TDRM_TGT b, s.targetS profile)]
    if 16 * (s.targetS profile : Int) ≤ s.stackTemp b then s.gcount (0x80 + b) 1 else s) s
  let d := { s.damper.excursion pIn with pins := (pIn :: s.damper.pins).take 9999, periods := s.damper.periods + 1 }
  let n := avgPeriods profile
  let s := { s with damper := d }
  s.setFs [(DMP_PWR_PERIOD, pIn), (DMP_PWR_UNCORE, (16 * pIn - bays) / 16),
    (DMP_PWR_AVG, (d.pins.take n).sum / (min n d.pins.length)), (DMP_STAT_EXC, b2n (d.excLen != 0))]

/-- The allowances and duties of the next period (R404–R406). -/
def State.allot (s : State) (profile pCap : Nat) (m : PeriodIn) : State :=
  let p := (List.range 16).map (s.bayPower m)
  let uncore := max 0 (16 * (s.periodPower m : Int) - s.bayPowers m)
  let budget := 16 * periodBudget pCap (avgPeriods profile) (s.damper.short profile) s.damper.pins - uncore
  let caps := (List.range 16).map (s.cap profile)
  let as := scaleCaps caps budget
  let fast := s.damper.fastHit
  let fall := s.flag DMP_STAT_FALLBACK
  let limits := (List.range 16).map fun b => s.limitBits profile b (decide (as.getD b 0 < caps.getD b 0)) fast fall
  let duties := (List.range 16).map fun b =>
    nextDuty (s.getF (DMP_BAY_DUTY b)) ((s.bay b).ceiling profile) (p.getD b 0) (as.getD b 0) (m.issued.getD b 0)
  let s := (List.range 16).foldl (fun s b => s.learnBay profile b (p.getD b 0) (m.issued.getD b 0)) s
  let s := (List.range 16).foldl (fun s b =>
    s.setFs [(DMP_BAY_ALLOW b, (as.getD b 0).floor.toNat), (DMP_BAY_LIMIT b, limits.getD b 0)]) s
  let s := { s with damper := { s.damper with allow := as, missing := false } }
  (s.setDuties duties).setF DMP_STAT_FALLBACK 0

/-- Periods of 100 µs in a minute, and in the 168 h over which quarantines are counted. -/
def minutePeriods : Nat := 600000
def quarPeriods : Nat := 168 * 36000000

/-- A Hearth's cone-test clocks as their register shows them (R460): minutes of ACTIVE time since its last PASS, and
quarantines of the last 168 h. -/
def State.coneClock (s : State) (h : Nat) : State :=
  let r := s.hearth h
  let now := s.damper.periods
  s.setFs [(HTH_CONE_SINCE h, min ((now - r.lastPass) / minutePeriods) 4095),
    (HTH_CONE_QUAR h, min ((r.quar.filter fun t => decide (now < t + quarPeriods)).length) 3)]

/-- One period of the loop: `DMP_CFG` as it stands takes effect; a trip holds allowances and duties (R404–R408). -/
def State.runPeriod (s : State) (m : PeriodIn) : State :=
  let profile := s.getF DMP_CFG_PROFILE
  let pCap := s.getF DMP_CFG_P_CAP
  let s := s.recordPeriod profile m
  let s := { s with damper := { s.damper with profile := profile, pCap := pCap } }
  let s := if s.flag DMP_STAT_TRIP then s else s.allot profile pCap m
  let s := (List.range 16).foldl State.periodEnds s
  let s := (List.range 288).foldl State.coneClock s
  { s with damper := { s.damper with fastHit := false } }

/-- BUDGET_PERIOD (R404–R407, R411): every 100 µs. -/
def execBudgetPeriod (m : PeriodIn) (s : State) : Out := onlyIf s.stokerUp (fun s => s.runPeriod m) s

/-- Every duty of the fast limiter: 4 lower (R406). -/
def State.limitFast (s : State) : State :=
  let s := (List.range 16).foldl (fun s b => s.setBit (DMP_BAY_LIMIT b) 3 true) s
  let s := s.setDuties ((List.range 16).map fun b => s.getF (DMP_BAY_DUTY b) - 4)
  { s with damper := { s.damper with fastHit := true } }.setF DMP_STAT_FAST 1

/-- FAST_LIMITER (R406): the 10 µs average of the input power, in W, exceeds the short limit of the profile in force. -/
def execFastLimiter (avg : Nat) (s : State) : Out :=
  onlyIf (s.running && decide (shortLimit s.damper.profile < avg)) State.limitFast s

/-- Every regulator at `FALLBACK` duty. -/
def State.fallDuties (s : State) : State := s.setDuties (List.replicate 16 s.seval.fallback)

/-- No allowance write for 1 ms (R406): ten periods are missed by then, and one more each time it is found again. -/
def State.fallBack (s : State) : State :=
  let s := s.addSat DMP_STAT_LOOPMISS (if s.damper.missing then 1 else 10)
  let s := (List.range 16).foldl (fun s b => s.setBit (DMP_BAY_LIMIT b) 5 true) s
  let s := { s with damper := { s.damper with missing := true } }
  (if s.flag DMP_STAT_TRIP then s else s.fallDuties).setF DMP_STAT_FALLBACK 1

/-- FALLBACK (R406). -/
def execFallback (s : State) : Out := onlyIf s.running State.fallBack s

/-- Every Bay at A_min and `FALLBACK` duty (R408, R419). -/
def State.leastAllowances (s : State) : State :=
  let s := { s with damper := { s.damper with allow := [] } }
  ((List.range 16).foldl (fun s b => s.setF (DMP_BAY_ALLOW b) 96) s).fallDuties

/-- The Damper from READY to its first period (R419): every Bay at A_min and `FALLBACK` duty, windows empty, and an
excursion allowed after 90 ms. -/
def State.damperStart (s : State) : State :=
  let s := { s with damper := { s.damper with
    profile := s.getF DMP_CFG_PROFILE, pCap := s.getF DMP_CFG_P_CAP, pins := [], excLen := 0, sinceExc := 0
    fastHit := false, ptr := 0, missing := false } }
  let s := (List.range 16).foldl (fun s b => s.setBay b { s.bay b with ts := [], tl := [], work := 0 }) s
  s.leastAllowances.setF DMP_STAT_FALLBACK 1

/-! ### Thermal limits (R408, R421) -/

/-- The comparators act: beside the sensors, without the Stoker, in every state but OFF (R408, R421). -/
def State.armed (s : State) : Bool := s.power.life != .off

/-- THERM_WARN (R408). -/
def execThermWarn (s : State) : Out :=
  onlyIf (s.armed && !s.flag DMP_STAT_WARN) (fun s => ((s.setF DMP_STAT_WARN 1).setOut outWarn true).thermChanged) s

/-- THERM_WARN_RELEASE (R408). -/
def execThermWarnRelease (s : State) : Out :=
  onlyIf (s.armed && s.flag DMP_STAT_WARN) (fun s => ((s.setF DMP_STAT_WARN 0).setOut outWarn false).thermChanged) s

/-- A trip (R408): THERM_TRIP_N, `TRIP`, and duty 0 everywhere; asleep, nothing else follows (R421). -/
def State.trip (s : State) : State :=
  let s := ((s.setF DMP_STAT_TRIP 1).setOut outTrip true).thermChanged
  if s.running then
    ((List.range 16).foldl (fun s b => s.setBit (DMP_BAY_LIMIT b) 4 true) s).setDuties (List.replicate 16 0)
  else s

/-- THERM_TRIP (R408). -/
def execThermTrip (s : State) : Out := onlyIf (s.armed && !s.flag DMP_STAT_TRIP) State.trip s

/-- The temperatures are back (R408 step 3): the loop resumes from A_min and `FALLBACK` duty. -/
def State.releaseTrip (s : State) : State :=
  let s := ((s.setF DMP_STAT_TRIP 0).setOut outTrip false).thermChanged
  if s.running then s.leastAllowances else s

/-! ### Gating and busy time (R101, R416) -/

/-- The Hearth may be gated: it holds no tile, no slot and no test. -/
def State.mayGate (s : State) (h : Nat) : Bool :=
  s.running && s.instFree 1 h && hCounted (s.hState h) && !(s.hearth h).gated

/-- HEARTH_GATE (R101). -/
def execHearthGate (h : Fin 288) (s : State) : Out :=
  onlyIf (s.mayGate h) (fun s => s.setHearth h { s.hearth h with gated := true }) s

/-- The 29 busy-time records (R416, R532), ten Hearths each. -/
def State.saveBusy (s : State) : State :=
  let s := { s with stoker := { s.stoker with busySaved := (List.range 288).map fun h => (s.hearth h).busy } }
  (List.range 29).foldl (fun s i =>
    s.logEvent 0x0013 1 (leBytes 4 (10 * i) ++ (List.range 10).flatMap fun j =>
      leBytes 4 (if 10 * i + j < 288 then (s.hearth (10 * i + j)).busy else 0))) s

/-- BUSY_TIME_SAVE (R416): every hour of operation. -/
def execBusyTimeSave (s : State) : Out := onlyIf s.active State.saveBusy s

end Sys2Proof.Machine
end

