-- ==== Sys2Proof/Machine/Cone.lean ====
section
/-! DEFINITION. Cone tests: when they fall due, start and end (R417, R448–R452), the verdicts' effect on Hearth states
(R105), and the repair records that a located fault takes (R102, R107). -/

namespace Sys2Proof.Machine

open Sys2Proof

/-! ### Schedule (R417, R452, R460) -/

/-- `DUE` and `SWEEP` follow the Hearths' schedule. -/
def State.syncCone (s : State) : State :=
  s.setFs [(HTH_CONECTL_DUE, ((List.range 288).filter fun h => (s.hearth h).due).length),
    (HTH_CONECTL_SWEEP, b2n ((List.range 288).any fun h => (s.hearth h).sweep))]

/-- A Hearth that can still be tested on its schedule. -/
def State.schedulable (s : State) (h : Nat) : Bool := s.hState h == hEnabled || s.hState h == hDrained

/-- CONE_TEST_DUE (R417): 6 h of ACTIVE time since the Hearth's last test. -/
def execConeTestDue (h : Fin 288) (s : State) : Out :=
  onlyIf (s.active && s.schedulable h && !(s.hearth h).due && !(s.hearth h).testing)
    (fun s => (s.setHearth h { s.hearth h with due := true }).syncCone) s

/-- A Hearth whose test is overdue leaves dispatch (R105). -/
def State.drain (s : State) (h : Nat) : State :=
  (s.setHearth h { s.hearth h with overdue := true }).setHearthState h hDrained

/-- CONE_TEST_OVERDUE (R105, R417): the test is overdue by 6 h, or a sweep has made it overdue. -/
def execConeTestOverdue (h : Fin 288) (s : State) : Out :=
  onlyIf (s.active && (s.hearth h).due && s.hState h == hEnabled && !(s.hearth h).testing) (fun s => s.drain h) s

/-- A write of 1 to `SWEEP` (R452): the test of every ENABLED Hearth is overdue at once. -/
def State.sweep (s : State) : State :=
  ((List.range 288).foldl (fun s h =>
    if s.hState h = hEnabled then s.setHearth h { s.hearth h with due := true, overdue := true, sweep := true } else s)
    s).syncCone

/-! ### Start (R417, R448) -/

/-- The estimated power of a cone test, 2.5 W, in 1/16 W. -/
def coneTestP : Nat := 40

/-- The Bay is eligible by R414 for a cone test. -/
def State.coneFits (s : State) (b : Nat) : Bool := s.bayRuns b && s.bayFits b coneTestP

/-- A ready MATRIX candidate fits some Hearth. -/
def State.matrixReady (s : State) : Bool :=
  (List.range 64).any fun q => s.engine q == 1 &&
    match s.candidateOf q with
    | some (f, t) => (s.chooseBay f (s.group f t) false).isSome
    | none => false

/-- The dispatcher may start a Hearth's test: a quarantined one as soon as its Bay is eligible, unless its Glaze is
faulty (R448, R449); a drained one as soon as it is empty; a due one in a gap (R417). -/
def State.mayTest (s : State) (h : Nat) : Bool :=
  let b := hearthBay h
  s.active && s.instFree 1 h &&
    (if s.hState h = hQuarantined then s.coneFits b && !s.glazeBad b
     else if s.hState h = hDrained then true
     else s.hState h == hEnabled && (s.hearth h).due && s.coneFits b && !s.matrixReady)

/-- CONE_TEST_START (R417, R448). -/
def execConeTestStart (h : Fin 288) (s : State) : Out :=
  onlyIf (s.mayTest h) (fun s => s.setHearth h { s.hearth h with testing := true, gated := false }) s

/-! ### Repair records (R102, R107) -/

/-- The fields of a Hearth's repair record: slots 0 and 1 are rows, 2 and 3 columns. -/
structure RecFlds where
  valid : Fld
  field : Fld
  pend : Fld
  phys : Fld
deriving DecidableEq, Repr

def recFlds (h slot : Nat) : RecFlds :=
  if slot = 0 then ⟨HTH_RREP_VALID0 h, HTH_RREP_FIELD0 h, HTH_RREP_PEND0 h, HTH_RREP_PHYS0 h⟩
  else if slot = 1 then ⟨HTH_RREP_VALID1 h, HTH_RREP_FIELD1 h, HTH_RREP_PEND1 h, HTH_RREP_PHYS1 h⟩
  else if slot = 2 then ⟨HTH_CREP_VALID0 h, HTH_CREP_FIELD0 h, HTH_CREP_PEND0 h, HTH_CREP_PHYS0 h⟩
  else ⟨HTH_CREP_VALID1 h, HTH_CREP_FIELD1 h, HTH_CREP_PEND1 h, HTH_CREP_PHYS1 h⟩

/-- Fill a record. -/
def State.setRecord (s : State) (h slot field pend phys : Nat) : State :=
  let r := recFlds h slot
  s.setFs [(r.valid, 1), (r.field, field), (r.pend, pend), (r.phys, phys)]

/-- `ROWS_FREE` and `COLS_FREE` follow the records. -/
def State.syncFree (s : State) (h : Nat) : State :=
  let free (a b : Nat) : Nat := b2n (!s.flag (recFlds h a).valid) + b2n (!s.flag (recFlds h b).valid)
  s.setFs [(HTH_STATE_ROWS_FREE h, free 0 1), (HTH_STATE_COLS_FREE h, free 2 3)]

/-- The pending records of a Hearth as the NVM lists them: per slot, 1 + the physical index, or 0. -/
def State.pendOf (s : State) (h : Nat) : List Nat :=
  [0, 1, 2, 3].map fun i =>
    let r := recFlds h i
    if s.flag r.valid && s.flag r.pend then s.getF r.phys + 1 else 0

/-- The sub-lists of `k` elements, in lexicographic order. -/
def choose : Nat → List Nat → List (List Nat)
  | 0, _ => [[]]
  | _ + 1, [] => []
  | k + 1, x :: xs => (choose k xs).map (x :: ·) ++ choose (k + 1) xs

/-- Every failing cell lies in a named row or column. -/
def coversCells (cells : List (Nat × Nat)) (rows cols : List Nat) : Bool :=
  cells.all fun c => rows.contains c.1 || cols.contains c.2

/-- The sizes (rows, columns) of a record set, in the order of preference: fewest records, then most columns. -/
def recordSizes : List (Nat × Nat) :=
  [(0, 1), (1, 0), (0, 2), (1, 1), (2, 0), (1, 2), (2, 1), (2, 2)]

/-- The records that a located fault takes, within the spares that remain (R107). -/
def chooseRecords (rowsFree colsFree : Nat) (cells : List (Nat × Nat)) : Option (List Nat × List Nat) :=
  let rows := (cells.map (·.1)).dedup.mergeSort (fun a b => decide (a ≤ b))
  let cols := (cells.map (·.2)).dedup.mergeSort (fun a b => decide (a ≤ b))
  if cells.any fun c => decide (130 ≤ c.1) || decide (130 ≤ c.2) then none
  else
    (recordSizes.filter fun z => decide (z.1 ≤ rowsFree) && decide (z.2 ≤ colsFree)).findSome? fun z =>
      (choose z.1 rows).findSome? fun r => ((choose z.2 cols).find? fun c => coversCells cells r c).map fun c => (r, c)

/-- Put a record into the first free slot of its kind, pending. -/
def State.addPending (s : State) (h a b phys : Nat) : State :=
  if s.flag (recFlds h a).valid then s.setRecord h b 1 1 phys else s.setRecord h a 1 1 phys

/-- Allocate the records of a located fault: pending, counted as used, and listed in the NVM (R107). -/
def State.allocate (s : State) (h : Nat) (r : List Nat × List Nat) : State :=
  let s := r.1.foldl (fun s x => s.addPending h 0 1 x) s
  let s := (r.2.foldl (fun s x => s.addPending h 2 3 x) s).syncFree h
  { s with stoker := { s.stoker with pendList := s.stoker.pendList.set [] h (s.pendOf h) } }

/-! ### Verdicts (R105, R451) -/

/-- The test of a Hearth is over. -/
def State.testOver (s : State) (h : Nat) : State :=
  (s.setHearth h { s.hearth h with testing := false, due := false, overdue := false, sweep := false }).syncCone

/-- A PASS (R105, R451). -/
def State.conePass (s : State) (h : Nat) : State :=
  let s := s.testOver h
  let s := s.setHearth h { s.hearth h with lastPass := s.damper.periods }
  let s := (s.setFs [(HTH_CONE_SUSPECT h, 0), (HTH_CONE_SINCE h, 0), (HTH_CONE_LAST h, 1)]).addSat (HTH_CONE_PASSES h) 1
  if s.hState h = hEnabled then s else s.setHearthState h hEnabled

/-- A FAIL of a quarantined Hearth: spared when the policy is SPARE and the fault is located within the spares that
remain, else retired (R105, R107, R110). -/
def State.resolveFail (s : State) (h : Nat) (cells : Option (List (Nat × Nat))) : State :=
  let fix := if s.seval.retire then none
    else cells.bind fun l => chooseRecords (s.getF (HTH_STATE_ROWS_FREE h)) (s.getF (HTH_STATE_COLS_FREE h)) l
  match fix with
  | some r => (s.allocate h r).setHearthState h hSparePending
  | none => s.setHearthState h hRetired

/-- A FAIL, with its located cells if it has any (R105, R451). -/
def State.coneFail (s : State) (h : Nat) (cells : Option (List (Nat × Nat))) : State :=
  let s := ((s.testOver h).setF (HTH_CONE_LAST h) 2).addSat (HTH_STATE_CONE_FAIL h) 1
  if s.hState h = hQuarantined then s.resolveFail h cells else s.quarantine h

/-- The verdict (R448, R451): a third quarantine within 168 h fails whatever the patterns show; a Glaze failure is the
Bay's and defers the Hearth's own verdict (R449). -/
def State.coneVerdict (s : State) (h : Nat) (f : ConeFinding) : State :=
  if f = .glaze then (s.setHearth h { s.hearth h with testing := false }).glazeFault (hearthBay h)
  else if s.hState h = hQuarantined && 3 ≤ (s.hearth h).quar.length then s.coneFail h none
  else match f with
    | .pass => s.conePass h
    | .cells [] => s.conePass h
    | .cells l => s.coneFail h (some l)
    | _ => s.coneFail h none

/-- CONE_TEST_END (R105, R107, R448–R451). -/
def execConeTestEnd (h : Fin 288) (f : ConeFinding) (s : State) : Out :=
  onlyIf (s.active && (s.hearth h).testing) (fun s => s.coneVerdict h f) s

end Sys2Proof.Machine
end

