-- ==== Sys2Proof/Machine/Image.lean ====
section
/-! DEFINITION. What the NVM holds (R525): boot headers (R526, R544), firmware images (R527, R528), and the Seval image
with its check (R534–R536) and what it sets. -/

namespace Sys2Proof.Machine

open Sys2Proof

/-! ### Cryptography (log entry 4) -/

/-- SHAKE256 with an output of 512 and of 256 bits. -/
def shake512 (bs : List Byte) : Nat := Config.crypto 0 [leNat bs, bs.length] % 2 ^ 512
def shake256 (bs : List Byte) : Nat := Config.crypto 1 [leNat bs, bs.length] % 2 ^ 256
/-- A signature verifies under a public key over a hash. -/
def xmssOk (key hash sig : Nat) : Bool := Config.crypto 2 [key, hash, sig] % 2 == 1
/-- The unit's signature over a hash with a leaf. -/
def xmssSign (leaf hash : Nat) : Nat := Config.crypto 3 [leaf, hash] % 2 ^ (8 * 2820)
/-- AES-256 key wrap under the key that the Stoker derives, and whether a wrapped key unwraps. -/
def keyWrap (key : Nat) : Nat := Config.crypto 4 [key] % 2 ^ 320
def keyUnwraps (w : Nat) : Bool := Config.crypto 5 [w] % 2 == 1

/-! ### Boot headers (R526) -/

structure BootHdr where
  gen : Nat
  slot : Nat
  pend : Bool
  fellback : Bool
  tries : Nat
  svnA : Nat
  svnB : Nat
  fmtA : Nat
  fmtB : Nat
  boots : Nat
  octr : Nat
deriving DecidableEq, Repr

/-- What the ROM takes when neither header is valid: slot A confirmed. -/
def BootHdr.none' : BootHdr := ⟨0, 0, false, false, 0, 0, 0, 0, 0, 0, 0⟩

def hdrMagic : Nat := 0x52444842

/-- The bytes of a header. -/
def BootHdr.bytes (h : BootHdr) : List Byte :=
  let b := leBytes 4 hdrMagic ++ leBytes 4 h.gen ++ leBytes 1 (h.slot + 2 * b2n h.pend + 4 * b2n h.fellback)
    ++ leBytes 1 h.tries ++ leBytes 1 h.svnA ++ leBytes 1 h.svnB ++ leBytes 2 h.fmtA ++ leBytes 2 h.fmtB ++ leBytes 4 h.boots
    ++ leBytes 4 0 ++ leBytes 8 h.octr ++ leBytes 28 0
  b ++ leBytes 4 (crc32c b)

/-- Header `i`, when it is valid. -/
def State.hdrAt (s : State) (i : Nat) : Option BootHdr :=
  let a := 0x10000 * i
  let bs := bytesAt s.nbyte a 60
  if s.nnat a 4 = hdrMagic && s.nnat (a + 0x3C) 4 = crc32c bs then
    let f := s.nnat (a + 8) 1
    some ⟨s.nnat (a + 4) 4, f % 2, bitOf f 1, bitOf f 2, s.nnat (a + 9) 1, s.nnat (a + 10) 1, s.nnat (a + 11) 1,
      s.nnat (a + 12) 2, s.nnat (a + 14) 2, s.nnat (a + 16) 4, s.nnat (a + 24) 8⟩
  else none

/-- The block of the current header, when one is valid. -/
def State.hdrBlock (s : State) : Option Nat :=
  match s.hdrAt 0, s.hdrAt 1 with
  | some a, some b => if a.gen < b.gen then some 1 else some 0
  | some _, none => some 0
  | none, some _ => some 1
  | none, none => none

/-- The current header. -/
def State.bootHdr (s : State) : BootHdr := (s.hdrBlock.bind s.hdrAt).getD BootHdr.none'

/-- Write a new header into the block of the other one, with the next generation. -/
def State.putHdr (s : State) (h : BootHdr) : State :=
  let i := if s.hdrBlock = some 0 then 1 else 0
  let a := 0x10000 * i
  (s.nerase a 0x10000).nwrite a { h with gen := (s.bootHdr.gen + 1) % 2 ^ 32 }.bytes

/-- The slot's security version and the format of its config area, as a header records them. -/
def BootHdr.svn (h : BootHdr) (slot : Nat) : Nat := if slot = 0 then h.svnA else h.svnB
def BootHdr.fmt (h : BootHdr) (slot : Nat) : Nat := if slot = 0 then h.fmtA else h.fmtB
def BootHdr.setSvn (h : BootHdr) (slot v : Nat) : BootHdr := if slot = 0 then { h with svnA := v } else { h with svnB := v }
def BootHdr.setFmt (h : BootHdr) (slot v : Nat) : BootHdr := if slot = 0 then { h with fmtA := v } else { h with fmtB := v }

/-! ### Firmware images (R527, R528) -/

def slotBase (slot : Nat) : Nat := if slot = 0 then 0x100000 else 0x1900000
def cfgBase (slot : Nat) : Nat := if slot = 0 then 0x3100000 else 0x3500000

/-- Bytes of an image from its offset 0 to the end of its body. -/
def State.fwLen (s : State) (slot : Nat) : Nat := 0x1000 + s.nnat (slotBase slot + 8) 4

/-- An image's bytes, its measurement and its versions. -/
def State.fwBytes (s : State) (slot : Nat) : List Byte := bytesAt s.nbyte (slotBase slot) (s.fwLen slot)
def State.fwMeas (s : State) (slot : Nat) : Nat := shake512 (s.fwBytes slot)
def State.fwSvn (s : State) (slot : Nat) : Nat := s.nnat (slotBase slot + 6) 1
def State.fwFmtMin (s : State) (slot : Nat) : Nat := s.nnat (slotBase slot + 0x10) 2
def State.fwFmtMax (s : State) (slot : Nat) : Nat := s.nnat (slotBase slot + 0x12) 2

/-- The security-version counter (R528). -/
def State.fuseSvn (s : State) : Nat := s.fuses.svn

/-- The ROM accepts the image of a slot (R528); a body longer than the slot is none (R527). -/
def State.fwOk (s : State) (slot : Nat) : Bool :=
  let a := slotBase slot
  let key := bytesAt s.nbyte (a + 0x40) 68
  s.nnat a 4 == 0x4D495746 && s.nnat (a + 4) 2 == 1 && decide (s.fwLen slot ≤ 24 * 2 ^ 20)
    && shake256 key == s.fuses.vendor
    && xmssOk (leNat key) (shake256 (bytesAt s.nbyte a 0x84 ++ (s.fwBytes slot).drop 0x1000)) (s.nnat (a + 0x84) 2820)
    && decide (s.fuseSvn ≤ s.fwSvn slot)

/-- The slot that the ROM boots (R544): the header that it writes first, the slot, and whether it is a trial; `none`
when no slot holds an acceptable image. Every boot counts in `BOOTS`; one that needs no other header writes one for it
(log entry 19). -/
def State.chooseSlot (s : State) : Option (State × Nat × Bool) :=
  let h := { s.bootHdr with boots := (s.bootHdr.boots + 1) % 2 ^ 32 }
  let back (s : State) : Option (State × Nat × Bool) :=
    if s.fwOk h.slot then some (s.putHdr { h with pend := false, fellback := true }, h.slot, false) else none
  if !h.pend then
    if s.fwOk h.slot then some (if s.hdrBlock.isSome then s.putHdr h else s, h.slot, false) else none
  else if h.tries < 3 then
    let t := s.putHdr { h with tries := h.tries + 1 }
    if s.fwOk (1 - h.slot) then some (t, 1 - h.slot, true) else back t
  else back s

/-! ### The Seval image (R534, R535) -/

/-- A Seval image as its bytes. -/
abbrev SevalImg := List Byte

def SevalImg.at' (m : SevalImg) (off n : Nat) : Nat := wField m off n
def SevalImg.len (m : SevalImg) : Nat := SevalImg.at' m 8 4
def SevalImg.fmt (m : SevalImg) : Nat := SevalImg.at' m 4 2
def SevalImg.signed (m : SevalImg) : Bool := bitOf (SevalImg.at' m 6 2) 0
def SevalImg.hash (m : SevalImg) : Nat := SevalImg.at' m 0x10 64

/-- The bytes that a stored image takes: its sections, and the owner's key and signature when it is signed. -/
def sevalAt (rd : Nat → Byte) (a : Nat) : SevalImg :=
  let n := rdNat rd (a + 8) 4
  let n := if n ≤ 4 * 2 ^ 20 - 3200 then n else 0
  bytesAt rd a (n + (if rdNat rd (a + 6) 1 % 2 = 1 then 2888 else 0))

/-- The hash that the image should carry. -/
def SevalImg.digest (m : SevalImg) : Nat := shake512 (m.take 0x10 ++ (m.take (SevalImg.len m)).drop 0x90)

/-- The sections: type and body; `none` when one runs past the end. -/
def sevalSections : Nat → List Byte → Option (List (Nat × List Byte))
  | 0, _ => none
  | f + 1, bs =>
    if bs.isEmpty then some []
    else
      let n := wField bs 4 4
      let span := 8 + ceilDiv n 8 * 8
      if bs.length < 8 || bs.length < span || ((bs.take span).drop (8 + n)).any (· != 0) then none
      else (sevalSections f (bs.drop span)).map ((wField bs 0 4, (bs.drop 8).take n) :: ·)

def SevalImg.sections (m : SevalImg) : Option (List (Nat × List Byte)) :=
  sevalSections m.length ((m.take (SevalImg.len m)).drop 0xC0)

/-- The body of a section. -/
def sectionOf (l : List (Nat × List Byte)) (ty : Nat) : Option (List Byte) := (l.find? fun x => x.1 == ty).map (·.2)

/-- Every byte of some ranges (first, length) is 0. -/
def zeroAt (b : List Byte) (l : List (Nat × Nat)) : Bool := l.all fun r => wField b r.1 r.2 == 0

def within (lo hi v : Nat) : Bool := decide (lo ≤ v) && decide (v ≤ hi)

/-- The rank that the straps take (R342). -/
def topoRank (b : List Byte) (straps : Nat) : Option Nat :=
  let n := wField b 6 2
  if n = 0 then some straps
  else ((List.range n).map fun i => wField b (8 + 4 * i) 4).findSome? fun e =>
    if e % 2 ^ 12 = straps then some (bitsOf e 23 12) else none

/-- A rank's coordinates lie inside the dimensions. -/
def rankIn (dims : Nat × Nat × Nat) (r : Nat) : Bool :=
  [0, 1, 2].all fun d => decide (rankCoord r d < dimOf dims d)

def topoDims (b : List Byte) : Nat × Nat × Nat := (wField b 0 1, wField b 1 1, wField b 2 1)

/-- TOPOLOGY (R342): dimensions, reserved bits, and a map without repeats whose ranks lie inside. -/
def topoOk (b : List Byte) (straps : Nat) : Bool :=
  let n := wField b 6 2
  let es := (List.range n).map fun i => wField b (8 + 4 * i) 4
  decide (8 ≤ b.length) && b.length == 8 + 4 * n && [0, 1, 2].all (fun d => within 1 16 (dimOf (topoDims b) d))
    && wField b 3 1 == 0 && decide (wField b 4 2 < 2 ^ 12) && es.all (fun e => decide (e < 2 ^ 24))
    && decide ((es.map fun e => e % 2 ^ 12).Nodup) && es.all (fun e => rankIn (topoDims b) (bitsOf e 23 12))
    && (topoRank b straps).any (rankIn (topoDims b))

/-- ROUTING (R343): whole entries, ports 0–5, reserved bits 0. -/
def routingOk (b : List Byte) : Bool :=
  b.length % 4 == 0 && (List.range (b.length / 4)).all fun i =>
    let e := wField b (4 * i) 4
    decide (e < 2 ^ 15) && decide (e / 2 ^ 12 < 6)

/-- POWER (R403, R434). -/
def powerOk (b : List Byte) : Bool :=
  b.length == 32 && decide (wField b 0 1 < 3) && decide (wField b 1 1 < 8) && bitOf (wField b 1 1) (wField b 0 1)
    && within 800 1800 (wField b 2 2) && within 800 (wField b 2 2) (wField b 4 2) && within 80 88 (wField b 6 1)
    && within 85 100 (wField b 7 1) && within 1 16 (wField b 8 1) && decide (wField b 0x10 1 < 4)
    && within 1 10000 (wField b 0x12 2) && zeroAt b [(9, 7), (0x11, 1), (0x14, 12)]

/-- A signed field lies within ±`m`. -/
def signedIn (n w m : Nat) : Bool := decide ((signedOf n w).natAbs ≤ m)

/-- CALIB_USER (R432). -/
def calibOk (b : List Byte) : Bool :=
  b.length == 232 && (List.range 128).all (fun i => signedIn 8 (wField b i 1) 80)
    && (List.range 34).all (fun i => signedIn 16 (wField b (0x80 + 2 * i) 2) 3276)
    && (List.range 16).all (fun i => signedIn 16 (wField b (0xC8 + 2 * i) 2) 6553) && wField b 0xC4 4 == 0

/-- REPAIR_POLICY (R536). -/
def repairOk (b : List Byte) : Bool := b.length == 4 && decide (wField b 0 4 < 2)

/-- PRECISION_LIMITS (R244). -/
def precisionOk (b : List Byte) : Bool :=
  b.length == 16 && decide (wField b 0 1 < 8) && decide (8 ≤ wField b 2 2) && within 1 15 (wField b 6 1)
    && zeroAt b [(1, 1), (7, 1), (0xA, 2)] && (ladderPos (wField b 8 1)).any (fun p => p.1 == 0)
    && (ladderPos (wField b 9 1)).any (fun p => p.1 == 1)

/-- The Saggar base of a carve (R374, R376). -/
def carveBase (trace tap : Nat) : Nat := captureBase - 16 * (tap * 2 ^ 21) - trace * 2 ^ 28

/-- MEMORY_CARVE (R375, R376): every band that holds part of the Saggar regions is interleaved. -/
def carveOk (b : List Byte) : Bool :=
  b.length == 16 && within 1 64 (wField b 8 1) && within 1 32 (wField b 9 1) && wField b 0xA 6 == 0
    && (List.range 64).all fun j =>
      !bitOf (wField b 0 8) j || decide ((j + 1) * 2 ^ 34 ≤ carveBase (wField b 8 1) (wField b 9 1))

/-- Quotas: 1–255 for a high-priority requester, otherwise 0 (R391). -/
def quotasOk (hp : Nat) (q : List Nat) : Bool :=
  (List.range 8).all fun i => if bitOf hp i then decide (0 < q.getD i 0) else q.getD i 0 == 0

/-- ARBITER (R391). -/
def arbiterOk (b : List Byte) : Bool :=
  let q (o : Nat) : List Nat := (List.range 8).map fun i => wField b (o + i) 1
  let hp := wField b 2 1
  b.length == 24 && within 64 4096 (wField b 0 2) && within 256 65535 (wField b 0xC 2) && zeroAt b [(3, 1), (0xF, 1)]
    && quotasOk hp (q 4) && quotasOk (wField b 0xE 1) (q 0x10)
    && decide ((q 4).sum + ((List.range 8).filter fun i => !bitOf hp i).length + 8 ≤ wField b 0 2)

/-- OBSERVE (R498, R499, R536): reserved bits 0, and no reserved mode or `PRE`. -/
def observeOk (b : List Byte) : Bool :=
  let t := wField b 0 4
  let g := wField b 8 8
  b.length == 16 && wField b 4 4 == 0 && bitsOf t 25 16 == 0 && bitsOf t 31 30 != 3 && bitsOf t 29 26 != 0
    && bitsOf g 58 56 == 0 && bitsOf g 19 13 == 0

/-- SECURITY (R536). -/
def securityOk (b : List Byte) (owner : Bool) : Bool :=
  b.length == 64 && decide (wField b 0 4 < 8) && zeroAt b [(0x30, 16)]
    && (!bitOf (wField b 0 1) 0 || keyUnwraps (wField b 8 40)) && (!bitOf (wField b 0 1) 1 || owner)

/-- SVC_NET (R536). -/
def svcNetOk (b : List Byte) : Bool :=
  b.length == 24 && within 8 30 (wField b 4 1) && wField b 5 1 == 0 && decide (wField b 6 2 < 2 ^ 12) && wField b 0x12 6 == 0

/-- A section's rules. -/
def sectionOk (straps : Nat) (owner : Bool) (ty : Nat) (b : List Byte) : Bool :=
  if ty = 1 then topoOk b straps else if ty = 2 then routingOk b else if ty = 3 then powerOk b
  else if ty = 4 then calibOk b else if ty = 5 then repairOk b else if ty = 6 then precisionOk b
  else if ty = 7 then carveOk b else if ty = 8 then arbiterOk b else if ty = 9 then observeOk b
  else if ty = 10 then securityOk b owner else if ty = 11 then svcNetOk b else false

/-- The boot error of an image, 0 when it passes (R531, R535); `lo`, `hi`: the formats that the firmware reads. -/
def State.sevalErr (s : State) (m : SevalImg) (lo hi : Nat) : Nat :=
  let key := (m.drop (SevalImg.len m)).take 68
  if SevalImg.at' m 0 4 != 0x4C564553 || decide (SevalImg.len m < 0xC0) || SevalImg.hash m != SevalImg.digest m then 3
  else if !within lo hi (SevalImg.fmt m) then 6
  else if s.fuses.owner.any (fun o => !SevalImg.signed m || shake512 key != o
      || !xmssOk (leNat key) (SevalImg.hash m) (leNat ((m.drop (SevalImg.len m + 68)).take 2820))) then 4
  else match SevalImg.sections m with
    | none => 5
    | some l =>
      if decide ((l.map (·.1)).Nodup) && (sectionOf l 1).isSome
        && l.all (fun x => sectionOk (s.getF SVC_SIDEBAND_POS) s.fuses.owner.isSome x.1 x.2) then 0 else 5

/-! ### What an image says -/

/-- The sections of an accepted image. -/
def SevalImg.parts (m : SevalImg) : List (Nat × List Byte) := (SevalImg.sections m).getD []

/-- What the Stoker keeps of an accepted image; absent sections leave the defaults. -/
def SevalImg.seval (m : SevalImg) : Seval :=
  let l := SevalImg.parts m
  let d := { Seval.default with hash := SevalImg.hash m, fmt := SevalImg.fmt m }
  let d := match sectionOf l 3 with
    | some b => { d with profAllow := wField b 1 1, pCapMin := wField b 4 2, tDram := wField b 6 1, tLogic := wField b 7 1
                         fallback := wField b 8 1, stateAllow := wField b 0x10 1, entryTo := wField b 0x12 2 }
    | none => d
  let d := match sectionOf l 5 with
    | some b => { d with retire := wField b 0 1 == 1 }
    | none => d
  let d := match sectionOf l 6 with
    | some b => { d with modeAllow := wField b 0 1, winMin := wField b 2 2, winMax := wField b 4 2, hystMin := wField b 6 1
                         intFloor := wField b 8 1, fpFloor := wField b 9 1, decLimit := wField b 0xC 4 }
    | none => d
  let d := match sectionOf l 8 with
    | some b => { d with spQ := (List.range 8).map fun i => wField b (4 + i) 1
                         flWin := wField b 0xC 2, flHp := wField b 0xE 1
                         flQ := (List.range 8).map fun i => wField b (0x10 + i) 1 }
    | none => d
  let d := match sectionOf l 10 with
    | some b => { d with reqIde := bitOf (wField b 0 1) 0, svcAuth := bitOf (wField b 0 1) 1
                         hostAttest := bitOf (wField b 0 1) 2, psk := some (wField b 4 4, wField b 8 40) }
    | none => d
  match sectionOf l 11 with
  | some b => { d with svcNet := [wField b 0 4, wField b 4 1, wField b 6 2, wField b 8 4, wField b 0xC 4, wField b 0x10 2] }
  | none => d

/-- Factory values and user corrections give the effective calibration (R433). -/
def State.calibrate (s : State) (b : List Byte) : State :=
  let s := (List.range 128).foldl (fun s i =>
    let u := wField b i 1
    let e : Int := signedOf 16 (s.getF (CAL_TSNS_FOFS i)) + signedOf 8 u
    s.setFs [(CAL_TSNS_UOFS i, u), (CAL_TSNS_EOFS i, (e % 65536).toNat)]) s
  let s := (List.range 34).foldl (fun s i =>
    let u := wField b (0x80 + 2 * i) 2
    let e : Int := ((s.getF (CAL_ISNS_FGAIN i) : Int) * (65536 + signedOf 16 u) + 32768) / 65536
    s.setFs [(CAL_ISNS_UGAIN i, u), (CAL_ISNS_EGAIN i, e.toNat)]) s
  (List.range 16).foldl (fun s i =>
    let u := wField b (0xC8 + 2 * i) 2
    let e : Int := ((s.getF (CAL_ECOEF_FACT i) : Int) * (65536 + signedOf 16 u) + 32768) / 65536
    s.setFs [(CAL_ECOEF_USCALE i, u), (DMP_ECOEF_EFF i, e.toNat)]) s

/-- `CLASSES`: bits 5, 8 and 15 read 1 (R502). -/
def forcedClasses (v : Nat) : Nat := v ||| 0x8120

/-- Set the trace registers that OBSERVE names (R536). -/
def State.observe (s : State) (b : List Byte) : State :=
  let t := wField b 0 4
  let g := wField b 8 8
  s.setFs [(OBS_TRCFG_MODE, bitsOf t 31 30), (OBS_TRCFG_PRE, bitsOf t 29 26), (OBS_TRCFG_CLASSES, forcedClasses (bitsOf t 15 0)),
    (OBS_TRTRIG_ARM, bitsOf g 63 59), (OBS_TRTRIG_ST_VAL, bitsOf g 55 48), (OBS_TRTRIG_CTXMASK, bitsOf g 47 32),
    (OBS_TRTRIG_CNT_CTX, bitsOf g 31 28), (OBS_TRTRIG_CNT_SEL, bitsOf g 27 20), (OBS_TRTRIG_SYNC_ID, bitsOf g 12 0)]

/-- The registers that an accepted image sets (R530 steps 5 and 7). -/
def State.applySeval (s : State) (m : SevalImg) : State :=
  let l := SevalImg.parts m
  let s := { s with seval := SevalImg.seval m }
  let pw := (sectionOf l 3).getD []
  let s := if pw.isEmpty then s else s.setFs [(DMP_CFG_PROFILE, wField pw 0 1), (DMP_CFG_P_CAP, wField pw 2 2)]
  let cv := (sectionOf l 7).getD (leBytes 8 0 ++ leBytes 1 8 ++ leBytes 1 2 ++ leBytes 6 0)
  let s := s.setFs [(MEM_BANDMAP_LOCAL, wField cv 0 8), (MEM_SAGGAR_TRACE, wField cv 8 1), (MEM_SAGGAR_TAP, wField cv 9 1),
    (MEM_SAGGAR_BASE, carveBase (wField cv 8 1) (wField cv 9 1) / 2 ^ 21)]
  let ar := sectionOf l 8
  let s := s.setFs [(MEM_ARBCFG_WIN, (ar.map fun b => wField b 0 2).getD 256), (MEM_ARBCFG_HP, (ar.map fun b => wField b 2 1).getD 0x60)]
  let s := s.calibrate ((sectionOf l 4).getD (leBytes 232 0))
  match sectionOf l 9 with
  | some b => s.observe b
  | none => s

/-- The switch domain's place in the fabric (R342, R343). -/
def State.applyTopology (s : State) (m : SevalImg) : State :=
  let l := SevalImg.parts m
  let b := (sectionOf l 1).getD []
  let rt := (sectionOf l 2).getD []
  let r := (topoRank b (s.getF SVC_SIDEBAND_POS)).getD 0
  let ex := (List.range (rt.length / 4)).map fun i => (wField rt (4 * i) 4 % 2 ^ 12, bitsOf (wField rt (4 * i) 4) 14 12)
  let s := { s with flue := { s.flue with dims := topoDims b, root := wField b 4 2, excluded := ex } }
  s.setFs [(FLU_POS_Z, rankCoord r 2), (FLU_POS_Y, rankCoord r 1), (FLU_POS_X, rankCoord r 0), (FLU_POS_RANK, r)]

end Sys2Proof.Machine
end

