-- ==== Sys2Proof/Machine/Recovery.lean ====
section
/-! DEFINITION. Chip recovery (R461–R482) as one shared operation, the events that start it, hold it or end it, and
what shares its steps: the function level reset's effect (R506), the warm reset (R565) and the CXL link's training. -/

namespace Sys2Proof.Machine

open Sys2Proof

/-! ### The CXL link (R503, R504, R521, R523) -/

/-- The CXL controller is reset, loses its power or its link: what the host had set up there is gone, configuration space
and the MSI-X tables with it (R26, R520, R521, R523). -/
def State.cxlDown (s : State) : State :=
  let s := { s with host := HostRt.init }
  s.setFs [(CXL_LINK_UP, 0), (CXL_LINK_RATE, 0), (CXL_LINK_WIDTH, 0), (CXL_LINK_IDE, 0), (CXL_LINK_HDM, 0), (CXL_SF_OCC, 0)]

/-- The link trains at a width and a rate that R503 accepts; which ones is open (log entry 2). -/
def State.cxlTrain (s : State) : State :=
  let (r, s) := s.fresh
  let (w, s) := s.fresh
  s.setFs [(CXL_LINK_UP, 1), (CXL_LINK_RATE, 1 + r % 3), (CXL_LINK_WIDTH, 1 + w % 3)]

/-! ### Function level reset (R506, R522) -/

/-- The queues of a context are disabled without record or signal; the VF's MSI-X entries are masked and its fault
record is cleared. -/
def State.flrEnd (s : State) (c : Nat) : State :=
  let qs := (List.range 64).filter fun q => s.ctxOf q == c
  let s := (s.flights.filter fun f => qs.contains f.q).foldl (fun s f => (s.countUnits f).freeEntry f.q f.n) s
  let s := { s with flights := s.flights.filter fun f => !qs.contains f.q }
  let s := qs.foldl (fun s q =>
    (s.setQueue q { s.queue q with mark := none }).setFs [(QUE_CFG_EN q, 0), (QUE_CTL_HALT q, 0), (QUE_STAT_STATE q, qDisabled)]) s
  let s := (List.range 65).foldl (fun s v =>
    let k := ((c + 1) * 128 + v) * 4 + 3
    { s with host := { s.host with msix := s.host.msix.set 1 k (s.msixWord (c + 1) v 3 / 2 * 2 + 1) } }) s
  s.setF (VF_FAULT0_VALID c) 0

/-! ### Step 1 (R463, R465–R467) -/

/-- The lowest Bay whose stack port has 64 beats outstanding, and the requester that holds the most of them (R463). -/
def State.stuckPort (s : State) : Option (Nat × Nat) :=
  ((List.range 16).find? fun b => decide (64 ≤ (s.stackPort b).outstanding.length)).map fun b =>
    let n (i : Nat) : Nat := ((s.stackPort b).outstanding.filter fun x => x.1 == i).length
    (b, (List.range 8).foldl (fun best i => if n best < n i then i else best) 0)

/-- The fault record of a recovery cause (R466). -/
def State.recRecord (s : State) (cause : Nat) (owner : Option (Nat × Nat × Nat × Nat)) (inst : Option (Nat × Nat × Nat)) :
    FaultRec := ⟨true, cause, owner, inst, s.stuckPort, 0, none⟩

/-- READY_OD is released, and the switch advertises the endpoint RECOVERING and takes no local injection (R365, R467). -/
def State.leaveReady (s : State) : State :=
  let s := (s.setOut outReady false).floodEndpoint false
  { s with flue := { s.flue with accepting := false } }

/-- READY: READY_OD, the endpoint READY (R365, R467). -/
def State.enterReady (s : State) : State :=
  let s := { s with flue := { s.flue with accepting := true } }.setOut outReady true
  s.floodEndpoint true

/-- A power-state entry before its step 5 is cancelled (R426). -/
def State.cancelEntry (s : State) : State :=
  if s.getF PWR_STAT_STATE = 3 then
    ((s.setFs [(PWR_STAT_CANCELLED, 1), (PWR_STAT_STEP, 0)]).setPwrState 0).setOut outReady true
  else s

/-! ### Step 2: quiesce (R468, R475, R477) -/

/-- Two lists of ranges share a byte. -/
def rangesMeet (a b : List (Nat × Nat)) : Bool :=
  a.any fun x => b.any fun y => decide (x.1 < y.1 + y.2) && decide (y.1 < x.1 + x.2)

/-- The ranges that a plan reads and those that it writes, as its start fixed them (R477). -/
def Plan.inOut : Plan → List (Nat × Nat) × List (Nat × Nat)
  | .matrix op _ => (op.a.ranges ++ op.b.ranges, op.out.ranges)
  | .packed ps => (ps.flatMap fun p => p.1.a.ranges ++ p.1.b.ranges, ps.flatMap fun p => p.1.out.ranges)
  | .convert op b => (op.inp.ranges, (b.map fun o => o.td.ranges).getD op.out.ranges)
  | .vector op => (op.inp.ranges ++ (op.in2.map TDesc.ranges).getD [], op.out.ranges ++ (op.out2.map TDesc.ranges).getD [])
  | .update op _ =>
    let mom (a : Nat) : List (Nat × Nat) := if op.rule = .sgd then [] else [(a, (if op.bf then 2 else 4) * op.npar)]
    ((op.wHiSrc, 4 * op.npar) :: (op.wExtSrc, 2 * op.npar) :: mom op.mSrc,
      (op.wHiDst, 4 * op.npar) :: (op.wExtDst, 2 * op.npar) :: mom op.mDst)
  | _ => ([], [])

/-- A torn tile of this command cannot be run again (R477). -/
def Flight.tornBlocks (f : Flight) : Bool :=
  let p := f.plan.inOut
  match f.plan with
  | .matrix op _ => op.accum || rangesMeet p.1 p.2
  | .packed ps => ps.any (fun x => x.1.accum) || rangesMeet p.1 p.2
  | .convert _ _ => rangesMeet p.1 p.2
  | .vector _ => rangesMeet p.1 p.2
  | .update _ _ => rangesMeet p.1 p.2
  | _ => false

/-- The tiles of a flight whose engine instances are clamped: masks of Bays and of engines. -/
def Flight.clamped (f : Flight) (engine bays engines : Nat) : List Nat :=
  (f.running.filter fun r => bitOf bays r.bay && bitOf engines (engine - 1)).map (·.tile)

/-- Part of a torn tile's writes have landed: line by line the one memory or the other, by a free value. -/
def mixMem (v : Nat) (old new : List Host.Cell) : List Host.Cell :=
  ((old.map (·.1)) ++ new.map (·.1)).foldl (fun m a =>
    if bitOf v (a / 64 % 4096) then Store.set memBlank m a (Mem.read memBlank new a) else m) old

/-- A torn tile leaves its output region written in part (R468; log entry 2). -/
def State.tear (s : State) (f : Flight) (t : Nat) : State :=
  let (v, s) := s.fresh
  let u := s.completeTile f t
  { s with dram := mixMem v s.dram u.dram, hostMem := mixMem v s.hostMem u.hostMem }

/-- The emission that a resumed command runs again as a whole, so that its emissions so far do not stand (R157, R477;
DESIGN CHOICE, log entry 56). -/
def Flight.redone (f : Flight) : Bool :=
  match f.plan with
  | .update _ _ => f.slotPhase == 3
  | _ => false

/-- What recovery cuts off of a command is counted: the runs of its tiles, and the emissions that it has written (R157,
R485). -/
def State.countCut (s : State) (f : Flight) : State :=
  let s := f.running.foldl (fun s r => s.runCut f r.tile) s
  if f.redone then s else s.countUnits f

/-- What quiesce leaves of a command: nothing runs; a clamped tile is recorded torn (R468, R475). The emissions written are
counted by then. -/
def Flight.quieted (f : Flight) (torn : List Nat) : Flight :=
  let t : Option Nat := torn.foldl (fun (m : Option Nat) x => match m with
    | some y => some (min x y)
    | none => some x) none
  { f with running := [], parts := [], remotes := [], torn := t
           units := f.units.map fun r => { r with events := [] }
           res := if !torn.isEmpty && f.tornBlocks then 1 else f.res }

/-- The clamped tiles of a flight whose writes were cut: those already writing, which the spec does not fix (R468; log
entry 2). Their regions are torn. -/
def State.cut (s : State) (f : Flight) (clamped : List Nat) : List Nat × State :=
  if clamped.isEmpty then ([], s)
  else
    let (v, s) := s.fresh
    let l := clamped.filter (bitOf v)
    (l, l.foldl (fun s t => s.tear f t) s)

/-- Quiesce ends: tiles are abandoned or torn, reduce commands and collectives end, port beats are dropped (R333, R463,
R468). -/
def State.quiesce (s : State) (bays engines : Nat) : State :=
  let s := s.setFs [(RST_CLAMP_BAY, bays), (RST_CLAMP_ENG, engines)]
  let r := s.flights.foldl (fun (a : List Flight × State) f =>
    let c := (a.2.countCut f).cut f (f.clamped (s.engine f.q) bays engines)
    (a.1 ++ [f.quieted c.1], c.2)) ([], s)
  let s := { r.2 with flights := r.1, coll := [], flue := { r.2.flue with early := [] } }
  let s := s.flights.foldl State.putSlot s
  { s with stackPorts := s.stackPorts.filterMap fun (p : Nat × StackRt) =>
      let r := { p.2 with outstanding := [], corrective := [] }
      if r = StackRt.init then none else some (p.1, r) }

/-! ### Step 3: capture (R472–R474) -/

/-- Copy `n` bytes of memory. -/
def Mem.copy (m : List Host.Cell) (src dst n : Nat) : List Host.Cell :=
  let part := (m.filter fun p => decide (src ≤ p.1) && decide (p.1 < src + n)).map fun p => (p.1 - src + dst, p.2)
  (m.filter fun p => decide (p.1 < dst)) ++ part ++ m.filter fun p => decide (dst + n ≤ p.1)

/-- Move DRAM inside the module. -/
def State.dcopy (s : State) (src dst n : Nat) : State :=
  { s with
    dram := Mem.copy s.dram src dst n
    badLines := s.badLines.filter fun p => !covers dst n p.1 }

/-- The value of a register's element, composed from its fields (R508). -/
def State.regWord (s : State) (d : RDesc) (i j : Nat) : Nat :=
  (d.fields.map fun f => s.getF (d.fld i j f) * 2 ^ f.lo).sum

/-- Every element of the registers that a predicate takes: offset and value, in ascending offset. -/
def State.regImage (s : State) (p : RField → Bool) : List (Nat × Nat) :=
  ((regTable.filter fun d => d.base < 0x4000000 && d.fields.any p).flatMap fun d =>
    (List.range d.count1).flatMap fun i => (List.range d.count2).map fun j => (d.offset i j, s.regWord d i j)).mergeSort
      fun a b => decide (a.1 ≤ b.1)

/-- The register at an offset, as an 8-byte value. -/
def State.regAt (s : State) (off : Nat) : Nat :=
  match findReg off with
  | some (d, i, j) => s.regWord d i j
  | none => 0

/-- The 256 bytes of a queue's state in a capture. -/
def State.queueImage (s : State) (q : Nat) : List Byte :=
  let b := 0x10000 + 0x100 * q
  ([b, b + 8, b + 0x10, b + 0x18, b + 0x20, b + 0x28].flatMap fun o => leBytes 8 (s.regAt o)) ++ List.replicate 208 0

/-- The base of a capture bank. -/
def bankBase (i : Nat) : Nat := captureBase + i * (240 * 2 ^ 20)

/-- The 64-byte header of a capture; the step's duration is not modelled and is a free value (log entry 2). -/
def State.captureHeader (s : State) (us : Nat) : List Byte :=
  leBytes 4 0x50435352 ++ leBytes 2 1 ++ leBytes 2 (s.getF RST_STAT_COUNT) ++ leBytes 8 (s.getF RST_TIME_NS)
    ++ leBytes 4 us ++ leBytes 4 (s.getF RST_CLAMP_BAY * 2 ^ 16 + s.getF RST_CLAMP_ENG) ++ leBytes 40 0

/-- The capture (R474): registers marked S, queue states, sync objects, the ledger's copy; engine states and the
Stoker's SRAM have no given form and are free values (log entry 2). -/
def State.capture (s : State) : State :=
  let b := bankBase (s.getF RST_STAT_COUNT % 2)
  let s := s.dwrite (b + 0x40) ([0x1000, 0x1008, 0x1010, 0x1018].flatMap fun o => leBytes 8 (s.regAt o))
  let s := s.dwrite (b + 0x1000) ((s.regImage fun f => f.recov == .s).filter (fun r => !(0x100000 ≤ r.1 && r.1 < 0x110000))
    |>.flatMap fun r => leBytes 4 r.1 ++ leBytes 8 r.2)
  let s := s.dwrite (b + 0x11000) ((List.range 64).flatMap s.queueImage)
  let s := s.dwrite (b + 0x20000) ((List.range 8192).flatMap fun n => leBytes 8 (s.sync n))
  let (e, s) := s.fresh
  let s := s.dwrite (b + 0x100000) (leBytes (4 * 2 ^ 20) e)
  let s := s.dcopy ledgerBase (b + 0x1000000) (2 ^ 24)
  let (k, s) := s.fresh
  let s := s.dwrite (b + 0x2000000) (leBytes (8 * 2 ^ 20) k)
  let (us, s) := s.fresh
  s.dwrite b (s.captureHeader us)

/-! ### Step 5: the reset of the main logic (R15, R26, R472) -/

/-- A mailbox request that was pending is answered with BUSY (R547). -/
def State.mailboxBusy (s : State) (was : Bool) : State :=
  if was then (s.setF STK_MBSTAT_RESULT 2).irq 0 67 else s

/-- What survives of the stack ports when the main logic is reset: the rows that patrol corrected and the rows due to be
spared (R383, R385). -/
def keptPorts (ports : Store StackRt) : Store StackRt :=
  ports.filterMap fun (p : Nat × StackRt) =>
    let r := { StackRt.init with rows := p.2.rows, due := p.2.due }
    if r = StackRt.init then none else some (p.1, r)

/-- What the main logic holds is lost or cleared; the comparators keep `TRIP` and `WARN` (R15, R472, R481). -/
def State.resetMain (s : State) : State :=
  let trip := s.getF DMP_STAT_TRIP
  let warn := s.getF DMP_STAT_WARN
  let s := { s with
    regs := s.regs.filter fun p => cellRecov p.1 != some Recov.c
    tlb := [], arena := [], stackPorts := keptPorts s.stackPorts, mbReq := [], mbResp := []
    bays := s.bays.filterMap fun (p : Nat × BayRt) =>
      let r := { BayRt.init with logicBad := p.2.logicBad }
      if r = BayRt.init then none else some (p.1, r)
    hearths := s.hearths.filterMap fun (p : Nat × HearthRt) =>
      let r := { p.2 with testing := false, gated := false, sweep := false }
      if r = HearthRt.init then none else some (p.1, r)
    queues := s.queues.filterMap fun (p : Nat × QueueRt) =>
      let r := { p.2 with mark := none }
      if r = QueueRt.init then none else some (p.1, r)
    stoker := { s.stoker with updLen := none, updSpans := [], cfgLen := 0, cfgSpans := [], cfgBytes := [], replies := [] } }
  s.cxlDown.setFs [(DMP_STAT_TRIP, trip), (DMP_STAT_WARN, warn)]

/-! ### Step 6: firmware and Seval image (R470) -/

def retainedFw : Nat := captureBase + 480 * 2 ^ 20
def retainedSeval : Nat := captureBase + 504 * 2 ^ 20

/-- The retained firmware measures as it did at boot. -/
def State.retainedFwOk (s : State) : Bool :=
  let n := 0x1000 + s.dnat (retainedFw + 8) 4
  decide (n ≤ 24 * 2 ^ 20) && (s.badIn retainedFw n).isNone && shake512 (bytesAt s.dbyte retainedFw n) == s.stoker.meas

/-- An image carries the hash that the always-on SRAM holds. -/
def State.sevalHeld (s : State) (m : SevalImg) : Bool :=
  SevalImg.digest m == s.seval.hash && SevalImg.hash m == s.seval.hash

/-- Load the retained copies, or the NVM's; `none` when step 6 fails. -/
def State.reload (s : State) : Option State :=
  let slot := s.bootHdr.slot
  let fw := s.retainedFwOk
  let sv := s.sevalHeld (sevalAt s.dbyte retainedSeval)
  let nvFw := fw || s.fwOk slot
  let nvSv := sv || s.sevalHeld (sevalAt s.nbyte (cfgBase (s.getF SEC_BOOT_SLOT)))
  if nvFw && nvSv then some (s.setF RST_STAT_FWNVM (b2n (!fw || !sv))) else none

/-! ### Step 8: restore (R419, R471) -/

/-- Hearths that were ENABLED or DRAINED return ENABLED; the Damper starts, and a trip that still holds keeps duty 0. -/
def State.restore (s : State) : State :=
  let s := (List.range 288).foldl (fun s h => if s.hState h = hDrained then s.setHearthState h hEnabled else s) s
  let s := s.syncCone.damperStart
  if s.flag DMP_STAT_TRIP then s.setDuties (List.replicate 16 0) else s

/-! ### Step 9: READY (R241, R478) -/

/-- The record of a command that was in flight (R478). -/
def State.recoverRecord (s : State) (f : Flight) (st : Status) : State :=
  let c := s.ctxOf f.q
  let (bitmap, s) := s.writeBitmap f
  let (cycles, s) := s.fresh
  let s := s.applyWrites c [(s.recordAddr f.q f.n, f.record st bitmap cycles)]
  let s := s.setF (QUE_STAT_LAST_STATUS f.q) st.code
  s.countAll c [(0x00, 1), (0x0C, f.microjoules)]

/-- A queue after recovery: its oldest command in flight gets its record, its fault object and its interrupt; the queue
returns HALTED, and its commands may resume from the ledger. -/
def State.recoverQueue (s : State) (timedOut : List (Nat × Nat)) (q : Nat) : State :=
  if s.flag (QUE_CFG_EN q) then
    let s := s.setQueue q { s.queue q with resumeTo := s.headIdx q }
    match (s.flightsOf q).head? with
    | some f =>
      let s := s.recoverRecord f (if timedOut.contains (q, f.n) then .timeout else .abortedByRecovery)
      (s.haltQueue q).queueIrq q
    | none => (s.setF (QUE_CTL_HALT q) 1).setQState q qHalted
  else s

/-- The event-log record of a recovery (R532). -/
def State.logRecovery (s : State) : State :=
  s.logEvent 0x0003 0 (leBytes 8 (s.regAt 0x1000) ++ leBytes 8 (s.regAt 0x1008) ++ leBytes 8 (s.regAt 0x1010))

/-- READY after a chip recovery: records, halts and interrupts; READY_OD; PF0 vector 65; pending resets of functions
complete, and the interrupted decision step starts again. -/
def State.readyAfter (s : State) (r : RecRt) : State :=
  let s := r.flrPending.foldl State.flrEnd s
  let s := (List.range 64).foldl (fun s q => s.recoverQueue r.timedOut q) s
  let s := { s with flights := [], recov := none }
  let s := ((s.setFs [(RST_CTL_RECOVER, 0)]).setRstStep 0).enterReady
  s.logRecovery.rerunDecision.irq 0 65

/-! ### Warm reset (R565) -/

/-- The registers of contexts and their taps, and the sync objects. -/
def contextRegs : List Reg :=
  [.CTX_CFG, .CTX_SYNC, .CTX_STEP, .CTX_TAB, .CTX_SCALECFG, .CTX_GOVCFG, .CTX_GOVTHR0, .CTX_GOVTHR1, .CTX_GOVWIN,
    .CTX_GOVSTAT, .CTX_GOVDONE, .CTX_PTB, .CTX_NWIN, .OBS_SEL, .OBS_CTX, .OBS_RING, .SYNC]

/-- A cell of a context's registers. -/
def contextCell (key : Nat) : Bool := (cellReg key).any fun d => contextRegs.contains d.reg

/-- Every queue disabled, contexts at their Reset values, sync objects 0, ledger and tap rings cleared. -/
def State.clearContexts (s : State) : State :=
  let lo := s.ringBase 0
  let s := { s with
    regs := s.regs.filter fun p => !contextCell p.1
    queues := [], flights := [], accNext := [], decisions := []
    dram := (s.dram.filter fun p => decide (p.1 < lo)) ++ (s.dram.filter fun p => decide (captureBase ≤ p.1) && decide (p.1 < ledgerBase))
    badLines := s.badLines.filter fun p => !covers lo (captureBase - lo) p.1 && !covers ledgerBase (2 ^ 24) p.1 }
  (List.range 64).foldl (fun s q =>
    s.setFs [(QUE_CFG_EN q, 0), (QUE_CTL_HALT q, 0), (QUE_STAT_STATE q, qDisabled), (QUE_STAT_HEAD q, 0)]) s

/-- READY after a warm reset. -/
def State.readyWarm (s : State) : State :=
  let s := { s.clearContexts with recov := none }
  (s.setF RST_CTL_RECOVER 0).setRstStep 0 |>.enterReady

/-! ### The sequence (R467) -/

/-- The sequencer cannot go on: FAULT_N and HOTRST_REQ_N, with the step kept (R482). -/
def State.recoveryFails (s : State) (step : Nat) : State := (s.setRstStep step).latchFail

/-- After step 8: a THERMAL recovery withholds READY while the trip holds (R408, R481). -/
def State.afterRestore (s : State) (r : RecRt) : State :=
  if r.warm then s.readyWarm
  else if r.cause = 6 && s.flag DMP_STAT_TRIP then s.setRstStep 8
  else s.readyAfter r

/-- Steps 3 to 8, then READY (R467): the recovery counter counts recoveries, not warm resets. -/
def State.afterQuiesce (s : State) (r : RecRt) : State :=
  let busy := s.flag STK_MBSTAT_BUSY
  let s := (s.setRstStep 3).capture
  let s := if r.warm then s else s.incF RST_STAT_COUNT 1
  let s := (s.setRstStep 5).resetMain
  match s.reload with
  | none => s.recoveryFails 6
  | some s =>
    let s := if s.flag SVC_SIDEBAND_PERST_N then s.cxlTrain else s
    ((s.mailboxBusy busy).setRstStep 8).restore.afterRestore r

/-- Step 2: it ends at once, or waits for the clamp when a stack port is held (R463, R468). -/
def State.recoverGo (s : State) (r : RecRt) : State :=
  let s := s.setRstStep 2
  if s.stuckPort.isSome then s else (s.quiesce 0 0).afterQuiesce r

/-- A recovery cause (R464–R467): the fault record, `RST_TIME`, and the sequence. -/
def State.startRecovery (s : State) (r : RecRt) (rec' : FaultRec) : State :=
  let s := (s.cancelEntry.fault rec').setF RST_TIME_NS s.now
  let s := { s with recov := some r }
  (s.leaveReady.setRstStep 1).recoverGo r

/-- A cause: it starts a recovery, is only counted during one (R481), and is discarded where the logic that it concerns
is off (R426). -/
def State.cause (s : State) (code : Nat) (timedOut : List (Nat × Nat)) (flr : List Nat)
    (owner : Option (Nat × Nat × Nat × Nat)) (inst : Option (Nat × Nat × Nat)) : State :=
  if s.running then s.startRecovery ⟨false, code, timedOut, flr⟩ (s.recRecord code owner inst)
  else if s.power.life = .up && s.recov.isSome then s.addSat RST_STAT_LOST 1
  else s

/-- A cause that names nobody. -/
def State.plainCause (s : State) (code : Nat) : State := s.cause code [] [] none none

/-- PF0's write of 1 to `RECOVER` (R464, R481): discarded during a recovery. -/
def State.recover (s : State) : State := if s.running then (s.setF RST_CTL_RECOVER 1).plainCause 7 else s

/-- A warm reset begins, or takes over a recovery at its step (R565, R566). -/
def State.warmReset (s : State) : State :=
  match s.recov with
  | none =>
    let r : RecRt := ⟨true, 0, [], []⟩
    ({ s with recov := some r }.leaveReady.setRstStep 1).recoverGo r
  | some r =>
    let s := { s with recov := some { r with warm := true } }
    if s.getF RST_STAT_STEP = 8 then s.readyWarm else s

/-! ### Dispatch timeouts (R265, R462, R463) -/

/-- A command whose dispatch time runs: in flight, and not held at a step mark (R265, R266). -/
def State.dispatching (s : State) (q n : Nat) : Option Flight :=
  (s.flight? q n).filter fun f => !(cOpc f.words == 0x04 && (s.queue q).mark.isSome)

/-- The command that the fault record names: the lowest queue index, then the lowest command (R462). -/
def lowest (l : List (Nat × Nat)) : Option (Nat × Nat) :=
  l.foldl (fun (b : Option (Nat × Nat)) x => match b with
    | none => some x
    | some y => if x.1 < y.1 || (x.1 == y.1 && decide (x.2 < y.2)) then some x else some y) none

/-- The instance that holds a command's earliest-placed tile still outstanding (R466). -/
def State.oldestInst (s : State) (f : Flight) : Option (Nat × Nat × Nat) := f.running.head?.bind fun r => s.instOf f r.tile

/-- DISPATCH_TIMEOUT (R265, R461–R463). -/
def execDispatchTimeout (expired : List (Fin 64 × Nat)) (s : State) : Out :=
  let l := (expired.map fun p => (p.1.val, p.2)).filter fun p => (s.dispatching p.1 p.2).isSome
  match (lowest l).bind fun p => s.flight? p.1 p.2 with
  | some f => onlyIf s.running (fun s => s.cause 1 l [] (s.ownerOf f.q f.n) (s.oldestInst f)) s
  | none => .next s

/-! ### The other causes (R34, R458, R464) -/

/-- D2D_UNCORR (R33, R34, R466) at a Bay that a die-to-die link attaches to: the link retries a first uncorrectable transfer itself; a second one is a cause. -/
def execD2dUncorr (bay : Fin 16) (second : Bool) (owner : Option (Fin 64 × Nat)) (s : State) : Out :=
  let o := (owner.bind fun p => s.flight? p.1 p.2).bind fun f => s.ownerOf f.q f.n
  onlyIf (second && d2dLinks.any fun l => l.1 == bay.val || l.2 == bay.val) (fun s => s.cause 3 [] [] o (some (0, 0, bay))) s

/-- STOKER_ECC (R458). -/
def execStokerEcc (s : State) : Out := .next (s.plainCause 4)
/-- STOKER_WDT (R458). -/
def execStokerWdt (s : State) : Out := .next (s.plainCause 5)
/-- REGULATOR (R464). -/
def execRegulator (s : State) : Out := .next (s.plainCause 9)
/-- STOKER_SRAM_SCRUB (R458): corrected bits change nothing that the module shows. -/
def execStokerSramScrub (s : State) : Out := .next s
/-- PLL_LOCK_LOSS (R31): after boot, wherever the clocks run; the module waits for a power cycle. -/
def execPllLockLoss (s : State) : Out :=
  onlyIf (s.power.life == .up && s.getF PWR_STAT_STATE != 2) State.latchFail s

/-! ### Quiesce and the watchdog (R468, R482) -/

/-- The sequencer waits in step 2 for a held stack port. -/
def State.quiescing (s : State) : Bool := s.power.life == .up && s.recov.isSome && s.getF RST_STAT_STEP == 2

/-- QUIESCE_TIMEOUT (R468): the engines still busy are clamped, and the sequence goes on. -/
def execQuiesceTimeout (bays engines : Nat) (s : State) : Out :=
  match s.recov with
  | some r => onlyIf s.quiescing (fun s => (s.quiesce (bays % 2 ^ 16) (engines % 2 ^ 5)).afterQuiesce r) s
  | none => .next s

/-- SEQUENCER_WATCHDOG (R482): from step 1 to the end of step 8. -/
def execSequencerWatchdog (s : State) : Out := onlyIf s.quiescing State.latchFail s

/-! ### Trips (R408) -/

/-- TRIP_HOLD_TIMEOUT (R408): a trip held beyond 1 s. -/
def execTripHoldTimeout (s : State) : Out :=
  onlyIf (s.running && s.flag DMP_STAT_TRIP) (fun s => s.plainCause 6) s

/-- A THERMAL recovery withholds READY. -/
def State.withheld (s : State) : Bool :=
  s.power.life == .up && s.recov.any (fun r => r.cause == 6) && s.getF RST_STAT_STEP == 8

/-- TRIP_RELEASE (R408): the trip ends, and with it a THERMAL recovery that waited for it. -/
def execTripRelease (s : State) : Out :=
  onlyIf (s.armed && s.flag DMP_STAT_TRIP) (fun s =>
    match s.recov with
    | some r => if s.withheld then s.releaseTrip.leastAllowances.readyAfter r else s.releaseTrip
    | none => s.releaseTrip) s

/-- THERMAL_READY_TIMEOUT (R408, R560): READY withheld for 60 s; the module waits for the board. -/
def execThermalReadyTimeout (s : State) : Out :=
  onlyIf s.withheld (fun s => { s with power := { s.power with life := .latched } }.setOut outHotrst true) s

end Sys2Proof.Machine
end

