-- ==== Sys2Proof/Machine/Power.lean ====
section
/-! DEFINITION. Power states (R421–R430): requests, entry and wake; and how a host access to the BARs is answered (R520,
R521). -/

namespace Sys2Proof.Machine

open Sys2Proof

/-! ### Accesses from outside (R422, R435, R520, R521) -/

/-- Every IDE stream that the SECURITY section requires is secure (R520). -/
def State.ideOk (s : State) : Bool := !s.seval.reqIde || s.flag CXL_LINK_IDE

/-- A recovery has passed the end of its step 2: host requests are answered as R521 says until READY. -/
def State.shut (s : State) : Bool := s.recov.isSome && decide (2 < s.getF RST_STAT_STEP)

/-- The link carries requests into the module. -/
def State.linkServes (s : State) : Bool := s.power.life == .up && s.flag CXL_LINK_UP

/-- A write to a BAR: refused and counted without IDE, discarded during recovery, else `f` (R520, R521). -/
def State.barWrite (s : State) (f : State → State) : State :=
  if !s.linkServes then s
  else if !s.ideOk then s.addSat CXL_ERR_REFUSED 1
  else if s.shut then s
  else f s

/-- The always-on block answers over I3C in every state but OFF (R422, R569), until a failure stops it (R31). -/
def State.i3cUp (s : State) : Bool := s.power.life != .off && s.power.life != .inReset && !s.stopped

/-- A write of a register that PF0 and the board controller reach. -/
def State.alwaysWrite (s : State) (a : Accessor) (f : State → State) : State :=
  match a with
  | .pf0 => s.barWrite f
  | .i3c => if s.i3cUp then f s else s
  | .vf _ => s

/-! ### Entry (R424, R425, R428) -/

/-- Quiet (R424). -/
def State.quiet (s : State) : Bool :=
  (List.range 64).all (fun q =>
    let st := s.getF (QUE_STAT_STATE q)
    st == qDisabled || st == qHalted || (st == qParked && (s.flightsOf q).isEmpty))
    && s.coll.isEmpty && s.decisions.isEmpty

/-- Send what waits in the SVC order of a port, one grant for each packet, as far as credits and the retry buffer allow
(R349, R357), and the frame at hand. -/
def State.flushSvc (s : State) (p : Nat) : State :=
  let s := ((s.port p).outq.getD 7 []).foldl (fun s pk =>
    if ((s.port p).outq.getD 7 []).head? = some pk && (s.port p).mayLeave pk then s.sendOut p 7 pk else s) s
  if (s.port p).room then s.fillFrame p else s

/-- Every ACTIVE port floods LINKSTATE down and the floods leave (R361, R425, R562). -/
def State.floodDown (s : State) : State :=
  let ps := (List.range 6).filter fun p => s.portState p == portActive
  ps.foldl State.flushSvc (ps.foldl (fun s p => s.floodLink p false) s)

/-- The ports go to electrical idle; their training waits for the wake (R421, R427). -/
def State.idlePorts (s : State) : State :=
  ((List.range 6).filter fun p => s.portState p == portActive || s.portState p == portRetrain).foldl
    (fun s p => s.setPort' p portTraining []) s

/-- The power save area, the last 1 MiB of the fault-capture region (R425). -/
def saveArea : Nat := ledgerBase - 2 ^ 20

/-- Step 3: the sync objects, one after another, and the Stoker's state, whose form is not given (log entries 2, 18). -/
def State.saveSync (s : State) : State :=
  let (k, s) := s.fresh
  s.dwrite saveArea (((List.range 8192).flatMap fun n => leBytes 8 (s.sync n)) ++ leBytes (2 ^ 20 - 2 ^ 16) k)

/-- Registers of the Stoker and the CXL controller, which BANKED leaves powered. -/
def keptAwake (off : Nat) : Bool :=
  (decide (0x1800 ≤ off) && decide (off < 0x1900)) || (decide (0x800000 ≤ off) && decide (off < 0x801000))

/-- Step 6: the main logic loses its power. What R428 saves comes back at the wake, so it stays; a field of Recovery
code C does not (R428). -/
def State.darken (s : State) (ember : Bool) : State :=
  let trip := s.getF DMP_STAT_TRIP
  let warn := s.getF DMP_STAT_WARN
  let s := { s with
    regs := s.regs.filter fun p => (!ember && keptAwake (cellOffset p.1)) || cellRecov p.1 != some Recov.c
    tlb := [], arena := [], stackPorts := keptPorts s.stackPorts
    hearths := s.hearths.filterMap fun (p : Nat × HearthRt) =>
      let r := { p.2 with testing := false, gated := false, sweep := false }
      if r = HearthRt.init then none else some (p.1, r)
    host := { s.host with watch := [], atc := [] } }
  s.setFs [(DMP_STAT_TRIP, trip), (DMP_STAT_WARN, warn)]

/-- EMBER's part: the ports, the CXL controller and the Stoker with its mailbox buffers go down (R26), and with them what BANKED leaves powered. `DOWNS` comes back as
step 3 saved it (log entry 18). -/
def State.emberOff (s : State) : State := { (s.darken true).idlePorts.cxlDown with mbReq := [], mbResp := [] }

/-- Steps 1 to 6 (R425). -/
def State.enterSleep (s : State) : State :=
  let t := s.getF PWR_CTL_TARGET
  let s := { s.floodEndpoint false with flue := { s.flue with accepting := false } }
  let s := (if t = 2 then s.floodDown else s).saveSync
  let s := if t = 2 then s.emberOff else s.darken false
  (s.setF PWR_STAT_STEP 0).setPwrState t

/-! ### Requests (R422–R424) -/

/-- A request for BANKED (1) or EMBER (2): refused during recovery, else the entry begins to wait for quiet in step 1
(log entry 17). From BANKED, the steps of EMBER that BANKED has not taken follow at once; BANKED from EMBER is
discarded. -/
def State.requestSleep (s : State) (t : Nat) : State :=
  let st := s.getF PWR_STAT_STATE
  if !bitOf s.seval.stateAllow (t - 1) || s.power.life != .up then s
  else if s.recov.isSome then s.setFs [(PWR_CTL_TARGET, t), (PWR_STAT_REFUSED, 1)]
  else if st = 0 then
    ((s.setFs [(PWR_CTL_TARGET, t), (PWR_STAT_STEP, 1)]).setPwrState 3).setOut outReady false
  else if st = 3 then s.setF PWR_CTL_TARGET t
  else if st = 1 && t = 2 then ((s.setF PWR_CTL_TARGET t).floodDown.emberOff).setPwrState 2
  else s

/-- BANKED_REQUEST (R423). -/
def execBankedRequest (a : Accessor) (s : State) : Out := .next (s.alwaysWrite a fun s => s.requestSleep 1)
/-- EMBER_REQUEST (R423, R425). -/
def execEmberRequest (a : Accessor) (s : State) : Out := .next (s.alwaysWrite a fun s => s.requestSleep 2)

/-! ### POWER_ENTRY and its limit -/

/-- An entry waits for quiet. -/
def State.entering (s : State) : Bool := s.power.life == .up && s.recov.isNone && s.getF PWR_STAT_STATE == 3

/-- POWER_ENTRY (R424, R425). -/
def execPowerEntry (s : State) : Out := onlyIf (s.entering && s.quiet) State.enterSleep s

/-- The entry is refused (R424). -/
def State.refuseEntry (s : State) : State :=
  ((s.setFs [(PWR_STAT_REFUSED, 1), (PWR_STAT_STEP, 0)]).setPwrState 0).setOut outReady true

/-- ENTRY_TIMEOUT (R424): still not quiet after `ENTRY_TO` ms. -/
def execEntryTimeout (s : State) : Out := onlyIf (s.entering && !s.quiet) State.refuseEntry s

/-! ### Wake (R426, R427) -/

/-- A wake that stops in a step: the step is shown until its limit passes. -/
def State.stall (s : State) (k : Nat) : State := (s.setF PWR_STAT_STEP k).setPwrState 4

/-- Step 5: READY, with a link that is down trained again; parked queues read their watch lines again (R252, R419, R427). -/
def State.awake (s : State) (o : WakeOut) : State :=
  let s := (s.setFs [(PWR_STAT_STEP, 0), (PWR_STAT_TRAINFULL, b2n o.checkFailed), (PWR_STAT_WAKE_MS, min o.ms 65535),
    (PWR_CTL_TARGET, 0)]).setPwrState 0
  let s := s.damperStart.enterReady
  let s := if s.flag SVC_SIDEBAND_PERST_N && !s.flag CXL_LINK_UP then s.cxlTrain else s
  let s := (if s.flag DMP_STAT_TRIP then s.setDuties (List.replicate 16 0) else s).irq 0 65
  ((List.range 64).filter fun q => s.getF (QUE_STAT_STATE q) == qParked).foldl State.readWatch s

/-- Step 4 from EMBER: firmware reloaded (R427, R470); a reload that finds no copy never completes
the step. -/
def State.wakeEmber (s : State) (o : WakeOut) : State :=
  match s.reload with
  | none => s.stall 4
  | some s => s.awake o

/-- A wake from BANKED or EMBER (R427). From BANKED the PLLs run already, and a failed check with failed full training
ends as a limit does. -/
def State.wake (s : State) (o : WakeOut) : State :=
  let ember := s.getF PWR_STAT_STATE == 2
  let k := if o.failStep = 2 && !ember then 0 else o.failStep
  if 1 ≤ k && k ≤ 2 then s.stall k
  else if o.checkFailed && !o.fullTrainOk then (s.stall 3).latchFail
  else if 3 ≤ k && k ≤ 4 then s.stall k
  else if ember then s.wakeEmber o else s.awake o

/-- The module sleeps in BANKED or EMBER. -/
def State.asleep (s : State) : Bool := s.power.life == .up && (s.getF PWR_STAT_STATE == 1 || s.getF PWR_STAT_STATE == 2)

/-- `TARGET` = ACTIVE: it cancels an entry or wakes the module (R422, R426). -/
def State.requestWake (s : State) (o : WakeOut) : State :=
  if s.power.life != .up then s
  else if s.entering then s.cancelEntry.setF PWR_CTL_TARGET 0
  else if s.asleep then s.wake o
  else s.setF PWR_CTL_TARGET 0

/-- WAKE_REQUEST (R422, R426, R427). -/
def execWakeRequest (a : Accessor) (out : WakeOut) (s : State) : Out :=
  .next (s.alwaysWrite a fun s => s.requestWake out)

/-- WAKE_TIMEOUT (R427): the step in progress has passed its limit. -/
def execWakeTimeout (step : Fin 5) (s : State) : Out :=
  onlyIf (s.power.life == .up && s.getF PWR_STAT_STATE == 4 && s.getF PWR_STAT_STEP == step) State.latchFail s

end Sys2Proof.Machine
end

