-- ==== Sys2Proof/Machine/Boot.lean ====
section
/-! DEFINITION. The event log read back (R532, R533), the Hearth states that a boot sets (R105, R108, R109, R449), and the
boot from power-on to READY (R530, R531, R537, R539). -/

namespace Sys2Proof.Machine

open Sys2Proof

/-! ### The event log (R532, R533) -/

/-- A record of the event log with its slot. -/
structure EvRec where
  pos : Nat
  ty : Nat
  persist : Bool
  seq : Nat
  time : Nat
  body : List Byte
deriving DecidableEq, Repr

def evBase : Nat := 0x3900000
def evSlots : Nat := 256 * 1024

/-- The record of a slot, when its CRC holds. -/
def State.evAt (s : State) (pos : Nat) : Option EvRec :=
  let a := evBase + 64 * pos
  if s.nnat (a + 0x3C) 4 = crc32c (bytesAt s.nbyte a 60) then
    some ⟨pos, s.nnat a 2, bitOf (s.nnat (a + 2) 2) 0, s.nnat (a + 4) 4, s.nnat (a + 8) 8, bytesAt s.nbyte (a + 0x10) 44⟩
  else none

/-- Every valid record; a slot of which no byte is listed is erased and holds none. -/
def State.evList (s : State) : List EvRec :=
  (((s.nvm.filter fun p => decide (evBase ≤ p.1) && decide (p.1 < evBase + 64 * evSlots)).map
    fun p => (p.1 - evBase) / 64).dedup).filterMap s.evAt

/-- The record with the highest `SEQ`. -/
def newest (l : List EvRec) : Option EvRec :=
  l.foldl (fun (m : Option EvRec) r => match m with
    | some x => if x.seq < r.seq then some r else some x
    | none => some r) none

/-- The head of the log from the highest valid `SEQ` (R533). -/
def State.scanLog (s : State) : State :=
  match newest s.evList with
  | some r => { s with stoker := { s.stoker with evSeq := (r.seq + 1) % 2 ^ 32, evPos := (r.pos + 1) % evSlots } }
  | none => { s with stoker := { s.stoker with evSeq := 0, evPos := 0 } }

/-- What a persistent record is about (R532): its type, and the Hearth, the group of ten, or the stack and row. -/
def EvRec.subject (r : EvRec) : Nat × Nat × Nat :=
  (r.ty, leNat (r.body.take 4), if r.ty = 0x11 then leNat ((r.body.drop 4).take 4) else 0)

/-- The rows of a stack that the log says were spared (R385). -/
def State.rowsSpared (s : State) (b : Nat) : Nat :=
  (((s.evList.filter fun r => r.ty == 0x11 && leNat (r.body.take 4) == b).map fun r => r.subject.2.2).dedup).length

/-- A record of an update, a confirmation or a fall-back (R532). -/
def State.logUpdate (s : State) (slot svn tries : Nat) : State :=
  s.logEvent 0x0030 0 (leBytes 4 slot ++ leBytes 4 svn ++ leBytes 4 tries)

/-! ### Power-on (R14, R530, R564) -/

/-- The factory fused Hearths off as for a BLN-1024-C: 32 of them, and at least 14 of each Bay left (R3). -/
def Fuses.gradeC (f : Fuses) : Bool :=
  f.hearthOff.length == 32 && decide (f.hearthOff.Nodup) && f.hearthOff.all (decide <| · < 288)
    && (List.range 16).all fun b => decide ((f.hearthOff.countP fun h => hearthBay h == b) ≤ 4)

/-- The fused-off Hearths: a module of either grade has none or 32 (R2, R3). -/
def Fuses.off (f : Fuses) : List Nat := if f.gradeC then f.hearthOff else []

/-- The factory value of `ID_PART`'s grade, held from power-on reset on (R2, R3, R6, R15). -/
def State.showGrade (s : State) : State :=
  if s.fuses.gradeC then s.setFs [(ID_PART_GRADE, 2), (ID_PART_HEARTHS_GRADE, 256)]
  else s.setFs [(ID_PART_GRADE, 1), (ID_PART_HEARTHS_GRADE, 288)]

/-- The pins that the module reads. -/
def State.pins (s : State) : List (Fld × Nat) :=
  [SVC_SIDEBAND_PWR_EN, SVC_SIDEBAND_PERST_N, SVC_SIDEBAND_MOD_RST_N].map fun f => (f, s.getF f)

/-- Every domain is reset: registers, DRAM and all that the logic holds. NVM, fuses, the facts recorded in NVM, host
memory and the 52 V input stay; outputs are released, `PWRGD_OD` as given (R14, R15, R555, R564). -/
def State.wiped (s : State) (life : Life) (pwrgd : Bool) : State :=
  let keep := s.stoker
  let z := { State.reset with
    nvm := s.nvm, fuses := s.fuses, hostMem := s.hostMem, freeCtr := s.freeCtr, irqs := s.irqs, pending := s.pending
    hostReply := s.hostReply
    flue := { State.reset.flue with wire := s.flue.wire }
    stoker := { State.reset.stoker with
      evSeq := keep.evSeq, evPos := keep.evPos, states := keep.states, pendList := keep.pendList
      clearReq := keep.clearReq, glazeMark := keep.glazeMark, busySaved := keep.busySaved }
    power := { s.power with life := life, failed := false } }
  ((z.setFs s.pins).showGrade).setOut outPwrgd pwrgd

/-- A boot stops: `ERR`, FAULT_N, READY withheld; a BOOT_FAIL event when the firmware runs; HOTRST_REQ_N when it was a
trial (R531). -/
def State.bootFail (s : State) (err step : Nat) (fw : Bool) : State :=
  let s := { s with power := { s.power with life := .bootFailed fw } }
  let s := (s.setF SEC_BOOT_ERR err).alert SVC_ALERT_BOOTERR
  let s := if fw then s.logEvent 0x0002 0 (leBytes 4 err ++ leBytes 4 step) else s
  if s.flag SEC_BOOT_TRIAL then s.setOut outHotrst true else s

/-- A step that has not completed; its limit ends it (BOOT_TIMEOUT). -/
def State.bootStuck (s : State) (step : Nat) : State := { s with power := { s.power with life := .booting step } }

/-- The firmware runs from step 4 on (R530). -/
def fwRuns (step : Nat) : Bool := decide (4 ≤ step)

/-- BOOT_TIMEOUT (R531): the boot has not reached READY. -/
def execBootTimeout (s : State) : Out :=
  match s.power.life with
  | .booting k => .next (s.bootFail 9 k (fwRuns k))
  | _ => .next s

/-! ### Hearth states (R105, R108, R109, R449) -/

/-- A repair record as the fuses hold it: none 0, else 1 + 2 × field + 4 × physical index. -/
def fuseRecord (field phys : Nat) : Nat := 1 + 2 * field + 4 * phys

/-- The records of a Hearth's fuses reach its registers. -/
def State.loadRecords (s : State) (h : Nat) : State :=
  let l := s.fuses.records.get [] h
  let s := (List.range 4).foldl (fun s i =>
    let v := l.getD i 0
    if v = 0 then s else s.setRecord h i (v / 2 % 2) 0 (v / 4)) s
  s.syncFree h

/-- The pending list forgets a Hearth (R108 step 5). -/
def State.clearPending (s : State) (h : Nat) : State :=
  { s with stoker := { s.stoker with pendList := s.stoker.pendList.set [] h [] } }

/-- The records of a Hearth that are pending, rows before columns (R108): each slot holds its physical index + 1, or 0. -/
def State.pendingSlots (s : State) (h : Nat) : List Nat :=
  (List.range 4).filter fun i => (s.stoker.pendList.get [] h).getD i 0 != 0

/-- Those that are programmed: up to the first that fails its read-back, which is left and counts as used (R108). -/
def programmed (todo : List Nat) (bad : Nat → Bool) : List Nat := todo.take ((todo.takeWhile fun i => !bad i).length + 1)

/-- Program pending records and forget the list (R108). -/
def State.programRecords (s : State) (h : Nat) (bad : Nat → Bool) : State :=
  let p := s.stoker.pendList.get [] h
  let old := s.fuses.records.get [] h
  let doing := programmed (s.pendingSlots h) bad
  let l := (List.range 4).map fun i => if doing.contains i then fuseRecord 1 (p.getD i 0 - 1) else old.getD i 0
  { s with fuses := { s.fuses with records := s.fuses.records.set [] h l } }.clearPending h

/-- The verdict of a boot's cone test. -/
def State.bootVerdict (s : State) (h : Nat) (pass : Bool) : State :=
  if pass then (s.setF (HTH_CONE_LAST h) 1).addSat (HTH_CONE_PASSES h) 1
  else (s.setF (HTH_CONE_LAST h) 2).addSat (HTH_STATE_CONE_FAIL h) 1

/-- A SPARE_PENDING Hearth is resolved (R105, R108). -/
def State.resolveSpare (s : State) (h : Nat) (bad : Nat → Bool) (testOk : Bool) : State :=
  let ok := (s.pendingSlots h).all fun i => !bad i
  let s := (s.programRecords h bad).loadRecords h
  if ok then (s.bootVerdict h testOk).noteHearth h (if testOk then hEnabled else hRetired)
  else s.noteHearth h hRetired

/-- One Hearth at boot (R105). -/
def State.bootHearth (s : State) (o : BootOut) (h : Nat) : State :=
  let rec' := s.stoker.states.get 0 h
  let has (l : List (Fin 288)) : Bool := l.any fun x => x.val == h
  if s.fuses.off.contains h then s.setF (HTH_STATE_STATE h) hFusedOff
  else
  let s := s.loadRecords h
  if has o.fuseBad then
    ({ s with stoker := { s.stoker with fuseRetired := h :: s.stoker.fuseRetired } }.clearPending h).noteHearth h hRetired
  else if rec' = hRetired then
    if s.stoker.clearReq.contains h then
      { s with stoker := { s.stoker with clearReq := s.stoker.clearReq.filter (· != h) } }.noteHearth h hQuarantined
    else s.setF (HTH_STATE_STATE h) hRetired
  else if rec' = hQuarantined then s.setF (HTH_STATE_STATE h) hQuarantined
  else if rec' = hSparePending then
    s.resolveSpare h (fun i => o.recordBad.any fun x => x.1.val == h && x.2.val == i) (!has o.coneBad && !bitOf o.glazeBad (hearthBay h))
  else s.setF (HTH_STATE_STATE h) hEnabled

/-- A marked Glaze is tested again: the mark is cleared, or each quarantined Hearth of the Bay fails and is retired
(R449). -/
def State.bootGlaze (s : State) (o : BootOut) (b : Nat) : State :=
  if !bitOf s.stoker.glazeMark b then s
  else if bitOf o.glazeBad b then
    let s := s.setBit HTH_GLZSTAT_GLAZEBAD b true
    ((List.range 18).map (18 * b + ·)).foldl (fun s h =>
      if s.hState h = hQuarantined then (s.bootVerdict h false).noteHearth h hRetired else s) s
  else { s with stoker := { s.stoker with glazeMark := s.stoker.glazeMark - 2 ^ b } }

/-- Step 6: every Hearth, the marked Glaze units, the count, and the busy times of the last record (R105, R416). -/
def State.bootHearths (s : State) (o : BootOut) : State :=
  let s := (List.range 288).foldl (fun s h => s.bootHearth o h) s
  let s := (List.range 16).foldl (fun s b => s.bootGlaze o b) s
  ((List.range 288).foldl (fun s h => s.setHearth h { s.hearth h with busy := s.stoker.busySaved.getD h 0 }) s).syncHearths

/-! ### Step 4: certificate and Seval image (R530, R535, R537, R539) -/

def factoryArea : Nat := 0x4A00000

/-- The length of a DER object: its tag, its length field and its contents. -/
def derLen (rd : Nat → Byte) (a : Nat) : Nat :=
  let n := (rd (a + 1)).toNat
  if n < 128 then 2 + n
  else 2 + (n - 128) + (List.range (n - 128)).foldl (fun v i => v * 256 + (rd (a + 2 + i)).toNat) 0

/-- The certificate in the factory area: at most 2 MiB, up to the calibration mirror. -/
def State.certBytes (s : State) : List Byte := bytesAt s.nbyte factoryArea (min (derLen s.nbyte factoryArea) (2 ^ 21))

/-- The certificate check (R539). -/
def State.checkCert (s : State) : State :=
  if shake256 s.certBytes = s.fuses.cert then s.setF SEC_IDENT_CERT_OK 1 else s.logEvent 0x0031 0 []

/-- The journal's records (R542): type, `SEQ`, block or leaf, and slot. -/
def journalBase : Nat := 0x4900000
def journalSlots : Nat := 32768

def State.journal (s : State) : List (Nat × Nat × Nat × Nat) :=
  (((s.nvm.filter fun p => decide (journalBase ≤ p.1) && decide (p.1 < journalBase + 32 * journalSlots)).map
    fun p => (p.1 - journalBase) / 32).dedup).filterMap fun i =>
      let a := journalBase + 32 * i
      if s.nnat (a + 0x1C) 4 = crc32c (bytesAt s.nbyte a 28) then some (s.nnat a 4, s.nnat (a + 4) 4, s.nnat (a + 8) 4, i)
      else none

/-- The next block to reserve (R541): the count of burnt fuses, or the block after the highest journalled one. -/
def State.nextBlock (s : State) : Nat :=
  ((s.journal.filter fun r => r.1 == 1).map fun r => r.2.2.1 + 1).foldl max s.fuses.leaf.length

/-- The image of an area, put into the format that the firmware writes (R537; log entry 19). -/
def converted (m : SevalImg) (fmt : Nat) : SevalImg :=
  let flags := SevalImg.at' m 6 2
  let flags := flags - b2n (bitOf flags 0) + (if bitOf flags 1 then 0 else 2)
  let head := m.take 4 ++ leBytes 2 fmt ++ leBytes 2 flags ++ (m.take 0x10).drop 8
  let tail := leBytes 64 (SevalImg.hash m) ++ leBytes 48 0 ++ (m.take (SevalImg.len m)).drop 0xC0
  head ++ leBytes 64 (shake512 (head ++ (tail.drop 64))) ++ tail

/-- Write an image into a config area: the area is erased first. -/
def State.putConfig (s : State) (slot : Nat) (m : List Byte) : State :=
  (s.nerase (cfgBase slot) (4 * 2 ^ 20)).nwrite (cfgBase slot) m

/-- The Seval image that a boot reads (R537): its own area's, or the other area's converted, written and recorded;
`none` when neither is readable. With no valid header no format is recorded, and the area's own decides (log entry 19).
Which older formats the firmware converts is open (log entry 2). -/
def State.readSeval (s : State) (slot : Nat) : Option (State × SevalImg) :=
  let lo := s.fwFmtMin slot
  let hi := s.fwFmtMax slot
  let m := sevalAt s.nbyte (cfgBase slot)
  let stale := (s.hdrBlock.isSome && s.bootHdr.fmt slot == 0) || !within lo hi (SevalImg.fmt m)
  if !stale then some (s, m)
  else if s.fuses.owner.isSome then none
  else
    let m := sevalAt s.nbyte (cfgBase (1 - slot))
    let (v, s) := s.fresh
    if within lo hi (SevalImg.fmt m) || (decide (SevalImg.fmt m < lo) && v % 2 == 1) then
      if SevalImg.hash m = SevalImg.digest m then
        let m := converted m hi
        some ((s.putConfig slot m).putHdr (s.bootHdr.setFmt slot hi), m)
      else some (s, m)
    else none

/-! ### The steps (R530) -/

/-- Step 5: the ports of the links that exist train; the tables follow (R340, R343, R352, R366). -/
def State.bootPorts (s : State) (o : BootOut) : State :=
  let s := (List.range 6).foldl (fun s p =>
    if dimOf s.flue.dims (p / 2) ≤ 1 || s.flue.excluded.contains (s.rank, p) then s else s.setPort' p portTraining []) s
  let s := (List.range 6).foldl (fun s p =>
    match o.ports[p]? with
    | some t => if s.portState p = portTraining && t.done then s.endTraining p t else s
    | none => s) s
  s.swapRoutes

/-- Steps 7 and 8: boot lock, the Damper and READY, with the Boot event (R14, R419, R530, R532). -/
def State.bootReady (s : State) : State :=
  let s := { s with power := { s.power with life := .up } }
  let s := (s.damperStart.setF SEC_BOOT_LOCK 1).enterReady
  let s := if s.flag SVC_SIDEBAND_PERST_N then s.cxlTrain else s
  s.logEvent 0x0001 0 (leBytes 8 (s.regAt 0x800010) ++ leBytes 32 s.stoker.meas)

/-- Steps 6 to 8. -/
def State.bootRepair (s : State) (o : BootOut) : State :=
  let s := s.bootHearths o
  if o.lateStep = 6 then s.bootStuck 6 else if o.lateStep = 7 then s.bootStuck 7 else s.bootReady

/-- Step 5: what the image sets, the stacks with their spared rows, the ports, and the retained copies (R385, R433,
R470). -/
def State.bootMemory (s : State) (o : BootOut) (slot : Nat) (m : SevalImg) : State :=
  let s := (s.applySeval m).applyTopology m
  if !o.dramOk then s.bootFail 7 5 true
  else
    let s := (List.range 16).foldl (fun s b => s.setF (MEM_STK_SPARE b) (8192 - s.rowsSpared b)) s
    let s := ((s.bootPorts o).dwrite retainedFw (s.fwBytes slot)).dwrite retainedSeval m
    if o.lateStep = 5 then s.bootStuck 5 else s.bootRepair o

/-- Step 4 (R109, R530, R533, R535, R539): straps, certificate, log, and the image with its check. -/
def State.bootFirmware (s : State) (o : BootOut) (slot : Nat) : State :=
  let s := { s with stoker := { s.stoker with meas := s.fwMeas slot } }.scanLog
  let s := (s.setF SVC_SIDEBAND_POS o.straps).checkCert
  let s := if s.flag SEC_BOOT_FELLBACK then s.logUpdate slot (s.fwSvn slot) s.bootHdr.tries else s
  match s.readSeval slot with
  | none => s.bootFail 6 4 true
  | some (s, m) =>
    let e := s.sevalErr m (s.fwFmtMin slot) (s.fwFmtMax slot)
    if e != 0 then s.bootFail e 4 true
    else if o.lateStep = 4 then s.bootStuck 4
    else (s.setF SEC_BOOT_FMT (SevalImg.fmt m)).bootMemory o slot m

/-- What step 3 shows in `SEC_BOOT` and `SEC_IDENT` (R548). `back`: this boot fell back. -/
def State.showSlot (s : State) (slot : Nat) (trial back : Bool) : State :=
  s.setFs [(SEC_BOOT_TRIAL, b2n trial), (SEC_BOOT_SLOT, slot), (SEC_BOOT_FELLBACK, b2n back), (SEC_BOOT_TRIES, s.bootHdr.tries),
    (SEC_BOOT_SVN_RUN, s.fwSvn slot), (SEC_BOOT_SVN_FUSE, s.fuseSvn), (SEC_BOOT_BOOTS, s.bootHdr.boots),
    (SEC_IDENT_OWNER, b2n s.fuses.owner.isSome), (SEC_IDENT_BLOCKS, 4096 - s.nextBlock)]

/-- The boot (R530): a step that does not complete leaves it there; a step that fails ends it. -/
def State.boot (s : State) (o : BootOut) : State :=
  let s := s.wiped (.booting 1) false
  if !o.railsOk || o.lateStep = 1 then s
  else
    let s := s.setOut outPwrgd true
    if !o.pllOk || o.lateStep = 2 then s.bootStuck 2
    else if !o.nvmOk then s.bootFail 1 3 false
    else match s.chooseSlot with
      | none => s.bootFail 2 3 false
      | some (t, slot, trial) =>
        let t := t.showSlot slot trial (s.bootHdr.pend && !trial)
        if o.lateStep = 3 then t.bootStuck 3 else t.bootFirmware o slot

/-! ### What starts a boot (R552, R553, R561, R563, R564) -/

/-- `PWR_EN` is high, the input is good and the 100 ms have passed: the rails ramp; the boot follows unless `MOD_RST_N`
holds the logic in reset (R561). -/
def State.powerUp (s : State) (o : BootOut) : State :=
  if s.power.inputOk && !s.power.lowHold && s.flag SVC_SIDEBAND_PWR_EN && s.power.life == .off then
    if s.flag SVC_SIDEBAND_MOD_RST_N then s.boot o else s.wiped .inReset o.railsOk
  else s

/-- POWER_ON_RESET (R530, R561, R563): `PWR_EN` rises in OFF, where the rise may be held; or `MOD_RST_N` is released. -/
def execPowerOnReset (out : BootOut) (s : State) : Out :=
  match s.power.life with
  | .off => .next ((s.setF SVC_SIDEBAND_PWR_EN 1).powerUp out)
  | .inReset => .next ((s.setF SVC_SIDEBAND_MOD_RST_N 1).boot out)
  | _ => .next s

/-- INPUT_RETURN (R552, R553). -/
def execInputReturn (out : BootOut) (s : State) : Out :=
  .next ({ s with power := { s.power with inputOk := true } }.powerUp out)

/-- PWR_EN_HOLD_END (R563). -/
def execPwrEnHoldEnd (out : BootOut) (s : State) : Out :=
  onlyIf s.power.lowHold (fun s => { s with power := { s.power with lowHold := false } }.powerUp out) s

end Sys2Proof.Machine
end

