-- ==== Sys2Proof/Machine/Board.lean ====
section
/-! DEFINITION. What the board does to the module: power-down, lockout and shutdown (R553, R562, R563), `MOD_RST_N` (R564)
and `PERST_N` (R561, R565, R566). -/

namespace Sys2Proof.Machine

open Sys2Proof

/-- Every rail goes off; `PWR_EN` must now stay low for 100 ms (R553, R563). -/
def State.railsOff (s : State) : State :=
  let s := s.wiped .off false
  { s with power := { s.power with lowHold := true } }

/-- POWER_DOWN (R562): `PWR_EN` falls, from any state; the ACTIVE ports flood LINKSTATE down first, unless
the module has stopped (R31). -/
def execPowerDown (s : State) : Out :=
  let s := s.setF SVC_SIDEBAND_PWR_EN 0
  .next (if s.power.life = .off then { s with power := { s.power with lowHold := true } } else (if s.stopped then s else s.floodDown).railsOff)

/-- The input leaves its range (R553): the rails go off at once, with nothing sent. -/
def State.lockout (s : State) : State :=
  let s := { s with power := { s.power with inputOk := false } }
  if s.power.life = .off then s else s.railsOff

/-- UNDERVOLTAGE_LOCKOUT (R553). -/
def execUndervoltageLockout (s : State) : Out := .next s.lockout
/-- OVERVOLTAGE_SHUTDOWN (R553). -/
def execOvervoltageShutdown (s : State) : Out := .next s.lockout

/-- MOD_RST_ASSERT (R564): every domain is reset while the rails stay up; in OFF only the level is noted. -/
def execModRstAssert (s : State) : Out :=
  let s := s.setF SVC_SIDEBAND_MOD_RST_N 0
  .next (if s.power.life = .off then s else s.wiped .inReset (s.outOn outPwrgd))

/-- The CXL controller is reset and the link goes down (R565). -/
def State.perstLink (s : State) : State :=
  if s.flag CXL_LINK_UP then (s.addSat CXL_LINK_DOWNS 1).cxlDown else s.cxlDown

/-- What `PERST_N` starts once the module is up: a wake and then a warm reset when it sleeps, else a warm reset; a wake
in progress goes on (R422, R426, R565, R566). -/
def State.perst (s : State) (o : WakeOut) : State :=
  let s := s.perstLink
  if s.power.life != .up then s
  else if s.asleep then
    let s := s.wake o
    if s.getF PWR_STAT_STATE = 0 && s.power.life = .up then s.warmReset else s
  else if s.getF PWR_STAT_STATE = 4 then s
  else s.cancelEntry.warmReset

/-- PERST_ASSERT (R422, R565, R566). -/
def execPerstAssert (out : WakeOut) (s : State) : Out :=
  onlyIf (s.flag SVC_SIDEBAND_PERST_N) (fun s => (s.setF SVC_SIDEBAND_PERST_N 0).perst out) s

/-- PERST_RELEASE (R561, R565): the link trains, unless the CXL controller is off or a recovery or warm reset has yet to
reach the step that trains it. -/
def execPerstRelease (s : State) : Out :=
  let s := s.setF SVC_SIDEBAND_PERST_N 1
  .next (if s.power.life = .up && s.getF PWR_STAT_STATE != 2 && !s.flag CXL_LINK_UP
      && !(s.recov.isSome && s.getF RST_STAT_STEP = 2) then s.cxlTrain else s)

end Sys2Proof.Machine
end

