-- ==== Sys2Proof/Machine/HostLink.lean ====
section
/-! DEFINITION. The host link: CXL.mem accesses (R373, R375, R512–R516), host memory under the module's cache and
translations (R518, R519), the HDM decoder (R512), IDE (R520), function level reset (R506) and link down (R522). -/

namespace Sys2Proof.Machine

open Sys2Proof

/-! ### The HDM window (R512) -/

/-- A host address lies in the committed window. -/
def State.inWindow (s : State) (a : Nat) : Bool := decide (s.host.hdmBase ≤ a) && decide (a < s.host.hdmBase + s.host.hdmSize)

/-- CXL.mem requests are decoded: the link is up and the decoder committed. -/
def State.hdmServes (s : State) : Bool := s.linkServes && s.flag CXL_LINK_HDM

/-- DRAM can be reached: the module is not asleep (R421). -/
def State.dramAwake (s : State) : Bool := s.getF PWR_STAT_STATE == 0 || s.getF PWR_STAT_STATE == 3

/-- Zero data with the poison indication, counted (R516, R520, R521). -/
def State.poisonReply (s : State) : State :=
  { s with hostReply := some ⟨List.replicate 64 0, true⟩ }.addSat CXL_ERR_POISON 1

/-- A line is granted to the host (R514): it becomes the filter's most recent one, and a full filter gives up its
least recent. -/
def State.grantLine (s : State) (line : Nat) : State :=
  let f := s.host.filter.filter (· != line)
  let f := (if 524288 ≤ f.length then f.tail else f) ++ [line]
  { s with host := { s.host with filter := f } }.setF CXL_SF_OCC f.length

/-- A read of the line at a PA (R514, R516). -/
def State.readLine (s : State) (pa : Nat) : State :=
  let a := pa / 64 * 64
  if s.badLines.get false (a / 64) then (s.ueFound a false 0).poisonReply
  else { s with hostReply := some ⟨bytesAt s.dbyte a 64, false⟩ }.grantLine (a / 64)

/-- A read while the DRAM sleeps: the spec gives its answer no value (log entry 2). -/
def State.sleepReply (s : State) : State :=
  let (v, s) := s.fresh
  { s with hostReply := some ⟨leBytes 64 v, bitOf v 512⟩ }

/-- HOST_MEM_READ (R381, R512, R514, R516, R520, R521): the whole line of an address. -/
def execHostMemRead (addr : Nat) (s : State) : Out :=
  if !s.hdmServes then .next s
  else if !s.ideOk || s.shut then .next s.poisonReply
  else if !s.inWindow addr then .fault (.hostAddress addr)
  else if !s.dramAwake then .next s.sleepReply
  else .next (s.readLine (addr - s.host.hdmBase))

/-- A host write of DRAM: bytes land, and lines covered in full heal; what the host caches stays its own (R373, R381). -/
def State.hostPut (s : State) (pa : Nat) (bs : List Byte) : State :=
  { s with
    dram := Mem.write memBlank s.dram pa bs
    badLines := s.badLines.filter fun p => !covers pa bs.length p.1 }

/-- A host write within one line: discarded in the Saggar regions, and when it is partial and its merge finds the line
uncorrectable, which is reported as a host read's is; then the queues that watch the line wake (R252, R373, R375, R381). -/
def State.writeLine (s : State) (pa : Nat) (bs : List Byte) : State :=
  if s.saggar ≤ pa then s.addSat (MEM_ERR_HOSTREJ (s.stackAddr pa).1) 1
  else if s.badLines.get false (pa / 64) && decide (bs.length < 64) then s.ueFound (pa / 64 * 64) false 0
  else (s.hostPut pa bs).snoopWrite pa bs.length

/-- A write while the DRAM sleeps: whether it lands is open (log entry 2). -/
def State.sleepWrite (s : State) (pa : Nat) (bs : List Byte) : State :=
  let (v, s) := s.fresh
  if v % 2 = 1 && decide (pa < s.saggar) then s.hostPut pa bs else s

/-- HOST_MEM_WRITE (R373, R375, R381, R512, R520, R521). -/
def execHostMemWrite (addr : Nat) (data : List Byte) (s : State) : Out :=
  let bs := data.take (64 - addr % 64)
  let pa := addr - s.host.hdmBase
  if !s.hdmServes then .next s
  else if !s.ideOk then .next (s.addSat CXL_ERR_REFUSED 1)
  else if s.shut then .next (s.addSat CXL_ERR_DISCARD 1)
  else if !s.inWindow addr then .fault (.hostAddress addr)
  else if !s.dramAwake then .next (s.sleepWrite pa bs)
  else .next (s.writeLine pa bs)

/-- HDM_COMMIT (R512): base and size are multiples of 256 MiB, up to 1 TiB, one way; any other setting fails. -/
def execHdmCommit (base size ways : Nat) (s : State) : Out :=
  .next (s.barWrite fun s =>
    if base % 2 ^ 28 = 0 && size % 2 ^ 28 = 0 && decide (0 < size) && decide (size ≤ 2 ^ 40) && ways = 1 then
      { s with host := { s.host with hdmBase := base, hdmSize := size } }.setF CXL_LINK_HDM 1
    else s)

/-! ### Host memory (R518, R519) -/

/-- The host writes a line of its own memory. -/
def State.hostLine (s : State) (addr : Nat) (data : List Byte) : State :=
  { s with hostMem := Mem.write memBlank s.hostMem (addr / 64 * 64) (data.take 64) }

/-- The queues whose watch line is a held line of host memory. -/
def State.watchers (s : State) (line : Nat) : List Nat :=
  (List.range 64).filter fun q => s.live q && match s.watchAt q with
    | some (.host, a) => a / 64 == line
    | _ => false

/-- A held watch line is invalidated: its queues read it again for Shared. -/
def State.snooped (s : State) (line : Nat) : State :=
  let s := { s with host := { s.host with watch := s.host.watch.filter (· != line) } }
  (s.watchers line).foldl State.readWatch s

/-- SNOOP_INVALIDATION (R252, R519): the host has written a line; one that the module holds is invalidated. -/
def execSnoopInvalidation (addr : Nat) (data : List Byte) (s : State) : Out :=
  let s := s.hostLine addr data
  onlyIf (s.running && s.linkServes && s.ideOk && s.host.watch.contains (addr / 64)) (fun s => s.snooped (addr / 64)) s

/-- ATS_INVALIDATION (R517, R518): the cached translation goes; a later access asks again, and `granted` says what the
host answers then. -/
def execAtsInvalidation (c : Fin 16) (page : Nat) (granted : Bool) (s : State) : Out :=
  let k := (c.val, page)
  let deny := s.host.atsDeny.filter (· != k)
  onlyIf s.linkServes (fun s => { s with host := { s.host with
    atc := s.host.atc.filter (· != k), atsDeny := if granted then deny else deny ++ [k] } }) s

/-! ### Link encryption (R520) -/

/-- IDE_KEY_PROGRAM (R520): stream 0 CXL.cachemem, stream 1 CXL.io; the session's key is the one that SECURITY
provisions. -/
def execIdeKeyProgram (stream : Fin 2) (s : State) : Out :=
  onlyIf (s.linkServes && s.seval.psk.any fun k => keyUnwraps k.2) (fun s =>
    let h := if stream.val = 0 then { s.host with ideMem := true } else { s.host with ideIo := true }
    { s with host := h }.setF CXL_LINK_IDE (b2n (h.ideMem && h.ideIo))) s

/-! ### Function level reset (R506, R522) -/

/-- A reset of VF(c + 1): at once, or at READY when it meets a recovery (R506, R522). -/
def State.flr (s : State) (c : Nat) : State :=
  match s.recov with
  | some r => { s with recov := some { r with flrPending := r.flrPending ++ [c] } }
  | none => s.flrEnd c

/-- FLR (R506). -/
def execFlr (c : Fin 16) (s : State) : Out := onlyIf (s.linkServes && s.vfOn c) (fun s => s.flr c) s

/-- FLR_TIMEOUT (R506): an engine is still busy for the context at 90 ms; recovery with cause HOST completes it. -/
def execFlrTimeout (c : Fin 16) (s : State) : Out :=
  onlyIf (s.running && s.vfOn c) (fun s => s.cause 7 [] [c] none none) s

/-! ### Link down (R522) -/

/-- CXL_LINK_DOWN (R520, R522): a link down that the module did not cause. -/
def execCxlLinkDown (s : State) : Out :=
  onlyIf s.linkServes (fun s => ((s.addSat CXL_LINK_DOWNS 1).cxlDown).plainCause 8) s

end Sys2Proof.Machine
end

