-- ==== Sys2Proof/Machine/Service.lean ====
section
/-! DEFINITION. The Stoker's service side: signatures and attestation (R540–R543), firmware update (R545), service requests
(R546), the mailbox (R547), and the event log's reclaim (R533). -/

namespace Sys2Proof.Machine

open Sys2Proof

/-! ### Status codes (R546) -/

def svcOk : Nat := 0
def svcBad : Nat := 1
def svcBusy : Nat := 2
def svcExhausted : Nat := 3
def svcNotAllowed : Nat := 4
def svcAuthFailed : Nat := 5

/-- What a request's action answers: the state, the status and the response body. -/
abbrev Reply := State × Nat × List Byte

/-- A request that is refused with no effect. -/
def State.refuse (s : State) (status : Nat) : Reply := (s, status, [])

/-! ### Leaves and signatures (R541, R542) -/

/-- The newest journal record's number and slot. -/
def State.journalHead (s : State) : Nat × Nat :=
  match s.journal.foldl (fun (m : Option (Nat × Nat)) r => match m with
    | some x => if x.1 < r.2.1 then some (r.2.1, r.2.2.2) else some x
    | none => some (r.2.1, r.2.2.2)) none with
  | some x => ((x.1 + 1) % 2 ^ 32, (x.2 + 1) % journalSlots)
  | none => (0, 0)

/-- Append a journal record; the ring's next block is erased as the head enters it (R542). -/
def State.appendJournal (s : State) (ty value hash : Nat) : State :=
  let (seq, pos) := s.journalHead
  let a := journalBase + 32 * pos
  let s := if pos % 2048 = 0 then s.nerase a 0x10000 else s
  let b := leBytes 4 ty ++ leBytes 4 seq ++ leBytes 4 value ++ leBytes 16 hash
  s.nwrite a (b ++ leBytes 4 (crc32c b))

/-- Reserve a block of 256 leaves (R541); `none` when the key is exhausted. -/
def State.reserve (s : State) : Option State :=
  let k := s.nextBlock
  if 4095 < k then none
  else
    let s := s.appendJournal 1 k 0
    let s := { s with
      fuses := { s.fuses with leaf := s.fuses.leaf ++ [k] }
      stoker := { s.stoker with nextLeaf := 256 * k } }
    some (s.setFs [(SEC_IDENT_LEAVES, 256), (SEC_IDENT_BLOCKS, 4095 - k)])

/-- A leaf to sign with: the reserved block's next, or a new block's first. -/
def State.leafReady (s : State) : Option State := if s.getF SEC_IDENT_LEAVES = 0 then s.reserve else some s

/-- Sign a hash with the next leaf: its SIGN record comes first. -/
def State.sign (s : State) (hash : Nat) : State × List Byte :=
  let leaf := s.stoker.nextLeaf
  let s := s.appendJournal 2 leaf hash
  let s := { s with stoker := { s.stoker with nextLeaf := leaf + 1, lastSign := some s.now } }
  (s.setF SEC_IDENT_LEAVES (s.getF SEC_IDENT_LEAVES - 1), leBytes 2820 (xmssSign leaf hash))

/-! ### Attestation (R539, R543) -/

/-- The signed part of a report. -/
def State.reportHead (s : State) (nonce : List Byte) : List Byte :=
  leBytes 4 0x54535441 ++ leBytes 2 1 ++ leBytes 2 0 ++ nonce ++ leBytes 64 s.stoker.meas ++ leBytes 64 s.seval.hash
    ++ leBytes 8 (s.regAt 0x800010) ++ leBytes 4 (s.regAt 0) ++ leBytes 4 (s.regAt 8)
    ++ leBytes 4 (s.fuseSvn + (if s.fuses.owner.isSome then 2 ^ 31 else 0)) ++ leBytes 4 s.stoker.nextLeaf
    ++ leBytes 64 (s.fuses.owner.getD 0)

/-- At most one report a second. -/
def State.signedLately (s : State) : Bool := s.stoker.lastSign.any fun t => decide (s.now < t + 10 ^ 9)

/-- ATTEST: refused without a good certificate; BUSY within a second of the last report; EXHAUSTED without a leaf. -/
def State.attest (s : State) (nonce : List Byte) : Reply :=
  if nonce.length != 32 then s.refuse svcBad
  else if !s.flag SEC_IDENT_CERT_OK then s.refuse svcNotAllowed
  else if s.signedLately then s.refuse svcBusy
  else match s.leafReady with
    | none => (s.setF SEC_IDENT_EXHAUSTED 1).refuse svcExhausted
    | some s =>
      let head := s.reportHead nonce
      let r := s.sign (shake256 head)
      (r.1, svcOk, head ++ r.2)

/-- GET_CERT (R539). -/
def State.getCert (s : State) : Reply :=
  if s.flag SEC_IDENT_CERT_OK then (s, svcOk, s.certBytes) else s.refuse svcNotAllowed

/-- Records of the event log from a number on, in order (R533). -/
def State.events (s : State) (seq count : Nat) : Reply :=
  let l := (s.evList.filter fun r => decide (seq ≤ r.seq)).mergeSort fun a b => decide (a.seq ≤ b.seq)
  (s, svcOk, (l.take count).flatMap fun r => bytesAt s.nbyte (evBase + 64 * r.pos) 64)

/-! ### Service requests (R546) -/

/-- The Stoker serves the SVC port: awake, or after a boot that failed with the firmware running (R421, R531). -/
def State.svcUp (s : State) : Bool :=
  (s.power.life == .up && (s.getF PWR_STAT_STATE == 0 || s.getF PWR_STAT_STATE == 1 || s.getF PWR_STAT_STATE == 3))
    || s.power.life == .bootFailed true

/-- Which requests must be signed: none, those marked A, or always. -/
inductive SigRule where
  | free
  | marked
  | always
deriving DecidableEq, Repr

/-- The signature is required. -/
def State.mustSign (s : State) : SigRule → Bool
  | .free => false
  | .marked => s.seval.svcAuth
  | .always => true

/-- A request's 32-byte header. -/
def SvcHdr.bytes (h : SvcHdr) (cmd len : Nat) : List Byte :=
  leBytes 4 0x31435653 ++ leBytes 2 cmd ++ leBytes 2 (b2n h.signed) ++ leBytes 4 h.seq ++ leBytes 4 len ++ leBytes 8 h.octr
    ++ leBytes 8 0

/-- An owner's signature holds over header and body: the key hashes to the enrolled value and verifies (R540, R546; log
entry 21: `sig` holds the key and the signature). -/
def State.ownerSigned (s : State) (h : SvcHdr) (cmd : Nat) (body : List Byte) : Bool :=
  let key := h.sig.getD 0 0
  s.fuses.owner == some (shake512 (leBytes 68 key))
    && xmssOk key (shake256 (SvcHdr.bytes h cmd body.length ++ body)) (h.sig.getD 1 0)

/-- The header's `OCTR` is recorded before the request acts. -/
def State.takeOctr (s : State) (h : SvcHdr) : State :=
  if h.signed then s.putHdr { s.bootHdr with octr := h.octr % 2 ^ 64 } else s

/-- Authenticated: unsigned where that is enough, or signed by the owner with a counter above the last. -/
def State.authOk (s : State) (rule : SigRule) (h : SvcHdr) (cmd : Nat) (body : List Byte) : Bool :=
  if h.signed then s.ownerSigned h cmd body && decide (s.bootHdr.octr < h.octr) else !s.mustSign rule

/-- Keep a response under its sequence number. -/
def State.respond (h : SvcHdr) (r : Reply) : State :=
  { r.1 with stoker := { r.1.stoker with replies := (h.seq, r.2.1, r.2.2) :: r.1.stoker.replies } }

/-- One request: a repeated number gets its stored response; else it is authenticated and acted on. -/
def State.service (s : State) (rule : SigRule) (h : SvcHdr) (cmd : Nat) (body : List Byte) (act : State → Reply) : Out :=
  if !s.svcUp || s.stoker.replies.any (fun r => r.1 == h.seq) then .next s
  else if s.authOk rule h cmd body then .next (State.respond h (act (s.takeOctr h)))
  else .next (State.respond h (s.refuse svcAuthFailed))

/-! ### Firmware update (R545) -/

/-- The slot that is not confirmed. -/
def State.spareSlot (s : State) : Nat := 1 - s.bootHdr.slot

/-- The bytes that have arrived cover a length. -/
def spansCover (len : Nat) (l : List (Nat × Nat)) : Bool :=
  (l.mergeSort fun a b => decide (a.1 ≤ b.1)).foldl (fun (n : Nat) x => if x.1 ≤ n then max n (x.1 + x.2) else n) 0 == len

/-- UPDATE_BEGIN: BUSY while an image awaits its trial; the spare slot is erased and its config area marked stale. -/
def State.updateBegin (s : State) (len : Nat) : Reply :=
  if s.bootHdr.pend then s.refuse svcBusy
  else if 24 * 2 ^ 20 < len || len = 0 then s.refuse svcBad
  else
    let x := s.spareSlot
    let s := (s.nerase (slotBase x) (24 * 2 ^ 20)).putHdr ({ s.bootHdr with pend := false }.setFmt x 0)
    ({ s with stoker := { s.stoker with updLen := some len, updSpans := [] } }, svcOk, [])

/-- UPDATE_DATA: at most 8,192 bytes inside the image. -/
def State.updateData (s : State) (offset : Nat) (data : List Byte) : Reply :=
  match s.stoker.updLen with
  | none => s.refuse svcNotAllowed
  | some len =>
    if 8192 < data.length || len < offset + data.length then s.refuse svcBad
    else
      let s := s.nwrite (slotBase s.spareSlot + offset) data
      ({ s with stoker := { s.stoker with updSpans := (offset, data.length) :: s.stoker.updSpans } }, svcOk, [])

/-- UPDATE_END: the whole image is there and the slot is accepted by R528; then it awaits its trial. -/
def State.updateEnd (s : State) : Reply :=
  match s.stoker.updLen with
  | none => s.refuse svcNotAllowed
  | some len =>
    let x := s.spareSlot
    if !spansCover len s.stoker.updSpans || !s.fwOk x then s.refuse svcBad
    else
      let s := s.putHdr ({ s.bootHdr with pend := true, tries := 0 }.setSvn x (s.fwSvn x))
      let s := { s with stoker := { s.stoker with updLen := none, updSpans := [] } }
      ((s.setF SEC_BOOT_TRIES 0).logUpdate x (s.fwSvn x) 0, svcOk, [])

/-- CONFIRM: only while a trial runs; then the header, and the security-version fuses up to the image's version (R529). -/
def State.confirm (s : State) : Reply :=
  if !s.flag SEC_BOOT_TRIAL || s.power.life != .up then s.refuse svcNotAllowed
  else
    let x := s.getF SEC_BOOT_SLOT
    let svn := s.fwSvn x
    let h := { s.bootHdr with slot := x, pend := false, tries := 0, fellback := false }
    let s := s.putHdr (h.setFmt (1 - x) 0)
    let s := { s with fuses := { s.fuses with svn := max s.fuses.svn (min svn 64) } }
    ((s.setFs [(SEC_BOOT_TRIAL, 0), (SEC_BOOT_TRIES, 0), (SEC_BOOT_SVN_FUSE, s.fuseSvn)]).logUpdate x svn 0, svcOk, [])

/-- UPDATE_BEGIN (R545, R546). -/
def execUpdateBegin (h : SvcHdr) (len : Nat) (s : State) : Out :=
  s.service .free h 0x01 (leBytes 4 len) fun s => s.updateBegin len
/-- UPDATE_DATA (R545, R546). -/
def execUpdateData (h : SvcHdr) (offset : Nat) (data : List Byte) (s : State) : Out :=
  s.service .free h 0x02 (leBytes 4 offset ++ data) fun s => s.updateData offset data
/-- UPDATE_END (R528, R545, R546). -/
def execUpdateEnd (h : SvcHdr) (s : State) : Out := s.service .marked h 0x03 [] State.updateEnd
/-- CONFIRM (R529, R545, R546). -/
def execConfirm (h : SvcHdr) (s : State) : Out := s.service .marked h 0x04 [] State.confirm

/-! ### CONFIG_WRITE (R535, R546) -/

/-- The slot whose area a configuration is written to. -/
def State.configSlot (s : State) : Nat := if s.bootHdr.pend then s.spareSlot else s.getF SEC_BOOT_SLOT

/-- The whole image has arrived: it is checked against the firmware that will read it, and written (R535, R546). -/
def State.configDone (s : State) (m : List Byte) : Reply :=
  let x := s.configSlot
  if s.sevalErr m (s.fwFmtMin x) (s.fwFmtMax x) != 0 then s.refuse svcBad
  else ((s.putConfig x m).putHdr (s.bootHdr.setFmt x (SevalImg.fmt m)), svcOk, [])

/-- A piece: one of another length begins a new image. -/
def State.configPiece (s : State) (total offset : Nat) (data : List Byte) : Reply :=
  if 4 * 2 ^ 20 < total || total = 0 || 8192 < data.length || total < offset + data.length then s.refuse svcBad
  else
    let fresh := s.stoker.cfgLen != total
    let old := if fresh then [] else s.stoker.cfgBytes
    let spans := (offset, data.length) :: (if fresh then [] else s.stoker.cfgSpans)
    let bytes := Mem.write memBlank old offset data
    if spansCover total spans then
      let s := { s with stoker := { s.stoker with cfgLen := 0, cfgSpans := [], cfgBytes := [] } }
      s.configDone (Mem.readN memBlank bytes 0 total)
    else ({ s with stoker := { s.stoker with cfgLen := total, cfgSpans := spans, cfgBytes := bytes } }, svcOk, [])

/-- CONFIG_WRITE (R535, R546). -/
def execConfigWrite (h : SvcHdr) (total offset : Nat) (data : List Byte) (s : State) : Out :=
  s.service .marked h 0x05 (leBytes 4 total ++ leBytes 4 offset ++ data) fun s => s.configPiece total offset data

/-! ### Identity and repairs (R453, R540, R546) -/

/-- ATTEST (R541–R543). -/
def execAttest (h : SvcHdr) (nonce : List Byte) (s : State) : Out := s.service .free h 0x06 nonce fun s => s.attest nonce
/-- GET_CERT (R539, R546). -/
def execGetCert (h : SvcHdr) (s : State) : Out := s.service .free h 0x07 [] State.getCert
/-- READ_EVENTS (R533, R546): up to 128 records. -/
def execReadEvents (h : SvcHdr) (seq : Nat) (s : State) : Out :=
  s.service .free h 0x08 (leBytes 4 seq) fun s => s.events seq 128

/-- CLEAR_RETIRE (R453): recorded; refused for a Hearth fused off or retired because of a fuse record. -/
def State.clearRetire (s : State) (h : SvcHdr) (hearth : Nat) : Reply :=
  if 288 ≤ hearth then s.refuse svcBad
  else if s.hState hearth = hFusedOff || s.stoker.fuseRetired.contains hearth then s.refuse svcNotAllowed
  else if s.hState hearth != hRetired then s.refuse svcBad
  else
    let s := s.logEvent 0x0012 1 (leBytes 4 hearth ++ leBytes 8 h.octr)
    ({ s with stoker := { s.stoker with clearReq := s.stoker.clearReq.filter (· != hearth) ++ [hearth] } }, svcOk, [])

/-- Without an enrolled owner a request that is always signed by the owner is refused with NOT_ALLOWED (R546). -/
def State.ownerService (s : State) (h : SvcHdr) (cmd : Nat) (body : List Byte) (act : State → Reply) : Out :=
  if s.fuses.owner.isSome then s.service .always h cmd body act
  else s.service .free { h with signed := false } cmd body fun s => s.refuse svcNotAllowed

/-- CLEAR_RETIRE (R453, R546). -/
def execClearRetire (h : SvcHdr) (hearth : Nat) (s : State) : Out :=
  s.ownerService h 0x09 (leBytes 4 hearth) fun s => s.clearRetire h hearth

/-- ENROLL: once (R540). -/
def State.enroll (s : State) (key : List Byte) : Reply :=
  if key.length != 68 then s.refuse svcBad
  else if s.fuses.owner.isSome then s.refuse svcNotAllowed
  else ({ s with fuses := { s.fuses with owner := some (shake512 key) } }.setF SEC_IDENT_OWNER 1, svcOk, [])

/-- ENROLL (R540, R546). -/
def execEnroll (h : SvcHdr) (key : List Byte) (s : State) : Out := s.service .free h 0x0A key fun s => s.enroll key

/-- WRAP_PSK: a 256-bit key, wrapped. -/
def State.wrapPsk (s : State) (key : List Byte) : Reply :=
  if key.length != 32 then s.refuse svcBad else (s, svcOk, leBytes 40 (keyWrap (leNat key)))

/-- WRAP_PSK (R546). -/
def execWrapPsk (h : SvcHdr) (key : List Byte) (s : State) : Out := s.service .always h 0x0B key fun s => s.wrapPsk key

/-! ### The mailbox (R547, R548) -/

/-- A request goes out: `GO`, `CMD`, `LEN`; `BUSY` until its answer. -/
def State.submit (s : State) (cmd len : Nat) : State :=
  s.setFs [(STK_MBCTL_GO, 1), (STK_MBCTL_CMD, cmd), (STK_MBCTL_LEN, len), (STK_MBSTAT_BUSY, 1)]

/-- The Stoker posts its answer. -/
def State.post (r : Reply) : State :=
  let s := { r.1 with mbResp := Mem.write memBlank r.1.mbResp 0 (r.2.2.take 65536) }
  (s.setFs [(STK_MBSTAT_RESULT, r.2.1), (STK_MBSTAT_RLEN, min r.2.2.length 65536), (STK_MBSTAT_BUSY, 0), (STK_MBCTL_GO, 0)]).irq 0 67

/-- The Stoker acts on the request that waits; one longer than the buffer is malformed. -/
def State.mailboxAct (s : State) (act : State → Nat → Reply) : State :=
  let len := s.getF STK_MBCTL_LEN
  State.post (if 65536 < len then s.refuse svcBad else act s len)

/-- A mailbox command: the request that waits with this code is acted on; a write during another is discarded; else PF0
submits it and it is acted on. -/
def State.mailbox (s : State) (cmd len : Nat) (act : State → Nat → Reply) : Out :=
  if s.flag STK_MBSTAT_BUSY then
    onlyIf (s.power.life == .up && !s.shut && s.getF STK_MBCTL_CMD == cmd) (fun s => s.mailboxAct act) s
  else .next (s.barWrite fun s => (s.submit cmd len).mailboxAct act)

/-- A byte run of the request buffer. -/
def State.request (s : State) (off n : Nat) : List Byte := Mem.readN memBlank s.mbReq off n

/-- GET_INFO (R547). -/
def execGetInfo (len : Nat) (s : State) : Out :=
  s.mailbox 0x01 len fun s _ =>
    (s, svcOk, leBytes 64 s.stoker.meas ++ leBytes 8 (s.regAt 0x800010) ++ leBytes 4 (s.regAt 0x800018) ++ leBytes 64 s.seval.hash)
/-- MAILBOX_GET_CERT (R539, R547). -/
def execMailboxGetCert (len : Nat) (s : State) : Out := s.mailbox 0x02 len fun s _ => s.getCert
/-- MAILBOX_ATTEST (R543, R547): allowed by `HOST_ATTEST`. -/
def execMailboxAttest (len : Nat) (s : State) : Out :=
  s.mailbox 0x03 len fun s n => if s.seval.hostAttest then s.attest (s.request 0 n) else s.refuse svcNotAllowed
/-- MAILBOX_READ_EVENTS (R533, R547): a start number and a count of at most 1,000, four bytes each. -/
def execMailboxReadEvents (len : Nat) (s : State) : Out :=
  s.mailbox 0x04 len fun s n =>
    let count := leNat (s.request 4 4)
    if n != 8 || 1000 < count then s.refuse svcBad else s.events (leNat (s.request 0 4)) count

/-! ### Reclaim (R416, R533) -/

/-- Blocks of the event log that hold a record, oldest first: block and its lowest number. -/
def State.logBlocks (s : State) : List (Nat × Nat) :=
  let l := s.evList
  ((((l.map fun r => r.pos / 1024).dedup).map fun b =>
    (b, ((l.filter fun r => r.pos / 1024 == b).map (·.seq)).foldl min (2 ^ 32))).mergeSort fun x y => decide (x.2 ≤ y.2))

/-- Erased blocks. -/
def State.erasedBlocks (s : State) : Nat :=
  256 - ((s.nvm.filter fun p => decide (evBase ≤ p.1) && decide (p.1 < evBase + 64 * evSlots)).map
    fun p => (p.1 - evBase) / 65536).dedup.length

/-- Copy a persistent record to the head with a new number. -/
def State.copyEvent (s : State) (r : EvRec) : State :=
  let s := s.nwrite (eventAddr s.stoker.evPos) (eventBytes r.ty 1 s.stoker.evSeq r.time r.body)
  { s with stoker := { s.stoker with evSeq := (s.stoker.evSeq + 1) % 2 ^ 32, evPos := (s.stoker.evPos + 1) % evSlots } }

/-- Reclaim a block: its persistent records that no later one supersedes move to the head; then it is erased. -/
def State.reclaim (s : State) (b : Nat) : State :=
  let l := s.evList
  let keep := (l.filter fun r => r.pos / 1024 == b && r.persist
    && !l.any fun x => x.persist && decide (r.seq < x.seq) && x.subject == r.subject)
  let s := (keep.mergeSort fun x y => decide (x.seq ≤ y.seq)).foldl State.copyEvent s
  s.nerase (evBase + 65536 * b) 65536

/-- EVENT_LOG_RECLAIM (R533): the supply of erased blocks is down to four. -/
def execEventLogReclaim (s : State) : Out :=
  match s.logBlocks.head? with
  | some b => onlyIf (s.stokerUp && decide (s.erasedBlocks ≤ 4)) (fun s => s.reclaim b.1) s
  | none => .next s

end Sys2Proof.Machine
end

