-- ==== Sys2Proof/Machine/HostRegs.lean ====
section
/-! DEFINITION. Writes that the host makes to the module's registers (R11–R13, R508, R509): those with an action of their
own, each as one operation that its own command and REGISTER_WRITE share, and the rest by their access codes. -/

namespace Sys2Proof.Machine

open Sys2Proof

/-! ### Which registers answer (R245, R421, R508, R509) -/

/-- Registers outside the main logic, or of the Stoker and the CXL controller: BANKED leaves them powered (R26, R421). -/
def powered (off : Nat) : Bool :=
  [(0x1000, 0x2000), (0x300800, 0x301800), (0x400000, 0x410000), (0x604000, 0x605000), (0x700000, 0x800000),
    (0x800000, 0x900000)].any fun r => decide (r.1 ≤ off) && decide (off < r.2)

/-- A PF0 write at an offset; one to a register without power is lost, since its saved value comes back (R428). -/
def State.pf0Write (s : State) (off : Nat) (f : State → State) : State :=
  s.barWrite fun s => if s.asleep && !powered off then s else f s

/-- A write by PF0 or by the VF of a context; a VF must be enabled and the target its own (R245, R509). -/
def State.hostWrite (s : State) (a : Accessor) (off : Nat) (own : Nat → Bool) (f : State → State) : State :=
  match a with
  | .pf0 => s.pf0Write off f
  | .vf c => s.pf0Write off fun s => if s.vfOn c && own c then f s else s
  | .i3c => s

/-! ### Queues (R249, R252, R285, R288, R480) -/

/-- The offsets of the registers that a command of their own writes. -/
def bQueCfg : Nat := 0x10000
def bQueCtl : Nat := 0x10028
def bCtxPtb : Nat := 0x20060
def bSync : Nat := 0x100000
def bPctl : Nat := 0x401004
def bConeCtl : Nat := 0x3C80
def bTrctl : Nat := 0x604004
def bRstCtl : Nat := 0x700004

/-- A field takes a written value; a reserved encoding is discarded (R11). `i`, `j`: the register's indices. -/
def State.accepts (s : State) (r : Reg) (i j lo v : Nat) : Bool :=
  if r = .QUE_CFG then lo != 28 || within 1 5 v
  else if r = .QUE_PTR then if lo = 48 then j == 1 else j != 2 || v % 64 == 0
  else if r = .QUE_CTL then lo != 0 || s.flag (QUE_CTL_HALT i)
  else if r = .CTX_CFG then lo != 0 || decide (v ≤ 16) || v == 31
  else if r = .CTX_GOVCFG then
    if lo = 30 then v == 0 || (decide (v < 3) && bitOf s.seval.modeAllow v)
    else if lo = 24 then decide (s.seval.hystMin ≤ v) && v != 0
    else within s.seval.winMin s.seval.winMax v
  else if r = .DMP_CFG then
    if lo = 30 then decide (v < 3) && bitOf s.seval.profAllow v else within s.seval.pCapMin 1800 v
  else if r = .OBS_RING then v % 32 == 0 && decide (v < s.ringBytes)
  else if r = .OBS_TRCFG then if lo = 30 then v != 3 else lo != 26 || v != 0
  else true

/-- A written field by its access code (R12, R14). -/
def State.writeField (s : State) (d : RDesc) (i j : Nat) (f : RField) (value : Nat) : State :=
  let c := d.fld i j f
  let v := value / 2 ^ f.lo % 2 ^ f.width
  if !s.accepts d.reg i j f.lo v then s
  else match f.access with
    | .rw => s.setF c v
    | .rwb => if s.flag SEC_BOOT_LOCK then s else s.setF c v
    | .rw1c => if v = 1 then s.setF c 0 else s
    | _ => s

/-- Every field of a register, as its access code says. -/
def State.writePlain (s : State) (d : RDesc) (i j value : Nat) : State :=
  d.fields.foldl (fun s f => s.writeField d i j f value) s

/-- The map's row of a register. -/
def regOf (r : Reg) : RDesc := (regTable.find? fun d => d.reg == r).getD ⟨r, 0, 0, 0, 0, 0, 0, []⟩

/-- Queue `q` begins at command 0, parked until its watch line says otherwise (R249, R250). -/
def State.enableQueue (s : State) (q : Nat) : State :=
  let s := s.setQueue q QueueRt.init
  let s := s.setFs [(QUE_STAT_HEAD q, 0), (QUE_CTL_HALT q, 0)]
  (s.setQState q qParked).readWatch q

/-- Queue `q` is disabled (R288). -/
def State.disableQueue (s : State) (q : Nat) : State :=
  ((s.setQueue q QueueRt.init).setF (QUE_CTL_HALT q) 0).setQState q qDisabled

/-- A PF0 write of `QUE_CFGq` (R37, R249, R288): a write of `EN` 0 while the queue is neither parked nor halted is
discarded. A write that keeps `EN` 1 leaves the queue bound to its engine type and context (R37, R249); R288 asks PF0 not
to make such a write, and that its other fields take their values is the model's choice (DESIGN CHOICE, log entry 60). -/
def State.queueConfig (s : State) (q value : Nat) : State :=
  let was := s.flag (QUE_CFG_EN q)
  let st := s.getF (QUE_STAT_STATE q)
  let on := bitOf value 31
  if was && !on && !(st == qParked || st == qHalted) then s
  else
    let d := regOf .QUE_CFG
    let bound (f : RField) : Bool := was && on && (f.lo == 28 || f.lo == 16)
    let s := s.writePlain { d with fields := d.fields.filter fun f => !bound f } q 0 value
    if on && !was then s.enableQueue q else if was && !on then s.disableQueue q else s

/-- QUEUE_ENABLE (R249, R288). -/
def execQueueEnable (q : Fin 64) (value : BitVec 32) (s : State) : Out :=
  .next (s.pf0Write bQueCfg fun s => s.queueConfig q value.toNat)

/-- A write of 1 to `HALT` (R285, R480): the queue goes on at `RESTART`; address segments laid beyond it are forgotten,
and the watch line is read again. -/
def State.queueResume (s : State) (q : Nat) : State :=
  if s.flag (QUE_CTL_HALT q) && s.flag (QUE_CFG_EN q) then
    let n := s.getF (QUE_CTL_RESTART q)
    let r := s.queue q
    let s := s.setQueue q { r with segs := r.segs.filter fun p => decide (p.1 ≤ n) }
    let s := s.setFs [(QUE_CTL_HALT q, 0), (QUE_STAT_HEAD q, n), (QUE_STAT_STATE q, qRunning)]
    ((s.settle q).readWatch q).issueUnreadable q
  else s

/-- QUEUE_RESUME (R285). -/
def execQueueResume (a : Accessor) (q : Fin 64) (s : State) : Out :=
  .next (s.hostWrite a bQueCtl (fun c => s.ctxOf q == c) fun s => s.queueResume q)

/-! ### Contexts (R263, R289, R378, R398) -/

/-- The objects that a VF's page shows: the first 4,096 of its range (R509). -/
def State.vfSees (s : State) (c n : Nat) : Bool :=
  let b := s.getF (CTX_SYNC_BASE c)
  decide (b ≤ n) && decide (n < b + min (s.getF (CTX_SYNC_COUNT c)) 4096)

/-- SYNC_OBJECT_WRITE (R263, R509). -/
def execSyncObjectWrite (a : Accessor) (n : Fin 8192) (value : BitVec 64) (s : State) : Out :=
  .next (s.hostWrite a bSync (fun c => s.vfSees c n) fun s => s.setF (SYNC_VALUE n) value.toNat)

/-- A write of `CTX_PTBc` discards the context's cached translations (R378). -/
def State.setPtb (s : State) (c value : Nat) : State :=
  { s with tlb := s.tlb.filter fun p => p.1 / 2 ^ 27 != c }.setF (CTX_PTB_BASE c) (value / 2 ^ 21)

/-- PAGE_TABLE_BASE_WRITE (R378, R398). -/
def execPageTableBaseWrite (c : Fin 16) (value : BitVec 64) (s : State) : Out :=
  .next (s.pf0Write bCtxPtb fun s => s.setPtb c value.toNat)

/-- `CTX_SYNCc` (R289): a bad range is discarded whole; `REMOTE_OK` takes its value. -/
def State.setSyncRange (s : State) (c value : Nat) : State :=
  let s := s.setF (CTX_SYNC_REMOTE_OK c) (value / 2 ^ 31)
  let b := bitsOf value 28 16
  let n := bitsOf value 13 0
  if b < 256 || 8192 < b + n then s else s.setFs [(CTX_SYNC_BASE c, b), (CTX_SYNC_COUNT c, n)]

/-- `CTX_NWINc` (R398). -/
def State.setWindow (s : State) (c value : Nat) : State :=
  let en := bitOf value 63
  let len := bitsOf value 58 40
  let b := bitsOf value 39 21
  if s.saggar < (b + len) * 2 ^ 21 || (en && len = 0) then s
  else s.setFs [(CTX_NWIN_EN c, b2n en), (CTX_NWIN_LEN c, len), (CTX_NWIN_BASE c, b)]

/-! ### Actions of W1S fields -/

/-- RECOVER (R464). -/
def execRecover (s : State) : Out := .next (s.pf0Write bRstCtl State.recover)
/-- RETRAIN (R352). -/
def execRetrain (p : Fin 6) (s : State) : Out := .next (s.pf0Write bPctl fun s => s.retrainFull p)
/-- SWEEP (R452). -/
def execSweep (s : State) : Out := .next (s.pf0Write bConeCtl State.sweep)
/-- REARM (R500). -/
def execRearm (s : State) : Out := .next (s.pf0Write bTrctl State.rearm)
/-- FIRE (R501). -/
def execFire (s : State) : Out := .next (s.pf0Write bTrctl State.fire)

/-! ### The other registers with rules of their own -/

/-- `OBS_SELc_i`: a selector that names no context event keeps its previous code (R488). -/
def State.setSelectors (s : State) (c i value : Nat) : State :=
  let old := s.getF (OBS_SEL_SEL c i)
  s.setF (OBS_SEL_SEL c i) ((List.range 8).map fun j =>
    let v := value / 2 ^ (8 * j) % 256
    (if ctxEvent v then v else old / 2 ^ (8 * j) % 256) * 2 ^ (8 * j)).sum

/-- `OBS_QSNAP`: the bits of some queues (R502, R509). -/
def State.setSnap (s : State) (own : Nat → Bool) (value : Nat) : State :=
  (List.range 64).foldl (fun s q => if own q then s.setBit OBS_QSNAP_SNAP q (bitOf value q) else s) s

/-- `STK_MBCTL` (R547): discarded while `BUSY`; an unknown command is answered at once. -/
def State.setMailbox (s : State) (value : Nat) : State :=
  if s.flag STK_MBSTAT_BUSY then s
  else
    let cmd := bitsOf value 47 32
    let s := s.setFs [(STK_MBCTL_GO, value / 2 ^ 63), (STK_MBCTL_CMD, cmd), (STK_MBCTL_LEN, value)]
    if !bitOf value 63 then s
    else
      let s := s.setF STK_MBSTAT_BUSY 1
      if within 1 4 cmd then s else State.post (s.refuse svcBad)

/-- What the physical world makes of a wake that a plain register write asks for (log entry 2). -/
def State.freshWake (s : State) : WakeOut × State :=
  let (v, s) := s.fresh
  (⟨v % 5, bitOf v 8, bitOf v 9, v / 1024 % 65536⟩, s)

/-- `PWR_CTL` (R422): the reserved code is discarded. -/
def State.setTarget (s : State) (t : Nat) : State :=
  if t = 1 || t = 2 then s.requestSleep t
  else if t = 0 then
    let (o, u) := s.freshWake
    if s.asleep then u.requestWake o else s.requestWake o
  else s

/-- Written bits of a W1S register act, the highest first (R12). -/
def State.setTrctl (s : State) (value : Nat) : State :=
  let s := if bitOf value 31 then s.rearm else s
  if bitOf value 30 then s.fire else s

/-- A PF0 write of a whole register by its base, indices and value. -/
def State.writeReg (s : State) (d : RDesc) (i j value : Nat) : State :=
  let r := d.reg
  if r = .QUE_CFG then s.queueConfig i value
  else if r = .QUE_CTL then
    let s := (s.writePlain { d with fields := d.fields.filter fun f => f.lo == 0 } i j value)
    if bitOf value 63 then s.queueResume i else s
  else if r = .CTX_SYNC then s.setSyncRange i value
  else if r = .CTX_PTB then s.setPtb i value
  else if r = .CTX_NWIN then s.setWindow i value
  else if r = .PWR_CTL then s.setTarget (value % 4)
  else if r = .RST_CTL then if bitOf value 31 then s.recover else s
  else if r = .FLU_PCTL then if bitOf value 31 then s.retrainFull i else s
  else if r = .HTH_CONECTL then if bitOf value 31 then s.sweep else s
  else if r = .OBS_TRCTL then s.setTrctl value
  else if r = .OBS_SEL then s.setSelectors i j value
  else if r = .OBS_QSNAP then s.setSnap (fun _ => true) value
  else if r = .OBS_TRCFG then
    let s := s.writePlain d i j value
    s.setF OBS_TRCFG_CLASSES (forcedClasses (s.getF OBS_TRCFG_CLASSES))
  else if r = .STK_MBCTL then s.setMailbox value
  else if r = .RST_FAULT0 || r = .SVC_ALERT then (s.writePlain d i j value).syncPins
  else s.writePlain d i j value

/-! ### REGISTER_WRITE (R508, R509, R511, R547, R569) -/

/-- The register that a write of some bytes at an offset meets: the whole register, aligned (R508). -/
def regAtWrite (off bytes : Nat) : Option (RDesc × Nat × Nat) :=
  (findReg off).filter fun p => p.1.offset p.2.1 p.2.2 == off && p.1.width == 8 * bytes

/-- Send the pending vectors of a function that are no longer masked (R511). -/
def State.sendPending (s : State) (fn : Nat) : State :=
  (List.range 128).foldl (fun s v =>
    if s.host.pba.get false (fn * 128 + v) && s.host.msixOn.contains fn && s.msixWord fn v 3 % 2 = 0 then
      { s with host := { s.host with pba := s.host.pba.set false (fn * 128 + v) false } }.irq fn v
    else s) s

/-- A write of 4 or 8 bytes into a function's MSI-X table (R511). -/
def State.msixWrite (s : State) (fn off bytes value : Nat) : State :=
  let put (s : State) (k v : Nat) : State :=
    let w := k % 4
    let v := if w = 3 then v % 2 else v
    { s with host := { s.host with msix := s.host.msix.set (if w = 3 then 1 else 0) (fn * 512 + k) v } }
  if off % bytes != 0 then s
  else if bytes = 4 then (put s (off / 4) (value % 2 ^ 32)).sendPending fn
  else if bytes = 8 then (put (put s (off / 4) (value % 2 ^ 32)) (off / 4 + 1) (value / 2 ^ 32 % 2 ^ 32)).sendPending fn
  else s

/-- A PF0 write into BAR0 (R507, R508): MSI-X table, mailbox request buffer or register. -/
def State.pf0Bar (s : State) (off bytes value : Nat) : State :=
  if 0x900000 ≤ off && off < 0x900000 + 16 * 70 then s.msixWrite 0 (off - 0x900000) bytes value
  else if 0x801000 ≤ off && off + bytes ≤ 0x811000 then
    { s with mbReq := Mem.write memBlank s.mbReq (off - 0x801000) (leBytes bytes value) }
  else match regAtWrite off bytes with
    | some (d, i, j) => if 0x4000000 ≤ d.base then s else s.writeReg d i j value
    | none => s

/-- The PF0 offset that a VF's register shows, when the VF may write it (R509, R510). -/
def State.vfOffset (s : State) (c off : Nat) : Option Nat :=
  if off < 0x1000 then
    let q := off / 0x40
    let o := off % 0x40
    if s.ctxOf q = c && 8 ≤ o && o < 0x30 && (0x20 ≤ o || s.getF (QUE_STAT_STATE q) = qHalted) then
      some (0x10000 + 0x100 * q + o)
    else none
  else if 0x1100 ≤ off && off < 0x1120 then some (0x4000000 + 0x100 * c + (off - 0x1100))
  else if 0x4200 ≤ off && off < 0x4220 then some (0x602000 + 0x20 * c + (off - 0x4200))
  else if 0x8000 ≤ off && off < 0x8000 + 8 * min (s.getF (CTX_SYNC_COUNT c)) 4096 then
    some (0x100000 + 8 * s.getF (CTX_SYNC_BASE c) + (off - 0x8000))
  else none

/-- A VF write into its page (R502, R509–R511). -/
def State.vfBar (s : State) (c off bytes value : Nat) : State :=
  if 0x2000 ≤ off && off < 0x2000 + 16 * 65 then s.msixWrite (c + 1) (off - 0x2000) bytes value
  else if off = 0x4220 && bytes = 8 then s.setSnap (fun q => s.ctxOf q == c) value
  else match (s.vfOffset c off).bind fun o => regAtWrite o bytes with
    | some (d, i, j) => s.writeReg d i j value
    | none => s

/-- The PF0 offset whose power decides a VF's write. -/
def State.vfPower (s : State) (c off : Nat) : Nat := if 0x2000 ≤ off && off < 0x3000 then 0x1800 else (s.vfOffset c off).getD 0

/-- A write over I3C (R422, R569): `PWR_CTL`, `PWR_STAT` and `SVC_ALERT`. -/
def State.i3cWrite (s : State) (off bytes value : Nat) : State :=
  if off = 0x300800 || off = 0x300804 || off = 0x1904 then s.alwaysWrite .i3c fun s => s.pf0Bar off bytes value else s

/-- NumVFs and VF Enable (R505, R506): VFs that VF Enable takes away are reset. -/
def State.setVfs (s : State) (n : Nat) (on : Bool) : State :=
  let gone := if s.host.vfEn && !on then List.range s.host.numVfs else []
  let s := gone.foldl State.flr s
  { s with host := { s.host with numVfs := n, vfEn := on } }

/-- Set or clear an entry of a list of functions. -/
def toggle (l : List Nat) (fn : Nat) (on : Bool) : List Nat := if on then l.filter (· != fn) ++ [fn] else l.filter (· != fn)

/-- REGISTER_WRITE (R12, R505, R508, R509, R511, R517; log entry 7). -/
def execRegisterWrite (t : WriteTarget) (bytes value : Nat) (s : State) : Out :=
  .next (match t with
    | .bar .pf0 off => s.pf0Write (if 0x900000 ≤ off then 0x1800 else off) fun s => s.pf0Bar off bytes value
    | .bar (.vf c) off => s.hostWrite (.vf c) (s.vfPower c off) (fun _ => true) fun s => s.vfBar c off bytes value
    | .bar .i3c off => s.i3cWrite off bytes value
    | .numVfs n on => if s.linkServes then s.setVfs n on else s
    | .msixEnable fn on =>
      if s.linkServes then { s with host := { s.host with msixOn := toggle s.host.msixOn fn on } }.sendPending fn else s
    | .atsEnable fn on => if s.linkServes then { s with host := { s.host with atsOn := toggle s.host.atsOn fn on } } else s)

end Sys2Proof.Machine
end

