-- ==== Sys2Proof/Machine/Dispatch.lean ====
section
/-! DEFINITION. The meaning of every command: one arm per row of the opcode table. -/

namespace Sys2Proof.Machine

open Sys2Proof

def exec (i : Instr) (s : State) : Host.Outcome State Fault Refusal :=
  match i with
  | .nop q => Sys2Proof.Machine.execNop q s
  | .link q => Sys2Proof.Machine.execLink q s
  | .wait q => Sys2Proof.Machine.execWait q s
  | .signal q => Sys2Proof.Machine.execSignal q s
  | .stepMark q => Sys2Proof.Machine.execStepMark q s
  | .fence q => Sys2Proof.Machine.execFence q s
  | .matmul q => Sys2Proof.Machine.execMatmul q s
  | .matmulPacked q => Sys2Proof.Machine.execMatmulPacked q s
  | .matmulTable q => Sys2Proof.Machine.execMatmulTable q s
  | .matmulBinary q => Sys2Proof.Machine.execMatmulBinary q s
  | .matmulStream q => Sys2Proof.Machine.execMatmulStream q s
  | .rotate q => Sys2Proof.Machine.execRotate q s
  | .quantise q => Sys2Proof.Machine.execQuantise q s
  | .dequantise q => Sys2Proof.Machine.execDequantise q s
  | .amaxPass q => Sys2Proof.Machine.execAmaxPass q s
  | .vecMap q => Sys2Proof.Machine.execVecMap q s
  | .vecNorm q => Sys2Proof.Machine.execVecNorm q s
  | .vecSoftmax q => Sys2Proof.Machine.execVecSoftmax q s
  | .vecLoss q => Sys2Proof.Machine.execVecLoss q s
  | .vecReduce q => Sys2Proof.Machine.execVecReduce q s
  | .move q => Sys2Proof.Machine.execMove q s
  | .offload q => Sys2Proof.Machine.execOffload q s
  | .prefetch q => Sys2Proof.Machine.execPrefetch q s
  | .spill q => Sys2Proof.Machine.execSpill q s
  | .reduceBucket q => Sys2Proof.Machine.execReduceBucket q s
  | .broadcast q => Sys2Proof.Machine.execBroadcast q s
  | .digestCheck q => Sys2Proof.Machine.execDigestCheck q s
  | .update q => Sys2Proof.Machine.execUpdate q s
  | .digest q => Sys2Proof.Machine.execDigest q s
  | .tap q => Sys2Proof.Machine.execTap q s
  | .precisionApply q => Sys2Proof.Machine.execPrecisionApply q s
  | .watchLinePoll q => Sys2Proof.Machine.execWatchLinePoll q s
  | .tilePlace aged => Sys2Proof.Machine.execTilePlace aged s
  | .tileComplete q n e => Sys2Proof.Machine.execTileComplete q n e s
  | .tileFail q n tile cause => Sys2Proof.Machine.execTileFail q n tile cause s
  | .glazeEncode q n unit => Sys2Proof.Machine.execGlazeEncode q n unit s
  | .escalationPass q e => Sys2Proof.Machine.execEscalationPass q e s
  | .narrowEmission q n => Sys2Proof.Machine.execNarrowEmission q n s
  | .commandComplete q => Sys2Proof.Machine.execCommandComplete q s
  | .waitTimeout q => Sys2Proof.Machine.execWaitTimeout q s
  | .dispatchTimeout expired => Sys2Proof.Machine.execDispatchTimeout expired s
  | .stepBarrier c => Sys2Proof.Machine.execStepBarrier c s
  | .decisionStepEnd c => Sys2Proof.Machine.execDecisionStepEnd c s
  | .interludeClose c => Sys2Proof.Machine.execInterludeClose c s
  | .queueEnable q value => Sys2Proof.Machine.execQueueEnable q value s
  | .queueResume a q => Sys2Proof.Machine.execQueueResume a q s
  | .syncObjectWrite a n value => Sys2Proof.Machine.execSyncObjectWrite a n value s
  | .pageTableBaseWrite c value => Sys2Proof.Machine.execPageTableBaseWrite c value s
  | .recover => Sys2Proof.Machine.execRecover s
  | .retrain p => Sys2Proof.Machine.execRetrain p s
  | .sweep => Sys2Proof.Machine.execSweep s
  | .rearm => Sys2Proof.Machine.execRearm s
  | .fire => Sys2Proof.Machine.execFire s
  | .bankedRequest a => Sys2Proof.Machine.execBankedRequest a s
  | .emberRequest a => Sys2Proof.Machine.execEmberRequest a s
  | .wakeRequest a out => Sys2Proof.Machine.execWakeRequest a out s
  | .registerWrite t bytes value => Sys2Proof.Machine.execRegisterWrite t bytes value s
  | .getInfo len => Sys2Proof.Machine.execGetInfo len s
  | .mailboxGetCert len => Sys2Proof.Machine.execMailboxGetCert len s
  | .mailboxAttest len => Sys2Proof.Machine.execMailboxAttest len s
  | .mailboxReadEvents len => Sys2Proof.Machine.execMailboxReadEvents len s
  | .updateBegin h len => Sys2Proof.Machine.execUpdateBegin h len s
  | .updateData h offset data => Sys2Proof.Machine.execUpdateData h offset data s
  | .updateEnd h => Sys2Proof.Machine.execUpdateEnd h s
  | .confirm h => Sys2Proof.Machine.execConfirm h s
  | .configWrite h total offset data => Sys2Proof.Machine.execConfigWrite h total offset data s
  | .attest h nonce => Sys2Proof.Machine.execAttest h nonce s
  | .getCert h => Sys2Proof.Machine.execGetCert h s
  | .readEvents h seq => Sys2Proof.Machine.execReadEvents h seq s
  | .clearRetire h hearth => Sys2Proof.Machine.execClearRetire h hearth s
  | .enroll h key => Sys2Proof.Machine.execEnroll h key s
  | .wrapPsk h key => Sys2Proof.Machine.execWrapPsk h key s
  | .hostMemRead addr => Sys2Proof.Machine.execHostMemRead addr s
  | .hostMemWrite addr data => Sys2Proof.Machine.execHostMemWrite addr data s
  | .snoopInvalidation addr data => Sys2Proof.Machine.execSnoopInvalidation addr data s
  | .atsInvalidation c page granted => Sys2Proof.Machine.execAtsInvalidation c page granted s
  | .hdmCommit base size ways => Sys2Proof.Machine.execHdmCommit base size ways s
  | .ideKeyProgram stream => Sys2Proof.Machine.execIdeKeyProgram stream s
  | .flr c => Sys2Proof.Machine.execFlr c s
  | .cxlLinkDown => Sys2Proof.Machine.execCxlLinkDown s
  | .frameReceive p f => Sys2Proof.Machine.execFrameReceive p f s
  | .skipFrameReceive p f => Sys2Proof.Machine.execSkipFrameReceive p f s
  | .skipFrameSend p => Sys2Proof.Machine.execSkipFrameSend p s
  | .replayTimeout p => Sys2Proof.Machine.execReplayTimeout p s
  | .nak p => Sys2Proof.Machine.execNak p s
  | .credit p => Sys2Proof.Machine.execCredit p s
  | .creditReport p => Sys2Proof.Machine.execCreditReport p s
  | .retrainEntry p cause => Sys2Proof.Machine.execRetrainEntry p cause s
  | .retrainDone p out => Sys2Proof.Machine.execRetrainDone p out s
  | .retrainTimeout p => Sys2Proof.Machine.execRetrainTimeout p s
  | .failedPortRetry p => Sys2Proof.Machine.execFailedPortRetry p s
  | .writePacket p => Sys2Proof.Machine.execWritePacket p s
  | .readReq p => Sys2Proof.Machine.execReadReq p s
  | .readRsp p => Sys2Proof.Machine.execReadRsp p s
  | .writeAck p => Sys2Proof.Machine.execWriteAck p s
  | .signalPacket p => Sys2Proof.Machine.execSignalPacket p s
  | .signalAck p => Sys2Proof.Machine.execSignalAck p s
  | .collData p => Sys2Proof.Machine.execCollData p s
  | .collReady p => Sys2Proof.Machine.execCollReady p s
  | .collAbort p => Sys2Proof.Machine.execCollAbort p s
  | .collAck p => Sys2Proof.Machine.execCollAck p s
  | .unreach p => Sys2Proof.Machine.execUnreach p s
  | .linkstate p => Sys2Proof.Machine.execLinkstate p s
  | .endpoint p => Sys2Proof.Machine.execEndpoint p s
  | .idle p => Sys2Proof.Machine.execIdle p s
  | .transitPacket p => Sys2Proof.Machine.execTransitPacket p s
  | .outputGrant p cycle => Sys2Proof.Machine.execOutputGrant p cycle s
  | .creditWaitTimeout p requester => Sys2Proof.Machine.execCreditWaitTimeout p requester s
  | .routingTableSwap => Sys2Proof.Machine.execRoutingTableSwap s
  | .stackPortGrant b cycle requests => Sys2Proof.Machine.execStackPortGrant b cycle requests s
  | .readBeatReturn b beat reader => Sys2Proof.Machine.execReadBeatReturn b beat reader s
  | .refreshBlackout b cycle => Sys2Proof.Machine.execRefreshBlackout b cycle s
  | .refreshWindowChange b cycle heat => Sys2Proof.Machine.execRefreshWindowChange b cycle heat s
  | .patrolScrub b lines => Sys2Proof.Machine.execPatrolScrub b lines s
  | .correctiveWrite b => Sys2Proof.Machine.execCorrectiveWrite b s
  | .rowSpare b row => Sys2Proof.Machine.execRowSpare b row s
  | .d2dUncorr bay second owner => Sys2Proof.Machine.execD2dUncorr bay second owner s
  | .sensorSample m => Sys2Proof.Machine.execSensorSample m s
  | .sensorFailure n => Sys2Proof.Machine.execSensorFailure n s
  | .budgetPeriod m => Sys2Proof.Machine.execBudgetPeriod m s
  | .fastLimiter avg => Sys2Proof.Machine.execFastLimiter avg s
  | .fallback => Sys2Proof.Machine.execFallback s
  | .thermWarn => Sys2Proof.Machine.execThermWarn s
  | .thermWarnRelease => Sys2Proof.Machine.execThermWarnRelease s
  | .thermTrip => Sys2Proof.Machine.execThermTrip s
  | .tripRelease => Sys2Proof.Machine.execTripRelease s
  | .tripHoldTimeout => Sys2Proof.Machine.execTripHoldTimeout s
  | .hearthGate h => Sys2Proof.Machine.execHearthGate h s
  | .coneTestDue h => Sys2Proof.Machine.execConeTestDue h s
  | .coneTestStart h => Sys2Proof.Machine.execConeTestStart h s
  | .coneTestOverdue h => Sys2Proof.Machine.execConeTestOverdue h s
  | .coneTestEnd h f => Sys2Proof.Machine.execConeTestEnd h f s
  | .busyTimeSave => Sys2Proof.Machine.execBusyTimeSave s
  | .eventLogReclaim => Sys2Proof.Machine.execEventLogReclaim s
  | .stokerSramScrub => Sys2Proof.Machine.execStokerSramScrub s
  | .stokerEcc => Sys2Proof.Machine.execStokerEcc s
  | .stokerWdt => Sys2Proof.Machine.execStokerWdt s
  | .regulator => Sys2Proof.Machine.execRegulator s
  | .pllLockLoss => Sys2Proof.Machine.execPllLockLoss s
  | .quiesceTimeout bays engines => Sys2Proof.Machine.execQuiesceTimeout bays engines s
  | .sequencerWatchdog => Sys2Proof.Machine.execSequencerWatchdog s
  | .powerEntry => Sys2Proof.Machine.execPowerEntry s
  | .entryTimeout => Sys2Proof.Machine.execEntryTimeout s
  | .wakeTimeout step => Sys2Proof.Machine.execWakeTimeout step s
  | .powerOnReset out => Sys2Proof.Machine.execPowerOnReset out s
  | .bootTimeout => Sys2Proof.Machine.execBootTimeout s
  | .powerDown => Sys2Proof.Machine.execPowerDown s
  | .modRstAssert => Sys2Proof.Machine.execModRstAssert s
  | .perstAssert out => Sys2Proof.Machine.execPerstAssert out s
  | .perstRelease => Sys2Proof.Machine.execPerstRelease s
  | .undervoltageLockout => Sys2Proof.Machine.execUndervoltageLockout s
  | .overvoltageShutdown => Sys2Proof.Machine.execOvervoltageShutdown s
  | .traceFreeze => Sys2Proof.Machine.execTraceFreeze s
  | .traceFull => Sys2Proof.Machine.execTraceFull s
  | .inputReturn out => Sys2Proof.Machine.execInputReturn out s
  | .pwrEnHoldEnd out => Sys2Proof.Machine.execPwrEnHoldEnd out s
  | .thermalReadyTimeout => Sys2Proof.Machine.execThermalReadyTimeout s
  | .flrTimeout c => Sys2Proof.Machine.execFlrTimeout c s

end Sys2Proof.Machine
end

