-- ==== Sys2Proof/WellFormed.lean ====
section
/-! DEFINITION. Which commands are well formed: their operands lie within the ranges that the spec gives them. `exec` is
total and does not ask for this; it is what a sender of commands keeps. -/

namespace Sys2Proof

/-- A packet's header fields fit their widths, and its length is 1–64 flits (R353). -/
def Packet.wf (p : Packet) : Bool :=
  decide (p.ty < 256) && decide (p.vc < 4) && decide (p.dl < 2) && decide (1 ≤ p.flits) && decide (p.flits ≤ 64)
    && decide (p.hops < 256) && decide (p.dest < 4096) && decide (p.dctx < 16) && decide (p.src < 4096)
    && decide (p.sctx < 16) && decide (p.job < 4096) && decide (p.ptag < 2 ^ 16)

/-- Of a frame's two codewords, those that do not decode were not corrected (R345). -/
def Codewords.wf (w : Codewords) : Bool := decide (w.corrected.val + w.bad1.toNat + w.bad2.toNat ≤ 2)

/-- A frame has five slots of 256 bytes, a 24-bit CRC and well-formed packets (R348). -/
def FrameIn.wf (f : FrameIn) : Bool :=
  f.words.wf && f.slots.length == 1280 && decide (f.crc < 2 ^ 24) && f.packets.all Packet.wf

/-- A SKIP frame is laid out as a frame is; its times are timebase values (R351, R367, R368). -/
def SkipIn.wf (f : SkipIn) : Bool :=
  f.words.wf && f.slots.length == 1280 && decide (f.crc < 2 ^ 24) && decide (f.tx < 2 ^ 64) && decide (f.rx < 2 ^ 64)

/-- A training result names lanes 0–19, coordinates and a port (R339, R341, R347). -/
def TrainOut.wf (t : TrainOut) : Bool :=
  decide (t.laneFail < 2 ^ 20) && decide (t.nx < 16) && decide (t.ny < 16) && decide (t.nz < 16) && decide (t.nport < 6)

/-- A beat names a block within a stack's 64 GiB and at least one of its 64 lines; a write brings those lines, and a read
nothing (R371, R387). -/
def Beat.wf (b : Beat) : Bool :=
  decide (b.offset < 2 ^ 36) && decide (0 < b.mask) && decide (b.mask < 2 ^ 64)
    && b.data.length == if b.write then 64 * (List.range 64).countP b.mask.testBit else 0

/-- A sample holds the codes of 128 sensors (R399, R431). -/
def SampleIn.wf (m : SampleIn) : Bool := m.codes.length == 128

/-- A period's measurements cover the 34 rails and the sixteen Bays (R404, R431). -/
def PeriodIn.wf (m : PeriodIn) : Bool :=
  m.volts.length == 34 && m.amps.length == 34 && m.issued.length == 16 && m.issued.all fun i => decide (i < 3)

/-- A check fault lies in one of at most 128 streamed rows (R80, R440). -/
def FailCause.wf : FailCause → Bool
  | .witness w => decide (w.row < 128)
  | .residueHearth _ => true
  | .residueGlaze => true
  | .residueUnit => true
  | .sram => true
  | .dram _ => true

/-- Failing cells are physical cells (R102). -/
def ConeFinding.wf : ConeFinding → Bool
  | .cells l => l.all fun c => decide (c.1 < 130) && decide (c.2 < 130)
  | .pass => true
  | .fixedPart => true
  | .glaze => true

/-- A wake has five steps (R427). -/
def WakeOut.wf (o : WakeOut) : Bool := decide (o.failStep ≤ 5)

/-- A boot has eight steps, six ports and sixteen Bays, and the straps are twelve (R342, R530). -/
def BootOut.wf (o : BootOut) : Bool :=
  decide (o.lateStep ≤ 8) && decide (o.ports.length ≤ 6) && o.ports.all TrainOut.wf && decide (o.glazeBad < 2 ^ 16)
    && decide (o.straps < 2 ^ 12)

/-- A request's number and counter fit their widths; its signature, when there is one, has the size of R546. -/
def SvcHdr.wf (h : SvcHdr) : Bool :=
  decide (h.seq < 2 ^ 32) && decide (h.octr < 2 ^ 64)

/-- A register access is 4 or 8 bytes and naturally aligned (R508); an I3C access is one as well (R422). -/
def WriteTarget.wf (t : WriteTarget) (bytes value : Nat) : Bool :=
  match t with
  | .bar _ off => (bytes == 4 || bytes == 8) && off % bytes == 0 && decide (value < 2 ^ (8 * bytes))
  | .numVfs _ _ => true
  | .msixEnable _ _ => true
  | .atsEnable _ _ => true

/-- A line-sized operand: within one 64-byte line. -/
def inLine (addr : Nat) (data : List Byte) : Bool :=
  decide (0 < data.length) && decide (addr % 64 + data.length ≤ 64)

/-- A mailbox request lies in the 64 KiB buffer (R547). -/
def mailboxLen (len : Nat) : Bool := decide (len ≤ 65536)

/-- The operands of a command lie within their ranges. -/
def Instr.wf : Instr → Bool
  | .nop _ => true
  | .link _ => true
  | .wait _ => true
  | .signal _ => true
  | .stepMark _ => true
  | .fence _ => true
  | .matmul _ => true
  | .matmulPacked _ => true
  | .matmulTable _ => true
  | .matmulBinary _ => true
  | .matmulStream _ => true
  | .rotate _ => true
  | .quantise _ => true
  | .dequantise _ => true
  | .amaxPass _ => true
  | .vecMap _ => true
  | .vecNorm _ => true
  | .vecSoftmax _ => true
  | .vecLoss _ => true
  | .vecReduce _ => true
  | .move _ => true
  | .offload _ => true
  | .prefetch _ => true
  | .spill _ => true
  | .reduceBucket _ => true
  | .broadcast _ => true
  | .digestCheck _ => true
  | .update _ => true
  | .digest _ => true
  | .tap _ => true
  | .precisionApply _ => true
  | .watchLinePoll _ => true
  | .tilePlace aged => decide aged.Nodup
  | .tileComplete _ n e => decide (n < 2 ^ 48) && decide (e.tile < 2 ^ 32)
  | .tileFail _ n tile cause => decide (n < 2 ^ 48) && decide (tile < 2 ^ 32) && cause.wf
  | .glazeEncode _ n _ => decide (n < 2 ^ 48)
  | .escalationPass _ e => decide (e.n < 2 ^ 48) && e.fails.all fun p => p.2.2.wf
  | .narrowEmission _ n => decide (n < 2 ^ 48)
  | .commandComplete _ => true
  | .waitTimeout _ => true
  | .dispatchTimeout l => decide (l.map fun p => (p.1.val, p.2)).Nodup
  | .stepBarrier _ => true
  | .decisionStepEnd _ => true
  | .interludeClose _ => true
  | .queueEnable _ _ => true
  | .queueResume a _ => a != .i3c
  | .syncObjectWrite a _ _ => a != .i3c
  | .pageTableBaseWrite _ _ => true
  | .recover => true
  | .retrain _ => true
  | .sweep => true
  | .rearm => true
  | .fire => true
  | .bankedRequest a => a == .pf0 || a == .i3c
  | .emberRequest a => a == .pf0 || a == .i3c
  | .wakeRequest a o => (a == .pf0 || a == .i3c) && o.wf
  | .registerWrite t bytes value => t.wf bytes value
  | .getInfo len => mailboxLen len
  | .mailboxGetCert len => mailboxLen len
  | .mailboxAttest len => mailboxLen len
  | .mailboxReadEvents len => mailboxLen len
  | .updateBegin h len => h.wf && decide (len < 2 ^ 32)
  | .updateData h offset data => h.wf && decide (offset < 2 ^ 32) && decide (data.length ≤ 8192)
  | .updateEnd h => h.wf
  | .confirm h => h.wf
  | .configWrite h total offset data => h.wf && decide (total < 2 ^ 32) && decide (offset < 2 ^ 32) && decide (data.length ≤ 8192)
  | .attest h nonce => h.wf && nonce.length == 32
  | .getCert h => h.wf
  | .readEvents h seq => h.wf && decide (seq < 2 ^ 32)
  | .clearRetire h hearth => h.wf && decide (hearth < 2 ^ 32)
  | .enroll h key => h.wf && key.length == 68
  | .wrapPsk h key => h.wf && key.length == 32
  | .hostMemRead addr => decide (addr < 2 ^ 52)
  | .hostMemWrite addr data => decide (addr < 2 ^ 52) && inLine addr data
  | .snoopInvalidation addr data => decide (addr < 2 ^ 52) && addr % 64 == 0 && data.length == 64
  | .atsInvalidation _ page _ => decide (page < 2 ^ 27)
  | .hdmCommit base size _ => decide (base < 2 ^ 64) && decide (size < 2 ^ 64)
  | .ideKeyProgram _ => true
  | .flr _ => true
  | .cxlLinkDown => true
  | .frameReceive _ f => f.wf
  | .skipFrameReceive _ f => f.wf
  | .skipFrameSend _ => true
  | .replayTimeout _ => true
  | .nak _ => true
  | .credit _ => true
  | .creditReport _ => true
  | .retrainEntry _ cause => decide (1 ≤ cause.val) && decide (cause.val ≤ 3)
  | .retrainDone _ out => out.wf
  | .retrainTimeout _ => true
  | .failedPortRetry _ => true
  | .writePacket _ => true
  | .readReq _ => true
  | .readRsp _ => true
  | .writeAck _ => true
  | .signalPacket _ => true
  | .signalAck _ => true
  | .collData _ => true
  | .collReady _ => true
  | .collAbort _ => true
  | .collAck _ => true
  | .unreach _ => true
  | .linkstate _ => true
  | .endpoint _ => true
  | .idle _ => true
  | .transitPacket _ => true
  | .outputGrant _ _ => true
  | .creditWaitTimeout _ _ => true
  | .routingTableSwap => true
  | .stackPortGrant _ _ requests => requests.length == 8 && requests.all fun r => r.all Beat.wf
  | .readBeatReturn _ beat _ => decide (beat.lines.length ≤ 64)
  | .refreshBlackout _ _ => true
  | .refreshWindowChange _ _ _ => true
  | .patrolScrub _ lines => decide (lines.length ≤ 64)
  | .correctiveWrite _ => true
  | .rowSpare _ row => decide (row < 2 ^ 25)
  | .d2dUncorr _ _ _ => true
  | .sensorSample m => m.wf
  | .sensorFailure _ => true
  | .budgetPeriod m => m.wf
  | .fastLimiter _ => true
  | .fallback => true
  | .thermWarn => true
  | .thermWarnRelease => true
  | .thermTrip => true
  | .tripRelease => true
  | .tripHoldTimeout => true
  | .hearthGate _ => true
  | .coneTestDue _ => true
  | .coneTestStart _ => true
  | .coneTestOverdue _ => true
  | .coneTestEnd _ f => f.wf
  | .busyTimeSave => true
  | .eventLogReclaim => true
  | .stokerSramScrub => true
  | .stokerEcc => true
  | .stokerWdt => true
  | .regulator => true
  | .pllLockLoss => true
  | .quiesceTimeout bays engines => decide (bays < 2 ^ 16) && decide (engines < 2 ^ 5)
  | .sequencerWatchdog => true
  | .powerEntry => true
  | .entryTimeout => true
  | .wakeTimeout _ => true
  | .powerOnReset out => out.wf
  | .bootTimeout => true
  | .powerDown => true
  | .modRstAssert => true
  | .perstAssert out => out.wf
  | .perstRelease => true
  | .undervoltageLockout => true
  | .overvoltageShutdown => true
  | .traceFreeze => true
  | .traceFull => true
  | .inputReturn out => out.wf
  | .pwrEnHoldEnd out => out.wf
  | .thermalReadyTimeout => true
  | .flrTimeout _ => true

end Sys2Proof
end

