-- ==== Sys2Proof/Safety.lean ====
section
/-! DEFINITION. What counts as a safe run: the data of the state stay in canonical form, what is fused stays fused, and
the commands that wait are well formed. -/

namespace Sys2Proof.Machine

open Sys2Proof

/-- Every store of the state is in canonical form: keys strictly rise, and where the store has one default no entry
equals it, so that equal contents are equal data. -/
def State.canon (s : State) : Bool :=
  Store.sorted s.regs && Memory.wf memBlank s.dram && Store.wf false s.badLines && Memory.wf memBlank s.hostMem
    && Memory.wf nvmBlank s.nvm && Memory.wf memBlank s.mbReq && Memory.wf memBlank s.mbResp && Store.sorted s.tlb
    && Store.wf QueueRt.init s.queues && Store.wf PortRt.init s.ports && Store.wf StackRt.init s.stackPorts
    && Store.wf BayRt.init s.bays && Store.wf HearthRt.init s.hearths && Store.wf 0 s.d2dCorr

/-- Fuses and OTP are only ever burnt: the vendor's key, the certificate hash and the Hearths fused off stay, the
security version never falls, leaf blocks and the owner's key stay once burnt (R3, R528, R529, R539–R541). -/
def Fuses.growsTo (a b : Fuses) : Prop :=
  b.vendor = a.vendor ∧ b.cert = a.cert ∧ b.hearthOff = a.hearthOff ∧ a.svn ≤ b.svn ∧ a.leaf <+: b.leaf
    ∧ (a.owner.isSome = true → b.owner = a.owner)

/-! ### The parts of the state -/

/-- The parts of the state: each register of the map, and what holds the rest. `topology`: the module's place in the
fabric; `filter`, `pba`, `watch` and `atc`: the snoop filter's lines, pending vectors, held watch lines and granted host
pages, which are no part of `link`; `burn`: the security-version and owner fuses; `free`: the counter of free values. The
queue of waiting commands is no part: no command touches it. -/
inductive Part where
  | dram
  | badLines
  | hostMem
  | nvm
  | mbReq
  | mbResp
  | tlb
  | queues
  | flights
  | accNext
  | arena
  | decisions
  | coll
  | flue
  | topology
  | ports
  | stackPorts
  | bays
  | damper
  | hearths
  | trace
  | recov
  | link
  | filter
  | pba
  | watch
  | atc
  | seval
  | fuses
  | burn
  | stoker
  | power
  | d2dCorr
  | irqs
  | reply
  | free
  | reg (r : Reg)
deriving DecidableEq, Repr

/-- A part is in `t` as it is in `s`; of a register, every field reads the same. -/
def Part.same (p : Part) (s t : State) : Prop :=
  match p with
  | .reg r => ∀ f : Fld, f.reg = r → t.getF f = s.getF f
  | .dram => t.dram = s.dram
  | .badLines => t.badLines = s.badLines
  | .hostMem => t.hostMem = s.hostMem
  | .nvm => t.nvm = s.nvm
  | .mbReq => t.mbReq = s.mbReq
  | .mbResp => t.mbResp = s.mbResp
  | .tlb => t.tlb = s.tlb
  | .queues => t.queues = s.queues
  | .flights => t.flights = s.flights
  | .accNext => t.accNext = s.accNext
  | .arena => t.arena = s.arena
  | .decisions => t.decisions = s.decisions
  | .coll => t.coll = s.coll
  | .flue => t.flue = { s.flue with dims := t.flue.dims, root := t.flue.root, excluded := t.flue.excluded }
  | .topology => t.flue.dims = s.flue.dims ∧ t.flue.root = s.flue.root ∧ t.flue.excluded = s.flue.excluded
  | .ports => t.ports = s.ports
  | .stackPorts => t.stackPorts = s.stackPorts
  | .bays => t.bays = s.bays
  | .damper => t.damper = s.damper
  | .hearths => t.hearths = s.hearths
  | .trace => t.trace = s.trace
  | .recov => t.recov = s.recov
  | .link => t.host = { s.host with filter := t.host.filter, pba := t.host.pba, watch := t.host.watch, atc := t.host.atc }
  | .filter => t.host.filter = s.host.filter
  | .pba => t.host.pba = s.host.pba
  | .watch => t.host.watch = s.host.watch
  | .atc => t.host.atc = s.host.atc
  | .seval => t.seval = s.seval
  | .fuses => t.fuses = s.fuses
  | .burn => t.fuses.svn = s.fuses.svn ∧ t.fuses.owner = s.fuses.owner
  | .stoker => t.stoker = s.stoker
  | .power => t.power = s.power
  | .d2dCorr => t.d2dCorr = s.d2dCorr
  | .irqs => t.irqs = s.irqs
  | .reply => t.hostReply = s.hostReply
  | .free => t.freeCtr = s.freeCtr

/-! ### What an operation may change -/

/-- What a write of device memory may change (R381, R514). -/
def lineParts : List Part :=
  [.dram, .badLines, .filter, .reg .CXL_SF]

/-- What a trace record may change (R498, R499). -/
def traceParts : List Part :=
  lineParts ++ [.trace, .reg .OBS_GCNT, .reg .OBS_TRSTAT]

/-- What a trigger, or a counter that fires it, may change (R501). -/
def triggerParts : List Part :=
  traceParts ++ [.reg .OBS_TRPOS]

/-- What an interrupt may change (R511). -/
def irqParts : List Part :=
  [.pba, .irqs]

/-- What an event-log record may change (R532). -/
def logParts : List Part :=
  [.nvm, .stoker]

/-- What an uncorrectable line may change (R381, R385, R397). -/
def lineErrorParts : List Part :=
  [.stackPorts, .reg .MEM_ERR, .reg .MEM_UEADR, .reg .MEM_UEPTR]

/-- What a fault record may change (R465, R510). -/
def faultParts : List Part :=
  triggerParts ++ irqParts ++ [.reg .RST_FAULT0, .reg .RST_FAULT1, .reg .RST_FAULT2, .reg .RST_FAULT3,
    .reg .RST_STAT, .reg .SVC_SIDEBAND, .reg .SVC_ALERT, .reg .VF_FAULT0, .reg .VF_FAULT1, .reg .VF_FAULT2,
    .reg .VF_FAULT3]

/-- What the end of a tile may change (R279, R280, R476). -/
def tileParts : List Part :=
  faultParts ++ lineErrorParts ++ [.hostMem, .flights, .hearths, .free, .reg .OBS_CNT]

/-- What starting the head command of a queue may change (R248–R258, R583). -/
def issueParts : List Part :=
  faultParts ++ lineErrorParts ++ [.hostMem, .tlb, .queues, .flights, .accNext, .coll, .flue, .ports, .atc, .free,
    .reg .QUE_STAT, .reg .OBS_CNT, .reg .CXL_ERR, .reg .FLU_RED]

/-- What reading a watch line may change (R251, R252). -/
def watchParts : List Part :=
  issueParts ++ [.watch, .reg .QUE_CTL, .reg .SYNC]

/-- What a step barrier with a decision step may change (R231, R286). -/
def decisionParts : List Part :=
  traceParts ++ lineErrorParts ++ [.hostMem, .queues, .flights, .decisions, .reg .CTX_GOVWIN, .reg .CTX_GOVSTAT,
    .reg .CTX_GOVDONE, .reg .QUE_STAT, .reg .CTX_CFG, .reg .CTX_STEP, .reg .OBS_CTX, .reg .OBS_RING]

/-- What the recovery sequence may change (R467). -/
def recoverParts : List Part :=
  decisionParts ++ irqParts ++ logParts ++ [.mbReq, .mbResp, .tlb, .accNext, .arena, .coll, .flue, .ports, .bays,
    .damper, .hearths, .recov, .link, .watch, .atc, .power, .free, .reg .ID_HEARTHS, .reg .ID_HMAP,
    .reg .HTH_STATE, .reg .CTX_GOVCFG, .reg .CTX_GOVTHR0, .reg .CTX_GOVTHR1, .reg .QUE_CFG, .reg .QUE_CTL,
    .reg .CTX_SYNC, .reg .CTX_TAB, .reg .CTX_PTB, .reg .CTX_NWIN, .reg .DMP_STAT, .reg .DMP_PWR, .reg .DMP_BAY,
    .reg .DMP_TLOG, .reg .DMP_TDRM, .reg .HTH_CONECTL, .reg .RST_STAT, .reg .RST_CTL, .reg .RST_CLAMP,
    .reg .OBS_CNT, .reg .OBS_SEL, .reg .OBS_TRPOS, .reg .CXL_LINK, .reg .STK_MBCTL, .reg .STK_MBSTAT,
    .reg .SVC_SIDEBAND, .reg .SVC_ALERT, .reg .CTX_SCALECFG, .reg .FLU_RED, .reg .SYNC, .reg .VF_FAULT0]

/-- What a recovery cause may change (R464–R467). -/
def causeParts : List Part :=
  recoverParts ++ [.reg .PWR_STAT, .reg .RST_FAULT0, .reg .RST_FAULT1, .reg .RST_FAULT2, .reg .RST_FAULT3,
    .reg .RST_TIME, .reg .VF_FAULT1, .reg .VF_FAULT2, .reg .VF_FAULT3]

/-- What a power-state entry may change (R425, R428). -/
def sleepParts : List Part :=
  triggerParts ++ irqParts ++ [.mbReq, .mbResp, .tlb, .arena, .flue, .ports, .stackPorts, .hearths, .link, .watch,
    .atc, .free, .reg .CTX_GOVSTAT, .reg .FLU_PORT, .reg .DMP_STAT, .reg .DMP_PWR, .reg .DMP_BAY, .reg .DMP_TLOG,
    .reg .DMP_TDRM, .reg .PWR_STAT, .reg .HTH_CONECTL, .reg .RST_CTL, .reg .CXL_LINK, .reg .STK_MBCTL,
    .reg .STK_MBSTAT, .reg .SVC_SIDEBAND, .reg .SVC_ALERT, .reg .FLU_RED]

/-- What a wake may change (R427). -/
def wakeParts : List Part :=
  watchParts ++ [.bays, .damper, .power, .reg .DMP_STAT, .reg .DMP_BAY, .reg .PWR_CTL, .reg .PWR_STAT,
    .reg .CXL_LINK]

/-- Every register. -/
def regParts : List Part := Reg.all.map Part.reg

/-- What a power-down or a reset of every domain changes (R562–R564). -/
def wipeParts : List Part :=
  regParts ++ lineParts ++ [.mbReq, .mbResp, .tlb, .queues, .flights, .accNext, .arena, .decisions, .coll, .flue,
    .topology, .ports, .stackPorts, .bays, .damper, .hearths, .trace, .recov, .link, .pba, .watch, .atc, .seval,
    .stoker, .power, .d2dCorr]

/-- What a boot may change (R530). -/
def bootParts : List Part :=
  wipeParts ++ [.nvm, .fuses, .irqs, .free]

/-! ### The parts that a command may change -/

/-- Where a command belongs: the queues and their engines, the host's side, the fabric and the stacks, or the board and
the module's own controllers. -/
inductive Side where
  | queue
  | host
  | fabric
  | board
deriving DecidableEq, Repr

/-- The side of a command and the parts of the state that it may change; every other part is as before. -/
def frameOf : Instr → Side × List Part
  | .nop _ => (.queue, issueParts)
  | .link _ => (.queue, issueParts)
  | .wait _ => (.queue, issueParts)
  | .signal _ => (.queue, issueParts)
  | .stepMark _ => (.queue, issueParts)
  | .fence _ => (.queue, issueParts)
  | .matmul _ => (.queue, issueParts)
  | .matmulPacked _ => (.queue, issueParts)
  | .matmulTable _ => (.queue, issueParts)
  | .matmulBinary _ => (.queue, issueParts)
  | .matmulStream _ => (.queue, issueParts)
  | .rotate _ => (.queue, issueParts)
  | .quantise _ => (.queue, issueParts)
  | .dequantise _ => (.queue, issueParts)
  | .amaxPass _ => (.queue, issueParts)
  | .vecMap _ => (.queue, issueParts)
  | .vecNorm _ => (.queue, issueParts)
  | .vecSoftmax _ => (.queue, issueParts)
  | .vecLoss _ => (.queue, issueParts)
  | .vecReduce _ => (.queue, issueParts)
  | .move _ => (.queue, issueParts)
  | .offload _ => (.queue, issueParts)
  | .prefetch _ => (.queue, issueParts)
  | .spill _ => (.queue, issueParts)
  | .reduceBucket _ => (.queue, issueParts)
  | .broadcast _ => (.queue, issueParts)
  | .digestCheck _ => (.queue, issueParts)
  | .update _ => (.queue, issueParts)
  | .digest _ => (.queue, issueParts)
  | .tap _ => (.queue, issueParts)
  | .precisionApply _ => (.queue, issueParts)
  | .watchLinePoll _ => (.queue, watchParts)
  | .tilePlace _ => (.queue, faultParts ++ lineErrorParts ++ [.flights, .flue, .ports, .bays, .damper, .hearths,
      .free, .reg .OBS_CNT])
  | .tileComplete _ _ _ => (.queue, tileParts ++ [.d2dCorr, .reg .OBS_CTX, .reg .OBS_RING, .reg .CXL_ERR])
  | .tileFail _ _ _ _ => (.queue, faultParts ++ lineErrorParts ++ logParts ++ [.flights, .coll, .ports, .bays,
      .hearths, .free, .reg .ID_HEARTHS, .reg .ID_HMAP, .reg .HTH_STATE, .reg .HTH_CONE, .reg .HTH_GLZSTAT,
      .reg .OBS_CNT, .reg .OBS_CTX, .reg .OBS_RING, .reg .FLU_RED])
  | .glazeEncode _ _ _ => (.queue, tileParts ++ [.reg .OBS_CTX, .reg .OBS_RING])
  | .escalationPass _ _ => (.queue, tileParts ++ logParts ++ [.bays, .reg .ID_HEARTHS, .reg .ID_HMAP,
      .reg .HTH_STATE, .reg .HTH_CONE, .reg .HTH_GLZSTAT, .reg .OBS_CTX, .reg .OBS_RING])
  | .narrowEmission _ _ => (.queue, triggerParts ++ [.flights, .hearths, .free, .reg .OBS_CNT])
  | .commandComplete _ => (.queue, issueParts ++ [.arena, .reg .QUE_CTL, .reg .OBS_CTX, .reg .OBS_RING, .reg .SYNC])
  | .waitTimeout _ => (.queue, faultParts ++ lineErrorParts ++ [.queues, .flights, .reg .QUE_STAT])
  | .dispatchTimeout _ => (.queue, causeParts)
  | .stepBarrier _ => (.queue, decisionParts)
  | .decisionStepEnd _ => (.queue, decisionParts)
  | .interludeClose _ => (.queue, lineParts ++ [.queues, .flights, .reg .QUE_STAT, .reg .CTX_CFG])
  | .queueEnable _ _ => (.host, watchParts ++ [.reg .QUE_CFG])
  | .queueResume _ _ => (.host, watchParts)
  | .syncObjectWrite _ _ _ => (.host, [.reg .CXL_ERR, .reg .SYNC])
  | .pageTableBaseWrite _ _ => (.host, [.tlb, .reg .CTX_PTB, .reg .CXL_ERR])
  | .recover => (.host, causeParts ++ [.reg .CXL_ERR])
  | .retrain _ => (.host, traceParts ++ [.ports, .reg .FLU_PORT, .reg .FLU_PCTL, .reg .CXL_ERR])
  | .sweep => (.host, [.hearths, .reg .HTH_CONECTL, .reg .CXL_ERR])
  | .rearm => (.host, [.trace, .reg .OBS_TRSTAT, .reg .CXL_ERR])
  | .fire => (.host, triggerParts ++ [.reg .CXL_ERR])
  | .bankedRequest _ => (.host, triggerParts ++ irqParts ++ [.mbReq, .mbResp, .tlb, .arena, .flue, .ports,
      .stackPorts, .hearths, .link, .watch, .atc, .reg .CTX_GOVSTAT, .reg .FLU_PORT, .reg .DMP_STAT, .reg .DMP_PWR,
      .reg .DMP_BAY, .reg .DMP_TLOG, .reg .DMP_TDRM, .reg .PWR_CTL, .reg .PWR_STAT, .reg .HTH_CONECTL, .reg .RST_CTL,
      .reg .CXL_LINK, .reg .CXL_ERR, .reg .STK_MBCTL, .reg .STK_MBSTAT, .reg .SVC_SIDEBAND, .reg .SVC_ALERT,
      .reg .FLU_RED])
  | .emberRequest _ => (.host, triggerParts ++ irqParts ++ [.mbReq, .mbResp, .tlb, .arena, .flue, .ports,
      .stackPorts, .hearths, .link, .watch, .atc, .reg .CTX_GOVSTAT, .reg .FLU_PORT, .reg .DMP_STAT, .reg .DMP_PWR,
      .reg .DMP_BAY, .reg .DMP_TLOG, .reg .DMP_TDRM, .reg .PWR_CTL, .reg .PWR_STAT, .reg .HTH_CONECTL, .reg .RST_CTL,
      .reg .CXL_LINK, .reg .CXL_ERR, .reg .STK_MBCTL, .reg .STK_MBSTAT, .reg .SVC_SIDEBAND, .reg .SVC_ALERT,
      .reg .FLU_RED])
  | .wakeRequest _ _ => (.host, wakeParts)
  | .registerWrite _ _ _ => (.host, regParts ++ lineParts ++ irqParts ++ logParts ++ [.hostMem, .mbReq, .mbResp,
      .tlb, .queues, .flights, .accNext, .arena, .decisions, .coll, .flue, .ports, .stackPorts, .bays, .damper,
      .hearths, .trace, .recov, .link, .watch, .atc, .power, .free])
  | .getInfo _ => (.host, irqParts ++ [.mbResp, .reg .CXL_ERR, .reg .STK_MBCTL, .reg .STK_MBSTAT])
  | .mailboxGetCert _ => (.host, irqParts ++ [.mbResp, .reg .CXL_ERR, .reg .STK_MBCTL, .reg .STK_MBSTAT])
  | .mailboxAttest _ => (.host, irqParts ++ logParts ++ [.mbResp, .fuses, .reg .CXL_ERR, .reg .STK_MBCTL,
      .reg .STK_MBSTAT, .reg .SEC_IDENT])
  | .mailboxReadEvents _ => (.host, irqParts ++ [.mbResp, .reg .CXL_ERR, .reg .STK_MBCTL, .reg .STK_MBSTAT])
  | .updateBegin _ _ => (.host, logParts)
  | .updateData _ _ _ => (.host, logParts)
  | .updateEnd _ => (.host, logParts ++ [.reg .SEC_BOOT])
  | .confirm _ => (.host, logParts ++ [.fuses, .burn, .reg .SEC_BOOT])
  | .configWrite _ _ _ _ => (.host, logParts)
  | .attest _ _ => (.host, logParts ++ [.fuses, .reg .SEC_IDENT])
  | .getCert _ => (.host, logParts)
  | .readEvents _ _ => (.host, logParts)
  | .clearRetire _ _ => (.host, logParts)
  | .enroll _ _ => (.host, logParts ++ [.fuses, .burn, .reg .SEC_IDENT])
  | .wrapPsk _ _ => (.host, logParts)
  | .hostMemRead _ => (.host, lineErrorParts ++ [.filter, .reply, .free, .reg .CXL_ERR, .reg .CXL_SF])
  | .hostMemWrite _ _ => (.host, watchParts)
  | .snoopInvalidation _ _ => (.host, watchParts)
  | .atsInvalidation _ _ _ => (.host, [.link, .atc])
  | .hdmCommit _ _ _ => (.host, [.link, .reg .CXL_LINK, .reg .CXL_ERR])
  | .ideKeyProgram _ => (.host, [.link, .filter, .pba, .watch, .atc, .reg .CXL_LINK])
  | .flr _ => (.host, triggerParts ++ [.queues, .flights, .coll, .recov, .link, .reg .QUE_CFG, .reg .QUE_STAT,
      .reg .QUE_CTL, .reg .OBS_CNT, .reg .FLU_RED, .reg .VF_FAULT0])
  | .cxlLinkDown => (.host, causeParts)
  | .frameReceive _ _ => (.fabric, triggerParts ++ [.flue, .ports, .reg .FLU_PERR])
  | .skipFrameReceive _ _ => (.fabric, [.flue, .ports, .free, .reg .FLU_TIME, .reg .FLU_TSTAT, .reg .FLU_PERR])
  | .skipFrameSend _ => (.fabric, [.flue, .ports])
  | .replayTimeout _ => (.fabric, triggerParts ++ [.flue, .ports, .reg .FLU_PERR])
  | .nak _ => (.fabric, triggerParts ++ [.flue, .ports, .reg .FLU_PERR])
  | .credit _ => (.fabric, triggerParts ++ [.flue, .ports])
  | .creditReport _ => (.fabric, triggerParts ++ [.flue, .ports])
  | .retrainEntry _ _ => (.fabric, traceParts ++ [.reg .FLU_PORT])
  | .retrainDone _ _ => (.fabric, triggerParts ++ [.flue, .ports, .reg .FLU_PORT, .reg .FLU_PCTL, .reg .FLU_PERR])
  | .retrainTimeout _ => (.fabric, traceParts ++ [.flue, .ports, .reg .FLU_PORT, .reg .FLU_PCTL])
  | .failedPortRetry _ => (.fabric, traceParts ++ [.reg .FLU_PORT])
  | .writePacket _ => (.fabric, triggerParts ++ [.flue, .ports, .reg .OBS_CNT])
  | .readReq _ => (.fabric, triggerParts ++ lineErrorParts ++ [.flue, .ports, .reg .OBS_CNT])
  | .readRsp _ => (.fabric, faultParts ++ [.hostMem, .flights, .flue, .ports, .hearths, .free, .reg .OBS_CNT])
  | .writeAck _ => (.fabric, triggerParts ++ [.flights, .flue, .ports, .hearths, .free, .reg .OBS_CNT])
  | .signalPacket _ => (.fabric, triggerParts ++ [.flue, .ports, .reg .SYNC])
  | .signalAck _ => (.fabric, triggerParts ++ [.flights, .flue, .ports, .hearths, .free, .reg .OBS_CNT])
  | .collData _ => (.fabric, faultParts ++ lineErrorParts ++ [.hostMem, .flights, .coll, .flue, .ports,
      .reg .OBS_CNT, .reg .FLU_RED])
  | .collReady _ => (.fabric, faultParts ++ lineErrorParts ++ [.hostMem, .flights, .coll, .flue, .ports,
      .reg .OBS_CNT, .reg .FLU_RED])
  | .collAbort _ => (.fabric, triggerParts ++ [.flights, .coll, .flue, .ports, .reg .FLU_RED])
  | .collAck _ => (.fabric, faultParts ++ lineErrorParts ++ [.hostMem, .flights, .coll, .flue, .ports, .reg .OBS_CNT,
      .reg .FLU_RED])
  | .unreach _ => (.fabric, triggerParts ++ [.flights, .coll, .flue, .ports, .hearths, .free, .reg .OBS_CNT,
      .reg .FLU_RED])
  | .linkstate _ => (.fabric, triggerParts ++ [.flue, .ports])
  | .endpoint _ => (.fabric, triggerParts ++ [.flights, .coll, .flue, .ports, .reg .FLU_RED])
  | .idle _ => (.fabric, triggerParts ++ [.flue, .ports])
  | .transitPacket _ => (.fabric, triggerParts ++ [.flue, .ports])
  | .outputGrant _ _ => (.fabric, triggerParts ++ [.flue, .ports])
  | .creditWaitTimeout _ _ => (.fabric, [.ports])
  | .routingTableSwap => (.fabric, lineParts ++ [.flights, .coll, .ports, .reg .FLU_TSTAT, .reg .FLU_RTGEN,
      .reg .FLU_RED, .reg .FLU_RTE])
  | .stackPortGrant _ _ _ => (.fabric, triggerParts ++ [.stackPorts, .reg .OBS_CNT])
  | .readBeatReturn _ _ _ => (.fabric, faultParts ++ lineErrorParts ++ [.flights, .hearths, .free, .reg .OBS_CNT,
      .reg .OBS_CTX, .reg .OBS_RING])
  | .refreshBlackout _ _ => (.fabric, [.stackPorts])
  | .refreshWindowChange _ _ _ => (.fabric, [.reg .MEM_STK])
  | .patrolScrub _ _ => (.fabric, lineErrorParts ++ [.badLines, .reg .MEM_SCRUB])
  | .correctiveWrite _ => (.fabric, [.stackPorts])
  | .rowSpare _ _ => (.fabric, logParts ++ [.stackPorts, .reg .MEM_STK, .reg .MEM_ERR])
  | .d2dUncorr _ _ _ => (.board, causeParts)
  | .sensorSample _ => (.board, logParts ++ [.bays, .reg .DMP_PWR, .reg .DMP_BAY, .reg .DMP_TLOG, .reg .DMP_TDRM,
      .reg .SVC_SIDEBAND, .reg .SVC_ALERT])
  | .sensorFailure _ => (.board, logParts ++ [.bays, .reg .DMP_BAY, .reg .DMP_TDRM, .reg .SVC_SIDEBAND,
      .reg .SVC_ALERT])
  | .budgetPeriod _ => (.board, triggerParts ++ [.bays, .damper, .reg .DMP_STAT, .reg .DMP_PWR, .reg .DMP_BAY,
      .reg .DMP_TDRM, .reg .HTH_CONE])
  | .fastLimiter _ => (.board, traceParts ++ [.damper, .reg .DMP_STAT, .reg .DMP_BAY])
  | .fallback => (.board, traceParts ++ [.damper, .reg .DMP_STAT, .reg .DMP_BAY])
  | .thermWarn => (.board, irqParts ++ [.reg .DMP_STAT, .reg .SVC_SIDEBAND, .reg .SVC_ALERT])
  | .thermWarnRelease => (.board, irqParts ++ [.reg .DMP_STAT, .reg .SVC_SIDEBAND, .reg .SVC_ALERT])
  | .thermTrip => (.board, traceParts ++ irqParts ++ [.reg .DMP_STAT, .reg .DMP_BAY, .reg .SVC_SIDEBAND,
      .reg .SVC_ALERT])
  | .tripRelease => (.board, triggerParts ++ lineErrorParts ++ irqParts ++ logParts ++ [.hostMem, .queues, .flights,
      .arena, .coll, .flue, .ports, .damper, .recov, .link, .free, .reg .CTX_GOVSTAT, .reg .QUE_CFG, .reg .QUE_STAT,
      .reg .QUE_CTL, .reg .DMP_STAT, .reg .DMP_BAY, .reg .RST_STAT, .reg .RST_CTL, .reg .OBS_CNT, .reg .OBS_CTX,
      .reg .OBS_RING, .reg .SVC_SIDEBAND, .reg .SVC_ALERT, .reg .FLU_RED, .reg .SYNC, .reg .VF_FAULT0])
  | .tripHoldTimeout => (.board, causeParts)
  | .hearthGate _ => (.board, [.hearths])
  | .coneTestDue _ => (.board, [.hearths, .reg .HTH_CONECTL])
  | .coneTestStart _ => (.board, [.hearths])
  | .coneTestOverdue _ => (.board, irqParts ++ logParts ++ [.hearths, .reg .ID_HEARTHS, .reg .ID_HMAP,
      .reg .HTH_STATE, .reg .SVC_SIDEBAND, .reg .SVC_ALERT])
  | .coneTestEnd _ _ => (.board, triggerParts ++ irqParts ++ logParts ++ [.flights, .hearths, .free,
      .reg .ID_HEARTHS, .reg .ID_HMAP, .reg .HTH_STATE, .reg .HTH_CONE, .reg .HTH_CONECTL, .reg .HTH_GLZSTAT,
      .reg .OBS_CNT, .reg .SVC_SIDEBAND, .reg .SVC_ALERT])
  | .busyTimeSave => (.board, logParts)
  | .eventLogReclaim => (.board, logParts)
  | .stokerSramScrub => (.board, [])
  | .stokerEcc => (.board, causeParts)
  | .stokerWdt => (.board, causeParts)
  | .regulator => (.board, causeParts)
  | .pllLockLoss => (.board, [.power, .reg .SVC_SIDEBAND])
  | .quiesceTimeout _ _ => (.board, recoverParts)
  | .sequencerWatchdog => (.board, [.power, .reg .SVC_SIDEBAND])
  | .powerEntry => (.board, sleepParts)
  | .entryTimeout => (.board, traceParts ++ irqParts ++ [.reg .PWR_STAT, .reg .SVC_SIDEBAND, .reg .SVC_ALERT])
  | .wakeTimeout _ => (.board, [.power, .reg .SVC_SIDEBAND])
  | .powerOnReset _ => (.board, bootParts)
  | .bootTimeout => (.board, logParts ++ [.power, .reg .SEC_BOOT, .reg .SVC_SIDEBAND, .reg .SVC_ALERT])
  | .powerDown => (.board, wipeParts)
  | .modRstAssert => (.board, wipeParts)
  | .perstAssert _ => (.board, recoverParts ++ [.reg .PWR_CTL, .reg .PWR_STAT, .reg .RST_FAULT0, .reg .RST_FAULT1,
      .reg .RST_FAULT2, .reg .RST_FAULT3, .reg .CXL_ERR, .reg .VF_FAULT1, .reg .VF_FAULT2, .reg .VF_FAULT3])
  | .perstRelease => (.board, [.free, .reg .CXL_LINK, .reg .SVC_SIDEBAND])
  | .undervoltageLockout => (.board, wipeParts)
  | .overvoltageShutdown => (.board, wipeParts)
  | .traceFreeze => (.board, [.reg .OBS_TRSTAT])
  | .traceFull => (.board, [.reg .OBS_TRSTAT])
  | .inputReturn _ => (.board, bootParts)
  | .pwrEnHoldEnd _ => (.board, bootParts)
  | .thermalReadyTimeout => (.board, [.power, .reg .SVC_SIDEBAND])
  | .flrTimeout _ => (.host, causeParts)

/-! ### When a command acts -/

/-- The queue whose head command a row starts, and the opcodes that the row takes (R248; a reserved opcode starts as NOP
does, R17). The other commands are no opcodes. -/
def opcodeRow : Instr → Option (Fin 64 × (Nat → Bool))
  | .nop q => some (q, fun o => o == 0x00 || opcEngine o == 9)
  | .link q => some (q, (· == 0x01))
  | .wait q => some (q, (· == 0x02))
  | .signal q => some (q, (· == 0x03))
  | .stepMark q => some (q, (· == 0x04))
  | .fence q => some (q, (· == 0x05))
  | .matmul q => some (q, (· == 0x10))
  | .matmulPacked q => some (q, (· == 0x11))
  | .matmulTable q => some (q, (· == 0x12))
  | .matmulBinary q => some (q, (· == 0x13))
  | .matmulStream q => some (q, (· == 0x14))
  | .rotate q => some (q, (· == 0x20))
  | .quantise q => some (q, (· == 0x21))
  | .dequantise q => some (q, (· == 0x22))
  | .amaxPass q => some (q, (· == 0x23))
  | .vecMap q => some (q, (· == 0x30))
  | .vecNorm q => some (q, (· == 0x31))
  | .vecSoftmax q => some (q, (· == 0x32))
  | .vecLoss q => some (q, (· == 0x33))
  | .vecReduce q => some (q, (· == 0x34))
  | .move q => some (q, (· == 0x40))
  | .offload q => some (q, (· == 0x41))
  | .prefetch q => some (q, (· == 0x42))
  | .spill q => some (q, (· == 0x43))
  | .reduceBucket q => some (q, (· == 0x50))
  | .broadcast q => some (q, (· == 0x51))
  | .digestCheck q => some (q, (· == 0x52))
  | .update q => some (q, (· == 0x60))
  | .digest q => some (q, (· == 0x61))
  | .tap q => some (q, (· == 0x70))
  | .precisionApply q => some (q, (· == 0x71))
  | _ => none

/-- A write of PF0 at an offset reaches its register: the link carries it, link encryption is as required, no recovery
shuts the module, and the register has power (R421, R520, R521). -/
def State.pf0Open (s : State) (off : Nat) : Bool := s.linkServes && s.ideOk && !s.shut && (!s.asleep || powered off)

/-- A service request whose number is new is received (R546). -/
def State.svcOpen (s : State) (h : SvcHdr) : Bool := s.svcUp && !s.stoker.replies.any fun r => r.1 == h.seq

/-- The state with a response stored under a request's number (R546). -/
def State.replied (s : State) (h : SvcHdr) (status : Nat) (body : List Byte) : State :=
  { s with stoker := { s.stoker with replies := (h.seq, status, body) :: s.stoker.replies } }

/-- PF0's mailbox request is taken: the mailbox is free and the write reaches it (R520, R521, R547). -/
def State.mailOpen (s : State) : Bool := s.linkServes && s.ideOk && !s.shut && !s.flag STK_MBSTAT_BUSY

/-- CXL.mem requests reach device memory (R512, R520, R521). -/
def State.memOpen (s : State) : Bool := s.hdmServes && s.ideOk && !s.shut && s.dramAwake

/-- The commands that a module which has stopped after a failure still answers (R31): those of the board, of the host's own
memory, and of the thermal comparators. -/
def actsStopped (i : Instr) : Bool :=
  match i with
  | .snoopInvalidation _ _ | .thermWarn | .thermWarnRelease | .thermTrip | .tripRelease | .powerDown | .modRstAssert
  | .perstAssert _ | .perstRelease | .undervoltageLockout | .overvoltageShutdown | .inputReturn _ | .pwrEnHoldEnd _ => true
  | _ => false

/-- The commands that a latched module still answers: those, its switch's, its registers' and its trace's (R408). -/
def actsLatched (i : Instr) : Bool :=
  actsStopped i || match i with
  | .frameReceive _ _ | .skipFrameReceive _ _ | .skipFrameSend _ | .replayTimeout _ | .nak _ | .credit _ | .creditReport _
  | .idle _ | .retrainEntry _ _ | .retrainDone _ _ | .retrainTimeout _ | .failedPortRetry _ | .writePacket _ | .readReq _
  | .readRsp _ | .writeAck _ | .signalPacket _ | .signalAck _ | .collData _ | .collReady _ | .collAbort _ | .collAck _
  | .unreach _ | .linkstate _ | .endpoint _ | .transitPacket _ | .outputGrant _ _ | .creditWaitTimeout _ _
  | .registerWrite _ _ _ | .traceFreeze | .traceFull => true
  | _ => false

/-- Every command that waits is well formed. -/
def State.pendingWf (s : State) : Bool := s.pending.all Instr.wf

/-- A step answers a next state. -/
def completes (o : Host.Outcome State Fault Refusal) : Prop := ∃ t, o = .next t

end Sys2Proof.Machine
end

