-- ==== Sys2Proof/Certificates/Slice0/Obligations.lean ====
section
/-! DEFINITION. The statements for the provers, family by family. -/

open Sys2Proof Sys2Proof.Machine

/-! ## The queue of commands, the whole machine -/

/-- A step runs the command at the front of the queue on the state with the queue's rest. -/
def Obligations.StepRunsFrontCommand : Prop :=
  ∀ (c : Instr) (rest : List Instr) (s : State), s.pending = c :: rest → step s = exec c { s with pending := rest }

/-- With no command waiting a step is one tick of the reference clock: 10 ns on the root's timebase; the clocks stand
in OFF, in reset, in EMBER and in a module that has stopped (R31, R367, R421). That an idle step is a tick is the model's
choice (log entry 11). -/
def Obligations.IdleStepIsClockTick : Prop :=
  ∀ s : State, s.pending = [] →
    step s = .next s.tick
    ∧ ((s.power.life = .off ∨ s.power.life = .inReset ∨ s.stopped = true ∨ s.getF PWR_STAT_STATE = 2) → s.tick = s)
    ∧ (s.power.life ≠ .off → s.power.life ≠ .inReset → s.stopped = false → s.getF PWR_STAT_STATE ≠ 2 →
        s.rank = s.flue.root → s.flue.frac < 2 ^ 32 → s.tick.now = (s.now + 10) % 2 ^ 64)

/-- After reset every store is canonical, no command waits, every field reads its reset value, and nothing is on. What
unwritten memory reads as and what no table gives at reset are the model's choices (log entries 1, 6, 25). -/
def Obligations.ResetStateCanonical : Prop :=
  State.reset.canon = true ∧ State.reset.pendingWf = true ∧ (∀ f : Fld, State.reset.getF f = f.reset)
    ∧ (∀ a, State.reset.dbyte a = memBlank) ∧ (∀ a, State.reset.nbyte a = nvmBlank)
    ∧ State.reset.flights = [] ∧ State.reset.power.life = .off

/-- Every step keeps every store of the state in canonical form. -/
def Obligations.StepKeepsCanonicalForm : Prop :=
  ∀ s t : State, s.canon = true → step s = .next t → t.canon = true

/-- Whatever a step does, fuses and OTP are only ever burnt (R3, R528, R529, R540, R541). -/
def Obligations.StepOnlyBurnsFuses : Prop :=
  ∀ s t : State, step s = .next t → s.fuses.growsTo t.fuses

/-- No command touches the queue of waiting commands: what waits, waits on. CONFIRM alone changes the security-version
fuses (R529), and ENROLL alone the enrolled owner (R540). -/
def Obligations.QueueAndFusesHaveTheirWriters : Prop :=
  (∀ (c : Instr) (s t : State), exec c s = .next t → t.pending = s.pending)
  ∧ (∀ (c : Instr) (s t : State), exec c s = .next t →
       ((∀ h, c ≠ .confirm h) → t.fuses.svn = s.fuses.svn)
       ∧ ((∀ h k, c ≠ .enroll h k) → t.fuses.owner = s.fuses.owner))

/-- Every command answers a next state in every state, but for a CXL.mem access outside the committed window, an
address that the module does not have (R512). -/
def Obligations.OnlyHostAccessFaults : Prop :=
  ∀ (c : Instr) (s : State), completes (exec c s)
    ∨ ∃ a, (c = .hostMemRead a ∨ ∃ d, c = .hostMemWrite a d) ∧ s.hdmServes = true ∧ s.inWindow a = false
        ∧ exec c s = .fault (.hostAddress a)

/-- The frame of the commands of the queues and their engines: a part that is not listed for a command is as before.
-/
def Obligations.QueueSideFrame : Prop :=
  ∀ (c : Instr) (s t : State) (p : Part), (frameOf c).1 = .queue → exec c s = .next t → p ∉ (frameOf c).2 → p.same s t

/-- The frame of the host's commands. -/
def Obligations.HostSideFrame : Prop :=
  ∀ (c : Instr) (s t : State) (p : Part), (frameOf c).1 = .host → exec c s = .next t → p ∉ (frameOf c).2 → p.same s t

/-- The frame of the commands of the fabric and the stacks. -/
def Obligations.FabricSideFrame : Prop :=
  ∀ (c : Instr) (s t : State) (p : Part), (frameOf c).1 = .fabric → exec c s = .next t → p ∉ (frameOf c).2 → p.same s t

/-- The frame of the commands of the board and the module's own controllers. -/
def Obligations.BoardSideFrame : Prop :=
  ∀ (c : Instr) (s t : State) (p : Part), (frameOf c).1 = .board → exec c s = .next t → p ∉ (frameOf c).2 → p.same s t

/-! ## Commands of the queues -/

/-- The row of an opcode starts the head command of its queue: the command takes its place in flight with the plan
that its words give, and the head moves on (R248, R256, R258). -/
def Obligations.OpcodeRowStartsHead : Prop :=
  ∀ (c : Instr) (q : Fin 64) (p : Nat → Bool) (s : State) (ws : List Byte) (plan : Plan),
    opcodeRow c = some (q, p) → s.due q = true → s.fetchCmd q (s.headIdx q) = .ok ws → p (cOpc ws) = true →
    (isBarrier (cOpc ws) = true → s.flightsOf q = []) → s.waitHolds q ws = false → s.startCheck q ws = .ok plan →
    s.accHolds q ws plan = false →
    let u := s.startAccepted q ws plan
    exec c s = .next (u.started q (s.headIdx q))
      ∧ u.headIdx q = (s.headIdx q + 1) % 2 ^ 48
      ∧ ∃ f, u.flights = s.flights ++ [f] ∧ f.q = q.val ∧ f.n = s.headIdx q ∧ f.words = ws ∧ f.plan = plan ∧ f.errs = []

/-- When the row of an opcode does not start its head command: the queue is not due, the command carries another
opcode, a barrier waits for earlier commands (R258), a wait holds and the queue shows WAITING (R256, R266, R288), or
the accumulation pool is short (R476). -/
def Obligations.OpcodeRowHolds : Prop :=
  ∀ (c : Instr) (q : Fin 64) (p : Nat → Bool) (s : State), opcodeRow c = some (q, p) →
    (s.due q = false → exec c s = .next s)
    ∧ ∀ ws, s.due q = true → s.fetchCmd q (s.headIdx q) = .ok ws →
        (p (cOpc ws) = false → exec c s = .next s)
        ∧ (p (cOpc ws) = true → isBarrier (cOpc ws) = true → s.flightsOf q ≠ [] → exec c s = .next s)
        ∧ (p (cOpc ws) = true → (isBarrier (cOpc ws) = true → s.flightsOf q = []) → s.waitHolds q ws = true →
            exec c s = .next (s.setQState q qWaiting))
        ∧ ∀ plan, p (cOpc ws) = true → (isBarrier (cOpc ws) = true → s.flightsOf q = []) → s.waitHolds q ws = false →
            s.startCheck q ws = .ok plan → s.accHolds q ws plan = true → exec c s = .next s

/-- A head command that fails its start checks ends with that status, before any effect (R17, R246, R284): it is in
flight with the status and nothing to do, its record will count the tiles that its words cut it into (R278, R282), the
head has moved on, and no sync object has changed. A head command that
cannot be read starts under any row and ends ACCESS_FAULT or MEMORY_UNCORRECTABLE with no effect and no tiles (R583;
that any row starts it is the model's choice, log entry 9). -/
def Obligations.OpcodeRowEndsHeadAtOnce : Prop :=
  (∀ (c : Instr) (q : Fin 64) (p : Nat → Bool) (s : State) (ws : List Byte) (e : Status × Option Nat),
     opcodeRow c = some (q, p) → s.due q = true → s.fetchCmd q (s.headIdx q) = .ok ws → p (cOpc ws) = true →
     (isBarrier (cOpc ws) = true → s.flightsOf q = []) → s.waitHolds q ws = false → s.startCheck q ws = .error e →
     let v := if s.xlateRefused q ws e.1 then s.addSat CXL_ERR_XLATE 1 else s
     let u := v.startRejected q ws e
     exec c s = .next (u.started q (s.headIdx q))
       ∧ u.headIdx q = (s.headIdx q + 1) % 2 ^ 48
       ∧ (∀ n, u.sync n = s.sync n)
       ∧ ∃ f, u.flights = s.flights ++ [f] ∧ f.q = q.val ∧ f.n = s.headIdx q ∧ f.words = ws ∧ f.plan = .control
           ∧ f.total = commandTiles (v.env q ws) ws ∧ f.errs = [e.1])
  ∧ (∀ (c : Instr) (q : Fin 64) (p : Nat → Bool) (s : State) (e : Status × Option Nat),
       opcodeRow c = some (q, p) → s.due q = true → s.fetchCmd q (s.headIdx q) = .error e →
       let u := s.startUnreadable q e
       exec c s = .next (u.started q (s.headIdx q))
         ∧ (e.1 = .accessFault ∨ e.1 = .memoryUncorrectable)
         ∧ u.headIdx q = (s.headIdx q + 1) % 2 ^ 48
         ∧ (∀ n, u.sync n = s.sync n)
         ∧ ∃ f, u.flights = s.flights ++ [f] ∧ f.q = q.val ∧ f.n = s.headIdx q ∧ f.words = List.replicate 64 0
             ∧ f.plan = .control ∧ f.total = 0 ∧ f.errs = [e.1])

/-- WATCH_LINE_POLL: a parked queue takes the tail and the ring's head that its watch line in device memory holds,
ignores a line of another epoch, and halts with DECODE_ERROR and no completion record when `TAIL` breaks its rule
(R252, R515); an uncorrectable line is reported and not taken, which is the model's reading (log entry 15). -/
def Obligations.WatchLinePollTakesTail : Prop :=
  ∀ (q : Fin 64) (s : State) (a : Nat), s.running = true → s.live q = true → s.getF (QUE_STAT_STATE q) = qParked →
    s.watchAt q = some (.device, a) → s.rangeCheck (s.ctxOf q) (s.watchVA q) 64 false = .ok →
    (∀ pa, s.rangeBad (s.ctxOf q) (s.watchVA q) 64 = some pa →
      exec (.watchLinePoll q) s = .next (s.ueFound pa false (s.ctxOf q)))
    ∧ (s.rangeBad (s.ctxOf q) (s.watchVA q) 64 = none →
    let rd := rdNat (s.vbyte (s.ctxOf q))
    let tail := rd (s.watchVA q) 6
    (rd (s.watchVA q + 6) 2 ≠ s.getF (QUE_PTR_EPOCH q 1) → exec (.watchLinePoll q) s = .next s)
    ∧ (rd (s.watchVA q + 6) 2 = s.getF (QUE_PTR_EPOCH q 1) → (s.queue q).tail ≤ tail → tail ≤ s.headIdx q + 2 ^ 47 →
        exec (.watchLinePoll q) s = .next
          (((s.setQueue q { s.queue q with tail := tail, cqHead := rd (s.watchVA q + 8) 6 }).settle q).issueUnreadable q))
    ∧ (rd (s.watchVA q + 6) 2 = s.getF (QUE_PTR_EPOCH q 1) → (tail < (s.queue q).tail ∨ s.headIdx q + 2 ^ 47 < tail) →
        ∃ t, exec (.watchLinePoll q) s = .next t ∧ t.getF (QUE_CTL_HALT q) = 1 ∧ t.getF (QUE_STAT_STATE q) = qHalted
          ∧ t.getF (QUE_STAT_LAST_STATUS q) = 0x20 ∧ t.flights = s.flights))

/-! ## Tiles -/

/-- TILE_PLACE: one CTRL cycle places the first candidate that fits in an eligible Bay, the one with the highest
headroom and the lower number on ties (R413, R414). -/
def Obligations.TilePlacedInBestBay : Prop :=
  ∀ (aged : List (Fin 64)) (s : State), s.running = true →
    (s.firstFit (aged.map (·.val)) = none → exec (.tilePlace aged) s = .next s)
    ∧ ∀ (f : Flight) (ts : List Nat) (b : Nat) (old : Bool), s.firstFit (aged.map (·.val)) = some (f, ts, b, old) →
        let ok (x : Nat) : Prop := x < 16 ∧ f.instCount ts ≤ (s.freeFor f ts x).length ∧ s.bayRuns x = true
          ∧ (old = true ∨ s.bayFits x (s.groupP f ts x) = true)
        exec (.tilePlace aged) s = .next ((s.placeGroup f ts b).passQueue f.q old)
          ∧ ok b ∧ ∀ x, ok x → s.headroom x (s.groupP f ts x) ≤ s.headroom b (s.groupP f ts b)
            ∧ (s.headroom x (s.groupP f ts x) = s.headroom b (s.groupP f ts b) → b ≤ x)

/-- TILE_COMPLETE: corrected reads and transfers are counted, and the tile ends as its plan says; of a vector tile what
it computes is written and counted, the tile is marked done, and its instance is free (R272, R414, R476). TILE_FAIL: a tile
whose read of an on-die store is uncorrectable goes back to the dispatcher as a retry elsewhere, at most twice; then its
failure is final (R279). -/
def Obligations.TilesLandOrRetry : Prop :=
  (∀ (q : Fin 64) (n tile reads : Nat) (links : List (Fin 6 × Nat)) (s : State),
     (s.landing q n tile = none → exec (.tileComplete q n ⟨tile, reads, links⟩) s = .next s)
     ∧ ∀ f : Flight, s.landing q n tile = some f →
         let u := s.countCorrected f tile reads links
         exec (.tileComplete q n ⟨tile, reads, links⟩) s = .next (u.tileEnds f tile)
         ∧ ∀ op : VecOp, f.plan = .vector op → u.hostLost f tile = false →
             u.badOf (u.ctxOf f.q) (f.plan.tileReads (u.vbyte (u.ctxOf f.q)) tile) = none →
             let r := op.tile (u.vbyte (u.ctxOf f.q)) tile
             let t := ((u.applyWrites (u.ctxOf f.q) r.1).countAll (u.ctxOf f.q) [(0x23, r.2)]).landTiles f [tile]
             exec (.tileComplete q n ⟨tile, reads, links⟩) s = .next t
               ∧ ∃ g, t.flight? q n = some g ∧ tile ∈ g.done ∧ ∀ x ∈ g.running, x.tile ≠ tile)
  ∧ (∀ (q : Fin 64) (n tile : Nat) (s : State) (f : Flight) (r : Running), s.runningAt q n tile = some (f, r) →
       (s.engine q = 1 ∨ s.engine q = 2 ∨ s.engine q = 5) →
       let ts := f.backWith tile
       let g := f.retried ts tile r.inst false
       (f.tries tile < 2 → s.retryPossible g g.emits ts = true →
         exec (.tileFail q n tile .sram) s
             = .next ((((ts.foldl (fun s t => s.runCut f t) s).count (s.ctxOf q) 0x02 1).putFlight g).decideEsc q n)
           ∧ g.retries = f.retries + 1 ∧ g.tries tile = f.tries tile + 1 ∧ tile ∈ g.again
           ∧ ∀ x ∈ g.running, x.tile ≠ tile)
       ∧ (2 ≤ f.tries tile →
         exec (.tileFail q n tile .sram) s
           = .next ((s.failTiles { f with mism := g.mism } [tile] .partialTiles).decideEsc q n)))

/-- GLAZE_ENCODE: a unit whose values are formed is encoded once, its bytes are written with those of the units that share
its fate, and then escalation is decided; an uncorrectable read fails its tiles (R87, R139, R173–R181, R280). ESCALATION_PASS: every tile of the command that has not failed is written once the
passes are over (R183). NARROW_EMISSION: once the update tiles of a command are settled and none has failed, its
emission panels become candidates (R305). -/
def Obligations.GlazeAndEscalation : Prop :=
  (∀ (q : Fin 64) (n unit : Nat) (s : State),
     (s.encoding q n unit = none → exec (.glazeEncode q n unit) s = .next s)
     ∧ ∀ (f : Flight) (pi lu : Nat) (o : BbfOut), s.encoding q n unit = some f → f.plan.unitAt unit = some (pi, o, lu) →
         let rd := s.vbyte (s.ctxOf f.q)
         let bad := s.badOf (s.ctxOf f.q) (f.plan.unitReads rd pi o lu (s.gathers f) f.parts)
         f.encoded unit = false
         ∧ (∀ pa, bad = some pa → exec (.glazeEncode q n unit) s
             = .next ((s.failMemory f (f.plan.unitTileIdx unit) pa).decideEsc q n))
         ∧ ∀ vals, bad = none → f.plan.unitVals rd pi o lu = some vals → exec (.glazeEncode q n unit) s
             = .next ((s.writeUnit f o lu unit (f.plan.emit rd o lu vals) false).decideEsc q n))
  ∧ (∀ (q : Fin 64) (n : Nat) (s : State) (f : Flight) (e : EscState), s.escIdle q n = some f → f.esc = some e →
       ∀ fails, ∃ t, exec (.escalationPass q ⟨n, fails⟩) s = .next t
         ∧ ∀ g, t.flight? q n = some g → ∀ k, k < g.total → k ∈ g.done ∨ ∃ x ∈ g.failed, x.1 = k)
  ∧ (∀ (q : Fin 64) (n : Nat) (s : State) (f : Flight) (op : UpdOp) (o : BbfOut), s.emissionDue q n = some (f, op, o) →
       (f.failed.filter fun p => decide (p.1 < op.tiles)) = [] →
       exec (.narrowEmission q n) s = .next (s.putFlight { f with phase := if f.esc.isSome then 2 else 3 }))

/-! ## Completion and time limits -/

/-- COMMAND_COMPLETE: the oldest command of a queue completes; one that ends with an error status of its start halts
the queue: its status is shown, `HALT` is set, and the command has left the queue (R260, R285). A completion record:
32 bytes; the status, the phase bit that alternates with each pass of the 4,096-slot ring, the tag, and the failed
tile's index when none failed (R254, R282). -/
def Obligations.CompletionRecordsAndHalts : Prop :=
  (∀ (q : Fin 64) (s : State),
     (s.completing q = none → exec (.commandComplete q) s = .next s)
     ∧ ∀ f, s.completing q = some f →
         exec (.commandComplete q) s = .next ((s.complete f).issueUnreadable q)
         ∧ ∀ e, f.errs = [e] → f.failed = [] → e.isOk = false → e ≠ .syncRange →
             ∃ t, exec (.commandComplete q) s = .next t ∧ t.getF (QUE_STAT_LAST_STATUS q) = e.code
               ∧ t.getF (QUE_CTL_HALT q) = 1 ∧ t.getF (QUE_STAT_STATE q) = qHalted
               ∧ ∀ g ∈ t.flights, ¬ (g.q = q.val ∧ g.n = f.n))
  ∧ (∀ (f : Flight) (st : Status) (bitmap cycles : Nat),
       let r := f.record st bitmap cycles
       r.length = 32 ∧ rdNat (fun i => r.getD i 0) 0 1 = st.code
         ∧ rdNat (fun i => r.getD i 0) 1 1 = (if f.n / 4096 % 2 = 0 then 1 else 0)
         ∧ rdNat (fun i => r.getD i 0) 2 2 = cTag f.words % 2 ^ 16
         ∧ rdNat (fun i => r.getD i 0) 4 4 = f.total % 2 ^ 32
         ∧ (f.failed = [] → rdNat (fun i => r.getD i 0) 16 4 = 0xFFFFFFFF))

/-- WAIT_TIMEOUT: a head command that waits completes TIMEOUT with no effect; a STEP_MARK that holds lets its queue go
with that status (R266). The time that has passed is the event's (log entry 38). -/
def Obligations.WaitTimeoutEndsWait : Prop :=
  ∀ (q : Fin 64) (s : State),
    (∀ ws, s.waitingHead q = some ws → ∃ t g, exec (.waitTimeout q) s = .next t ∧ t.flights = s.flights ++ [g]
        ∧ g.q = q.val ∧ g.n = s.headIdx q ∧ g.errs = [.timeout] ∧ g.plan = .control ∧ ∀ n, t.sync n = s.sync n)
    ∧ (∀ f, s.waitingHead q = none → s.heldMark q = some f → ∃ t g, exec (.waitTimeout q) s = .next t
        ∧ (t.queue q).mark = none ∧ t.flight? q f.n = some g ∧ g.errs = [.timeout])
    ∧ (s.waitingHead q = none → s.heldMark q = none → exec (.waitTimeout q) s = .next s)

/-! ## Steps and the governor -/

/-- STEP_BARRIER: the counter takes its next value, a window may close, and the interlude opens, or closes at once when
the context has no evaluation queue; a barrier that a decision step holds sets `OVERRUN`; marks that load different
steps end without moving the counter (R231, R286, R287). The held barrier is the model's reading (log entry 29). -/
def Obligations.StepBarrierActsOnce : Prop :=
  ∀ (c : Fin 16) (s : State), s.barrierMet c = true →
    ((s.closesWindow c = false ∨ s.deciding c = false) → (s.loads c).length ≤ 1 →
      ∃ t, exec (.stepBarrier c) s = .next t ∧ t.getF (CTX_STEP_STEP c) = s.nextStep c % 2 ^ 64
        ∧ t.getF (CTX_CFG_INTERLUDE c) = (if (s.evalQs c).isEmpty then 0 else 1)
        ∧ t.getF (CTX_GOVWIN_WIN c)
          = (if s.closesWindow c then (s.getF (CTX_GOVWIN_WIN c) + 1) % 2 ^ 32 else s.getF (CTX_GOVWIN_WIN c)))
    ∧ (s.closesWindow c = true → s.deciding c = true → (s.loads c).length ≤ 1 →
      exec (.stepBarrier c) s = .next (s.setF (CTX_GOVSTAT_OVERRUN c) 1))
    ∧ (1 < (s.loads c).length → ∃ t, exec (.stepBarrier c) s = .next t
        ∧ t.getF (CTX_STEP_STEP c) = s.getF (CTX_STEP_STEP c)
        ∧ t.getF (CTX_CFG_INTERLUDE c) = s.getF (CTX_CFG_INTERLUDE c) ∧ ∀ q ∈ s.trainQs c, t.holding q = false)

/-- DECISION_STEP_END: the running decision step's window is shown as done and `BUSY` falls; with no further decision
and no barrier waiting nothing else changes (R231). INTERLUDE_CLOSE: the interlude ends, and no queue of the context
holds at a mark any more (R287). The moment of a decision's effects is the model's reading (log entry 29). -/
def Obligations.DecisionAndInterludeEnd : Prop :=
  (∀ (c : Fin 16) (w : Nat) (s : State), s.running = true → s.decisions = [(c.val, w)] →
     let u : State := { s.setFs [(CTX_GOVDONE_DONE_WIN c, w), (CTX_GOVSTAT_BUSY c, 0)] with decisions := [] }
     u.barrierMet c = false →
     exec (.decisionStepEnd c) s = .next u ∧ u.getF (CTX_GOVDONE_DONE_WIN c) = w % 2 ^ 32
       ∧ u.getF (CTX_GOVSTAT_BUSY c) = 0)
  ∧ (∀ (c : Fin 16) (s : State), s.interludeDone c = true →
       ∃ t, exec (.interludeClose c) s = .next t ∧ t.getF (CTX_CFG_INTERLUDE c) = 0
         ∧ ∀ q ∈ s.trainQs c ++ s.evalQs c, t.holding q = false)

/-! ## The host's writes -/

/-- The writes that PF0 makes by commands of their own and over BAR0. -/
def pf0Writes (n : Fin 8192) (c : Fin 16) (q : Fin 64) (p : Fin 6) (v : BitVec 64) (e : BitVec 32) (o : WakeOut)
    (base size ways : Nat) : List Instr :=
  [.syncObjectWrite .pf0 n v, .pageTableBaseWrite c v, .queueEnable q e, .queueResume .pf0 q, .recover, .retrain p, .sweep,
    .rearm, .fire, .bankedRequest .pf0, .emberRequest .pf0, .wakeRequest .pf0 o, .hdmCommit base size ways]

/-- A write of PF0 is lost while the link is down, refused and counted without the link encryption that is required,
and discarded while a recovery shuts the module (R520, R521). -/
def Obligations.ShutModuleDiscardsHostWrites : Prop :=
  ∀ (n : Fin 8192) (c : Fin 16) (q : Fin 64) (p : Fin 6) (v : BitVec 64) (e : BitVec 32) (o : WakeOut)
    (base size ways : Nat) (s : State) (i : Instr), i ∈ pf0Writes n c q p v e o base size ways →
    (s.linkServes = false → exec i s = .next s)
    ∧ (s.linkServes = true → s.ideOk = false → exec i s = .next (s.addSat CXL_ERR_REFUSED 1))
    ∧ (s.linkServes = true → s.ideOk = true → s.shut = true → exec i s = .next s)

/-- An addition to a sync object: the sum when it fits 64 bits; past 2⁶⁴ − 1 the object, and everything else, stays
(R261); no other object changes. SYNC_OBJECT_WRITE sets the object and nothing else; a VF reaches the objects of its
own range, and a write from a VF to any other object is discarded (R263; a VF's page shows the first 4,096, R509).
PAGE_TABLE_BASE_WRITE sets the base and discards the context's cached translations, and only those (R378, R398). -/
def Obligations.HostWritesOfSyncAndTables : Prop :=
  (∀ (s : State) (n inc sub c q : Nat), n < 8192 →
     (s.sync n + inc < 2 ^ 64 → (s.syncAdd n inc sub c q).sync n = s.sync n + inc)
     ∧ (2 ^ 64 ≤ s.sync n + inc → s.syncAdd n inc sub c q = s)
     ∧ ∀ m, m < 8192 → m ≠ n → (s.syncAdd n inc sub c q).sync m = s.sync m)
  ∧ (∀ (n : Fin 8192) (v : BitVec 64) (c : Fin 16) (s : State), s.pf0Open 0x100000 = true →
       exec (.syncObjectWrite .pf0 n v) s = .next (s.setF (SYNC_VALUE n) v.toNat)
       ∧ (s.setF (SYNC_VALUE n) v.toNat).sync n = v.toNat
       ∧ (∀ m : Fin 8192, m ≠ n → (s.setF (SYNC_VALUE n) v.toNat).sync m = s.sync m)
       ∧ (s.vfOn c = true → s.vfSees c n = true →
           exec (.syncObjectWrite (.vf c) n v) s = .next (s.setF (SYNC_VALUE n) v.toNat))
       ∧ (s.vfSees c n = false → exec (.syncObjectWrite (.vf c) n v) s = .next s))
  ∧ (∀ (c : Fin 16) (v : BitVec 64) (s : State), s.pf0Open 0x20060 = true →
       ∃ t, exec (.pageTableBaseWrite c v) s = .next t ∧ t.getF (CTX_PTB_BASE c) = v.toNat / 2 ^ 21 % 2 ^ 19
         ∧ ∀ k, t.tlb.find? k = if k / 2 ^ 27 = c.val then none else s.tlb.find? k)

/-- QUEUE_ENABLE with `EN` 1 creates a queue at command 0, parked, not halted, with no segments or marks, and then reads
its watch line (R249, R250, R252); one that finds `EN` 1 leaves the queue bound to its engine type and context (R37).
QUEUE_ENABLE with `EN` 0 disables a queue that is parked or halted; any other queue
keeps its whole configuration (R288). QUEUE_RESUME: a halted queue goes on at `RESTART`, forgets the segments laid
beyond it, and reads its watch line; one that is not halted, or disabled, ignores the write (R285, R480). Corners of
restart, disabling and a live queue's other fields are the model's reading (log entries 26, 27, 60). -/
def Obligations.QueueControlWrites : Prop :=
  (∀ (q : Fin 64) (v : BitVec 32) (s : State), s.pf0Open 0x10000 = true → s.flag (QUE_CFG_EN q) = false →
     bitOf v.toNat 31 = true →
     ∃ u : State, exec (.queueEnable q v) s = .next (u.readWatch q) ∧ u.flag (QUE_CFG_EN q) = true
       ∧ u.ctxOf q = v.toNat / 2 ^ 16 % 16 ∧ u.headIdx q = 0 ∧ u.getF (QUE_CTL_HALT q) = 0
       ∧ u.getF (QUE_STAT_STATE q) = qParked ∧ u.queue q = QueueRt.init
       ∧ (within 1 5 (v.toNat / 2 ^ 28 % 8) = true → u.engine q = v.toNat / 2 ^ 28 % 8)
       ∧ (within 1 5 (v.toNat / 2 ^ 28 % 8) = false → u.engine q = s.engine q))
  ∧ (∀ (q : Fin 64) (v : BitVec 32) (s : State), s.pf0Open 0x10000 = true → s.flag (QUE_CFG_EN q) = true →
       bitOf v.toNat 31 = true →
       ∃ t, exec (.queueEnable q v) s = .next t ∧ t.engine q = s.engine q ∧ t.ctxOf q = s.ctxOf q
         ∧ t.flag (QUE_CFG_EN q) = true ∧ t.headIdx q = s.headIdx q ∧ t.queue q = s.queue q)
  ∧ (∀ (q : Fin 64) (v : BitVec 32) (s : State), s.pf0Open 0x10000 = true → s.flag (QUE_CFG_EN q) = true →
       bitOf v.toNat 31 = false →
       ((s.getF (QUE_STAT_STATE q) = qParked ∨ s.getF (QUE_STAT_STATE q) = qHalted) →
         ∃ t, exec (.queueEnable q v) s = .next t ∧ t.flag (QUE_CFG_EN q) = false
           ∧ t.getF (QUE_STAT_STATE q) = qDisabled ∧ t.getF (QUE_CTL_HALT q) = 0 ∧ t.queue q = QueueRt.init)
       ∧ (s.getF (QUE_STAT_STATE q) ≠ qParked → s.getF (QUE_STAT_STATE q) ≠ qHalted → exec (.queueEnable q v) s = .next s))
  ∧ (∀ (q : Fin 64) (s : State), s.pf0Open 0x10028 = true →
       ((s.flag (QUE_CTL_HALT q) && s.flag (QUE_CFG_EN q)) = false → exec (.queueResume .pf0 q) s = .next s)
       ∧ (s.flag (QUE_CTL_HALT q) = true → s.flag (QUE_CFG_EN q) = true →
         ∃ u : State, exec (.queueResume .pf0 q) s = .next ((u.readWatch q).issueUnreadable q)
           ∧ u.getF (QUE_CTL_HALT q) = 0 ∧ u.headIdx q = s.getF (QUE_CTL_RESTART q) % 2 ^ 48
           ∧ (u.queue q).tail = (s.queue q).tail
           ∧ (u.queue q).segs = (s.queue q).segs.filter fun p => decide (p.1 ≤ s.getF (QUE_CTL_RESTART q))))

/-- REARM clears the freeze, `FULL` and the trigger and starts the trace at offset and `SEQ` 0 (R500); FIRE is the
HOST cause: an armed trigger that has not fired, of a trace that is not frozen, fires at the present offset (R501).
The trace's ends: in TRIGGER mode it freezes once its post-trigger records are written, in STOP_FULL it is full at the
region's end; a trace that is frozen or full writes nothing (R499, R500). -/
def Obligations.TraceControlAndEnds : Prop :=
  (∀ s : State, s.pf0Open 0x604004 = true →
     (∃ t, exec .rearm s = .next t ∧ t.getF OBS_TRSTAT_FROZEN = 0 ∧ t.getF OBS_TRSTAT_FULL = 0
       ∧ t.getF OBS_TRSTAT_TRIGD = 0 ∧ t.getF OBS_TRSTAT_CAUSE = 0 ∧ t.getF OBS_TRSTAT_WOFF = 0 ∧ t.trace = ⟨0, none⟩
       ∧ t.dram = s.dram)
     ∧ (bitOf (s.getF OBS_TRTRIG_ARM) 4 = true → s.getF OBS_TRSTAT_TRIGD = 0 → s.getF OBS_TRSTAT_FROZEN = 0 →
       ∃ t, exec .fire s = .next t ∧ t.getF OBS_TRSTAT_TRIGD = 1 ∧ t.getF OBS_TRSTAT_CAUSE = 5
         ∧ t.getF OBS_TRPOS_TOFF = s.getF OBS_TRSTAT_WOFF % 2 ^ 35)
     ∧ ((bitOf (s.getF OBS_TRTRIG_ARM) 4 = false ∨ s.flag OBS_TRSTAT_TRIGD = true ∨ s.flag OBS_TRSTAT_FROZEN = true) →
       exec .fire s = .next s))
  ∧ (∀ (s : State),
       (s.trace.post = some 0 → s.getF OBS_TRSTAT_FROZEN = 0 → s.stopped = false → ∃ t, exec .traceFreeze s = .next t
         ∧ t.getF OBS_TRSTAT_FROZEN = 1 ∧ t.dram = s.dram)
       ∧ (s.traceAtEnd = true → s.stopped = false → ∃ t, exec .traceFull s = .next t ∧ t.getF OBS_TRSTAT_FULL = 1 ∧ t.dram = s.dram)
       ∧ (∀ cls sub ctx queue d0 d1, (s.flag OBS_TRSTAT_FROZEN = true ∨ s.flag OBS_TRSTAT_FULL = true) →
           s.traceRec cls sub ctx queue d0 d1 = s)
       ∧ (∀ cls sub ctx queue d0 d1, s.traceOpen = true → traceForced cls = true → s.getF OBS_TRCFG_MODE ≠ 1 →
           (s.traceRec cls sub ctx queue d0 d1).getF OBS_TRSTAT_WOFF
             = (if s.traceBytes ≤ s.getF OBS_TRSTAT_WOFF + 32 then 0 else s.getF OBS_TRSTAT_WOFF + 32) % 2 ^ 35
           ∧ ∀ x, (s.traceRec cls sub ctx queue d0 d1).dbyte x
             = if s.saggar + s.getF OBS_TRSTAT_WOFF ≤ x ∧ x < s.saggar + s.getF OBS_TRSTAT_WOFF + 32 then
                 (traceBytesOf s.now cls sub ctx queue s.trace.seq d0 d1).getD (x - (s.saggar + s.getF OBS_TRSTAT_WOFF)) 0
               else s.dbyte x))

/-- Registers whose write follows a rule of its own, not only its fields' access codes. -/
def ownRule : List Reg :=
  [.QUE_CFG, .QUE_CTL, .CTX_SYNC, .CTX_PTB, .CTX_NWIN, .PWR_CTL, .RST_CTL, .FLU_PCTL, .HTH_CONECTL, .OBS_TRCTL, .OBS_SEL,
    .OBS_QSNAP, .OBS_TRCFG, .STK_MBCTL, .RST_FAULT0, .SVC_ALERT]

/-- What a field reads after a write of its register, as its access code says (R11, R12, R14). -/
def fieldAfter (s : State) (d : RDesc) (i j : Nat) (f : RField) (value : Nat) : Nat :=
  let v := value / 2 ^ f.lo % 2 ^ f.width
  let old := s.getF (d.fld i j f)
  if s.accepts d.reg i j f.lo v = false then old
  else match f.access with
    | .rw => v
    | .rwb => if s.flag SEC_BOOT_LOCK then old else v
    | .rw1c => if v = 1 then 0 else old
    | _ => old

/-- REGISTER_WRITE: an aligned write of a whole register reaches it, from PF0, from a VF over its page, and over I3C where
the board controller may write; a write that meets no whole register, or one from a VF that is not enabled, does nothing
(R508, R509, R569). Each field then takes its bits as its access code says: RW takes them unless they are a reserved
encoding, RWB only before the boot lock, RW1C is cleared by a 1, and everything else stays (R11, R12, R14). A write that a
command of its own makes has that command's effect; `CTX_SYNC`, `CTX_NWIN`, `OBS_SEL`, `OBS_QSNAP` and `STK_MBCTL` follow
their own rules (R289, R398, R488, R502, R547). MSI-X table words and the mailbox's request buffer hold what is written;
`NumVFs`, MSI-X and ATS enables are set as written (R505, R511, R517). Which fields a reserved encoding discards is the
model's reading (log entry 26). -/
def Obligations.RegisterWriteFollowsAccessCodes : Prop :=
  (∀ (off bytes value i j : Nat) (d : RDesc) (s : State), regAtWrite off bytes = some (d, i, j) →
     (s.pf0Open off = true → off < 0x801000 →
       exec (.registerWrite (.bar .pf0 off) bytes value) s = .next (s.writeReg d i j value))
     ∧ (off ∈ [0x300800, 0x300804, 0x1904] → s.i3cUp = true →
       exec (.registerWrite (.bar .i3c off) bytes value) s = .next (s.writeReg d i j value))
     ∧ (∀ (c : Fin 16) (x : Nat), s.pf0Open (s.vfPower c x) = true → s.vfOn c = true → s.vfOffset c x = some off →
       exec (.registerWrite (.bar (.vf c) x) bytes value) s = .next (s.writeReg d i j value))
     ∧ (d.reg ∉ ownRule →
       let t := s.writeReg d i j value
       t = { s with regs := t.regs }
         ∧ (∀ f ∈ d.fields, t.getF (d.fld i j f) = fieldAfter s d i j f value)
         ∧ ∀ g : Fld, (∀ f ∈ d.fields, g.key ≠ (d.fld i j f).key) → t.getF g = s.getF g))
  ∧ (∀ (off bytes value : Nat) (s : State),
       (s.pf0Open off = true → off < 0x801000 → regAtWrite off bytes = none →
         exec (.registerWrite (.bar .pf0 off) bytes value) s = .next s)
       ∧ (off ∉ [0x300800, 0x300804, 0x1904] → exec (.registerWrite (.bar .i3c off) bytes value) s = .next s)
       ∧ (∀ c : Fin 16, s.pf0Open (s.vfPower c off) = true → s.vfOn c = false →
         exec (.registerWrite (.bar (.vf c) off) bytes value) s = .next s))
  ∧ (∀ (q : Fin 64) (c : Fin 16) (p : Fin 6) (v : BitVec 32) (w : BitVec 64) (s : State),
       exec (.registerWrite (.bar .pf0 (0x10000 + 0x100 * q)) 4 v.toNat) s = exec (.queueEnable q v) s
       ∧ exec (.registerWrite (.bar .pf0 (0x20060 + 0x100 * c)) 8 w.toNat) s = exec (.pageTableBaseWrite c w) s
       ∧ exec (.registerWrite (.bar .pf0 (0x401004 + 0x40 * p)) 4 (2 ^ 31)) s = exec (.retrain p) s
       ∧ exec (.registerWrite (.bar .pf0 0x700004) 4 (2 ^ 31)) s = exec .recover s
       ∧ exec (.registerWrite (.bar .pf0 0x3C80) 4 (2 ^ 31)) s = exec .sweep s
       ∧ exec (.registerWrite (.bar .pf0 0x604004) 4 (2 ^ 31)) s = exec .rearm s
       ∧ exec (.registerWrite (.bar .pf0 0x604004) 4 (2 ^ 30)) s = exec .fire s
       ∧ exec (.registerWrite (.bar .pf0 0x300800) 4 1) s = exec (.bankedRequest .pf0) s
       ∧ exec (.registerWrite (.bar .pf0 0x300800) 4 2) s = exec (.emberRequest .pf0) s)
  ∧ (∀ (c : Fin 16) (i : Fin 2) (value : Nat) (s : State), s.pf0Open 0x20000 = true →
       (∃ t, exec (.registerWrite (.bar .pf0 (0x20004 + 0x100 * c)) 4 value) s = .next t
         ∧ t.getF (CTX_SYNC_REMOTE_OK c) = bitsOf value 31 31
         ∧ (let b := bitsOf value 28 16
            let n := bitsOf value 13 0
            if 256 ≤ b ∧ b + n ≤ 8192 then t.getF (CTX_SYNC_BASE c) = b ∧ t.getF (CTX_SYNC_COUNT c) = n
            else t.getF (CTX_SYNC_BASE c) = s.getF (CTX_SYNC_BASE c) ∧ t.getF (CTX_SYNC_COUNT c) = s.getF (CTX_SYNC_COUNT c)))
       ∧ (∃ t, exec (.registerWrite (.bar .pf0 (0x20068 + 0x100 * c)) 8 value) s = .next t
         ∧ (let en := bitsOf value 63 63
            let n := bitsOf value 58 40
            let b := bitsOf value 39 21
            if (b + n) * 2 ^ 21 ≤ s.saggar ∧ ¬ (en = 1 ∧ n = 0) then
              t.getF (CTX_NWIN_EN c) = en ∧ t.getF (CTX_NWIN_LEN c) = n ∧ t.getF (CTX_NWIN_BASE c) = b
            else t = s))
       ∧ (∃ t, exec (.registerWrite (.bar .pf0 (0x602000 + 0x20 * c + 8 * i)) 8 value) s = .next t
         ∧ ∀ k, k < 8 → let v := value / 2 ^ (8 * k) % 256
             t.getF (OBS_SEL_SEL c i) / 2 ^ (8 * k) % 256
               = if ctxEvent v then v else s.getF (OBS_SEL_SEL c i) / 2 ^ (8 * k) % 256)
       ∧ (∃ t, exec (.registerWrite (.bar .pf0 0x603000) 8 value) s = .next t
         ∧ ∀ q : Fin 64, bitOf (t.getF OBS_QSNAP_SNAP) q = bitOf value q)
       ∧ (s.flag STK_MBSTAT_BUSY = true → exec (.registerWrite (.bar .pf0 0x800000) 8 value) s = .next s)
       ∧ (s.flag STK_MBSTAT_BUSY = false → ∃ t, exec (.registerWrite (.bar .pf0 0x800000) 8 value) s = .next t
         ∧ t.getF STK_MBCTL_CMD = bitsOf value 47 32 ∧ t.getF STK_MBCTL_LEN = bitsOf value 31 0
         ∧ (if bitOf value 63 = true ∧ within 1 4 (bitsOf value 47 32) = true then
             t.getF STK_MBCTL_GO = 1 ∧ t.getF STK_MBSTAT_BUSY = 1
           else t.getF STK_MBCTL_GO = 0 ∧ t.getF STK_MBSTAT_BUSY = s.getF STK_MBSTAT_BUSY)))
  ∧ (∀ (off bytes value : Nat) (s : State),
       (s.pf0Open 0x1800 = true → off % 4 = 0 → off < 16 * 70 → ∃ t,
         exec (.registerWrite (.bar .pf0 (0x900000 + off)) 4 value) s = .next t
         ∧ ∀ v w, w < 4 → t.msixWord 0 v w = if off / 4 = 4 * v + w then (if w = 3 then value % 2 else value % 2 ^ 32)
             else s.msixWord 0 v w)
       ∧ (s.pf0Open 0x801000 = true → off + bytes ≤ 65536 → ∃ t,
         exec (.registerWrite (.bar .pf0 (0x801000 + off)) bytes value) s = .next t
         ∧ ∀ x, Mem.read memBlank t.mbReq x = if off ≤ x ∧ x < off + bytes then (leBytes bytes value).getD (x - off) 0
             else Mem.read memBlank s.mbReq x)
       ∧ (s.linkServes = true →
         (∀ n on, ∃ t, exec (.registerWrite (.numVfs n on) bytes value) s = .next t ∧ t.host.numVfs = n.val
           ∧ t.host.vfEn = on)
         ∧ ∀ (fn : Fin 17) (on : Bool),
           (∃ t, exec (.registerWrite (.msixEnable fn on) bytes value) s = .next t
             ∧ ∀ x, x ∈ t.host.msixOn ↔ (if x = fn.val then on = true else x ∈ s.host.msixOn))
           ∧ ∃ t, exec (.registerWrite (.atsEnable fn on) bytes value) s = .next t
             ∧ ∀ x, x ∈ t.host.atsOn ↔ (if x = fn.val then on = true else x ∈ s.host.atsOn)))

/-! ## Service requests and the mailbox -/

/-- A repeated service request gets its stored response again, with no effect; and none is served while the Stoker does
not run (R546). A request that must carry the owner's signature and does not is answered AUTH_FAILED, and one for an
owner who is not enrolled NOT_ALLOWED; nothing else changes (R546). Status codes that no rule gives are the model's
choice (log entry 21). -/
def Obligations.ServiceRequestGate : Prop :=
  (∀ (h : SvcHdr) (a b : Nat) (data : List Byte) (s : State) (i : Instr),
     i ∈ [Instr.updateBegin h a, .updateData h a data, .updateEnd h, .confirm h, .configWrite h a b data, .attest h data,
       .getCert h, .readEvents h a, .clearRetire h a, .enroll h data, .wrapPsk h data] →
     s.svcOpen h = false → exec i s = .next s)
  ∧ (∀ (h : SvcHdr) (a b : Nat) (data : List Byte) (s : State) (i : Instr), s.svcOpen h = true → h.signed = false →
       (s.seval.svcAuth = true → i ∈ [Instr.updateEnd h, .confirm h, .configWrite h a b data] →
         exec i s = .next (s.replied h svcAuthFailed []))
       ∧ exec (.wrapPsk h data) s = .next (s.replied h svcAuthFailed [])
       ∧ (s.fuses.owner.isSome = true → exec (.clearRetire h a) s = .next (s.replied h svcAuthFailed []))
       ∧ (s.fuses.owner = none → exec (.clearRetire h a) s = .next (s.replied h svcNotAllowed [])))

/-- An update: UPDATE_BEGIN erases the spare slot, which UPDATE_DATA then fills where it says, and UPDATE_END accepts
the whole of an image that the boot would accept (R545, R546). CONFIRM while a trial runs burns the security-version
fuses up to the confirmed image's version and ends the trial (R529, R545); at any other time it is not allowed. Status
codes that no rule gives are the model's choice (log entries 21, 34). -/
def Obligations.UpdateAndConfirm : Prop :=
  (∀ (h : SvcHdr) (s : State), s.svcOpen h = true → h.signed = false →
     (∀ len, s.bootHdr.pend = false → 0 < len → len ≤ 24 * 2 ^ 20 →
       ∃ t, exec (.updateBegin h len) s = .next t ∧ t.stoker.updLen = some len ∧ t.stoker.updSpans = []
         ∧ t.stoker.replies = (h.seq, svcOk, []) :: s.stoker.replies
         ∧ ∀ i, i < 24 * 2 ^ 20 → t.nbyte (slotBase s.spareSlot + i) = 0xFF)
     ∧ (∀ len offset (data : List Byte), s.stoker.updLen = some len → data.length ≤ 8192 → offset + data.length ≤ len →
       ∃ t, exec (.updateData h offset data) s = .next t
         ∧ t.stoker.updSpans = (offset, data.length) :: s.stoker.updSpans
         ∧ t.stoker.replies = (h.seq, svcOk, []) :: s.stoker.replies
         ∧ ∀ x, t.nbyte x = if slotBase s.spareSlot + offset ≤ x ∧ x < slotBase s.spareSlot + offset + data.length
             then data.getD (x - (slotBase s.spareSlot + offset)) 0 else s.nbyte x)
     ∧ (∀ len, s.seval.svcAuth = false → s.stoker.updLen = some len →
       ∃ t, exec (.updateEnd h) s = .next t
         ∧ (if spansCover len s.stoker.updSpans = true ∧ s.fwOk s.spareSlot = true then
             t.stoker.updLen = none ∧ t.getF SEC_BOOT_TRIES = 0
               ∧ t.stoker.replies = (h.seq, svcOk, []) :: s.stoker.replies
           else t = s.replied h svcBad []))
     ∧ (s.stoker.updLen = none → ∀ offset data, exec (.updateData h offset data) s = .next (s.replied h svcNotAllowed [])))
  ∧ (∀ (h : SvcHdr) (s : State), s.svcOpen h = true → h.signed = false → s.seval.svcAuth = false →
       (s.flag SEC_BOOT_TRIAL = true → s.power.life = .up →
         ∃ t, exec (.confirm h) s = .next t
           ∧ t.fuses.svn = max s.fuses.svn (min (s.fwSvn (s.getF SEC_BOOT_SLOT)) 64)
           ∧ t.getF SEC_BOOT_TRIAL = 0 ∧ t.getF SEC_BOOT_TRIES = 0 ∧ t.getF SEC_BOOT_SVN_FUSE = t.fuses.svn % 256
           ∧ t.stoker.replies = (h.seq, svcOk, []) :: s.stoker.replies)
       ∧ ((s.flag SEC_BOOT_TRIAL = false ∨ s.power.life ≠ .up) → exec (.confirm h) s = .next (s.replied h svcNotAllowed [])))

/-- CONFIG_WRITE: a piece of an image that is not yet complete is kept with the pieces before it; one that leaves the
image's bounds is malformed (R535, R546). Status codes that no rule gives are the model's choice (log entries 21, 34).
-/
def Obligations.ConfigPiecesGather : Prop :=
  ∀ (h : SvcHdr) (total offset : Nat) (data : List Byte) (s : State), s.svcOpen h = true → h.signed = false →
    s.seval.svcAuth = false →
    ((4 * 2 ^ 20 < total ∨ total = 0 ∨ 8192 < data.length ∨ total < offset + data.length) →
      exec (.configWrite h total offset data) s = .next (s.replied h svcBad []))
    ∧ (0 < total → total ≤ 4 * 2 ^ 20 → data.length ≤ 8192 → offset + data.length ≤ total → s.stoker.cfgLen = total →
      spansCover total ((offset, data.length) :: s.stoker.cfgSpans) = false →
      ∃ t, exec (.configWrite h total offset data) s = .next t ∧ t.stoker.cfgLen = total
        ∧ t.stoker.cfgSpans = (offset, data.length) :: s.stoker.cfgSpans
        ∧ t.stoker.replies = (h.seq, svcOk, []) :: s.stoker.replies ∧ t.nvm = s.nvm
        ∧ ∀ x, Mem.read memBlank t.stoker.cfgBytes x = if offset ≤ x ∧ x < offset + data.length
            then data.getD (x - offset) 0 else Mem.read memBlank s.stoker.cfgBytes x)

/-- Identity: ENROLL burns the key's hash once and never again (R540); GET_CERT gives the certificate, when it is good,
and READ_EVENTS the log's records, changing nothing; ATTEST spends one leaf on a report, at most one a second
(R539–R543). Requests that the owner signed: WRAP_PSK answers the wrapped key, and CLEAR_RETIRE records a retired Hearth
to be tested again at the next boot, but for one retired by its fuses; the owner's counter is recorded before either
acts (R453, R546). EVENT_LOG_RECLAIM, when four erased blocks are left: the oldest block is erased (R533). Status codes
that no rule gives are the model's choice (log entry 21). -/
def Obligations.IdentityAndOwnerServices : Prop :=
  (∀ (h : SvcHdr) (s : State), s.svcOpen h = true → h.signed = false →
     (∀ key : List Byte, key.length = 68 → s.fuses.owner = none →
       exec (.enroll h key) s = .next
         (({ s with fuses := { s.fuses with owner := some (shake512 key) } }.setF SEC_IDENT_OWNER 1).replied h svcOk []))
     ∧ (∀ key : List Byte, key.length = 68 → s.fuses.owner.isSome = true →
       exec (.enroll h key) s = .next (s.replied h svcNotAllowed []))
     ∧ (s.flag SEC_IDENT_CERT_OK = true → exec (.getCert h) s = .next (s.replied h svcOk s.certBytes))
     ∧ (s.flag SEC_IDENT_CERT_OK = false → exec (.getCert h) s = .next (s.replied h svcNotAllowed []))
     ∧ (∀ seq, exec (.readEvents h seq) s = .next (s.replied h svcOk (s.events seq 128).2.2))
     ∧ (∀ nonce : List Byte, nonce.length = 32 → s.flag SEC_IDENT_CERT_OK = true → s.signedLately = false →
       s.getF SEC_IDENT_LEAVES ≠ 0 → s.getF SEC_IDENT_LEAVES < 512 →
       ∃ t body, exec (.attest h nonce) s = .next t ∧ t.stoker.replies = (h.seq, svcOk, body) :: s.stoker.replies
         ∧ t.getF SEC_IDENT_LEAVES = s.getF SEC_IDENT_LEAVES - 1 ∧ t.stoker.nextLeaf = s.stoker.nextLeaf + 1
         ∧ t.stoker.lastSign = some s.now)
     ∧ (∀ nonce : List Byte, nonce.length = 32 → s.flag SEC_IDENT_CERT_OK = true → s.signedLately = true →
       exec (.attest h nonce) s = .next (s.replied h svcBusy [])))
  ∧ (∀ (h : SvcHdr) (s : State), s.svcOpen h = true →
       (∀ key : List Byte, key.length = 32 →
         exec (.wrapPsk h key) s = .next (if s.authOk .always h 0x0B key = true then
           (s.takeOctr h).replied h svcOk (leBytes 40 (keyWrap (leNat key))) else s.replied h svcAuthFailed []))
       ∧ (∀ x, x < 288 → s.fuses.owner.isSome = true → s.hState x = hRetired → s.stoker.fuseRetired.contains x = false →
         ∃ t, exec (.clearRetire h x) s = .next t
           ∧ (if s.authOk .always h 0x09 (leBytes 4 x) = true then
               x ∈ t.stoker.clearReq ∧ t.stoker.replies = (h.seq, svcOk, []) :: s.stoker.replies
             else t = s.replied h svcAuthFailed []))
       ∧ (∀ x, x < 288 → s.fuses.owner.isSome = true → s.stoker.fuseRetired.contains x = true →
         exec (.clearRetire h x) s = .next (if s.authOk .always h 0x09 (leBytes 4 x) = true then
           (s.takeOctr h).replied h svcNotAllowed [] else s.replied h svcAuthFailed [])))
  ∧ (∀ (s : State) (b seq : Nat), s.running = true → s.logBlocks.head? = some (b, seq) → s.erasedBlocks ≤ 4 →
       ∃ t, exec .eventLogReclaim s = .next t ∧ ∀ i, i < 65536 → t.nbyte (evBase + 65536 * b + i) = 0xFF)

/-- A mailbox request that is served: the response is in its buffer, `RESULT` and `RLEN` say what it is, `BUSY` and `GO`
are clear, and PF0 gets vector 67 (R547). Status codes that no rule gives are the model's choice (log entry 21). -/
def Obligations.MailboxAnswers : Prop :=
  ∀ (len : Nat) (s : State), s.mailOpen = true → len ≤ 65536 →
    (∃ t, exec (.getInfo len) s = .next t ∧ t.getF STK_MBSTAT_RESULT = svcOk ∧ t.getF STK_MBSTAT_RLEN = 140
      ∧ t.getF STK_MBSTAT_BUSY = 0 ∧ t.getF STK_MBCTL_GO = 0
      ∧ (∀ x, x < 64 → Mem.read memBlank t.mbResp x = (leBytes 64 s.stoker.meas).getD x 0)
      ∧ (s.host.msixOn.contains 0 = true → s.msixWord 0 67 3 % 2 = 0 → t.irqs = (0, 67) :: s.irqs))
    ∧ (∃ t, exec (.mailboxGetCert len) s = .next t ∧ t.getF STK_MBSTAT_BUSY = 0 ∧ t.getF STK_MBCTL_GO = 0
      ∧ t.getF STK_MBSTAT_RESULT = (if s.flag SEC_IDENT_CERT_OK then svcOk else svcNotAllowed))
    ∧ (∃ t, exec (.mailboxAttest len) s = .next t ∧ t.getF STK_MBSTAT_BUSY = 0 ∧ t.getF STK_MBCTL_GO = 0
      ∧ (s.seval.hostAttest = false → t.getF STK_MBSTAT_RESULT = svcNotAllowed)
      ∧ (s.seval.hostAttest = true → len = 32 → s.flag SEC_IDENT_CERT_OK = true → s.signedLately = false →
          s.getF SEC_IDENT_LEAVES ≠ 0 → t.getF STK_MBSTAT_RESULT = svcOk ∧ t.stoker.nextLeaf = s.stoker.nextLeaf + 1))
    ∧ (∃ t, exec (.mailboxReadEvents len) s = .next t ∧ t.getF STK_MBSTAT_BUSY = 0 ∧ t.getF STK_MBCTL_GO = 0
      ∧ t.getF STK_MBSTAT_RESULT = (if len = 8 ∧ leNat (s.request 4 4) ≤ 1000 then svcOk else svcBad))

/-! ## The host's memory accesses and the link -/

/-- A host read of an uncorrectable line: zero data with the poison indication, `POISON` counted, the line logged in
the address ring with `CTX` 0, and nothing marked in memory (R516). -/
def Obligations.UncorrectableHostReadPoisoned : Prop :=
  ∀ (addr : Nat) (s : State), s.memOpen = true → s.inWindow addr = true →
    let pa := (addr - s.host.hdmBase) / 64 * 64
    let i := s.getF MEM_UEPTR_NEXT
    s.badLines.get false (pa / 64) = true → pa < 2 ^ 40 →
    ∃ t, exec (.hostMemRead addr) s = .next t
      ∧ t.hostReply = some ⟨List.replicate 64 0, true⟩
      ∧ t.getF CXL_ERR_POISON = min (s.getF CXL_ERR_POISON + 1) (2 ^ 16 - 1)
      ∧ t.getF (MEM_UEADR_VALID i) = 1 ∧ t.getF (MEM_UEADR_ADDR i) = pa / 64 ∧ t.getF (MEM_UEADR_CTX i) = 0
      ∧ t.dram = s.dram ∧ t.badLines = s.badLines

/-- A host read of any other line of the window: its 64 bytes, and the line is the snoop filter's most recent one; while
a recovery shuts the module or encryption is missing the answer is poison; outside the window there is no such address
(R512, R514, R520, R521). A host write of bytes within one line: exactly those bytes of device memory change, and the
queues that watch the line then read it; a write into the Saggar regions is discarded and counted; a partial write of an
uncorrectable line is discarded, and the line reported (R252, R373, R375, R381, R512). The counters of refused and shut accesses are the
model's reading (log entry 36). -/
def Obligations.HostMemoryAccesses : Prop :=
  (∀ (addr : Nat) (s : State),
     (s.memOpen = true → s.inWindow addr = true → s.badLines.get false ((addr - s.host.hdmBase) / 64) = false →
       ∃ t, exec (.hostMemRead addr) s = .next t
         ∧ t.hostReply = some ⟨bytesAt s.dbyte ((addr - s.host.hdmBase) / 64 * 64) 64, false⟩
         ∧ t.host.filter.getLast? = some ((addr - s.host.hdmBase) / 64)
         ∧ t.getF CXL_SF_OCC = t.host.filter.length % 2 ^ 20 ∧ t.dram = s.dram)
     ∧ (s.hdmServes = true → (s.ideOk = false ∨ s.shut = true) → exec (.hostMemRead addr) s = .next s.poisonReply)
     ∧ (s.memOpen = true → s.inWindow addr = false → exec (.hostMemRead addr) s = .fault (.hostAddress addr)))
  ∧ (∀ (addr : Nat) (data : List Byte) (s : State), s.memOpen = true → addr % 64 + data.length ≤ 64 →
       let pa := addr - s.host.hdmBase
       (s.inWindow addr = true → pa < s.saggar → (s.badLines.get false (pa / 64) && decide (data.length < 64)) = false →
         exec (.hostMemWrite addr data) s = .next ((s.hostPut pa data).snoopWrite pa data.length)
         ∧ ∀ x, (s.hostPut pa data).dbyte x = if pa ≤ x ∧ x < pa + data.length then data.getD (x - pa) 0 else s.dbyte x)
       ∧ (s.inWindow addr = true → s.saggar ≤ pa →
         exec (.hostMemWrite addr data) s = .next (s.addSat (MEM_ERR_HOSTREJ (s.stackAddr pa).1) 1))
       ∧ (s.inWindow addr = true → pa < s.saggar → s.badLines.get false (pa / 64) = true → data.length < 64 →
         exec (.hostMemWrite addr data) s = .next (s.ueFound (pa / 64 * 64) false 0))
       ∧ (s.inWindow addr = false → exec (.hostMemWrite addr data) s = .fault (.hostAddress addr)))

/-- What the host does to lines and pages that the module caches: a written line of host memory holds its new bytes
and is held no longer, and its queues read it again (R519); an invalidated page's translation is gone, and the host's
next answer is as it says (R517, R518). The link's setting up: a decoder of multiples of 256 MiB up to 1 TiB with one
way commits, any other setting fails (R512); a stream's key makes it secure, and `IDE` shows both (R520). -/
def Obligations.HostLinkCommands : Prop :=
  (∀ (s : State),
     (∀ (addr : Nat) (data : List Byte), data.length = 64 →
       let u := s.hostLine addr data
       let line := addr / 64
       let v : State := { u with host := { u.host with watch := u.host.watch.filter (· != line) } }
       (∀ x, Mem.read memBlank u.hostMem x = if addr / 64 * 64 ≤ x ∧ x < addr / 64 * 64 + 64
           then data.getD (x - addr / 64 * 64) 0 else Mem.read memBlank s.hostMem x)
       ∧ (s.running = true → s.linkServes = true → s.ideOk = true → s.host.watch.contains line = true →
           exec (.snoopInvalidation addr data) s = .next ((v.watchers line).foldl State.readWatch v))
       ∧ (s.host.watch.contains line = false → exec (.snoopInvalidation addr data) s = .next u))
     ∧ (∀ (c : Fin 16) (page : Nat) (granted : Bool), s.linkServes = true →
       ∃ t, exec (.atsInvalidation c page granted) s = .next t ∧ (c.val, page) ∉ t.host.atc
         ∧ ((c.val, page) ∈ t.host.atsDeny ↔ granted = false)
         ∧ ∀ k, k ≠ (c.val, page) → (k ∈ t.host.atc ↔ k ∈ s.host.atc)))
  ∧ (∀ (s : State),
       (∀ base size ways, s.linkServes = true → s.ideOk = true → s.shut = false →
         (base % 2 ^ 28 = 0 → size % 2 ^ 28 = 0 → 0 < size → size ≤ 2 ^ 40 → ways = 1 →
           ∃ t, exec (.hdmCommit base size ways) s = .next t ∧ t.host.hdmBase = base ∧ t.host.hdmSize = size
             ∧ t.flag CXL_LINK_HDM = true)
         ∧ ((base % 2 ^ 28 ≠ 0 ∨ size % 2 ^ 28 ≠ 0 ∨ size = 0 ∨ 2 ^ 40 < size ∨ ways ≠ 1) →
           exec (.hdmCommit base size ways) s = .next s))
       ∧ ∀ stream : Fin 2, ∃ t, exec (.ideKeyProgram stream) s = .next t
         ∧ (if s.linkServes = true ∧ s.seval.psk.any (fun k => keyUnwraps k.2) = true then
             t.host.ideMem = (s.host.ideMem || stream == 0) ∧ t.host.ideIo = (s.host.ideIo || stream == 1)
               ∧ t.flag CXL_LINK_IDE = (t.host.ideMem && t.host.ideIo)
           else t = s))

/-- FLR of an enabled VF disables the queues of its context, drops their commands with no record and masks its MSI-X
entries (R506); during a recovery it is kept for READY (R522). That a reset of a function acts whole is the model's
reading (log entry 35). -/
def Obligations.FunctionResetDisablesQueues : Prop :=
  ∀ (c : Fin 16) (s : State), s.linkServes = true → s.vfOn c = true →
    (s.recov = none → ∃ t, exec (.flr c) s = .next t
      ∧ (∀ q : Fin 64, s.ctxOf q = c.val → t.flag (QUE_CFG_EN q) = false ∧ t.getF (QUE_CTL_HALT q) = 0
          ∧ t.getF (QUE_STAT_STATE q) = qDisabled ∧ t.holding q = false)
      ∧ (∀ f ∈ t.flights, f.q < 64 → s.ctxOf f.q ≠ c.val)
      ∧ (∀ v, v < 65 → t.msixWord (c + 1) v 3 % 2 = 1) ∧ t.getF (VF_FAULT0_VALID c) = 0)
    ∧ (∀ r, s.recov = some r → exec (.flr c) s = .next { s with recov := some { r with flrPending := r.flrPending ++ [c.val] } })

/-! ## The Flue -/

/-- FRAME_RECEIVE: an accepted frame is the next expected one with both codewords and its CRC good; its well-formed
packets reach the input buffer in order, the malformed ones are counted, and its `ACK` frees the retry buffer. Any other
frame leaves the input alone, and one NAK at most goes out until a frame is accepted; the codewords of each frame are
counted (R345, R349, R355). A SKIP exchange gives the link delay; one with the parent sets the offset shown, steps the
timebase at once when it is beyond 1 µs, and marks the module synchronised then or when the offset is small; one with
another neighbour corrects nothing (R367, R368); every 4,095 frames a SKIP frame leaves with the time of its first symbol
(R346, R351). Corners of the link layer are the model's reading (log entries 13, 33). -/
def Obligations.FramesAndTimebase : Prop :=
  (∀ (p : Fin 6) (f : FrameIn) (s : State), s.linkUp p = true →
     let r := s.port p
     let good := wordsGood f.words = true ∧ frameCrcOk f = true ∧ f.seq.val = r.rxSeq
     (∃ t, exec (.frameReceive p f) s = .next t
       ∧ t.getF (FLU_PERR_CORR p) = min (s.getF (FLU_PERR_CORR p) + f.words.corrected) (2 ^ (FLU_PERR_CORR p).width - 1)
       ∧ t.getF (FLU_PERR_UNCORR p)
         = min (s.getF (FLU_PERR_UNCORR p) + (b2n f.words.bad1 + b2n f.words.bad2)) (2 ^ (FLU_PERR_UNCORR p).width - 1))
     ∧ (good → ∃ t, exec (.frameReceive p f) s = .next t ∧ (t.port p).rxSeq = (r.rxSeq + 1) % 256
         ∧ (t.port p).inbuf = r.inbuf ++ (f.packets.filter fun pk => !badPacket pk) ∧ (t.port p).nakSent = false
         ∧ t.getF (FLU_PERR_BADPKT p)
           = min (s.getF (FLU_PERR_BADPKT p) + (f.packets.filter badPacket).length) (2 ^ (FLU_PERR_BADPKT p).width - 1)
         ∧ ((f.packets.filter badPacket) = [] → (t.port p).unacked = match r.unacked.findIdx? fun x => x.1 == f.ack.val with
             | some i => r.unacked.drop (i + 1)
             | none => r.unacked))
     ∧ (¬ good → ∃ t, exec (.frameReceive p f) s = .next t ∧ (t.port p).rxSeq = r.rxSeq ∧ (t.port p).inbuf = r.inbuf
         ∧ (r.nakSent = true → t.flue.wire = s.flue.wire)
         ∧ (r.nakSent = false → r.unacked.length < 128 → (t.port p).nakSent = true
             ∧ (t.port p).unacked.length = r.unacked.length + 1)))
  ∧ (∀ (p : Fin 6) (f : SkipIn) (s : State), s.linkUp p = true →
       let r := s.port p
       (skipCrcOk f = false → exec (.skipFrameReceive p f) s = .next (s.takeWords p f.words))
       ∧ (skipCrcOk f = true → ∃ t, exec (.skipFrameReceive p f) s = .next t ∧ (t.port p).skipRx = s.now
         ∧ (∀ t1, r.skipTx = some t1 → (t.port p).delay = (((f.rx : Int) - t1) + ((s.now : Int) - f.tx)) / 2)
         ∧ ((s.getF FLU_TSTAT_PARENT ≠ p.val ∨ r.skipTx = none) → t.now = s.now
             ∧ t.getF FLU_TSTAT_OFFSET = s.getF FLU_TSTAT_OFFSET)
         ∧ (∀ t1, s.getF FLU_TSTAT_PARENT = p.val → r.skipTx = some t1 →
             let o := (((s.now : Int) - f.tx) - ((f.rx : Int) - t1)) / 2
             t.getF FLU_TSTAT_OFFSET = offsetCode o % 2 ^ 16
               ∧ (1000 < o.natAbs → t.getF FLU_TSTAT_SYNCED = 1 ∧ t.now = (((s.now : Int) - o) % 2 ^ 64).toNat)
               ∧ (o.natAbs ≤ 1000 → t.now = s.now
                   ∧ t.getF FLU_TSTAT_SYNCED = (if o.natAbs ≤ 4 * s.rootHops then 1 else 0))))
       ∧ (4095 ≤ r.framesSent → ∃ t x pk, exec (.skipFrameSend p) s = .next t ∧ (t.port p).framesSent = 0
           ∧ (t.port p).skipTx = some s.now ∧ t.flue.wire = x :: s.flue.wire ∧ x.port = p.val ∧ x.seq = 0xFF ∧ x.ack = 0xFF
           ∧ x.packets = [pk] ∧ pk.args = [s.now, r.skipRx])
       ∧ (r.framesSent < 4095 → exec (.skipFrameSend p) s = .next s))

/-- Replay: a timeout sends every unacknowledged frame again, oldest first, and keeps them all; a NAK replays from the
frame that it names while the port carries traffic; a CREDIT sets the granted counts; a report tells what has been freed;
IDLE says nothing but leaves the buffer (R349, R352, R355, R357). Corners of the link layer are the model's reading (log
entries 13, 33). -/
def Obligations.LinkLocalPacketsAct : Prop :=
  ∀ (p : Fin 6) (s : State),
    (s.linkUp p = true → (s.port p).unacked ≠ [] → ∃ t, exec (.replayTimeout p) s = .next t
      ∧ (t.port p).unacked = (s.port p).unacked.map (fun x => (x.1, x.2.1 + 1, x.2.2))
      ∧ s.flue.wire.length + (s.port p).unacked.length ≤ t.flue.wire.length
      ∧ ((s.port p).framesSent + (s.port p).unacked.length ≤ 4095 →
          t.flue.wire.length = s.flue.wire.length + (s.port p).unacked.length
          ∧ (t.flue.wire.take (s.port p).unacked.length).map Sent.seq = ((s.port p).unacked.map (·.1)).reverse))
    ∧ (∀ pk u, s.takeLocal p tyNak = some (pk, u) →
      (s.linkUp p = true → exec (.nak p) s = .next (u.replay p (pk.args.getD 0 0)))
      ∧ (s.linkUp p = false → exec (.nak p) s = .next s))
    ∧ (∀ pk u, s.takeLocal p tyCredit = some (pk, u) → ∃ t, exec (.credit p) s = .next t
      ∧ (∀ c, c < 8 → (t.port p).granted.getD c 0 = pk.args.getD c 0 % 2 ^ 16)
      ∧ (t.port p).inbuf = (u.port p).inbuf)
    ∧ (s.linkUp p = true → (s.port p).freed ≠ (s.port p).reported → (s.port p).unacked.length < 128 →
      ∃ t, exec (.creditReport p) s = .next t ∧ (t.port p).reported = (s.port p).freed
        ∧ (t.port p).unacked.length = (s.port p).unacked.length + 1)
    ∧ (∀ pk u, s.takeLocal p tyIdle = some (pk, u) → exec (.idle p) s = .next u)
    ∧ (∀ pk u ty, s.takeLocal p ty = some (pk, u) → pk.ty = ty
      ∧ (u.port p).inbuf.length + 1 = (s.port p).inbuf.length)

/-- RETRAIN: a port that is ACTIVE or retrains does so at full width; one that trains, or has FAILED and is not miswired,
trains at full width; any other port ignores the write (R352, R370). Ports: retraining begins when its cause holds; training that has measured its lanes ends
ACTIVE on the widest usable set, LANES FAILED without one, or miswired; past its limit it fails; and a FAILED port
tries again unless it was miswired (R341, R347, R350, R352). The lane set that training takes is one of R347's, usable
at both ends and no wider than the port's limit, and no wider set is usable. -/
def Obligations.PortTraining : Prop :=
  (∀ (p : Fin 6) (s : State), s.pf0Open 0x401004 = true →
     ((s.portState p = portActive ∨ s.portState p = portRetrain) → ∃ t, exec (.retrain p) s = .next t
       ∧ t.portState p = portRetrain ∧ t.getF (FLU_PCTL_RETRAIN p) = 1 ∧ (t.port p).cap = 20)
     ∧ ((s.portState p = portTraining ∨ s.portState p = portFailed ∧ (s.port p).miswired = false) →
       ∃ t, exec (.retrain p) s = .next t
         ∧ t.portState p = portTraining ∧ t.getF (FLU_PCTL_RETRAIN p) = 1 ∧ (t.port p).cap = 20)
     ∧ (s.retrainState p = none → exec (.retrain p) s = .next s))
  ∧ (∀ (p : Fin 6) (s : State),
       (∀ cause : Fin 8, s.linkUp p = true → s.retrainDue p cause = true → ∃ t, exec (.retrainEntry p cause) s = .next t
         ∧ t.portState p = portRetrain ∧ t.getF (FLU_PORT_CAUSE p) = cause.val)
       ∧ (∀ o : TrainOut, s.training p = true → s.stopped = false → o.done = true → s.wiredRight p o = true →
         (∀ l, chooseLanes (s.port p).cap o.laneFail = some l → ∃ t, exec (.retrainDone p o) s = .next t
           ∧ t.portState p = portActive ∧ t.getF (FLU_PORT_WIDTH p) = l.2.2 % 4 ∧ t.getF (FLU_PCTL_RETRAIN p) = 0)
         ∧ (chooseLanes (s.port p).cap o.laneFail = none → ∃ t, exec (.retrainDone p o) s = .next t
           ∧ t.portState p = portFailed ∧ t.getF (FLU_PORT_CAUSE p) = 4))
       ∧ (∀ o : TrainOut, s.training p = true → s.stopped = false → o.done = true → s.wiredRight p o = false →
         ∃ t, exec (.retrainDone p o) s = .next t ∧ t.portState p = portFailed ∧ t.getF (FLU_PORT_CAUSE p) = 5
           ∧ (t.port p).miswired = true)
       ∧ (s.training p = true → s.stopped = false → ∃ t, exec (.retrainTimeout p) s = .next t ∧ t.portState p = portFailed
         ∧ t.getF (FLU_PORT_CAUSE p) = 6 ∧ t.getF (FLU_PORT_WIDTH p) = 0)
       ∧ (s.portState p = portFailed → (s.port p).miswired = false → s.stopped = false → ∃ t, exec (.failedPortRetry p) s = .next t
         ∧ t.portState p = portTraining)
       ∧ (s.portState p = portFailed → (s.port p).miswired = true → exec (.failedPortRetry p) s = .next s))
  ∧ (∀ (cap laneFail : Nat) (l : Nat × Nat × Nat), chooseLanes cap laneFail = some l →
       let usable (x : Nat × Nat × Nat) : Prop := x ∈ laneSets ∧ x.1 ≤ cap ∧ ∀ i, i < x.1 → bitOf laneFail (x.2.1 + i) = false
       usable l ∧ ∀ x, usable x → x.1 ≤ l.1 ∧ (x.1 = l.1 → l.2.1 ≤ x.2.1))

/-- ROUTING_TABLE_SWAP: every rank's entry is `route` over the links that are up, the generation moves on, and the
timebase's parent is the port towards the root (R359–R361, R369); nothing is computed before the module is up, or in
EMBER (R359, R421). -/
def Obligations.RoutingSwapFollowsRoute : Prop :=
  ∀ (s : State), (s.routes = false → exec .routingTableSwap s = .next s)
    ∧ (s.routes = true → s.flue.root < 4096 → ∃ t, exec .routingTableSwap s = .next t
      ∧ (∀ r, r < 4096 → t.getF (FLU_RTE_PORT r) = (routeTo s.flue.dims s.failedLinks s.rank r).1 % 8
        ∧ t.getF (FLU_RTE_DETOUR r) = b2n (routeTo s.flue.dims s.failedLinks s.rank r).2)
      ∧ t.getF FLU_RTGEN_GEN = (s.getF FLU_RTGEN_GEN + 1) % 2 ^ 16
      ∧ t.getF FLU_TSTAT_PARENT = t.getF (FLU_RTE_PORT s.flue.root)
      ∧ (t.getF FLU_TSTAT_PARENT = 7 → t.getF FLU_TSTAT_SYNCED = 0))

/-- While the endpoint recovers, a packet for it is answered with UNREACH and does nothing else (R365). WRITE into an
exposed window: exactly its bytes change there and it is acknowledged; any other WRITE is refused and changes no byte.
READ_REQ: the window's bytes, a refusal, or word of an uncorrectable line, which is reported (R356, R381, R395). The codes of
type fields are the model's choice (log entry 12). -/
def Obligations.NeighbourAccess : Prop :=
  (∀ (p : Fin 6) (s u : State) (pk : Packet) (ty : Nat) (kind : Packet → Bool) (i : Instr),
     (i, ty, kind) ∈ [(Instr.writePacket p, tyWrite, anyKind), (.readReq p, tyReadReq, anyKind),
       (.readRsp p, tyReadRsp, anyKind), (.writeAck p, tyWriteAck, anyKind), (.signalPacket p, tySignal, anyKind),
       (.signalAck p, tySignalAck, anyKind), (.collData p, tyCollData, anyKind), (.unreach p, tyUnreach, anyKind),
       (.collReady p, tyCollCtl, ctlKind ctlReady), (.collAbort p, tyCollCtl, ctlKind ctlAbort),
       (.collAck p, tyCollCtl, ctlKind ctlAck)] →
     (s.arrival p ty kind = some (pk, u) → s.flue.accepting = false → exec i s = .next (u.discardPacket pk unreachRecovering))
     ∧ (s.arrival p ty kind = none → exec i s = .next s))
  ∧ (∀ (p : Fin 6) (s u : State) (pk : Packet), s.flue.accepting = true →
       (s.arrival p tyWrite anyKind = some (pk, u) → u.windowOk pk pk.data.length = true →
         let v := u.dwrite (u.windowPa pk) pk.data
         exec (.writePacket p) s
             = .next ((v.count pk.dctx 0x0B pk.data.length).inject (u.answer pk tyWriteAck [0] []))
           ∧ ∀ x, v.dbyte x = if u.windowPa pk ≤ x ∧ x < u.windowPa pk + pk.data.length then
               pk.data.getD (x - u.windowPa pk) 0 else u.dbyte x)
       ∧ (s.arrival p tyWrite anyKind = some (pk, u) → u.windowOk pk pk.data.length = false →
         ∃ t, exec (.writePacket p) s = .next t ∧ t = u.inject (u.answer pk tyWriteAck [1] []) ∧ t.dram = u.dram)
       ∧ (s.arrival p tyReadReq anyKind = some (pk, u) →
         let n := 64 * pk.args.getD 1 0
         let pa := u.windowPa pk
         (u.windowOk pk n = false → exec (.readReq p) s = .next (u.inject (u.answer pk tyReadRsp [1] [])))
         ∧ (u.windowOk pk n = true → u.badIn pa n = none →
           exec (.readReq p) s
             = .next ((u.count pk.dctx 0x0A n).inject (u.answer pk tyReadRsp [0] (bytesAt u.dbyte pa n))))
         ∧ (∀ bad, u.windowOk pk n = true → u.badIn pa n = some bad →
           exec (.readReq p) s = .next ((u.ueFound bad false pk.dctx).inject (u.answer pk tyReadRsp [2] [])))))

/-- Answers reach the command that waits for them: a good WRITE_ACK or READ_RSP ends that transfer, and the read's data
is written at its destination; a refused one ends the command ACCESS_FAULT, and one of an uncorrectable line
MEMORY_UNCORRECTABLE with its fault record; an UNREACH of a packet of its own ends it LINK_FAILED (R356, R362, R395). The
codes of type fields are the model's choice (log entry 12). -/
def Obligations.AnswersEndTransfers : Prop :=
  ∀ (p : Fin 6) (s u : State) (pk : Packet), s.flue.accepting = true →
    (∀ f r, u.owner? pk.ptag = some (f, r) →
      (s.arrival p tyWriteAck anyKind = some (pk, u) →
        (pk.args.getD 0 0 = 0 → exec (.writeAck p) s = .next (u.putFlight (f.without r.tag)))
        ∧ (pk.args.getD 0 0 ≠ 0 → exec (.writeAck p) s = .next (u.endRemote f r .accessFault)))
      ∧ (s.arrival p tyReadRsp anyKind = some (pk, u) →
        (pk.args.getD 0 0 = 0 → exec (.readRsp p) s = .next
          (((u.count (u.ctxOf f.q) 0x0B pk.data.length).vwrite (u.ctxOf f.q) r.dst pk.data).putFlight (f.without r.tag)))
        ∧ (pk.args.getD 0 0 = 1 → exec (.readRsp p) s = .next (u.endRemote f r .accessFault))
        ∧ (pk.args.getD 0 0 = 2 → exec (.readRsp p) s = .next (u.remoteBad f r pk)))
      ∧ (s.arrival p tyUnreach anyKind = some (pk, u) → ownTag (pk.args.getD 1 0) = true →
        exec (.unreach p) s = .next (u.endRemote f r .linkFailed))
      ∧ (∀ x ∈ (f.without r.tag).remotes, x.tag ≠ r.tag)
      ∧ (f.running = [] → ∀ st, u.endRemote f r st = u.putFlight { f.without r.tag with errs := f.errs ++ [st] }))
    ∧ (u.owner? pk.ptag = none →
      (s.arrival p tyWriteAck anyKind = some (pk, u) → exec (.writeAck p) s = .next u)
      ∧ (s.arrival p tyReadRsp anyKind = some (pk, u) → exec (.readRsp p) s = .next u)
      ∧ (s.arrival p tyUnreach anyKind = some (pk, u) → ownTag (pk.args.getD 1 0) = false →
        exec (.unreach p) s = .next u))

/-- A remote SIGNAL is applied exactly when its context is enabled and allows it, its job is the context's, and the object
lies in the context's range: the increment is added to that object alone, and the acknowledgement says accepted; an addition
that would carry changes nothing and says so; any other is refused and changes nothing (R261, R264). At the source an
acceptance makes the SIGNAL ready, a refusal ends it ACCESS_FAULT, and a carry SYNC_RANGE. The codes of type fields are the
model's choice (log entry 12). -/
def Obligations.RemoteSignalApplied : Prop :=
  ∀ (p : Fin 6) (s u : State) (pk : Packet), s.flue.accepting = true →
    let id := pk.args.getD 0 0
    let inc := pk.args.getD 1 0
    let c := pk.dctx
    let allowed := u.getF (CTX_CFG_EN c) ≠ 0 ∧ u.getF (CTX_SYNC_REMOTE_OK c) ≠ 0 ∧ pk.job = u.getF (CTX_CFG_JOB c)
      ∧ u.getF (CTX_SYNC_BASE c) ≤ id ∧ id < u.getF (CTX_SYNC_BASE c) + u.getF (CTX_SYNC_COUNT c)
    (s.arrival p tySignal anyKind = some (pk, u) →
      (allowed → u.sync id + inc < 2 ^ 64 →
        let v := u.signalObj id inc 2 c 0
        exec (.signalPacket p) s = .next (v.inject (v.answer pk tySignalAck [sigAccepted] []))
          ∧ v.sync id = u.sync id + inc ∧ ∀ m, m % 8192 ≠ id % 8192 → v.sync m = u.sync m)
      ∧ (allowed → 2 ^ 64 ≤ u.sync id + inc →
        exec (.signalPacket p) s = .next (u.inject (u.answer pk tySignalAck [sigCarried] [])))
      ∧ (¬ allowed → exec (.signalPacket p) s = .next (u.inject (u.answer pk tySignalAck [sigRefused] []))))
    ∧ (s.arrival p tySignalAck anyKind = some (pk, u) →
      (∀ f r, u.owner? pk.ptag = some (f, r) →
        (id = sigAccepted → exec (.signalAck p) s = .next (u.putFlight { f.without r.tag with ready := true }))
        ∧ (id = sigRefused → exec (.signalAck p) s = .next (u.endRemote f r .accessFault))
        ∧ (id = sigCarried → exec (.signalAck p) s = .next (u.endRemote f r .syncRange))
        ∧ (f.running = [] → ∀ st, u.endRemote f r st = u.putFlight { f.without r.tag with errs := f.errs ++ [st] }))
      ∧ (u.owner? pk.ptag = none → exec (.signalAck p) s = .next u))

/-- Collective messages. Data for a key that no entry holds is stale and counted; data that disagrees with the member's own
command in the values of R316 aborts the key, and so does ABORT: the entry is freed and the command ends LINK_FAILED; data
that agrees is staged or taken as the result, by its direction, and what it allows is sent (R316, R320, R331). READY and
acknowledgements are noted in the entry and what they allow is sent; a READY before its entry is kept; an ABORT or an
acknowledgement without an entry does nothing (R326, R330). The codes of type fields are the model's choice (log entry
12). -/
def Obligations.CollectiveMessagesAct : Prop :=
  (∀ (p : Fin 6) (s u : State) (pk : Packet), s.flue.accepting = true →
    let a := pk.args
    (s.arrival p tyCollData anyKind = some (pk, u) →
      (u.keyOf pk (a.getD 0 0) = none → exec (.collData p) s = .next (u.addSat (FLU_RED_STALE pk.dctx) 1))
      ∧ (∀ e f op, u.keyOf pk (a.getD 0 0) = some (e, f, op) →
        let agrees := a.getD 5 0 = op.gchk ∧ a.getD 6 0 = op.size ∧ a.getD 7 0 = op.mode ∧ a.getD 8 0 = op.owner
        let v := u.count e.ctx 0x0B pk.data.length
        let w := v.stageChunk e op (a.getD 1 0) (a.getD 2 0) (a.getD 4 0) (a.drop 9) pk.data
        (¬ agrees → exec (.collData p) s = .next (v.abortKey e (some .linkFailed) none))
        ∧ (agrees → a.getD 3 0 = 0 → exec (.collData p) s = .next (w.pump e.q e.n)
          ∧ (op.kind ≠ .digestCheck → ∃ x, w.entry? e.q e.n = some x
              ∧ ((a.getD 1 0, a.getD 2 0, a.getD 4 0), pk.data) ∈ x.staged))
        ∧ (agrees → a.getD 3 0 ≠ 0 → exec (.collData p) s
          = .next ((v.takeResult e op (a.getD 1 0) (a.getD 4 0) (a.drop 9) pk.data).pump e.q e.n))))
    ∧ (s.arrival p tyCollCtl (ctlKind ctlReady) = some (pk, u) →
      (∀ e f op, u.keyOf pk (a.getD 1 0) = some (e, f, op) → exec (.collReady p) s
        = .next ((u.setEntry { e with ready := e.ready ++ [(a.getD 2 0, a.getD 3 0)] }).pump e.q e.n))
      ∧ (u.keyOf pk (a.getD 1 0) = none → exec (.collReady p) s = .next { u with flue := { u.flue with
          early := u.flue.early ++ [(pk.job, a.getD 1 0, a.getD 2 0, a.getD 3 0)] } }))
    ∧ (s.arrival p tyCollCtl (ctlKind ctlAbort) = some (pk, u) →
      (∀ e f op, u.keyOf pk (a.getD 1 0) = some (e, f, op) →
        exec (.collAbort p) s = .next (u.abortKey e (some .linkFailed) (some pk.src)))
      ∧ (u.keyOf pk (a.getD 1 0) = none → exec (.collAbort p) s = .next u))
    ∧ (s.arrival p tyCollCtl (ctlKind ctlAck) = some (pk, u) →
      (∀ e f op, u.keyOf pk (a.getD 1 0) = some (e, f, op) →
        (a.getD 4 0 = 0 → exec (.collAck p) s
          = .next ((u.setEntry { e with ackedUp := e.ackedUp ++ [(a.getD 2 0, a.getD 5 0)] }).pump e.q e.n))
        ∧ (a.getD 4 0 ≠ 0 → exec (.collAck p) s = .next
          ((u.setEntry { e with ackedDown := e.ackedDown ++ [(a.getD 2 0, a.getD 3 0, a.getD 5 0)] }).pump e.q e.n)))
      ∧ (u.keyOf pk (a.getD 1 0) = none → exec (.collAck p) s = .next u)))
  ∧ (∀ (s : State) (pk : Packet) (seq : Nat) (e : CollEntry) (f : Flight) (op : RedOp) (sender : Option Nat),
       s.keyOf pk seq = some (e, f, op) →
       let t := s.abortKey e (some .linkFailed) sender
       t.entry? e.q e.n = none ∧ ∃ g, t.flight? e.q e.n = some g ∧ g.errs = f.errs ++ [.linkFailed])

/-- Floods: a LINKSTATE or ENDPOINT that has been seen is dropped; a new one is noted and forwarded once through every
other ACTIVE port, and the link's or the rank's state follows (R331, R361, R365). A packet for another rank whose turn it is
goes to the output that the routing table names; one that cannot be routed, or has crossed 48 links, comes back as UNREACH
(R358, R362–R364). The codes of type fields are the model's choice (log entry 12). -/
def Obligations.FloodsAndTransit : Prop :=
  (∀ (p : Fin 6) (s u : State) (pk : Packet),
     let a := pk.args
     let flooded (t : State) : Prop := ∀ o : Fin 6, (t.port o).outq.length = 8 → ((t.port o).outq.getD 7 []).length
       = ((u.port o).outq.getD 7 []).length + (if s.portState o = portActive ∧ o ≠ p then 1 else 0)
     (s.arrival p tyLinkstate anyKind = some (pk, u) →
       let k := (a.getD 0 0, a.getD 1 0, a.getD 2 0)
       (s.flue.seen.contains k = true → exec (.linkstate p) s = .next u)
       ∧ (s.flue.seen.contains k = false → ∃ t, exec (.linkstate p) s = .next t ∧ t.flue.seen = k :: s.flue.seen
         ∧ (a.getD 3 0 = 0 → (a.getD 0 0, a.getD 1 0) ∈ t.flue.failed)
         ∧ (a.getD 3 0 ≠ 0 → ∀ l ∈ t.flue.failed,
             linkKey s.flue.dims l ≠ linkKey s.flue.dims (a.getD 0 0, a.getD 1 0))
         ∧ flooded t))
     ∧ (s.arrival p tyEndpoint anyKind = some (pk, u) →
       let k := (a.getD 0 0, a.getD 1 0)
       (s.flue.epSeen.contains k = true → exec (.endpoint p) s = .next u)
       ∧ (s.flue.epSeen.contains k = false → ∃ t, exec (.endpoint p) s = .next t ∧ t.flue.epSeen = k :: s.flue.epSeen
         ∧ (a.getD 2 0 = 1 → k.1 ∉ t.flue.recovering) ∧ (a.getD 2 0 ≠ 1 → k.1 ∈ t.flue.recovering)
         ∧ ((a.getD 2 0 = 1 ∨ s.coll = []) → flooded t)))
     ∧ (s.arrival p tyLinkstate anyKind = none → exec (.linkstate p) s = .next s)
     ∧ (s.arrival p tyEndpoint anyKind = none → exec (.endpoint p) s = .next s))
  ∧ (∀ (p : Fin 6) (s : State),
       (s.passes p = none → exec (.transitPacket p) s = .next s)
       ∧ ∀ pk u, s.passes p = some (pk, u) →
         let o := u.routeOut pk.dest
         ((48 ≤ pk.hops ∨ 6 ≤ o) → exec (.transitPacket p) s = .next (u.discardPacket pk unreachRoute))
         ∧ (pk.hops < 48 → o < 6 → ∃ t, exec (.transitPacket p) s = .next t
           ∧ (t.port o).merge = (u.port o).merge.set pk.vc ((p + 1) % 6)
           ∧ (t.port o).outq.getD pk.vc [] = (u.port o).outq.getD pk.vc []
               ++ (if pk.vc < (u.port o).outq.length then
                 [{ pk with dl := outDl u.flue.dims u.rank o (some (p.val / 2)) pk.dl }] else [])))

/-- The arbiter of outputs and stack ports: it grants a requester that requests; one of the high-priority set while it
is within its quota of the window, before any other; and none only when no such requester is left (R364, R388, R389).
OUTPUT_GRANT sends the granted requester's head over one more link: its flits follow those of the frame at hand, every frame
of five that is full takes its place in the retry buffer, and the flits take credits; with nothing to grant the frame at
hand leaves, filled with IDLE; a head that has waited 1 ms without credits is discarded while its port carries traffic
(R349, R353, R355, R357, R362, R364). -/
def Obligations.OutputArbitration : Prop :=
  (∀ (req : List Bool) (hp : Nat) (quota used : List Nat) (ptrH ptrL : Nat),
     let high (i : Nat) : Prop := i < 8 ∧ req.getD i false = true ∧ bitOf hp i = true ∧ used.getD i 0 < quota.getD i 0
     let low (i : Nat) : Prop := i < 8 ∧ req.getD i false = true ∧ bitOf hp i = false
     (arbitrate req hp quota used ptrH ptrL = none ↔ ∀ i, ¬ high i ∧ ¬ low i)
     ∧ ∀ g v h l, arbitrate req hp quota used ptrH ptrL = some (g, v, h, l) →
         (high g ∧ h = (g + 1) % 8 ∧ l = ptrL ∧ (g < used.length → v.getD g 0 = used.getD g 0 + 1))
         ∨ (low g ∧ (∀ i, ¬ high i) ∧ h = ptrH ∧ l = (g + 1) % 8 ∧ v = used))
  ∧ (∀ (p : Fin 6) (cycle : Nat) (s : State), s.linkUp p = true →
       let r := s.port p
       let choice := arbitrate r.requests s.seval.flHp s.seval.flQ (usedAt r.used r.win (cycle / s.seval.flWin)) r.ptrH r.ptrL
       (∀ g v h l pk, choice = some (g, v, h, l) → (r.outq.getD g []).head? = some pk →
         ∃ t new, exec (.outputGrant p cycle) s = .next t ∧ (t.port p).used = v ∧ (t.port p).ptrH = h ∧ (t.port p).ptrL = l
           ∧ (t.port p).outq.getD g [] = (r.outq.getD g []).tail
           ∧ (t.port p).unacked = r.unacked ++ new ∧ new.length = (r.slots.length + pk.flits) / 5
           ∧ (∀ x ∈ new, x.2.2.length = 5)
           ∧ new.flatMap (·.2.2) ++ (t.port p).slots = r.slots ++ packetFlits { pk with hops := pk.hops + 1 }
           ∧ (t.port p).sent = r.sent.modify (bufClass pk) fun x => (x + pk.flits) % 2 ^ 16)
       ∧ (choice = none → ∃ t, exec (.outputGrant p cycle) s = .next t
         ∧ (r.unacked.length < 128 → (t.port p).unacked = r.unacked ++ [(r.txSeq, 0, r.slots)] ∧ (t.port p).slots = [])
         ∧ (128 ≤ r.unacked.length → (t.port p).unacked = r.unacked ∧ (t.port p).slots = r.slots)))
  ∧ (∀ (p : Fin 6) (r : Fin 8) (s : State),
       (s.starved p r = none → exec (.creditWaitTimeout p r) s = .next s)
       ∧ ∀ pk : Packet, ((s.port p).outq.getD r []).head? = some pk → (s.port p).hasCredits pk = false →
         (s.linkUp p = true → exec (.creditWaitTimeout p r) s = .next
           ((s.setPort p { s.port p with outq := (s.port p).outq.modify r List.tail }).discardPacket pk unreachRoute))
         ∧ (s.linkUp p = false → exec (.creditWaitTimeout p r) s = .next s))

/-! ## The stacks -/

/-- STACK_PORT_GRANT: a port in a refresh blackout, or with 64 read beats outstanding, grants nothing; else the
arbiter's choice transfers its beat: a read waits for its data, and a write stores its lines and drops their corrective
writes, so that a scrub correction never overwrites newer data. CORRECTIVE_WRITE takes the oldest correction and changes no
byte (R382, R387, R388). -/
def Obligations.StackPortGrantTransfersBeat : Prop :=
  ∀ (b : Fin 16) (cycle : Nat) (reqs : List (Option Beat)) (s : State), s.running = true →
    let choice := arbitrate (reqs.map Option.isSome) (s.getF MEM_ARBCFG_HP) s.seval.spQ
      (usedAt (s.stackPort b).used (s.stackPort b).win (cycle / s.getF MEM_ARBCFG_WIN)) (s.stackPort b).ptrH (s.stackPort b).ptrL
    ((s.portReady b cycle = false ∨ choice = none) → ∃ t, exec (.stackPortGrant b cycle reqs) s = .next t
      ∧ (t.stackPort b).outstanding = (s.stackPort b).outstanding ∧ (t.stackPort b).corrective = (s.stackPort b).corrective
      ∧ t.dram = s.dram)
    ∧ (∀ g v h l x, s.portReady b cycle = true → choice = some (g, v, h, l) → reqs.getD g none = some x →
      ∃ t, exec (.stackPortGrant b cycle reqs) s = .next t ∧ (t.stackPort b).used = v ∧ (t.stackPort b).ptrH = h
        ∧ (t.stackPort b).ptrL = l
        ∧ (x.write = false → (t.stackPort b).outstanding = (s.stackPort b).outstanding ++ [(g, x)])
        ∧ (x.write = true → (t.stackPort b).outstanding = (s.stackPort b).outstanding
            ∧ (∀ y, y ∈ (t.stackPort b).corrective ↔ y ∈ (s.stackPort b).corrective ∧ y ∉ s.beatLines b x)
            ∧ ∀ j pa i, (s.beatLines b x)[j]? = some pa → 64 * j + 64 ≤ x.data.length → i < 64 →
                t.dbyte (pa + i) = x.data.getD (64 * j + i) 0))
    ∧ (∃ t, exec (.correctiveWrite b) s = .next t ∧ (t.stackPort b).corrective = (s.stackPort b).corrective.tail
        ∧ t.dram = s.dram)

/-- READ_BEAT_RETURN accepts a requester's oldest outstanding beat, whatever other requesters hold; clean lines change
nothing else (R381, R390). Refresh: a blackout of 8 cycles begins where the window in force puts it, and the port is not
ready in it; the window is 32 ms above 85.0 °C, and 64 ms again once both sensors have read 83.0 °C or less for 100 ms, at a
multiple of 1,024 cycles by the sensors as sampled, and in self-refresh by the stack's own (R386). -/
def Obligations.ReadBeatsAndRefresh : Prop :=
  (∀ (b : Fin 16) (g : Fin 8) (lines : List LineCheck) (reader : Option (Fin 64 × Nat × Nat)) (s : State)
     (x : Beat) (old later : List (Nat × Beat)),
     s.running = true → (s.stackPort b).outstanding = old ++ (g.val, x) :: later → (∀ y ∈ old, y.1 ≠ g.val) →
     (∀ l ∈ lines, l = .clean) → (∀ pa ∈ s.beatLines b x, s.badLines.get false (pa / 64) = false) →
     exec (.readBeatReturn b ⟨g, lines⟩ reader) s
       = .next (s.setStackPort b { s.stackPort b with outstanding := old ++ later }))
  ∧ (∀ (b : Fin 16) (g : Fin 8) (lines : List LineCheck) (reader : Option (Fin 64 × Nat × Nat)) (s : State),
       (∀ y ∈ (s.stackPort b).outstanding, y.1 ≠ g.val) → exec (.readBeatReturn b ⟨g, lines⟩ reader) s = .next s)
  ∧ (∀ (b : Fin 16) (cycle : Nat) (s : State), s.running = true →
       (startsBlackout (s.flag (MEM_STK_REF2X b)) cycle = true → ∃ t, exec (.refreshBlackout b cycle) s = .next t
         ∧ (t.stackPort b).blackout = cycle + 8 ∧ ∀ i, i < 8 → t.portReady b (cycle + i) = false)
       ∧ (startsBlackout (s.flag (MEM_STK_REF2X b)) cycle = false → exec (.refreshBlackout b cycle) s = .next s))
  ∧ (∀ (b : Fin 16) (cycle : Nat) (calm : Bool) (own : Int) (s : State),
       (∀ temp : Int, (s.running = true ∧ cycle % 1024 = 0 ∧ temp = s.stackTemp b
           ∨ s.running = false ∧ s.selfRefresh = true ∧ temp = own) →
         ∃ t, exec (.refreshWindowChange b cycle ⟨calm, own⟩) s = .next t
           ∧ (1360 < temp → t.getF (MEM_STK_REF2X b) = 1)
           ∧ (temp ≤ 1328 → calm = true → t.getF (MEM_STK_REF2X b) = 0)
           ∧ (temp ≤ 1360 → ¬ (calm = true ∧ temp ≤ 1328) → t.getF (MEM_STK_REF2X b) = s.getF (MEM_STK_REF2X b) % 2))
       ∧ ((s.running = true ∧ cycle % 1024 ≠ 0 ∨ s.running = false ∧ s.selfRefresh = false) →
         exec (.refreshWindowChange b cycle ⟨calm, own⟩) s = .next s))

/-- PATROL_SCRUB reads its next block and moves on, the pointer wrapping after the last block with one more pass; it
runs in ACTIVE only (R383). ROW_SPARE takes one spare row, counts it and logs it; with none left the row is only no
longer due (R385). -/
def Obligations.ScrubAndSpare : Prop :=
  (∀ (b : Fin 16) (lines : List LineCheck) (s : State),
     (s.active = true → ∃ t, exec (.patrolScrub b lines) s = .next t
       ∧ t.getF (MEM_SCRUB_PTR b) = (s.getF (MEM_SCRUB_PTR b) + 1) % 2 ^ 24
       ∧ t.getF (MEM_SCRUB_PASSES b) = (if s.getF (MEM_SCRUB_PTR b) + 1 = 2 ^ 24 then (s.getF (MEM_SCRUB_PASSES b) + 1) % 2 ^ 24
           else s.getF (MEM_SCRUB_PASSES b))
       ∧ t.dram = s.dram)
     ∧ (s.active = false → exec (.patrolScrub b lines) s = .next s))
  ∧ (∀ (b : Fin 16) (row : Nat) (s : State), s.running = true → row ∈ (s.stackPort b).due →
       ∃ t, exec (.rowSpare b row) s = .next t ∧ (t.stackPort b).due = (s.stackPort b).due.erase row ∧ t.dram = s.dram
         ∧ (s.getF (MEM_STK_SPARE b) ≠ 0 → s.getF (MEM_STK_SPARE b) < 2 ^ 14 →
             t.getF (MEM_STK_SPARE b) = s.getF (MEM_STK_SPARE b) - 1
             ∧ t.getF (MEM_ERR_RETIRED b) = min (s.getF (MEM_ERR_RETIRED b) + 1) (2 ^ 12 - 1)
             ∧ t.stoker.evSeq = (s.stoker.evSeq + 1) % 2 ^ 32)
         ∧ (s.getF (MEM_STK_SPARE b) = 0 → t.stoker = s.stoker ∧ t.getF (MEM_ERR_RETIRED b) = s.getF (MEM_ERR_RETIRED b)))

/-! ## The Damper -/

/-- Sensors: a sample shows the input power, its voltage times its corrected current; a sensor that fails is marked, and marks its Bay's `LIMIT`; one that has
failed before is not reported again (R399, R401). -/
def Obligations.SensorsReported : Prop :=
  ∀ (s : State), s.running = true →
    (∀ m : SampleIn, ∃ t, exec (.sensorSample m) s = .next t ∧ t.getF DMP_PWR_INST = s.inputPower m.volt m.amp % 2 ^ 16)
    ∧ (∀ i : Fin 128, i.val % 8 = 5 → s.getF (DMP_TDRM_FAIL_BOT (i.val / 8)) = 0 → ∃ t, exec (.sensorFailure i) s = .next t
      ∧ t.getF (DMP_TDRM_FAIL_BOT (i.val / 8)) = 1 ∧ bitOf (t.getF (DMP_BAY_LIMIT (i.val / 8))) 6 = true
      ∧ t.getF SVC_ALERT_SENSOR = 1 ∧ t.stoker.evSeq = (s.stoker.evSeq + 1) % 2 ^ 32)
    ∧ (∀ i : Fin 128, i.val % 8 = 7 → exec (.sensorFailure i) s = .next s)

/-- BUDGET_PERIOD: the period's power is shown, the settings as they stand take effect, the periods are counted, and a
trip holds every duty (R404–R408). The regulator's duty after a period: lowered by what its Bay's power was above the
allowance, raised by one up to its ceiling when the Bay issued work and stayed clearly below, else kept (R406). The fast
limiter lowers every duty by 4, to 0 at the least; the fallback gives every Bay its safe duty, unless a trip holds them
at 0, and counts the missed periods (R406). Rounding is the model's reading (log entry 16). -/
def Obligations.DutiesFollowPower : Prop :=
  (∀ (m : PeriodIn) (s : State), s.running = true →
     ∃ t, exec (.budgetPeriod m) s = .next t ∧ t.getF DMP_PWR_PERIOD = s.periodPower m % 2 ^ 16
       ∧ t.damper.periods = s.damper.periods + 1 ∧ t.damper.profile = s.getF DMP_CFG_PROFILE
       ∧ t.damper.pCap = s.getF DMP_CFG_P_CAP ∧ t.damper.fastHit = false
       ∧ (s.flag DMP_STAT_TRIP = true → ∀ b : Fin 16, t.getF (DMP_BAY_DUTY b) = s.getF (DMP_BAY_DUTY b))
       ∧ (s.flag DMP_STAT_TRIP = false → t.getF DMP_STAT_FALLBACK = 0))
  ∧ (∀ (d ceiling p issued : Nat) (a : Rat), d ≤ 16 → ceiling ≤ 16 →
       nextDuty d ceiling p a issued ≤ 16
       ∧ (a < p → nextDuty d ceiling p a issued ≤ d ∧ (0 < a → 0 < d → nextDuty d ceiling p a issued < d))
       ∧ (a < p → 0 < a → ∀ k : Nat, 16 * (p - a) ≤ k * a → k * a < 16 * (p - a) + a → nextDuty d ceiling p a issued = d - k)
       ∧ (p ≤ a → 16 * p < 15 * a → issued = 2 → nextDuty d ceiling p a issued = min ceiling (d + 1))
       ∧ (p ≤ a → (15 * a ≤ 16 * p ∨ issued ≠ 2) → nextDuty d ceiling p a issued = d))
  ∧ (∀ (s : State), s.running = true →
       (∀ avg, shortLimit s.damper.profile < avg → ∃ t, exec (.fastLimiter avg) s = .next t ∧ t.getF DMP_STAT_FAST = 1
         ∧ (∀ b : Fin 16, s.getF (DMP_BAY_DUTY b) < 32 → t.getF (DMP_BAY_DUTY b) = s.getF (DMP_BAY_DUTY b) - 4))
       ∧ (∀ avg, avg ≤ shortLimit s.damper.profile → exec (.fastLimiter avg) s = .next s)
       ∧ (∃ t, exec .fallback s = .next t ∧ t.getF DMP_STAT_FALLBACK = 1
         ∧ t.getF DMP_STAT_LOOPMISS
           = min (s.getF DMP_STAT_LOOPMISS + (if s.damper.missing then 1 else 10)) (2 ^ 16 - 1)
         ∧ (∀ b : Fin 16, s.flag DMP_STAT_TRIP = false → t.getF (DMP_BAY_DUTY b) = s.seval.fallback % 32)
         ∧ (∀ b : Fin 16, s.flag DMP_STAT_TRIP = true → t.getF (DMP_BAY_DUTY b) = s.getF (DMP_BAY_DUTY b))))

/-- Thermal limits: a warning shows and is released; a trip shows, and takes every duty to 0 while commands run; its
release brings the loop back at the least allowance and the safe duty (R408). -/
def Obligations.ThermalLimits : Prop :=
  ∀ (s : State), s.power.life ≠ .off →
    (s.flag DMP_STAT_WARN = false → ∃ t, exec .thermWarn s = .next t ∧ t.getF DMP_STAT_WARN = 1 ∧ t.outOn outWarn = true
      ∧ t.getF SVC_ALERT_THERM = 1)
    ∧ (s.flag DMP_STAT_WARN = true → ∃ t, exec .thermWarnRelease s = .next t ∧ t.getF DMP_STAT_WARN = 0
      ∧ t.outOn outWarn = false)
    ∧ (s.flag DMP_STAT_TRIP = false → ∃ t, exec .thermTrip s = .next t ∧ t.getF DMP_STAT_TRIP = 1
      ∧ t.outOn outTrip = true ∧ (s.running = true → ∀ b : Fin 16, t.getF (DMP_BAY_DUTY b) = 0))
    ∧ (s.flag DMP_STAT_TRIP = true → s.recov = none → ∃ t, exec .tripRelease s = .next t ∧ t.getF DMP_STAT_TRIP = 0
      ∧ t.outOn outTrip = false
      ∧ (s.running = true → ∀ b : Fin 16, t.getF (DMP_BAY_ALLOW b) = 96 ∧ t.getF (DMP_BAY_DUTY b) = s.seval.fallback % 32))

/-! ## Hearths and cone tests -/

/-- A Hearth's gate and its cone test's way: gated when it holds nothing; due after six hours; started when the
dispatcher may, so that it takes no tile; drained when overdue; and each hour the busy times are kept (R101, R105, R416,
R417). SWEEP: the test of every ENABLED Hearth is overdue at once, and `SWEEP` stays 1 while one of them waits (R452).
When a test is due is the event of its command (log entries 30, 38). -/
def Obligations.ConeTestsScheduled : Prop :=
  (∀ (h : Fin 288) (s : State),
     (s.mayGate h = true → ∃ t, exec (.hearthGate h) s = .next t ∧ (t.hearth h).gated = true)
     ∧ (s.active = true → s.schedulable h = true → (s.hearth h).due = false → (s.hearth h).testing = false →
       ∃ t, exec (.coneTestDue h) s = .next t ∧ (t.hearth h).due = true
         ∧ t.getF HTH_CONECTL_DUE = ((List.range 288).filter fun x => (t.hearth x).due).length)
     ∧ (s.mayTest h = true → ∃ t, exec (.coneTestStart h) s = .next t ∧ (t.hearth h).testing = true
       ∧ (t.hearth h).gated = false ∧ t.instFree 1 h = false)
     ∧ (s.active = true → (s.hearth h).due = true → s.hState h = hEnabled → (s.hearth h).testing = false →
       ∃ t, exec (.coneTestOverdue h) s = .next t ∧ t.hState h = hDrained ∧ (t.hearth h).overdue = true)
     ∧ (s.active = true → ∃ t, exec .busyTimeSave s = .next t ∧ t.stoker.evSeq = (s.stoker.evSeq + 29) % 2 ^ 32
       ∧ ∀ x : Fin 288, t.stoker.busySaved.getD x 0 = (s.hearth x).busy))
  ∧ (∀ s : State, s.pf0Open 0x3C80 = true →
       ∃ t, exec .sweep s = .next t
         ∧ (∀ h : Fin 288, s.hState h = hEnabled →
             (t.hearth h).due = true ∧ (t.hearth h).overdue = true ∧ (t.hearth h).sweep = true)
         ∧ (∀ h : Fin 288, s.hState h ≠ hEnabled → t.hearth h = s.hearth h)
         ∧ ((∃ h : Fin 288, s.hState h = hEnabled) → t.getF HTH_CONECTL_SWEEP = 1))

/-- A cone test's verdict: a PASS, or a finding that locates no cell, clears the Hearth's suspicion and returns it ENABLED; a
FAIL of an ENABLED or DRAINED Hearth quarantines it; a FAIL in quarantine spares the located cells when the policy and the
free spares allow, else retires the Hearth; a third quarantine within 168 h fails whatever the test shows; a Glaze failure
marks the Bay's Glaze and quarantines the Bay's ENABLED and DRAINED Hearths (R105, R107, R110, R448, R449, R451). The repair
records chosen for located cells cover every one of them and lie within the spares that remain; no choice with fewer records
would do, and of those none has more columns (R107). Corners of the verdicts are the model's reading (log entry 30). -/
def Obligations.ConeTestVerdicts : Prop :=
  (∀ (h : Fin 288) (s : State) (f : ConeFinding), s.active = true → (s.hearth h).testing = true →
     let quar := s.hState h = hQuarantined
     let third := quar ∧ 3 ≤ (s.hearth h).quar.length
     let tested (t : State) : Prop := exec (.coneTestEnd h f) s = .next t ∧ (t.hearth h).testing = false
       ∧ (t.hearth h).due = false ∧ (t.hearth h).overdue = false
     (¬ third → (f = .pass ∨ f = .cells []) → ∃ t, tested t ∧ t.hState h = hEnabled ∧ t.getF (HTH_CONE_SUSPECT h) = 0
       ∧ t.getF (HTH_CONE_LAST h) = 1)
     ∧ ((s.hState h = hEnabled ∨ s.hState h = hDrained) → (f = .fixedPart ∨ ∃ c l, f = .cells (c :: l)) →
       ∃ t, tested t ∧ t.hState h = hQuarantined ∧ t.getF (HTH_CONE_LAST h) = 2)
     ∧ (quar → ¬ third → ∀ c l r, f = .cells (c :: l) → s.seval.retire = false →
       chooseRecords (s.getF (HTH_STATE_ROWS_FREE h)) (s.getF (HTH_STATE_COLS_FREE h)) (c :: l) = some r →
       ∃ t, tested t ∧ t.hState h = hSparePending ∧ t.getF (HTH_CONE_LAST h) = 2)
     ∧ (quar → (f = .fixedPart ∨ third ∧ f ≠ .glaze ∨ ∃ c l, f = .cells (c :: l) ∧ (s.seval.retire = true
         ∨ chooseRecords (s.getF (HTH_STATE_ROWS_FREE h)) (s.getF (HTH_STATE_COLS_FREE h)) (c :: l) = none)) →
       ∃ t, tested t ∧ t.hState h = hRetired ∧ t.stoker.states.get 0 h = hRetired ∧ t.getF (HTH_CONE_LAST h) = 2)
     ∧ (f = .glaze → ∃ t, exec (.coneTestEnd h f) s = .next t ∧ (t.hearth h).testing = false
       ∧ bitOf (t.getF HTH_GLZSTAT_GLAZEBAD) (hearthBay h) = true
       ∧ ∀ x : Fin 288, hearthBay x = hearthBay h → (s.hState x = hEnabled ∨ s.hState x = hDrained) →
           t.hState x = hQuarantined))
  ∧ (∀ (h : Fin 288) (s : State) (f : ConeFinding), (s.active = false ∨ (s.hearth h).testing = false) →
       exec (.coneTestEnd h f) s = .next s)
  ∧ (∀ (rf cf : Nat) (cells : List (Nat × Nat)) (rows cols : List Nat),
       chooseRecords rf cf cells = some (rows, cols) →
       coversCells cells rows cols = true ∧ rows.length ≤ rf ∧ cols.length ≤ cf
         ∧ ∀ rows' cols' : List Nat, rows'.length ≤ min rf 2 → cols'.length ≤ min cf 2 → coversCells cells rows' cols' = true →
             rows.length + cols.length ≤ max 1 (rows'.length + cols'.length)
             ∧ (cells ≠ [] → rows.length + cols.length = rows'.length + cols'.length → cols'.length ≤ cols.length))

/-! ## Recovery -/

/-- What a recovery cause does to `s` (R464–R467, R481): the fault record is written over any that is held and names the
cause, the time and a held stack port; FAULT_N, the alert and the trace's freeze say so. A held port keeps the recovery in
step 2; else it runs: it latches in step 6 when no good firmware or image is left, stays in step 8 while a THERMAL one's trip
holds, or reaches READY with nothing in flight, every enabled queue halted, and the queues of the contexts `flr` disabled. -/
def causeActs (s t : State) (code : Nat) (flr : List Nat) : Prop :=
  t.getF RST_FAULT0_VALID = 1 ∧ t.getF RST_FAULT0_CAUSE = code ∧ t.getF RST_FAULT0_RECOV = 1
  ∧ t.getF RST_FAULT0_OVER = b2n (s.flag RST_FAULT0_VALID) ∧ t.getF RST_TIME_NS = s.now % 2 ^ 64
  ∧ t.getF RST_FAULT2_STUCK = b2n s.stuckPort.isSome
  ∧ t.getF SVC_ALERT_FAULT = 1 ∧ t.outOn outFault = true ∧ t.getF OBS_TRSTAT_FROZEN = 1
  ∧ (∀ bay req, s.stuckPort = some (bay, req) → t.getF RST_FAULT2_PORTBAY = bay % 16 ∧ t.getF RST_FAULT2_PORTREQ = req % 8
      ∧ t.getF RST_STAT_STEP = 2 ∧ t.recov.isSome = true ∧ t.outOn outReady = false ∧ t.flue.accepting = false)
  ∧ (s.stuckPort = none → t.getF RST_STAT_COUNT = (s.getF RST_STAT_COUNT + 1) % 2 ^ 16
      ∧ (t.power.life = .latched ∧ t.getF RST_STAT_STEP = 6 ∧ t.outOn outHotrst = true
         ∨ code = 6 ∧ s.getF DMP_STAT_TRIP % 2 = 1 ∧ t.getF RST_STAT_STEP = 8 ∧ t.recov.isSome = true
           ∧ t.outOn outReady = false
         ∨ t.recov = none ∧ t.flights = [] ∧ t.getF RST_STAT_STEP = 0 ∧ t.outOn outReady = true ∧ t.flue.accepting = true
           ∧ ∀ q : Fin 64, t.flag (QUE_CFG_EN q) = (s.flag (QUE_CFG_EN q) && !flr.contains (s.ctxOf q))
               ∧ (t.flag (QUE_CFG_EN q) = true → t.getF (QUE_CTL_HALT q) = 1 ∧ t.getF (QUE_STAT_STATE q) = qHalted)))

/-- A recovery cause acts on a module that runs, as `causeActs` says; a recovery under way only counts it, and where the
logic that it concerns is off it is discarded (R426, R464–R467, R481, R555): an uncorrectable error of the Stoker's SRAM, its
watchdog, a regulator, and a trip held too long. RECOVER and a reset of a function that takes too long start one only while
the module runs; a command past its dispatch limit is named, of several the lowest queue's lowest command; a second
uncorrectable transfer names the Bay of its link and the command that lost it, a first one does nothing; a link down resets
the link and counts (R33, R34, R462, R466, R506, R522). A recovery as one command is the model's choice (log entry 31). -/
def Obligations.RecoveryCauses : Prop :=
  (∀ (i : Instr) (code : Nat) (s : State), (i, code) ∈ [(Instr.stokerEcc, 4), (.stokerWdt, 5), (.regulator, 9)] →
     (s.running = true → ∃ t, exec i s = .next t ∧ causeActs s t code [] ∧ t.getF RST_FAULT0_CTXV = 0)
     ∧ (s.running = false → s.power.life = .up → s.recov.isSome = true → exec i s = .next (s.addSat RST_STAT_LOST 1))
     ∧ (s.running = false → (s.power.life ≠ .up ∨ s.recov = none) → exec i s = .next s))
  ∧ (∀ s : State,
       (s.running = true → s.flag DMP_STAT_TRIP = true → ∃ t, exec .tripHoldTimeout s = .next t ∧ causeActs s t 6 []
         ∧ t.getF RST_FAULT0_CTXV = 0)
       ∧ ((s.running = false ∨ s.flag DMP_STAT_TRIP = false) → exec .tripHoldTimeout s = .next s))
  ∧ (∀ s : State, s.pf0Open 0x700004 = true →
       (s.running = true → ∃ t, exec .recover s = .next t ∧ causeActs s t 7 [] ∧ t.getF RST_FAULT0_CTXV = 0)
       ∧ (s.running = false → exec .recover s = .next s))
  ∧ (∀ (expired : List (Fin 64 × Nat)) (s : State),
       (∀ (q : Fin 64) (n : Nat) (f : Flight), s.running = true → (q, n) ∈ expired → s.dispatching q n = some f →
         (∀ p ∈ expired, (s.dispatching p.1 p.2).isSome = true → q < p.1 ∨ q = p.1 ∧ n ≤ p.2) →
         ∃ t, exec (.dispatchTimeout expired) s = .next t ∧ causeActs s t 1 [] ∧ t.getF RST_FAULT0_CTXV = 1
           ∧ t.getF RST_FAULT0_QUEUE = q.val ∧ t.getF RST_FAULT1_CMD = n % 2 ^ 48
           ∧ t.getF RST_FAULT0_CTX = s.ctxOf q % 16 ∧ t.getF RST_FAULT0_ENGINE = s.engine q % 8)
       ∧ ((s.running = false ∨ ∀ p ∈ expired, s.dispatching p.1 p.2 = none) →
         exec (.dispatchTimeout expired) s = .next s))
  ∧ (∀ (bay : Fin 16) (owner : Option (Fin 64 × Nat)) (s : State),
       let attached := ∃ l ∈ d2dLinks, l.1 = bay.val ∨ l.2 = bay.val
       (s.running = true → attached → ∃ t, exec (.d2dUncorr bay true owner) s = .next t ∧ causeActs s t 3 []
         ∧ t.getF RST_FAULT2_BAY = bay.val ∧ t.getF RST_FAULT2_INSTV = 1
         ∧ (∀ (q : Fin 64) (n : Nat) (f : Flight), owner = some (q, n) → s.flight? q n = some f →
             t.getF RST_FAULT0_CTXV = 1 ∧ t.getF RST_FAULT0_QUEUE = q.val ∧ t.getF RST_FAULT1_CMD = n % 2 ^ 48)
         ∧ ((∀ p, owner = some p → s.flight? p.1 p.2 = none) → t.getF RST_FAULT0_CTXV = 0))
       ∧ exec (.d2dUncorr bay false owner) s = .next s
       ∧ (¬ attached → exec (.d2dUncorr bay true owner) s = .next s))
  ∧ (∀ s : State,
       let u := (s.addSat CXL_LINK_DOWNS 1).cxlDown
       (s.linkServes = true → s.running = true → ∃ t, exec .cxlLinkDown s = .next t ∧ causeActs s t 8 []
         ∧ t.getF RST_FAULT0_CTXV = 0)
       ∧ (s.linkServes = true → s.running = false → s.recov.isSome = true →
         exec .cxlLinkDown s = .next (u.addSat RST_STAT_LOST 1))
       ∧ (s.linkServes = true → s.running = false → s.recov = none → exec .cxlLinkDown s = .next u)
       ∧ (s.linkServes = false → exec .cxlLinkDown s = .next s)
       ∧ u.flag CXL_LINK_UP = false ∧ u.getF CXL_LINK_DOWNS = min (s.getF CXL_LINK_DOWNS + 1) (2 ^ CXL_LINK_DOWNS.width - 1))
  ∧ (∀ (c : Fin 16) (s : State),
       (s.running = true → s.vfOn c = true → ∃ t, exec (.flrTimeout c) s = .next t ∧ causeActs s t 7 [c.val]
         ∧ t.getF RST_FAULT0_CTXV = 0)
       ∧ ((s.running = false ∨ s.vfOn c = false) → exec (.flrTimeout c) s = .next s))

/-- Events inside a recovery: a held port's quiesce ends at its limit with the clamp shown and nothing running, and the
recovery goes on to one of its ends; the sequencer's watchdog, or a READY that a trip withholds too long, latches the module
for the board; a corrected bit of the Stoker's SRAM changes nothing (R408, R458, R468, R482). Loss of a PLL's lock asserts
FAULT_N and HOTRST_REQ_N and takes the module out of service (R31). A module that has stopped after a failure takes no action
but what the board, the host's memory and the thermal comparators cause; one that a THERMAL recovery latched keeps its switch,
its registers and its trace as well (R31, R482). A recovery as one command is the model's choice (log entries 31, 32). -/
def Obligations.RecoveryLimitsAndLatch : Prop :=
  (∀ (s : State),
     (∀ (bays engines : Nat) (r : RecRt), s.recov = some r → s.quiescing = true →
       let u := s.quiesce (bays % 2 ^ 16) (engines % 2 ^ 5)
       (∀ f ∈ u.flights, f.running = [] ∧ f.parts = [])
       ∧ ∃ t, exec (.quiesceTimeout bays engines) s = .next t ∧ t = u.afterQuiesce r
         ∧ t.getF RST_CLAMP_BAY = bays % 2 ^ 16 ∧ t.getF RST_CLAMP_ENG = engines % 2 ^ 5
         ∧ (t.power.life = .latched ∧ t.getF RST_STAT_STEP = 6 ∧ t.outOn outHotrst = true
            ∨ r.warm = false ∧ r.cause = 6 ∧ t.getF RST_STAT_STEP = 8 ∧ t.recov.isSome = true
            ∨ t.recov = none ∧ t.flights = [] ∧ t.getF RST_STAT_STEP = 0 ∧ t.outOn outReady = true))
     ∧ (s.quiescing = true → ∃ t, exec .sequencerWatchdog s = .next t ∧ t.power.life = .latched
       ∧ t.outOn outHotrst = true ∧ t.outOn outFault = true ∧ t.getF RST_FAULT0_CAUSE = s.getF RST_FAULT0_CAUSE)
     ∧ (s.quiescing = false → exec .sequencerWatchdog s = .next s
       ∧ ∀ bays engines, exec (.quiesceTimeout bays engines) s = .next s)
     ∧ (s.withheld = true → ∃ t, exec .thermalReadyTimeout s = .next t ∧ t.power.life = .latched
       ∧ t.outOn outHotrst = true)
     ∧ (s.withheld = false → exec .thermalReadyTimeout s = .next s)
     ∧ exec .stokerSramScrub s = .next s)
  ∧ (∀ (s : State),
       (s.power.life = .up → s.getF PWR_STAT_STATE ≠ 2 →
         ∃ t, exec .pllLockLoss s = .next t ∧ t.power.life = .latched ∧ t.stopped = true ∧ t.outOn outFault = true
           ∧ t.outOn outHotrst = true ∧ t.flights = s.flights ∧ t.dram = s.dram)
       ∧ ((s.power.life ≠ .up ∨ s.getF PWR_STAT_STATE = 2) → exec .pllLockLoss s = .next s))
  ∧ (∀ (i : Instr) (s : State), s.stopped = true → actsStopped i = false → exec i s = .next s)
  ∧ (∀ (i : Instr) (s : State), s.power.life = .latched → actsLatched i = false → exec i s = .next s)

/-! ## Power states, the board and the boot -/

/-- Power-state requests: BANKED and EMBER, when they are allowed, begin an entry from ACTIVE; during a recovery they
are refused; a wake request cancels an entry at once; EMBER is not left for BANKED (R422–R424, R426). POWER_ENTRY enters
the requested state once the module is quiet; past its limit the entry is refused and the module stays in ACTIVE; a
wake's step past its limit latches the module (R424, R425, R427). Where an entry waits is the model's reading (log
entries 17, 35). -/
def Obligations.PowerStateRequests : Prop :=
  (∀ (s : State), s.i3cUp = true → s.power.life = .up →
     (∀ (i : Instr) (k : Nat), (i, k) ∈ [(Instr.bankedRequest .i3c, 1), (.emberRequest .i3c, 2)] →
       (bitOf s.seval.stateAllow (k - 1) = true → s.recov = none → s.getF PWR_STAT_STATE = 0 → ∃ t, exec i s = .next t
         ∧ t.getF PWR_STAT_STATE = 3 ∧ t.getF PWR_STAT_STEP = 1 ∧ t.getF PWR_CTL_TARGET = k ∧ t.outOn outReady = false)
       ∧ (bitOf s.seval.stateAllow (k - 1) = true → s.recov.isSome = true → ∃ t, exec i s = .next t
         ∧ t.getF PWR_STAT_REFUSED = 1 ∧ t.getF PWR_STAT_STATE = s.getF PWR_STAT_STATE)
       ∧ (bitOf s.seval.stateAllow (k - 1) = false → exec i s = .next s))
     ∧ (s.recov = none → s.getF PWR_STAT_STATE = 2 → exec (.bankedRequest .i3c) s = .next s)
     ∧ (∀ o, s.recov = none → s.getF PWR_STAT_STATE = 3 → ∃ t, exec (.wakeRequest .i3c o) s = .next t
         ∧ t.getF PWR_STAT_STATE = 0 ∧ t.getF PWR_STAT_CANCELLED = 1 ∧ t.getF PWR_CTL_TARGET = 0
         ∧ t.outOn outReady = true)
     ∧ (∀ o : WakeOut, o.failStep = 0 → o.checkFailed = false → s.getF PWR_STAT_STATE = 1 → ∃ t,
         exec (.wakeRequest .i3c o) s = .next t ∧ t.getF PWR_STAT_STATE = 0
         ∧ t.getF PWR_STAT_WAKE_MS = min o.ms 65535 ∧ t.getF PWR_STAT_TRAINFULL = 0))
  ∧ (∀ (s : State),
       (s.entering = true → s.quiet = true → (s.getF PWR_CTL_TARGET = 1 ∨ s.getF PWR_CTL_TARGET = 2) →
         ∃ t, exec .powerEntry s = .next t ∧ t.getF PWR_STAT_STATE = s.getF PWR_CTL_TARGET ∧ t.getF PWR_STAT_STEP = 0
           ∧ t.tlb = [] ∧ t.flue.accepting = false)
       ∧ (s.entering = true → s.quiet = false → exec .powerEntry s = .next s ∧ ∃ t, exec .entryTimeout s = .next t
           ∧ t.getF PWR_STAT_STATE = 0 ∧ t.getF PWR_STAT_REFUSED = 1 ∧ t.getF PWR_STAT_STEP = 0 ∧ t.outOn outReady = true)
       ∧ (∀ k : Fin 5, s.power.life = .up → s.getF PWR_STAT_STATE = 4 → s.getF PWR_STAT_STEP = k.val →
           ∃ t, exec (.wakeTimeout k) s = .next t ∧ t.power.life = .latched ∧ t.outOn outHotrst = true))

/-- When the input leaves its range every rail is off at once: DRAM is lost, the switch stops forwarding, and every
output is released; when it returns with `PWR_EN` high the module runs a power-on reset (R553); the 100 ms for which
`PWR_EN` must stay low are the rule of Sequencing. -/
def Obligations.InputLossSwitchesOff : Prop :=
  ∀ (i : Instr) (s : State), i ∈ [Instr.undervoltageLockout, .overvoltageShutdown] →
    (s.power.life ≠ .off → ∃ t, exec i s = .next t ∧ t.power.life = .off ∧ t.power.inputOk = false ∧ t.dram = []
      ∧ t.getF SVC_SIDEBAND_OUT = 0 ∧ t.ports = [] ∧ t.flue.wire = s.flue.wire ∧ t.flights = []
      ∧ t.getF SVC_SIDEBAND_PWR_EN = s.getF SVC_SIDEBAND_PWR_EN % 2)
    ∧ (s.power.life = .off → ∃ t, exec i s = .next t ∧ t.power.life = .off ∧ t.power.inputOk = false ∧ t.dram = s.dram)
    ∧ ∀ o : BootOut, s.power.life = .off → s.power.lowHold = false → s.flag SVC_SIDEBAND_PWR_EN = true →
        s.flag SVC_SIDEBAND_MOD_RST_N = true →
        exec (.inputReturn o) s = .next (({ s with power := { s.power with inputOk := true } } : State).boot o)

/-- POWER_DOWN and MOD_RST_N: from any state the rails go off and the hold begins; in reset every domain is reset while
`PWRGD_OD` stays; what NVM, the fuses and host memory hold is kept (R562–R564). PERST_N: asserted, it takes the CXL link
down, and while the module has not booted does no more; released, the link trains, unless the controller is off or a
recovery has yet to train it (R561, R565, R566). PERST_N while a boot has not ended is the model's choice (log entry
32). -/
def Obligations.PowerDownAndPerst : Prop :=
  (∀ (s : State),
     (s.power.life ≠ .off → ∃ t, exec .powerDown s = .next t ∧ t.power.life = .off ∧ t.power.lowHold = true ∧ t.dram = []
       ∧ t.getF SVC_SIDEBAND_PWR_EN = 0 ∧ t.getF SVC_SIDEBAND_OUT = 0 ∧ t.nvm = s.nvm ∧ t.fuses = s.fuses
       ∧ t.hostMem = s.hostMem)
     ∧ (s.power.life = .off → ∃ t, exec .powerDown s = .next t ∧ t.power.life = .off ∧ t.power.lowHold = true
       ∧ t.getF SVC_SIDEBAND_PWR_EN = 0)
     ∧ (s.power.life ≠ .off → ∃ t, exec .modRstAssert s = .next t ∧ t.power.life = .inReset ∧ t.dram = []
       ∧ t.outOn outPwrgd = s.outOn outPwrgd ∧ t.outOn outReady = false ∧ t.nvm = s.nvm ∧ t.fuses = s.fuses
       ∧ t.getF SVC_SIDEBAND_MOD_RST_N = 0))
  ∧ (∀ (o : WakeOut) (s : State),
       (s.flag SVC_SIDEBAND_PERST_N = true → s.power.life ≠ .up → ∃ t, exec (.perstAssert o) s = .next t
         ∧ t.getF SVC_SIDEBAND_PERST_N = 0 ∧ t.getF CXL_LINK_UP = 0 ∧ t.host.hdmSize = 0 ∧ t.flights = s.flights)
       ∧ (s.flag SVC_SIDEBAND_PERST_N = false → exec (.perstAssert o) s = .next s)
       ∧ (s.power.life = .up → s.getF PWR_STAT_STATE ≠ 2 → s.flag CXL_LINK_UP = false → s.recov = none →
         ∃ t, exec .perstRelease s = .next t ∧ t.getF SVC_SIDEBAND_PERST_N = 1 ∧ t.getF CXL_LINK_UP = 1
           ∧ 1 ≤ t.getF CXL_LINK_WIDTH ∧ t.getF CXL_LINK_WIDTH ≤ 3))

/-- What starts a boot: `PWR_EN` rising, unless it is held low or the input is bad; `MOD_RST_N` released; the end of the
hold (R530, R552, R561, R563). A boot without its rails, or past its limit, does not reach READY (R531). Where a boot
that stalls stands is the model's choice (log entry 32). -/
def Obligations.BootStartsAndStops : Prop :=
  ∀ (o : BootOut) (s : State),
    (s.power.life = .inReset → exec (.powerOnReset o) s = .next ((s.setF SVC_SIDEBAND_MOD_RST_N 1).boot o))
    ∧ (s.power.life = .off → s.power.inputOk = true → s.power.lowHold = false → s.flag SVC_SIDEBAND_MOD_RST_N = true →
      exec (.powerOnReset o) s = .next ((s.setF SVC_SIDEBAND_PWR_EN 1).boot o))
    ∧ (s.power.life = .off → s.power.lowHold = true → exec (.powerOnReset o) s = .next (s.setF SVC_SIDEBAND_PWR_EN 1))
    ∧ (s.power.lowHold = true → s.flag SVC_SIDEBAND_PWR_EN = false →
      exec (.pwrEnHoldEnd o) s = .next { s with power := { s.power with lowHold := false } })
    ∧ (o.railsOk = false → (s.boot o).power.life = .booting 1 ∧ (s.boot o).getF SVC_SIDEBAND_OUT = 0)
    ∧ (o.railsOk = true → o.lateStep ≠ 1 → o.lateStep ≠ 2 → o.pllOk = true → o.nvmOk = false →
      (s.boot o).power.life = .bootFailed false ∧ (s.boot o).getF SEC_BOOT_ERR = 1 ∧ (s.boot o).outOn outFault = true)
    ∧ (∀ k, s.power.life = .booting k → ∃ t, exec .bootTimeout s = .next t ∧ t.getF SEC_BOOT_ERR = 9
      ∧ t.power.life = .bootFailed (decide (4 ≤ k)) ∧ t.outOn outFault = true ∧ t.getF SVC_ALERT_BOOTERR = 1)
end

