-- ==== Sys2Proof/Laws/Store.lean ====
section
/-! SUPPORT. The laws of the sparse store: read after write, and that every write keeps the canonical form. -/

namespace Sys2Proof

variable {α : Type}

theorem Store.find?_insert_same (m : Store α) (k : Nat) (v : α) : (m.insert k v).find? k = some v := by
  induction m with
  | nil => simp [Store.insert, Store.find?]
  | cons p m ih =>
    obtain ⟨j, w⟩ := p
    simp only [Store.insert]
    split_ifs with h1 h2
    · simp [Store.find?]
    · simp [Store.find?]
    · simp [Store.find?, h1, h2, ih]

theorem Store.find?_insert_ne (m : Store α) {k l : Nat} (v : α) (h : l ≠ k) :
    (m.insert k v).find? l = m.find? l := by
  induction m with
  | nil => simp [Store.insert, Store.find?]; omega
  | cons p m ih =>
    obtain ⟨j, w⟩ := p
    simp only [Store.insert]
    split_ifs with h1 h2
    · subst h1; simp [Store.find?]; split_ifs <;> simp_all
    · simp only [Store.find?]; split_ifs <;> first | rfl | omega
    · simp only [Store.find?]; rw [ih]

theorem Store.find?_erase_same (m : Store α) (k : Nat) : (m.erase k).find? k = none := by
  induction m with
  | nil => rfl
  | cons p m ih =>
    obtain ⟨j, w⟩ := p
    simp only [Store.erase]
    split_ifs with h <;> simp [Store.find?, h, ih]

theorem Store.find?_erase_ne (m : Store α) {k l : Nat} (h : l ≠ k) : (m.erase k).find? l = m.find? l := by
  induction m with
  | nil => rfl
  | cons p m ih =>
    obtain ⟨j, w⟩ := p
    simp only [Store.erase]
    split_ifs with hj
    · subst hj
      rw [ih, Store.find?, if_neg (Ne.symm h)]
    · simp only [Store.find?]; rw [ih]

theorem Store.above_insert {m : Store α} {b k : Nat} (v : α) (h : m.above b = true) (hk : b < k) :
    (m.insert k v).above b = true := by
  induction m with
  | nil => simp [Store.insert, Store.above, hk]
  | cons p m ih =>
    obtain ⟨j, w⟩ := p
    simp only [Store.above, List.all_cons, Bool.and_eq_true, decide_eq_true_eq] at h ih ⊢
    simp only [Store.insert]
    split_ifs
    · simpa [hk] using h.2
    · simpa [hk] using h
    · simpa using ⟨h.1, by simpa using ih h.2⟩

theorem Store.above_erase {m : Store α} {b : Nat} (k : Nat) (h : m.above b = true) : (m.erase k).above b = true := by
  induction m with
  | nil => rfl
  | cons p m ih =>
    obtain ⟨j, w⟩ := p
    simp only [Store.above, List.all_cons, Bool.and_eq_true, decide_eq_true_eq] at h ih ⊢
    simp only [Store.erase]
    split_ifs
    · simpa using ih h.2
    · simpa using ⟨h.1, by simpa using ih h.2⟩

theorem Store.above_mono {m : Store α} {a b : Nat} (h : m.above b = true) (hab : a ≤ b) : m.above a = true := by
  simp only [Store.above, List.all_eq_true, decide_eq_true_eq] at h ⊢
  intro x hx; have := h x hx; omega

theorem Store.sorted_insert {m : Store α} (k : Nat) (v : α) (h : m.sorted = true) : (m.insert k v).sorted = true := by
  induction m with
  | nil => rfl
  | cons p m ih =>
    obtain ⟨j, w⟩ := p
    simp only [Store.sorted, Bool.and_eq_true] at h
    simp only [Store.insert]
    split_ifs with h1 h2
    · subst h1; simp [Store.sorted, h]
    · simp only [Store.sorted, Bool.and_eq_true]
      refine ⟨?_, h⟩
      simp only [Store.above, List.all_cons, Bool.and_eq_true, decide_eq_true_eq]
      exact ⟨h2, Store.above_mono h.1 (by omega)⟩
    · simp only [Store.sorted, Bool.and_eq_true]
      exact ⟨Store.above_insert v h.1 (by omega), ih h.2⟩

theorem Store.sorted_erase {m : Store α} (k : Nat) (h : m.sorted = true) : (m.erase k).sorted = true := by
  induction m with
  | nil => rfl
  | cons p m ih =>
    obtain ⟨j, w⟩ := p
    simp only [Store.sorted, Bool.and_eq_true] at h
    simp only [Store.erase]
    split_ifs
    · exact ih h.2
    · simp only [Store.sorted, Bool.and_eq_true]
      exact ⟨Store.above_erase k h.1, ih h.2⟩

theorem Store.all_insert {m : Store α} {P : Nat × α → Bool} (k : Nat) (v : α) (hm : m.all P = true)
    (hv : P (k, v) = true) : (m.insert k v).all P = true := by
  induction m with
  | nil => simp [Store.insert, hv]
  | cons p m ih =>
    obtain ⟨j, w⟩ := p
    simp only [List.all_cons, Bool.and_eq_true] at hm
    simp only [Store.insert]
    split_ifs <;> simp_all

theorem Store.all_erase {m : Store α} {P : Nat × α → Bool} (k : Nat) (hm : m.all P = true) :
    (m.erase k).all P = true := by
  induction m with
  | nil => rfl
  | cons p m ih =>
    obtain ⟨j, w⟩ := p
    simp only [List.all_cons, Bool.and_eq_true] at hm
    simp only [Store.erase]
    split_ifs <;> simp_all

theorem Store.get_insert_same (d : α) (m : Store α) (k : Nat) (v : α) : (m.insert k v).get d k = v := by
  simp [Store.get, Store.find?_insert_same]

theorem Store.get_insert_ne (d : α) (m : Store α) {k l : Nat} (v : α) (h : l ≠ k) :
    (m.insert k v).get d l = m.get d l := by
  simp [Store.get, Store.find?_insert_ne m v h]

variable [DecidableEq α]

theorem Store.sorted_of_wf {d : α} {m : Store α} (h : m.wf d = true) : m.sorted = true := by
  simp only [Store.wf, Bool.and_eq_true] at h; exact h.1

/-- Every write keeps the canonical form. -/
theorem Store.wf_set {d : α} {m : Store α} (k : Nat) (v : α) (h : m.wf d = true) : (m.set d k v).wf d = true := by
  simp only [Store.wf, Bool.and_eq_true] at h ⊢
  unfold Store.set
  split_ifs with hv
  · exact ⟨Store.sorted_erase k h.1, Store.all_erase k h.2⟩
  · exact ⟨Store.sorted_insert k v h.1, Store.all_insert k v h.2 (by simpa using hv)⟩

/-- A read after a write to the same key gives the value written. -/
theorem Store.get_set_same (d : α) (m : Store α) (k : Nat) (v : α) : (m.set d k v).get d k = v := by
  unfold Store.get Store.set
  split_ifs with hv
  · rw [Store.find?_erase_same]; exact hv.symm
  · rw [Store.find?_insert_same]; rfl

/-- A write leaves every other key alone. -/
theorem Store.get_set_ne (d : α) (m : Store α) {k l : Nat} (v : α) (hne : l ≠ k) :
    (m.set d k v).get d l = m.get d l := by
  unfold Store.get Store.set
  split_ifs
  · rw [Store.find?_erase_ne m hne]
  · rw [Store.find?_insert_ne m v hne]

/-- Reading with another default: a write with the key's own default still leaves every other key alone. -/
theorem Store.get_set_ne' (d e : α) (m : Store α) {k l : Nat} (v : α) (hne : l ≠ k) :
    (m.set d k v).get e l = m.get e l := by
  unfold Store.get Store.set
  split_ifs
  · rw [Store.find?_erase_ne m hne]
  · rw [Store.find?_insert_ne m v hne]

end Sys2Proof
end

