-- ==== Sys2Proof/Laws/Memory.lean ====
section
/-! SUPPORT. The byte memories: every operation keeps the canonical form; what a write leaves to be read. -/

namespace Sys2Proof

/-! ### Sorted stores as pairwise lists -/

theorem Store.above_iff {α : Type} {b : Nat} {m : Store α} : m.above b = true ↔ ∀ p ∈ m, b < p.1 := by
  simp [Store.above]

theorem Store.sorted_iff {α : Type} {m : Store α} : m.sorted = true ↔ m.Pairwise fun p q => p.1 < q.1 := by
  induction m with
  | nil => simp [Store.sorted]
  | cons p m ih =>
    obtain ⟨k, v⟩ := p
    rw [Store.sorted, Bool.and_eq_true, ih, List.pairwise_cons, Store.above_iff]

theorem Store.wf_iff {α : Type} [DecidableEq α] {d : α} {m : Store α} :
    m.wf d = true ↔ m.Pairwise (fun p q => p.1 < q.1) ∧ ∀ p ∈ m, p.2 ≠ d := by
  simp [Store.wf, Store.sorted_iff]

theorem Store.sorted_filter {α : Type} {m : Store α} (p : Nat × α → Bool) (h : m.sorted = true) :
    Store.sorted (m.filter p) = true :=
  Store.sorted_iff.2 ((Store.sorted_iff.1 h).filter p)

theorem Store.wf_filter {α : Type} [DecidableEq α] {d : α} {m : Store α} (p : Nat × α → Bool) (h : m.wf d = true) :
    Store.wf d (m.filter p) = true :=
  have h := Store.wf_iff.1 h
  Store.wf_iff.2 ⟨h.1.filter p, fun _ hx => h.2 _ (List.mem_filter.1 hx).1⟩

/-- A store of which every record is replaced, and those at the default are dropped, keeps its form. -/
theorem Store.wf_update {α : Type} [DecidableEq α] {d : α} {m : Store α} (f : α → α) (h : m.wf d = true) :
    Store.wf d (m.filterMap fun (p : Nat × α) => if f p.2 = d then none else some (p.1, f p.2)) = true := by
  have h := Store.wf_iff.1 h
  refine Store.wf_iff.2 ⟨?_, fun p hp => ?_⟩
  · refine List.pairwise_filterMap.2 (h.1.imp ?_)
    intro p q hpq a ha b hb
    split at ha
    · cases ha
    · split at hb
      · cases hb
      · cases ha
        cases hb
        exact hpq
  · obtain ⟨q, -, hq⟩ := List.mem_filterMap.1 hp
    split at hq
    · cases hq
    · rename_i hn
      cases hq
      exact hn

/-- In a store whose keys rise, what is listed for a key is what a search finds. -/
theorem Store.find?_eq_some {α : Type} {m : Store α} (h : m.sorted = true) {k : Nat} {v : α} :
    m.find? k = some v ↔ (k, v) ∈ m := by
  induction m with
  | nil => simp [Store.find?]
  | cons p m ih =>
    obtain ⟨j, w⟩ := p
    rw [Store.sorted, Bool.and_eq_true] at h
    have ha := Store.above_iff.1 h.1
    rw [Store.find?, List.mem_cons, Prod.mk.injEq]
    by_cases hj : j = k
    · subst hj
      rw [if_pos rfl, Option.some.injEq]
      refine ⟨fun e => .inl ⟨rfl, e.symm⟩, fun e => e.elim (fun e => e.2.symm) fun e => ?_⟩
      exact absurd (ha _ e) (lt_irrefl _)
    · rw [if_neg hj, ih h.2]
      exact ⟨.inr, fun e => e.elim (fun e => absurd e.1.symm hj) id⟩

/-- In a canonical store a key reads as a value other than the default exactly when it is listed with it. -/
theorem Store.get_eq_iff {α : Type} [DecidableEq α] {d : α} {m : Store α} (h : m.wf d = true) {k : Nat} {v : α} (hv : v ≠ d) :
    m.get d k = v ↔ (k, v) ∈ m := by
  rw [← Store.find?_eq_some (Store.sorted_of_wf h), Store.get]
  cases e : m.find? k with
  | none => simp [hv.symm]
  | some w => simp

/-! ### Runs of bytes -/

namespace Machine

theorem Mem.cells_mem {d : Byte} {bs : List Byte} {a : Nat} {p : Host.Cell} (h : p ∈ Mem.cells d a bs) :
    a ≤ p.1 ∧ p.1 < a + bs.length ∧ p.2 ≠ d := by
  induction bs generalizing a with
  | nil => simp [Mem.cells] at h
  | cons b bs ih =>
    rw [Mem.cells] at h
    simp only [List.length_cons]
    split at h
    · obtain ⟨h1, h2, h3⟩ := ih h
      exact ⟨by omega, by omega, h3⟩
    · rename_i hb
      rcases List.mem_cons.1 h with h | h
      · subst h
        exact ⟨le_refl _, by simp, hb⟩
      · obtain ⟨h1, h2, h3⟩ := ih h
        exact ⟨by omega, by omega, h3⟩

theorem Mem.cells_sorted (d : Byte) (bs : List Byte) (a : Nat) :
    (Mem.cells d a bs).Pairwise fun p q => p.1 < q.1 := by
  induction bs generalizing a with
  | nil => simp [Mem.cells]
  | cons b bs ih =>
    rw [Mem.cells]
    split
    · exact ih _
    · refine List.pairwise_cons.2 ⟨fun q hq => ?_, ih _⟩
      have := Mem.cells_mem hq
      simp only
      omega

/-- What lies below `a`, a run within `[a, b)`, and what lies from `b` on, in one rising list. -/
theorem Mem.sandwich {d : Byte} {m c : List Host.Cell} {a b : Nat} (hab : a ≤ b) (h : Memory.wf d m = true)
    (hc : c.Pairwise fun p q => p.1 < q.1) (hm : ∀ p ∈ c, a ≤ p.1 ∧ p.1 < b ∧ p.2 ≠ d) :
    Memory.wf d ((m.filter fun p => decide (p.1 < a)) ++ (c ++ m.filter fun p => decide (b ≤ p.1))) = true := by
  have h := Store.wf_iff.1 h
  refine Store.wf_iff.2 ⟨?_, ?_⟩
  · refine List.pairwise_append.2 ⟨h.1.filter _, List.pairwise_append.2 ⟨hc, h.1.filter _, ?_⟩, ?_⟩
    · intro p hp q hq
      have := hm p hp
      simp only [List.mem_filter, decide_eq_true_eq] at hq
      omega
    · intro p hp q hq
      simp only [List.mem_filter, decide_eq_true_eq] at hp
      rcases List.mem_append.1 hq with hq | hq
      · have := hm q hq
        omega
      · simp only [List.mem_filter, decide_eq_true_eq] at hq
        omega
  · intro p hp
    rcases List.mem_append.1 hp with hp | hp
    · exact h.2 p (List.mem_filter.1 hp).1
    · rcases List.mem_append.1 hp with hp | hp
      · exact (hm p hp).2.2
      · exact h.2 p (List.mem_filter.1 hp).1

theorem Mem.write_wf {d : Byte} {m : List Host.Cell} (a : Nat) (bs : List Byte) (h : Memory.wf d m = true) :
    Memory.wf d (Mem.write d m a bs) = true :=
  Mem.sandwich (Nat.le_add_right a bs.length) h (Mem.cells_sorted d bs a) fun _ hp => Mem.cells_mem hp

theorem Mem.wipe_wf {d : Byte} {m : List Host.Cell} (a n : Nat) (h : Memory.wf d m = true) :
    Memory.wf d (Mem.wipe m a n) = true := by
  have := Mem.sandwich (c := []) (Nat.le_add_right a n) h List.Pairwise.nil (by simp)
  simpa [Mem.wipe] using this

theorem Mem.copy_wf {d : Byte} {m : List Host.Cell} (src dst n : Nat) (h : Memory.wf d m = true) :
    Memory.wf d (Mem.copy m src dst n) = true := by
  have hw := Store.wf_iff.1 h
  rw [Mem.copy, List.append_assoc]
  refine Mem.sandwich (Nat.le_add_right dst n) h ?_ ?_
  · refine List.pairwise_map.2 ((hw.1.filter _).imp_of_mem ?_)
    intro p q hp hq hpq
    simp only [List.mem_filter, Bool.and_eq_true, decide_eq_true_eq] at hp hq
    simp only
    omega
  · intro p hp
    obtain ⟨q, hq, rfl⟩ := List.mem_map.1 hp
    simp only [List.mem_filter, Bool.and_eq_true, decide_eq_true_eq] at hq
    exact ⟨by simp, by simp; omega, hw.2 q hq.1⟩

theorem Mem.set_wf {d : Byte} {m : List Host.Cell} (a : Nat) (b : Byte) (h : Memory.wf d m = true) :
    Memory.wf d (Store.set d m a b) = true := Store.wf_set a b h

theorem mixMem_wf {old : List Host.Cell} (v : Nat) (new : List Host.Cell) (h : Memory.wf memBlank old = true) :
    Memory.wf memBlank (mixMem v old new) = true := by
  rw [mixMem]
  generalize (old.map (·.1)) ++ new.map (·.1) = l
  have key : ∀ (l : List Nat) (m : List Host.Cell), Memory.wf memBlank m = true → Memory.wf memBlank (l.foldl (fun m a =>
      if bitOf v (a / 64 % 4096) then Store.set memBlank m a (Mem.read memBlank new a) else m) m) = true := by
    intro l
    induction l with
    | nil => exact fun m h => h
    | cons a l ih =>
      intro m h
      rw [List.foldl_cons]
      refine ih _ ?_
      split
      · exact Mem.set_wf _ _ h
      · exact h
  exact key l old h

/-! ### Reading after writing -/

theorem Store.find?_filter {α : Type} (m : Store α) (p : Nat → Bool) (a : Nat) :
    Store.find? (m.filter fun x => p x.1) a = if p a then m.find? a else none := by
  induction m with
  | nil => simp [Store.find?]
  | cons x m ih =>
    obtain ⟨k, v⟩ := x
    rw [List.filter_cons]
    by_cases hk : k = a
    · subst hk
      split <;> rename_i hp <;> simp [Store.find?, ih, hp]
    · split <;> simp [Store.find?, ih, hk]

theorem Store.find?_append {α : Type} (l m : Store α) (a : Nat) :
    Store.find? (l ++ m) a = (l.find? a).or (m.find? a) := by
  induction l with
  | nil => rfl
  | cons x l ih =>
    obtain ⟨k, v⟩ := x
    simp only [List.cons_append, Store.find?]
    split
    · rfl
    · exact ih

/-- A key that is not listed is not found. -/
theorem Store.find?_none {α : Type} {m : Store α} {a : Nat} (h : ∀ p ∈ m, p.1 ≠ a) : m.find? a = none := by
  induction m with
  | nil => rfl
  | cons x m ih =>
    rw [Store.find?, if_neg (h x (by simp)), ih fun p hp => h p (List.mem_cons_of_mem _ hp)]

/-- What a run of bytes lists at an address of the run. -/
theorem Mem.get_cells (d : Byte) (bs : List Byte) (a i : Nat) :
    Store.get d (Mem.cells d a bs) (a + i) = bs.getD i d := by
  induction bs generalizing a i with
  | nil => simp [Mem.cells, Store.get, Store.find?]
  | cons b bs ih =>
    have here : Store.find? (Mem.cells d (a + 1) bs) a = none := Store.find?_none fun p hp => by
      have := (Mem.cells_mem hp).1
      omega
    rw [Mem.cells]
    cases i with
    | zero =>
      split
      · rename_i hb
        simp [Store.get, here, hb]
      · simp [Store.get, Store.find?]
    | succ i =>
      have hi : a + (i + 1) = a + 1 + i := by omega
      split
      · rw [hi, ih]
        simp
      · rw [Store.get, Store.find?, if_neg (by omega), hi, ← Store.get, ih]
        simp

/-- A read after a write: inside the run the byte written, outside it what was there. -/
theorem Mem.read_write (d : Byte) (m : List Host.Cell) (a : Nat) (bs : List Byte) (x : Nat) :
    Mem.read d (Mem.write d m a bs) x = if a ≤ x ∧ x < a + bs.length then bs.getD (x - a) d else Mem.read d m x := by
  rw [Mem.read, Mem.write, Store.get, Store.find?_append, Store.find?_append,
    Store.find?_filter m (fun k => decide (k < a)), Store.find?_filter m (fun k => decide (a + bs.length ≤ k))]
  simp only [decide_eq_true_eq]
  by_cases hx : a ≤ x ∧ x < a + bs.length
  · rw [if_pos hx, if_neg (by omega), if_neg (by omega), Option.none_or, Option.or_none]
    have := Mem.get_cells d bs a (x - a)
    rw [show a + (x - a) = x by omega] at this
    exact this
  · rw [if_neg hx]
    have hn : Store.find? (Mem.cells d a bs) x = none := Store.find?_none fun p hp => by
      have := Mem.cells_mem hp
      omega
    rw [hn, Option.none_or, Mem.read, Store.get]
    by_cases hlt : x < a
    · rw [if_pos hlt, if_neg (by omega), Option.or_none]
    · rw [if_neg hlt, if_pos (by omega), Option.none_or]

end Machine

end Sys2Proof
end

