-- ==== Sys2Proof/Laws/State.lean ====
section
/-! SUPPORT. The register file: what a field reads after a write. -/

namespace Sys2Proof.Machine

open Sys2Proof

/-! ### Keys -/

/-- The register of a key. -/
theorem cellKey_reg (r : Reg) (i j lo : Nat) : cellKey r i j lo / 2 ^ 25 = r.num := by
  unfold cellKey
  have := Nat.mod_lt i (show 0 < 2 ^ 13 by decide)
  have := Nat.mod_lt j (show 0 < 2 ^ 6 by decide)
  have := Nat.mod_lt lo (show 0 < 2 ^ 6 by decide)
  omega

/-- A register by its number. -/
def Reg.ofNum (n : Nat) : Option Reg := Reg.all[n]?

theorem Reg.ofNum_num (r : Reg) : Reg.ofNum r.num = some r := by cases r <;> rfl

theorem Reg.num_inj {a b : Reg} (h : a.num = b.num) : a = b := by
  have := Reg.ofNum_num a
  rw [h, Reg.ofNum_num] at this
  exact (Option.some.inj this).symm

theorem Fld.key_ne_of_reg {f g : Fld} (h : g.reg ≠ f.reg) : g.key ≠ f.key := fun e => h (Reg.num_inj (by
  rw [← cellKey_reg g.reg g.i g.j g.lo, ← cellKey_reg f.reg f.i f.j f.lo]
  exact congrArg (· / 2 ^ 25) e))

/-! ### Reads after writes -/

@[simp] theorem State.getF_setF (s : State) (f : Fld) (v : Nat) : (s.setF f v).getF f = v % 2 ^ f.width :=
  Store.get_set_same ..

theorem State.getF_setF_ne (s : State) {f g : Fld} (v : Nat) (h : g.key ≠ f.key) : (s.setF f v).getF g = s.getF g :=
  Store.get_set_ne' _ _ _ _ h

theorem State.getF_setF_reg (s : State) {f g : Fld} (v : Nat) (h : g.reg ≠ f.reg) : (s.setF f v).getF g = s.getF g :=
  s.getF_setF_ne v (Fld.key_ne_of_reg h)

end Sys2Proof.Machine
end

