-- ==== Sys2Proof/Laws/Keeps.lean ====
section
/-! SUPPORT. What every operation over the state keeps: the parts of the state that it does not name, the commands that
wait, the free-value counter's order, the fuses up to burning, and the canonical form of every store. One relation,
`Keeps`, with its lemmas for record updates, folds, optional actions and the store operations; the files `Laws/Keeps*.lean`
carry it through every operation. -/

namespace Sys2Proof.Machine

open Sys2Proof

/-! ### Sets of parts, as bits of a number -/

/-- A part's bit. -/
def Part.num : Part → Nat
  | .dram => 0
  | .badLines => 1
  | .hostMem => 2
  | .nvm => 3
  | .mbReq => 4
  | .mbResp => 5
  | .tlb => 6
  | .queues => 7
  | .flights => 8
  | .accNext => 9
  | .arena => 10
  | .decisions => 11
  | .coll => 12
  | .flue => 13
  | .topology => 14
  | .ports => 15
  | .stackPorts => 16
  | .bays => 17
  | .damper => 18
  | .hearths => 19
  | .trace => 20
  | .recov => 21
  | .link => 22
  | .filter => 23
  | .pba => 24
  | .watch => 25
  | .atc => 26
  | .seval => 27
  | .fuses => 28
  | .burn => 29
  | .stoker => 30
  | .power => 31
  | .irqs => 32
  | .reply => 33
  | .free => 34
  | .d2dCorr => 35
  | .reg r => 36 + r.num

/-- The set of the parts of a list. -/
def Parts.of : List Part → Nat
  | [] => 0
  | p :: l => 2 ^ p.num ||| Parts.of l

/-- One set lies within another. -/
def Parts.le (M T : Nat) : Prop := M &&& T = M

theorem Parts.get {M T : Nat} (h : Parts.le M T) {k : Nat} (hk : M.testBit k = true) : T.testBit k = true := by
  rw [← h, Nat.testBit_and, Bool.and_eq_true] at hk
  exact hk.2

theorem Parts.sub {M N T : Nat} (h : Parts.le M T) (hN : Parts.le N M) : Parts.le N T :=
  Nat.eq_of_testBit_eq fun k => by
    rw [Nat.testBit_and]
    cases hk : N.testBit k with
    | false => rfl
    | true => rw [Parts.get h (Parts.get hN hk)]; rfl

theorem Parts.mem_of {l : List Part} {p : Part} (h : p ∈ l) : (Parts.of l).testBit p.num = true := by
  induction l with
  | nil => cases h
  | cons q l ih =>
    rw [Parts.of, Nat.testBit_or, Nat.testBit_two_pow, Bool.or_eq_true]
    rcases List.mem_cons.1 h with rfl | h
    · exact .inl (by simp)
    · exact .inr (ih h)

theorem Parts.le_head {p : Part} {l : List Part} : Parts.le (Parts.of [p]) (Parts.of (p :: l)) :=
  Nat.eq_of_testBit_eq fun k => by
    simp only [Parts.of, Nat.testBit_and, Nat.testBit_or]
    cases (2 ^ p.num).testBit k <;> simp

theorem Parts.le_tail {p : Part} {l : List Part} : Parts.le (Parts.of l) (Parts.of (p :: l)) :=
  Nat.eq_of_testBit_eq fun k => by
    simp only [Parts.of, Nat.testBit_and, Nat.testBit_or]
    cases (Parts.of l).testBit k <;> simp

theorem mem_regParts (r : Reg) : Part.reg r ∈ regParts :=
  List.mem_map.2 ⟨r, List.mem_of_getElem? (Reg.ofNum_num r), rfl⟩

theorem Parts.reg_le (r : Reg) : Parts.le (Parts.of [.reg r]) (Parts.of regParts) :=
  Nat.eq_of_testBit_eq fun k => by
    simp only [Parts.of, Nat.testBit_and, Nat.testBit_or, Nat.testBit_two_pow, Nat.zero_testBit, Bool.or_false]
    by_cases h : (Part.reg r).num = k
    · subst h
      simp [Parts.mem_of (mem_regParts r)]
    · simp [h]

/-- `t` follows from `s`: a part outside `T` is as it was, what waits stays, the counter of free values does not fall,
fuses are at most burnt, and the canonical form is kept. -/
structure Keeps (T : Nat) (s t : State) : Prop where
  same : ∀ p : Part, T.testBit p.num = false → p.same s t
  pending : t.pending = s.pending
  freeCtr : s.freeCtr ≤ t.freeCtr
  fuses : Fuses.growsTo s.fuses t.fuses
  canon : s.canon = true → t.canon = true

/-- A meaning whose next states are kept. -/
def KeepsOut (T : Nat) (s : State) (o : Host.Outcome State Fault Refusal) : Prop := ∀ t, o = .next t → Keeps T s t

theorem Fuses.growsTo_refl (f : Fuses) : Fuses.growsTo f f :=
  ⟨rfl, rfl, rfl, le_refl _, List.prefix_refl _, fun _ => rfl⟩

theorem Part.same_refl (p : Part) (s : State) : p.same s s := by
  cases p <;> simp [Part.same]

theorem Part.same_trans {p : Part} {s t u : State} (h : p.same s t) (g : p.same t u) : p.same s u := by
  cases p with
  | reg r => exact fun f hf => (g f hf).trans (h f hf)
  | flue => simp only [Part.same] at *; rw [g, h]
  | link => simp only [Part.same] at *; rw [g, h]
  | topology => exact ⟨g.1.trans h.1, g.2.1.trans h.2.1, g.2.2.trans h.2.2⟩
  | burn => exact ⟨g.1.trans h.1, g.2.trans h.2⟩
  | _ => exact Eq.trans g h

variable {T : Nat} {s0 s : State}

theorem keeps_refl (s : State) : Keeps T s s :=
  ⟨fun p _ => p.same_refl s, rfl, le_refl _, Fuses.growsTo_refl _, id⟩

theorem keepsOut_next {t : State} (h : Keeps T s0 t) : KeepsOut T s0 (.next t) := by
  intro u hu
  cases hu
  exact h

theorem keepsOut_fault (f : Fault) : KeepsOut T s0 (.fault f) := fun _ h => nomatch h

/-- A change of the parts of a list, which keeps the canonical form. -/
theorem keeps_change {t : State} {l : List Part} (h : Keeps T s0 s) (hl : Parts.le (Parts.of l) T)
    (hs : ∀ p : Part, p ∈ l ∨ p.same s t) (hp : t.pending = s.pending) (hf : s.freeCtr ≤ t.freeCtr)
    (hb : Fuses.growsTo s.fuses t.fuses) (hc : s.canon = true → t.canon = true) : Keeps T s0 t := by
  refine ⟨fun p h0 => ?_, hp.trans h.pending, h.freeCtr.trans hf, ?_, fun c => hc (h.canon c)⟩
  · rcases hs p with hp | hp
    · rw [Parts.get hl (Parts.mem_of hp)] at h0
      cases h0
    · exact Part.same_trans (h.same p h0) hp
  · obtain ⟨a1, a2, a3, a4, a5, a6⟩ := h.fuses
    obtain ⟨b1, b2, b3, b4, b5, b6⟩ := hb
    exact ⟨b1.trans a1, b2.trans a2, b3.trans a3, a4.trans b4, a5.trans b5, fun ho =>
      (b6 (by rw [a6 ho]; exact ho)).trans (a6 ho)⟩

/-- Every store of the state but those named is as in `s`; a change of any other field keeps it. -/
theorem keeps_mk (h : Keeps T s0 s) (flights : List Flight) (accNext arena : Store Nat) (coll : List CollEntry)
    (flue : FlueRt) (damper : DamperRt) (trace : TraceRt) (recov : Option RecRt) (host : HostRt) (seval : Seval)
    (stoker : StokerRt) (power : PowerRt) (decisions : List (Nat × Nat)) (irqs : List (Nat × Nat))
    (hostReply : Option HostReply)
    (h1 : T.testBit (Part.num .flights) = true ∨ flights = s.flights)
    (h2 : T.testBit (Part.num .accNext) = true ∨ accNext = s.accNext)
    (h3 : T.testBit (Part.num .arena) = true ∨ arena = s.arena)
    (h4 : T.testBit (Part.num .decisions) = true ∨ decisions = s.decisions)
    (h5 : T.testBit (Part.num .coll) = true ∨ coll = s.coll)
    (h6 : T.testBit (Part.num .flue) = true ∨
      (flue.failed, flue.seen, flue.gen, flue.epSeen, flue.recovering, flue.accepting,
        flue.trim, flue.frac, flue.ptag, flue.eject, flue.wire, flue.early) =
      (s.flue.failed, s.flue.seen, s.flue.gen, s.flue.epSeen, s.flue.recovering, s.flue.accepting,
        s.flue.trim, s.flue.frac, s.flue.ptag, s.flue.eject, s.flue.wire, s.flue.early))
    (h7 : T.testBit (Part.num .topology) = true ∨ (flue.dims, flue.root, flue.excluded) = (s.flue.dims, s.flue.root, s.flue.excluded))
    (h8 : T.testBit (Part.num .damper) = true ∨ damper = s.damper)
    (h9 : T.testBit (Part.num .trace) = true ∨ trace = s.trace)
    (h10 : T.testBit (Part.num .recov) = true ∨ recov = s.recov)
    (h11 : T.testBit (Part.num .link) = true ∨
      (host.hdmBase, host.hdmSize, host.ideMem, host.ideIo, host.numVfs, host.vfEn, host.msixOn, host.atsOn, host.msix, host.atsDeny) =
      (s.host.hdmBase, s.host.hdmSize, s.host.ideMem, s.host.ideIo, s.host.numVfs, s.host.vfEn,
        s.host.msixOn, s.host.atsOn, s.host.msix, s.host.atsDeny))
    (h12 : T.testBit (Part.num .filter) = true ∨ host.filter = s.host.filter)
    (h13 : T.testBit (Part.num .pba) = true ∨ host.pba = s.host.pba)
    (h14 : T.testBit (Part.num .watch) = true ∨ host.watch = s.host.watch)
    (h15 : T.testBit (Part.num .atc) = true ∨ host.atc = s.host.atc)
    (h16 : T.testBit (Part.num .seval) = true ∨ seval = s.seval)
    (h17 : T.testBit (Part.num .stoker) = true ∨ stoker = s.stoker)
    (h18 : T.testBit (Part.num .power) = true ∨ power = s.power)
    (h19 : T.testBit (Part.num .irqs) = true ∨ irqs = s.irqs)
    (h20 : T.testBit (Part.num .reply) = true ∨ hostReply = s.hostReply) :
    Keeps T s0 ⟨s.regs, s.dram, s.badLines, s.hostMem, s.nvm, s.mbReq, s.mbResp, s.tlb, s.queues, flights, accNext,
      arena, coll, flue, s.ports, s.stackPorts, s.bays, damper, s.hearths, trace, recov, host, seval, s.fuses, stoker,
      power, s.d2dCorr, decisions, irqs, hostReply, s.freeCtr, s.pending⟩ := by
  refine ⟨fun p h0 => Part.same_trans (h.same p h0) ?_, h.pending, h.freeCtr, h.fuses, h.canon⟩
  cases p with
  | reg r => exact fun f _ => rfl
  | flights => exact h1.resolve_left (by simp [h0])
  | accNext => exact h2.resolve_left (by simp [h0])
  | arena => exact h3.resolve_left (by simp [h0])
  | decisions => exact h4.resolve_left (by simp [h0])
  | coll => exact h5.resolve_left (by simp [h0])
  | flue =>
    have := h6.resolve_left (by simp [h0])
    simp only [Prod.mk.injEq] at this
    simp only [Part.same, ← this]
  | topology => simpa [Part.same] using h7.resolve_left (by simp [h0])
  | damper => exact h8.resolve_left (by simp [h0])
  | trace => exact h9.resolve_left (by simp [h0])
  | recov => exact h10.resolve_left (by simp [h0])
  | link =>
    have := h11.resolve_left (by simp [h0])
    simp only [Prod.mk.injEq] at this
    simp only [Part.same, ← this]
  | filter => exact h12.resolve_left (by simp [h0])
  | pba => exact h13.resolve_left (by simp [h0])
  | watch => exact h14.resolve_left (by simp [h0])
  | atc => exact h15.resolve_left (by simp [h0])
  | seval => exact h16.resolve_left (by simp [h0])
  | stoker => exact h17.resolve_left (by simp [h0])
  | power => exact h18.resolve_left (by simp [h0])
  | irqs => exact h19.resolve_left (by simp [h0])
  | reply => exact h20.resolve_left (by simp [h0])
  | burn => exact ⟨rfl, rfl⟩
  | _ => rfl

/-- The canonical form of a state whose stores stay canonical. -/
theorem canon_stores {t : State}
    (hregs : Store.sorted s.regs = true → Store.sorted t.regs = true)
    (hdram : Memory.wf memBlank s.dram = true → Memory.wf memBlank t.dram = true)
    (hbad : Store.wf false s.badLines = true → Store.wf false t.badLines = true)
    (hhost : Memory.wf memBlank s.hostMem = true → Memory.wf memBlank t.hostMem = true)
    (hnvm : Memory.wf nvmBlank s.nvm = true → Memory.wf nvmBlank t.nvm = true)
    (hreq : Memory.wf memBlank s.mbReq = true → Memory.wf memBlank t.mbReq = true)
    (hresp : Memory.wf memBlank s.mbResp = true → Memory.wf memBlank t.mbResp = true)
    (htlb : Store.sorted s.tlb = true → Store.sorted t.tlb = true)
    (hqueues : Store.wf QueueRt.init s.queues = true → Store.wf QueueRt.init t.queues = true)
    (hports : Store.wf PortRt.init s.ports = true → Store.wf PortRt.init t.ports = true)
    (hstack : Store.wf StackRt.init s.stackPorts = true → Store.wf StackRt.init t.stackPorts = true)
    (hbays : Store.wf BayRt.init s.bays = true → Store.wf BayRt.init t.bays = true)
    (hhearths : Store.wf HearthRt.init s.hearths = true → Store.wf HearthRt.init t.hearths = true)
    (hd2d : Store.wf 0 s.d2dCorr = true → Store.wf 0 t.d2dCorr = true)
    (hs : s.canon = true) : t.canon = true := by
  simp only [State.canon, Bool.and_eq_true] at hs ⊢
  exact ⟨⟨⟨⟨⟨⟨⟨⟨⟨⟨⟨⟨⟨hregs hs.1.1.1.1.1.1.1.1.1.1.1.1.1, hdram hs.1.1.1.1.1.1.1.1.1.1.1.1.2⟩,
    hbad hs.1.1.1.1.1.1.1.1.1.1.1.2⟩, hhost hs.1.1.1.1.1.1.1.1.1.1.2⟩, hnvm hs.1.1.1.1.1.1.1.1.1.2⟩,
    hreq hs.1.1.1.1.1.1.1.1.2⟩, hresp hs.1.1.1.1.1.1.1.2⟩, htlb hs.1.1.1.1.1.1.2⟩, hqueues hs.1.1.1.1.1.2⟩,
    hports hs.1.1.1.1.2⟩, hstack hs.1.1.1.2⟩, hbays hs.1.1.2⟩, hhearths hs.1.2⟩, hd2d hs.2⟩

/-! ### Control -/

theorem keeps_foldl {α : Type} {f : State → α → State} (l : List α) (h : Keeps T s0 s)
    (hf : ∀ s x, Keeps T s0 s → Keeps T s0 (f s x)) : Keeps T s0 (l.foldl f s) := by
  induction l generalizing s with
  | nil => exact h
  | cons x l ih => exact ih (hf s x h)

theorem keeps_foldl_fst {α β : Type} {f : State × β → α → State × β} (l : List α) {p : State × β} (h : Keeps T s0 p.1)
    (hf : ∀ p x, Keeps T s0 p.1 → Keeps T s0 (f p x).1) : Keeps T s0 (l.foldl f p).1 := by
  induction l generalizing p with
  | nil => exact h
  | cons x l ih => exact ih (hf p x h)

theorem keeps_foldl_snd {α β : Type} {f : β × State → α → β × State} (l : List α) {p : β × State} (h : Keeps T s0 p.2)
    (hf : ∀ p x, Keeps T s0 p.2 → Keeps T s0 (f p x).2) : Keeps T s0 (l.foldl f p).2 := by
  induction l generalizing p with
  | nil => exact h
  | cons x l ih => exact ih (hf p x h)

theorem ite_keeps {c : Prop} [Decidable c] {a b : State} (ha : Keeps T s0 a) (hb : Keeps T s0 b) :
    Keeps T s0 (if c then a else b) := by
  split
  · exact ha
  · exact hb

theorem when'_keeps {f : State → State} (h : Keeps T s0 s) (b : Bool) (hf : ∀ s, Keeps T s0 s → Keeps T s0 (f s)) :
    Keeps T s0 (when' b f s) := by
  unfold when'
  split
  · exact hf s h
  · exact h

theorem onlyIf_keeps {f : State → State} (h : Keeps T s0 s) (b : Bool) (hf : ∀ s, Keeps T s0 s → Keeps T s0 (f s)) :
    KeepsOut T s0 (onlyIf b f s) := by
  unfold onlyIf
  split
  · exact keepsOut_next (hf s h)
  · exact keepsOut_next h

/-! ### The store operations -/

theorem State.setF_keeps {f : Fld} (hT : Parts.le (Parts.of [.reg f.reg]) T) (h : Keeps T s0 s) (v : Nat) :
    Keeps T s0 (s.setF f v) :=
  keeps_change h hT (fun p => by
    cases p with
    | reg r =>
      by_cases hr : r = f.reg
      · exact .inl (by simp [hr])
      · exact .inr fun g hg => State.getF_setF_reg s v (by rw [hg]; exact hr)
    | _ => exact .inr (by simp [Part.same, State.setF])) rfl (le_refl _) (Fuses.growsTo_refl _)
    (canon_stores (fun hr => by
      change Store.sorted (Store.set _ _ _ _) = true
      unfold Store.set
      split
      · exact Store.sorted_erase _ hr
      · exact Store.sorted_insert _ _ hr) id id id id id id id id id id id id id)

theorem State.setFs_keeps {l : List (Fld × Nat)} (hT : Parts.le (Parts.of (l.map fun p => Part.reg p.1.reg)) T)
    (h : Keeps T s0 s) : Keeps T s0 (s.setFs l) := by
  induction l generalizing s with
  | nil => exact h
  | cons p l ih => exact ih (Parts.sub hT Parts.le_tail) (State.setF_keeps (Parts.sub hT Parts.le_head) h _)

theorem State.addSat_keeps {f : Fld} (hT : Parts.le (Parts.of [.reg f.reg]) T) (h : Keeps T s0 s) (n : Nat) :
    Keeps T s0 (s.addSat f n) := State.setF_keeps hT h _

theorem State.incF_keeps {f : Fld} (hT : Parts.le (Parts.of [.reg f.reg]) T) (h : Keeps T s0 s) (n : Nat) :
    Keeps T s0 (s.incF f n) := State.setF_keeps hT h _

theorem State.clrF_keeps {f : Fld} (hT : Parts.le (Parts.of [.reg f.reg]) T) (h : Keeps T s0 s) : Keeps T s0 (s.clrF f) :=
  State.setF_keeps hT h _

theorem State.setBit_keeps {f : Fld} (hT : Parts.le (Parts.of [.reg f.reg]) T) (h : Keeps T s0 s) (i : Nat) (b : Bool) :
    Keeps T s0 (s.setBit f i b) := State.setF_keeps hT h _

/-! ### The registers that recovery and warm reset clear (R15, R565) -/

/-- The registers with a field of recovery code C. -/
def clearedRegs : List Reg :=
  [.CTX_GOVSTAT, .DMP_STAT, .DMP_PWR, .DMP_BAY, .DMP_TLOG, .DMP_TDRM, .HTH_CONECTL, .RST_CTL, .CXL_LINK, .CXL_SF,
    .STK_MBCTL, .STK_MBSTAT, .FLU_RED]

theorem regTable_cleared : ∀ d ∈ regTable, ∀ f ∈ d.fields, f.recov = .c → d.reg ∈ clearedRegs := by decide +kernel

theorem cellRecov_cleared {k : Nat} (h : cellRecov k = some .c) : ∃ r ∈ clearedRegs, k / 2 ^ 25 = r.num := by
  obtain ⟨d, hd, h⟩ := Option.bind_eq_some_iff.1 h
  obtain ⟨f, hf, h⟩ := Option.map_eq_some_iff.1 h
  have hn := List.find?_some hd
  exact ⟨d.reg, regTable_cleared d (List.mem_of_find?_eq_some hd) f (List.mem_of_find?_eq_some hf) h,
    (by simpa using hn : d.reg.num = k / 2 ^ 25).symm⟩

theorem contextCell_regs {k : Nat} (h : contextCell k = true) : ∃ r ∈ contextRegs, k / 2 ^ 25 = r.num := by
  obtain ⟨d, hd, h⟩ := (Option.any_eq_true _ _).1 h
  have hn := List.find?_some hd
  exact ⟨d.reg, by simpa using h, (by simpa using hn : d.reg.num = k / 2 ^ 25).symm⟩

/-- A filter that drops only cells of some registers leaves every other register as it was. -/
theorem filter_same {s t : State} {k : Nat → Bool} {l : List Reg} (ht : t.regs = s.regs.filter fun p => k p.1)
    (hk : ∀ x, k x = false → ∃ r ∈ l, x / 2 ^ 25 = r.num) (r : Reg) : r ∈ l ∨ (Part.reg r).same s t := by
  by_cases hr : r ∈ l
  · exact .inl hr
  · refine .inr fun f hf => ?_
    have : k f.key = true := by
      by_contra hc
      obtain ⟨q, hq, h⟩ := hk f.key (by simpa using hc)
      rw [Fld.key, cellKey_reg] at h
      exact hr (hf ▸ Reg.num_inj h ▸ hq)
    rw [State.getF, State.getF, Store.get, Store.get, ht, Store.find?_filter, if_pos this]

theorem clearedRegs_filter {s t : State} (keep : Nat → Bool)
    (ht : t.regs = s.regs.filter fun p => keep p.1 || cellRecov p.1 != some .c) (r : Reg) :
    r ∈ clearedRegs ∨ (Part.reg r).same s t :=
  filter_same (k := fun x => keep x || cellRecov x != some .c) ht (fun x hx => cellRecov_cleared (by
    simp only [Bool.or_eq_false_iff, bne_eq_false_iff_eq] at hx
    exact hx.2)) r

theorem contextRegs_filter {s t : State} (ht : t.regs = s.regs.filter fun p => !contextCell p.1) (r : Reg) :
    r ∈ contextRegs ∨ (Part.reg r).same s t :=
  filter_same (k := fun x => !contextCell x) ht (fun x hx => contextCell_regs (by simpa using hx)) r

/-! ### Memories, stores and free values -/

theorem State.dwrite_keeps (hT : Parts.le (Parts.of [.reg .CXL_SF, .dram, .badLines, .filter]) T) (h : Keeps T s0 s)
    (pa : Nat) (bs : List Byte) : Keeps T s0 (s.dwrite pa bs) := by
  unfold State.dwrite
  lift_lets
  intro filter
  refine State.setF_keeps (f := CXL_SF_OCC) (Parts.sub hT rfl) ?_ _
  exact keeps_change h (l := [.dram, .badLines, .filter]) (Parts.sub hT rfl) (by intro p; cases p <;> simp [Part.same, State.getF]) rfl
    (le_refl _) (Fuses.growsTo_refl _)
    (canon_stores id (Mem.write_wf _ _) (Store.wf_filter _) id id id id id id id id id id id)

theorem State.setBad_keeps (hT : Parts.le (Parts.of [.badLines]) T) (h : Keeps T s0 s) (line : Nat) (b : Bool) :
    Keeps T s0 (s.setBad line b) :=
  keeps_change h hT (by intro p; cases p <;> simp [Part.same, State.getF, State.setBad]) rfl (le_refl _)
    (Fuses.growsTo_refl _) (canon_stores id id (Store.wf_set _ _) id id id id id id id id id id id)

theorem State.nwrite_keeps (hT : Parts.le (Parts.of [.nvm]) T) (h : Keeps T s0 s) (a : Nat) (bs : List Byte) :
    Keeps T s0 (s.nwrite a bs) :=
  keeps_change h hT (by intro p; cases p <;> simp [Part.same, State.getF, State.nwrite]) rfl (le_refl _)
    (Fuses.growsTo_refl _) (canon_stores id id id id (Mem.write_wf _ _) id id id id id id id id id)

theorem State.nerase_keeps (hT : Parts.le (Parts.of [.nvm]) T) (h : Keeps T s0 s) (a n : Nat) :
    Keeps T s0 (s.nerase a n) :=
  keeps_change h hT (by intro p; cases p <;> simp [Part.same, State.getF, State.nerase]) rfl (le_refl _)
    (Fuses.growsTo_refl _) (canon_stores id id id id (Mem.wipe_wf _ _) id id id id id id id id id)

theorem State.hostMem_keeps (hT : Parts.le (Parts.of [.hostMem]) T) (h : Keeps T s0 s) (a : Nat) (bs : List Byte) :
    Keeps T s0 { s with hostMem := Mem.write memBlank s.hostMem a bs } :=
  keeps_change h hT (by intro p; cases p <;> simp [Part.same, State.getF]) rfl (le_refl _)
    (Fuses.growsTo_refl _) (canon_stores id id id (Mem.write_wf _ _) id id id id id id id id id id)

theorem State.mbReq_keeps (hT : Parts.le (Parts.of [.mbReq]) T) (h : Keeps T s0 s) (a : Nat) (bs : List Byte) :
    Keeps T s0 { s with mbReq := Mem.write memBlank s.mbReq a bs } :=
  keeps_change h hT (by intro p; cases p <;> simp [Part.same, State.getF]) rfl (le_refl _)
    (Fuses.growsTo_refl _) (canon_stores id id id id id (Mem.write_wf _ _) id id id id id id id id)

theorem State.mbResp_keeps (hT : Parts.le (Parts.of [.mbResp]) T) (h : Keeps T s0 s) (a : Nat) (bs : List Byte) :
    Keeps T s0 { s with mbResp := Mem.write memBlank s.mbResp a bs } :=
  keeps_change h hT (by intro p; cases p <;> simp [Part.same, State.getF]) rfl (le_refl _)
    (Fuses.growsTo_refl _) (canon_stores id id id id id id (Mem.write_wf _ _) id id id id id id id)

theorem State.tlbInsert_keeps (hT : Parts.le (Parts.of [.tlb]) T) (h : Keeps T s0 s) (k e : Nat) :
    Keeps T s0 { s with tlb := s.tlb.insert k e } :=
  keeps_change h hT (by intro p; cases p <;> simp [Part.same, State.getF]) rfl (le_refl _)
    (Fuses.growsTo_refl _) (canon_stores id id id id id id id (Store.sorted_insert _ _) id id id id id id)

theorem State.tlbFilter_keeps (hT : Parts.le (Parts.of [.tlb]) T) (h : Keeps T s0 s) (f : Nat × Nat → Bool) :
    Keeps T s0 { s with tlb := s.tlb.filter f } :=
  keeps_change h hT (by intro p; cases p <;> simp [Part.same, State.getF]) rfl (le_refl _)
    (Fuses.growsTo_refl _) (canon_stores id id id id id id id (Store.sorted_filter _) id id id id id id)

theorem State.setQueue_keeps (hT : Parts.le (Parts.of [.queues]) T) (h : Keeps T s0 s) (q : Nat) (r : QueueRt) :
    Keeps T s0 (s.setQueue q r) :=
  keeps_change h hT (by intro p; cases p <;> simp [Part.same, State.getF, State.setQueue]) rfl (le_refl _)
    (Fuses.growsTo_refl _) (canon_stores id id id id id id id id (Store.wf_set _ _) id id id id id)

theorem State.setPort_keeps (hT : Parts.le (Parts.of [.ports]) T) (h : Keeps T s0 s) (p : Nat) (r : PortRt) :
    Keeps T s0 (s.setPort p r) :=
  keeps_change h hT (by intro p; cases p <;> simp [Part.same, State.getF, State.setPort]) rfl (le_refl _)
    (Fuses.growsTo_refl _) (canon_stores id id id id id id id id id (Store.wf_set _ _) id id id id)

theorem State.setStackPort_keeps (hT : Parts.le (Parts.of [.stackPorts]) T) (h : Keeps T s0 s) (b : Nat) (r : StackRt) :
    Keeps T s0 (s.setStackPort b r) :=
  keeps_change h hT (by intro p; cases p <;> simp [Part.same, State.getF, State.setStackPort]) rfl (le_refl _)
    (Fuses.growsTo_refl _) (canon_stores id id id id id id id id id id (Store.wf_set _ _) id id id)

theorem State.setBay_keeps (hT : Parts.le (Parts.of [.bays]) T) (h : Keeps T s0 s) (b : Nat) (r : BayRt) :
    Keeps T s0 (s.setBay b r) :=
  keeps_change h hT (by intro p; cases p <;> simp [Part.same, State.getF, State.setBay]) rfl (le_refl _)
    (Fuses.growsTo_refl _) (canon_stores id id id id id id id id id id id (Store.wf_set _ _) id id)

theorem State.setHearth_keeps (hT : Parts.le (Parts.of [.hearths]) T) (h : Keeps T s0 s) (x : Nat) (r : HearthRt) :
    Keeps T s0 (s.setHearth x r) :=
  keeps_change h hT (by intro p; cases p <;> simp [Part.same, State.getF, State.setHearth]) rfl (le_refl _)
    (Fuses.growsTo_refl _) (canon_stores id id id id id id id id id id id id (Store.wf_set _ _) id)

theorem State.fresh_keeps (hT : Parts.le (Parts.of [.free]) T) (h : Keeps T s0 s) : Keeps T s0 s.fresh.2 :=
  keeps_change h hT (by intro p; cases p <;> simp [Part.same, State.getF, State.fresh]) rfl (Nat.le_succ _)
    (Fuses.growsTo_refl _) id

theorem State.fresh_eq_keeps {n : Nat} {t : State} (hT : Parts.le (Parts.of [.free]) T) (he : s.fresh = (n, t))
    (h : Keeps T s0 s) : Keeps T s0 t := by
  have := State.fresh_keeps hT h
  rw [he] at this
  exact this

end Sys2Proof.Machine
end

