-- ==== Sys2Proof/Tests/Slice0.lean ====
section
/-! SUPPORT. Tests: ill-formed commands are refused by the well-formedness check, every statement's hypotheses are met by
a small concrete state, and single steps of the commands on such states. The expected values are read from the rules
that each test names. -/

namespace Sys2Proof.Machine

open Sys2Proof

set_option Elab.async false

/-! ### Small states -/

/-- The module up after reset. -/
def up : State := { State.reset with power := ⟨.up, true, false, false⟩ }

/-- The module up with its CXL link. -/
def linked : State := up.setF CXL_LINK_UP 1

/-- The module up with a committed HDM window of 256 MiB at 0, and Saggar regions from 16 MiB. -/
def served : State :=
  { (linked.setFs [(CXL_LINK_HDM, 1), (MEM_SAGGAR_BASE, 8)]) with host := { linked.host with hdmSize := 2 ^ 28 } }

/-- A little-endian value as listed cells, without its zero bytes. -/
def cellsAt (a n v : Nat) : List Host.Cell := Mem.cells 0 a (leBytes n v)

/-- Queue 0 enabled in context 0, its ring at VA 0, page 0 mapped to PA 0x40_0000, command 0 with the given first two
words. -/
def ringed (w0 w1 : Nat) : State :=
  { (served.setFs [(QUE_CFG_EN 0, 1), (QUE_CFG_ENGINE 0, 1), (QUE_STAT_STATE 0, qRunning)]).setQueue 0 { QueueRt.init with tail := 1 } with
    dram := cellsAt 0 8 (2 ^ 63 + 0x1000) ++ cellsAt 0x1000 8 (2 ^ 63 + 2 ^ 62 + 0x400000) ++ cellsAt 0x400000 16 (w0 + 2 ^ 64 * w1) }

/-- The state that a command leaves. -/
def after (c : Instr) (s : State) : State :=
  match exec c s with
  | .next t => t
  | .fault _ => s
  | .refused _ => s

/-! ### Ill-formed commands -/

theorem test_wf_tilePlace : (Instr.tilePlace [0, 0]).wf = false := by decide
theorem test_wf_tileComplete : (Instr.tileComplete 0 (2 ^ 48) ⟨0, 0, []⟩).wf = false := by decide
theorem test_wf_tileFail : (Instr.tileFail 0 0 (2 ^ 32) .sram).wf = false := by decide
theorem test_wf_glazeEncode : (Instr.glazeEncode 0 (2 ^ 48) 0).wf = false := by decide
theorem test_wf_escalationPass : (Instr.escalationPass 0 ⟨2 ^ 48, []⟩).wf = false := by decide
theorem test_wf_narrowEmission : (Instr.narrowEmission 0 (2 ^ 48)).wf = false := by decide
theorem test_wf_dispatchTimeout : (Instr.dispatchTimeout [(1, 2), (1, 2)]).wf = false := by decide
theorem test_wf_queueResume : (Instr.queueResume .i3c 0).wf = false := by decide
theorem test_wf_syncObjectWrite : (Instr.syncObjectWrite .i3c 0 0).wf = false := by decide
theorem test_wf_bankedRequest : (Instr.bankedRequest (.vf 0)).wf = false := by decide
theorem test_wf_emberRequest : (Instr.emberRequest (.vf 0)).wf = false := by decide
theorem test_wf_wakeRequest : (Instr.wakeRequest .pf0 ⟨6, false, false, 0⟩).wf = false := by decide
theorem test_wf_registerWrite : (Instr.registerWrite (.bar .pf0 2) 4 0).wf = false := by decide
theorem test_wf_getInfo : (Instr.getInfo 65537).wf = false := by decide
theorem test_wf_mailboxGetCert : (Instr.mailboxGetCert 65537).wf = false := by decide
theorem test_wf_mailboxAttest : (Instr.mailboxAttest 65537).wf = false := by decide
theorem test_wf_mailboxReadEvents : (Instr.mailboxReadEvents 65537).wf = false := by decide
theorem test_wf_updateBegin : (Instr.updateBegin ⟨2 ^ 32, false, 0, []⟩ 1).wf = false := by decide
theorem test_wf_updateData : (Instr.updateData ⟨0, false, 0, []⟩ (2 ^ 32) []).wf = false := by decide
theorem test_wf_updateEnd : (Instr.updateEnd ⟨0, false, 2 ^ 64, []⟩).wf = false := by decide
theorem test_wf_confirm : (Instr.confirm ⟨2 ^ 32, false, 0, []⟩).wf = false := by decide
theorem test_wf_configWrite : (Instr.configWrite ⟨0, false, 0, []⟩ (2 ^ 32) 0 []).wf = false := by decide
theorem test_wf_attest : (Instr.attest ⟨0, false, 0, []⟩ []).wf = false := by decide
theorem test_wf_getCert : (Instr.getCert ⟨2 ^ 32, false, 0, []⟩).wf = false := by decide
theorem test_wf_readEvents : (Instr.readEvents ⟨0, false, 0, []⟩ (2 ^ 32)).wf = false := by decide
theorem test_wf_clearRetire : (Instr.clearRetire ⟨0, false, 0, []⟩ (2 ^ 32)).wf = false := by decide
theorem test_wf_enroll : (Instr.enroll ⟨0, false, 0, []⟩ []).wf = false := by decide
theorem test_wf_wrapPsk : (Instr.wrapPsk ⟨0, false, 0, []⟩ []).wf = false := by decide
theorem test_wf_hostMemRead : (Instr.hostMemRead (2 ^ 52)).wf = false := by decide
theorem test_wf_hostMemWrite : (Instr.hostMemWrite 63 [1, 2]).wf = false := by decide
theorem test_wf_snoopInvalidation : (Instr.snoopInvalidation 1 []).wf = false := by decide
theorem test_wf_atsInvalidation : (Instr.atsInvalidation 0 (2 ^ 27) true).wf = false := by decide
theorem test_wf_hdmCommit : (Instr.hdmCommit (2 ^ 64) 0 1).wf = false := by decide
theorem test_wf_frameReceive :
    (Instr.frameReceive 0 ⟨⟨2, true, false⟩, [], 0, 0, 0, []⟩).wf = false := by decide
theorem test_wf_skipFrameReceive : (Instr.skipFrameReceive 0 ⟨⟨0, false, false⟩, [], 0, 2 ^ 64, 0⟩).wf = false := by decide
theorem test_wf_retrainEntry : (Instr.retrainEntry 0 4).wf = false := by decide
theorem test_wf_retrainDone : (Instr.retrainDone 0 ⟨0, 0, 0, 0, 6, true⟩).wf = false := by decide
theorem test_wf_stackPortGrant : (Instr.stackPortGrant 0 0 []).wf = false := by decide
theorem test_wf_beat : Beat.wf ⟨0, true, 1, [], none⟩ = false := by decide
theorem test_wf_readBeatReturn : (Instr.readBeatReturn 0 ⟨0, List.replicate 65 .clean⟩ none).wf = false := by decide
theorem test_wf_patrolScrub : (Instr.patrolScrub 0 (List.replicate 65 .clean)).wf = false := by decide
theorem test_wf_rowSpare : (Instr.rowSpare 0 (2 ^ 25)).wf = false := by decide
theorem test_wf_sensorSample : (Instr.sensorSample ⟨[], 0, 0⟩).wf = false := by decide
theorem test_wf_budgetPeriod : (Instr.budgetPeriod ⟨[], [], []⟩).wf = false := by decide
theorem test_wf_coneTestEnd : (Instr.coneTestEnd 0 (.cells [(130, 0)])).wf = false := by decide
theorem test_wf_quiesceTimeout : (Instr.quiesceTimeout (2 ^ 16) 0).wf = false := by decide
theorem test_wf_powerOnReset :
    (Instr.powerOnReset ⟨true, true, true, 9, true, [], [], [], [], 0, 0⟩).wf = false := by decide
theorem test_wf_perstAssert : (Instr.perstAssert ⟨6, false, false, 0⟩).wf = false := by decide
theorem test_wf_inputReturn :
    (Instr.inputReturn ⟨true, true, true, 0, true, [], [], [], [], 2 ^ 16, 0⟩).wf = false := by decide
theorem test_wf_pwrEnHoldEnd :
    (Instr.pwrEnHoldEnd ⟨true, true, true, 0, true, [], [], [], [], 0, 2 ^ 12⟩).wf = false := by decide

/-! ### Witnesses of the statements' hypotheses: the whole machine -/

theorem test_hyp_StepRunsFrontCommand : ({ up with pending := [.sweep] } : State).pending = Instr.sweep :: [] := rfl

theorem test_hyp_IdleStepIsClockTick :
    State.reset.pending = [] ∧ State.reset.power.life = .off
    ∧ ({ up with power := ⟨.latched, true, false, true⟩ } : State).stopped = true
    ∧ up.pending = [] ∧ up.power.life ≠ .off ∧ up.power.life ≠ .inReset ∧ up.stopped = false ∧ up.getF PWR_STAT_STATE ≠ 2
    ∧ up.rank = up.flue.root ∧ up.flue.frac < 2 ^ 32 := by decide +kernel

theorem test_hyp_StepKeepsCanonicalForm :
    State.reset.canon = true ∧ step { State.reset with pending := [.stokerSramScrub] } = .next State.reset := by
  exact ⟨by decide +kernel, rfl⟩

theorem test_hyp_StepOnlyBurnsFuses : step { State.reset with pending := [.stokerSramScrub] } = .next State.reset := rfl

theorem test_hyp_QueueAndFusesHaveTheirWriters :
    exec .stokerSramScrub State.reset = .next State.reset ∧ (∀ h, Instr.stokerSramScrub ≠ .confirm h)
    ∧ ∀ h k, Instr.stokerSramScrub ≠ .enroll h k := ⟨rfl, by simp, by simp⟩

theorem test_hyp_QueueSideFrame :
    (frameOf (.nop 0)).1 = .queue ∧ exec (.nop 0) State.reset = .next State.reset ∧ Part.fuses ∉ (frameOf (.nop 0)).2 :=
  ⟨rfl, rfl, by decide⟩

theorem test_hyp_HostSideFrame :
    (frameOf .sweep).1 = .host ∧ exec .sweep State.reset = .next State.reset ∧ Part.dram ∉ (frameOf .sweep).2 :=
  ⟨rfl, rfl, by decide⟩

theorem test_hyp_FabricSideFrame :
    (frameOf (.idle 5)).1 = .fabric ∧ exec (.idle 5) State.reset = .next State.reset ∧ Part.fuses ∉ (frameOf (.idle 5)).2 :=
  ⟨rfl, rfl, by decide⟩

theorem test_hyp_BoardSideFrame :
    (frameOf .stokerSramScrub).1 = .board ∧ exec .stokerSramScrub State.reset = .next State.reset
    ∧ Part.dram ∉ (frameOf .stokerSramScrub).2 := ⟨rfl, rfl, by decide⟩

/-! ### Witnesses: commands of the queues -/

/-- A check that answers a value, read off a test of its answer. -/
theorem ok_of {ε α : Type} [DecidableEq α] {x : Except ε α} {a : α}
    (h : (match x with | .ok w => decide (w = a) | .error _ => false) = true) : x = .ok a := by
  cases x <;> simp_all

/-- A check that answers an error, read off a test of its answer. -/
theorem error_of {ε α : Type} [DecidableEq ε] {x : Except ε α} {e : ε}
    (h : (match x with | .ok _ => false | .error w => decide (w = e)) = true) : x = .error e := by
  cases x <;> simp_all

/-- The bytes of command 0 of a ring. -/
def head (s : State) : List Byte := s.cmdBytes 0 0

/-- The row of NOP, at the last of its opcodes that no engine takes. -/
theorem test_hyp_opcodeRow :
    ((opcodeRow (.nop 0)).map fun x => (x.1, x.2 0, x.2 0x06, x.2 0x10)) = some (0, true, true, false)
    ∧ ((opcodeRow (.precisionApply 63)).map fun x => (x.1, x.2 0x71, x.2 0x70)) = some (63, true, false) := by decide

/-- Command 0 is a NOP. -/
theorem test_hyp_OpcodeRowStartsHead :
    let s := ringed 0 0
    s.due 0 = true ∧ s.fetchCmd 0 (s.headIdx 0) = .ok (head s) ∧ cOpc (head s) = 0 ∧ isBarrier (cOpc (head s)) = false
    ∧ s.waitHolds 0 (head s) = false ∧ s.startCheck 0 (head s) = .ok .control ∧ s.accHolds 0 (head s) .control = false :=
  ⟨by decide +kernel, ok_of (by decide +kernel), by decide +kernel, by decide +kernel, by decide +kernel,
    ok_of (by decide +kernel), by decide +kernel⟩

/-- A command in flight of queue 0 that has no tiles. -/
def idleFlight : Flight := Flight.fresh 0 0 0 (List.replicate 64 0) .control 0 []

/-- A FENCE behind a command in flight, and a NOP that waits on object 0. -/
def fenced : State := { ringed 5 0 with flights := [idleFlight] }
def waiting : State := (ringed 0x0400 1).setFs [(CTX_SYNC_COUNT 0, 1), (CTX_CFG_WAIT_TO 0, 10)]

/-- A QUANTISE of one FP32 value with statistics, whose pool of accumulation entries is full. -/
def pooled : State :=
  let s := (ringed 0x2021 0).setFs [(CTX_TAB_BASE 0 1, 0x5000 / 64), (CTX_TAB_LEN 0 1, 1), (CTX_TAB_BASE 0 2, 0x4000 / 64),
    (CTX_TAB_LEN 0 2, 1), (CTX_TAB_LEN 0 3, 1)]
  { s with
    dram := s.dram ++ cellsAt 0x400018 6 0x100 ++ cellsAt 0x400028 6 0x140
      ++ cellsAt 0x400100 32 (0x1000 + 1 * 2 ^ 48 + 4 * 2 ^ 64 + 1 * 2 ^ 192 + 1 * 2 ^ 224)
      ++ cellsAt 0x400140 32 (0x8000 + 16704 * 2 ^ 64 + 1 * 2 ^ 192 + 1 * 2 ^ 224)
      ++ cellsAt 0x404000 16 (8 + 8 * 2 ^ 64 + 8 * 2 ^ 72 + 0xFFFFFFFF * 2 ^ 96)
    flights := [{ idleFlight with accCount := 512 }] }

theorem test_hyp_OpcodeRowHolds :
    State.reset.due 0 = false
    ∧ ((ringed 0 0).due 0 = true ∧ (ringed 0 0).fetchCmd 0 ((ringed 0 0).headIdx 0) = .ok (head (ringed 0 0))
      ∧ (cOpc (head (ringed 0 0)) == 0x02) = false)
    ∧ (fenced.due 0 = true ∧ fenced.fetchCmd 0 (fenced.headIdx 0) = .ok (head fenced) ∧ cOpc (head fenced) = 5
      ∧ isBarrier (cOpc (head fenced)) = true ∧ fenced.flightsOf 0 ≠ [])
    ∧ (waiting.due 0 = true ∧ waiting.fetchCmd 0 (waiting.headIdx 0) = .ok (head waiting) ∧ cOpc (head waiting) = 0
      ∧ waiting.waitHolds 0 (head waiting) = true) :=
  ⟨by decide +kernel, ⟨by decide +kernel, ok_of (by decide +kernel), by decide +kernel⟩,
    ⟨by decide +kernel, ok_of (by decide +kernel), by decide +kernel⟩,
    ⟨by decide +kernel, ok_of (by decide +kernel), by decide +kernel⟩⟩

theorem test_hyp_OpcodeRowHolds_pool :
    pooled.due 0 = true ∧ pooled.fetchCmd 0 (pooled.headIdx 0) = .ok (head pooled) ∧ cOpc (head pooled) = 0x21
    ∧ pooled.waitHolds 0 (head pooled) = false
    ∧ ∃ plan, pooled.startCheck 0 (head pooled) = .ok plan ∧ pooled.accHolds 0 (head pooled) plan = true := by
  refine ⟨by decide +kernel, ok_of (by decide +kernel), by decide +kernel, by decide +kernel, ?_⟩
  have h : (match pooled.startCheck 0 (head pooled) with
    | .ok p => pooled.accHolds 0 (head pooled) p
    | .error _ => false) = true := by decide +kernel
  split at h
  · exact ⟨_, ‹_›, h⟩
  · cases h

/-- A NOP with a reserved bit of its last word set, and a ring that no page table maps. -/
def reserved : State := { ringed 0 0 with dram := (ringed 0 0).dram ++ cellsAt 0x40003F 1 1 }
def unmapped : State := { ringed 0 0 with dram := [] }

theorem test_hyp_OpcodeRowEndsHeadAtOnce :
    (reserved.due 0 = true ∧ reserved.fetchCmd 0 (reserved.headIdx 0) = .ok (head reserved) ∧ cOpc (head reserved) = 0
      ∧ reserved.waitHolds 0 (head reserved) = false ∧ reserved.startCheck 0 (head reserved) = .error (.decodeError, none))
    ∧ (unmapped.due 0 = true ∧ unmapped.fetchCmd 0 (unmapped.headIdx 0) = .error (.accessFault, none)) :=
  ⟨⟨by decide +kernel, ok_of (by decide +kernel), by decide +kernel, by decide +kernel, error_of (by decide +kernel)⟩,
    by decide +kernel, error_of (by decide +kernel)⟩

/-- Queue 0 parked, its watch line at VA 0x40 of a mapped page with the given first 16 bytes. -/
def watched (v : Nat) : State :=
  { ((ringed 0 0).setFs [(QUE_STAT_STATE 0, qParked), (QUE_PTR_ADDR 0 1, 1), (QUE_PTR_EPOCH 0 1, 3)]) with
    dram := cellsAt 0 8 (2 ^ 63 + 0x1000) ++ cellsAt 0x1000 8 (2 ^ 63 + 2 ^ 62 + 0x400000) ++ cellsAt 0x400040 16 v }

/-- A line of another epoch; a tail at its last admitted value; and one past it. -/
theorem test_hyp_WatchLinePollTakesTail :
    let ok (s : State) : Prop := s.running = true ∧ s.live 0 = true ∧ s.getF (QUE_STAT_STATE 0) = qParked
      ∧ s.watchAt 0 = some (.device, 0x400040) ∧ s.rangeCheck (s.ctxOf 0) (s.watchVA 0) 64 false = .ok
    let bad (s : State) : Option Nat := s.rangeBad (s.ctxOf 0) (s.watchVA 0) 64
    let rd (s : State) : Nat → Nat → Nat := rdNat (s.vbyte (s.ctxOf 0))
    let epoch (s : State) : Nat := rd s (s.watchVA 0 + 6) 2
    let tail (s : State) : Nat := rd s (s.watchVA 0) 6
    (ok (watched 2) ∧ bad (watched 2) = none ∧ epoch (watched 2) ≠ (watched 2).getF (QUE_PTR_EPOCH 0 1))
    ∧ (let s := (watched 2).setBad (0x400040 / 64) true; ok s ∧ bad s = some 0x400040)
    ∧ (let s := watched (3 * 2 ^ 48 + 2 ^ 47)
      ok s ∧ bad s = none ∧ epoch s = s.getF (QUE_PTR_EPOCH 0 1) ∧ (s.queue 0).tail ≤ tail s
        ∧ tail s ≤ s.headIdx 0 + 2 ^ 47)
    ∧ (let s := watched (3 * 2 ^ 48 + 2 ^ 47 + 1)
      ok s ∧ bad s = none ∧ epoch s = s.getF (QUE_PTR_EPOCH 0 1) ∧ s.headIdx 0 + 2 ^ 47 < tail s)
    ∧ let s := watched (3 * 2 ^ 48)
      ok s ∧ bad s = none ∧ epoch s = s.getF (QUE_PTR_EPOCH 0 1) ∧ tail s < (s.queue 0).tail := by
  decide +kernel

/-! ### Witnesses: tiles -/

/-- One FP32 value at VA 0x1000, and a vector command over it with its only tile on a Hob. -/
def oneValue : TDesc := ⟨0x1000, kFP32, 0, 4, 0, 1, 1⟩
def vecOne : VecOp := ⟨.map, 0, 0, FV.one, oneValue, none, oneValue, none⟩
def onHob : Running := ⟨0, 0, 0, [], none, [], []⟩
def vecFlight : Flight := { Flight.fresh 0 0 0 (List.replicate 64 0) (.vector vecOne) 1 [] with running := [onHob], nextTile := 1 }

/-- Queue 0 of a given engine with one command in flight. -/
def flying (engine : Nat) (f : Flight) : State := { (ringed 0 0).setF (QUE_CFG_ENGINE 0) engine with flights := [f] }

/-- Only Bay 0 takes work. -/
def oneBay (s : State) : State := s.setFs ((List.range 15).map fun b => (DMP_BAY_DUTY (b + 1), 0))

def openFlight : Flight := { vecFlight with running := [], nextTile := 0 }

theorem test_hyp_TilePlacedInBestBay :
    up.running = true ∧ up.firstFit [] = none
    ∧ (oneBay (flying 2 openFlight)).running = true
    ∧ (oneBay (flying 2 openFlight)).firstFit [0] = some (openFlight, [0], 0, true) := by decide +kernel

theorem test_hyp_TilesLandOrRetry :
    (up.landing 0 0 0 = none
      ∧ (flying 2 vecFlight).landing 0 0 0 = some vecFlight ∧ vecFlight.plan = .vector vecOne
      ∧ (let u := (flying 2 vecFlight).countCorrected vecFlight 0 3 [(5, 1)]
        u.hostLost vecFlight 0 = false ∧ u.badOf (u.ctxOf 0) (vecFlight.plan.tileReads (u.vbyte (u.ctxOf 0)) 0) = none))
    ∧ ((flying 2 vecFlight).runningAt 0 0 0 = some (vecFlight, onHob) ∧ (flying 2 vecFlight).engine 0 = 2
      ∧ vecFlight.tries 0 < 2
      ∧ (let g := vecFlight.retried (vecFlight.backWith 0) 0 0 false
        (flying 2 vecFlight).retryPossible g g.emits (vecFlight.backWith 0) = true))
    ∧ ((flying 2 { vecFlight with retryCnt := [(0, 2)] }).runningAt 0 0 0
        = some ({ vecFlight with retryCnt := [(0, 2)] }, onHob)
      ∧ 2 ≤ ({ vecFlight with retryCnt := [(0, 2)] } : Flight).tries 0) := by decide +kernel

/-- A QUANTISE of one value to INT8 with its only tile on a Hearth. -/
def bbfOne : BbfOut :=
  ⟨⟨0x8000, kBBF, 0, 16704, 0, 1, 1⟩, false, [⟨8, 0, 0, 0, 0, false, 0, false⟩], 0, 1, [], none, none, false, 0, 0, 0, none⟩
def convOne : ConvOp := ⟨.quantise, oneValue, bbfOne.td, false, false, 0, 0, []⟩
def convFlight : Flight :=
  { Flight.fresh 0 0 0 (List.replicate 64 0) (.convert convOne (some bbfOne)) 1 [] with running := [onHob], nextTile := 1 }

/-- The same command once it has decided to escalate and its Hearths are idle. -/
def escFlight : Flight := { convFlight with running := [], phase := 2, esc := some ⟨1, 1, 0, true, 4, 8, false⟩ }

/-- An UPDATE of one parameter whose update tile is done and whose emission has not begun. -/
def updOne : UpdOp := ⟨.sgd, ⟨FV.one, FV.one, FV.one, FV.one, FV.one, FV.one⟩, 0x1000, 0x1100, 0x1000, 0x1100, 0x1200, 0, 0,
  false, false, false, 0, [], 1, true, 0, 0⟩
def updFlight : Flight := { Flight.fresh 0 0 0 (List.replicate 64 0) (.update updOne (some bbfOne)) 2 [] with done := [0], nextTile := 1 }

theorem test_hyp_GlazeAndEscalation :
    let reads (s : State) : List (Nat × Nat) := convFlight.plan.unitReads (s.vbyte 0) 0 bbfOne 0 (s.gathers convFlight) convFlight.parts
    up.encoding 0 0 0 = none
    ∧ ((flying 1 convFlight).encoding 0 0 0 = some convFlight ∧ convFlight.plan.unitAt 0 = some (0, bbfOne, 0)
      ∧ (flying 1 convFlight).badOf 0 (reads (flying 1 convFlight)) = none
      ∧ (convFlight.plan.unitVals ((flying 1 convFlight).vbyte 0) 0 bbfOne 0).isSome = true)
    ∧ (let s := (flying 1 convFlight).setBad (0x401000 / 64) true
      s.encoding 0 0 0 = some convFlight ∧ s.badOf 0 (reads s) = some 0x401000)
    ∧ ((flying 1 escFlight).escIdle 0 0 = some escFlight ∧ escFlight.esc = some ⟨1, 1, 0, true, 4, 8, false⟩)
    ∧ ((flying 5 updFlight).emissionDue 0 0 = some (updFlight, updOne, bbfOne) ∧ updFlight.failed = []) := by decide +kernel

/-! ### Witnesses: completion, steps and the governor -/

theorem test_hyp_CompletionRecordsAndHalts :
    up.completing 0 = none
    ∧ (let f : Flight := { idleFlight with errs := [.decodeError] }
      (flying 1 f).completing 0 = some f ∧ f.errs = [Status.decodeError] ∧ f.failed = [] ∧ Status.decodeError.isOk = false
        ∧ Status.decodeError ≠ .syncRange) := by decide +kernel

/-- A STEP_MARK at which queue 0 holds. -/
def markFlight : Flight := Flight.fresh 0 0 0 (4 :: List.replicate 63 0) .control 0 []
def marked (m : Bool × Nat) : State :=
  (((flying 1 markFlight).setFs [(QUE_CFG_STEPPED 0, 1), (CTX_CFG_WAIT_TO 0, 10)]).setQueue 0 { QueueRt.init with mark := some m }).setF (QUE_STAT_HEAD 0) 1

theorem test_hyp_WaitTimeoutEndsWait :
    waiting.waitingHead 0 = some (head waiting)
    ∧ ((marked (false, 0)).waitingHead 0 = none ∧ (marked (false, 0)).heldMark 0 = some markFlight)
    ∧ (up.waitingHead 0 = none ∧ up.heldMark 0 = none) := by decide +kernel

/-- A second queue that holds at a mark which loads another step. -/
def twoMarks : State :=
  ((marked (true, 1)).setFs [(QUE_CFG_EN 1, 1), (QUE_CFG_STEPPED 1, 1)]).setQueue 1 { QueueRt.init with mark := some (true, 2) }

theorem test_hyp_StepBarrierActsOnce :
    ((marked (false, 0)).barrierMet 0 = true ∧ (marked (false, 0)).closesWindow 0 = false
      ∧ ((marked (false, 0)).loads 0).length ≤ 1)
    ∧ (let s : State := { (marked (true, 4)).setF (CTX_GOVCFG_WINDOW 0) 4 with decisions := [(0, 0)] }
      s.barrierMet 0 = true ∧ s.closesWindow 0 = true ∧ s.deciding 0 = true ∧ (s.loads 0).length ≤ 1)
    ∧ (twoMarks.barrierMet 0 = true ∧ 1 < (twoMarks.loads 0).length) := by decide +kernel

theorem test_hyp_DecisionAndInterludeEnd :
    (let s : State := { up with decisions := [(0, 5)] }
      let u : State := { s.setFs [(CTX_GOVDONE_DONE_WIN 0, 5), (CTX_GOVSTAT_BUSY 0, 0)] with decisions := [] }
      s.running = true ∧ u.barrierMet 0 = false)
    ∧ (up.setF (CTX_CFG_INTERLUDE 15) 1).interludeDone 15 = true := by decide +kernel


/-! ### Witnesses: the host's writes -/

/-- A recovery past its step 2, and a module that wants link encryption it does not have. -/
def shutState : State := { linked.setF RST_STAT_STEP 3 with recov := some ⟨false, 4, [], []⟩ }
def bareLink : State := { linked with seval := { linked.seval with reqIde := true } }

theorem test_hyp_ShutModuleDiscardsHostWrites :
    up.linkServes = false ∧ (bareLink.linkServes = true ∧ bareLink.ideOk = false)
    ∧ (shutState.linkServes = true ∧ shutState.ideOk = true ∧ shutState.shut = true) := by
  decide +kernel

/-- VF 15 enabled, with the last sync object alone. -/
def vfState : State :=
  { (linked.setFs [(CTX_SYNC_BASE 15, 8191), (CTX_SYNC_COUNT 15, 1)]) with host := { linked.host with vfEn := true, numVfs := 16 } }

/-- Additions that just fit and that just do not; the last object of a VF and the one before it. -/
theorem test_hyp_HostWritesOfSyncAndTables :
    up.sync 8191 + (2 ^ 64 - 1) < 2 ^ 64 ∧ 2 ^ 64 ≤ (up.setF (SYNC_VALUE 5) 1).sync 5 + (2 ^ 64 - 1)
    ∧ vfState.pf0Open 0x100000 = true ∧ vfState.vfOn 15 = true ∧ vfState.vfSees 15 8191 = true ∧ vfState.vfSees 15 8190 = false
    ∧ linked.pf0Open 0x20060 = true := by decide +kernel

theorem test_hyp_QueueControlWrites :
    (linked.pf0Open 0x10000 = true ∧ linked.flag (QUE_CFG_EN 63) = false ∧ bitOf (0xD0000000#32).toNat 31 = true
      ∧ within 1 5 (0xD0000000 / 2 ^ 28 % 8) = true ∧ within 1 5 (0x80000000 / 2 ^ 28 % 8) = false
      ∧ within 1 5 (0xE0000000 / 2 ^ 28 % 8) = false)
    ∧ (∀ st ∈ [qParked, qHalted, qRunning], let s := (ringed 0 0).setF (QUE_STAT_STATE 0) st
      s.pf0Open 0x10000 = true ∧ s.flag (QUE_CFG_EN 0) = true ∧ s.getF (QUE_STAT_STATE 0) = st ∧ bitOf (0#32).toNat 31 = false)
    ∧ qRunning ≠ qParked ∧ qRunning ≠ qHalted
    ∧ (linked.pf0Open 0x10028 = true ∧ (linked.flag (QUE_CTL_HALT 0) && linked.flag (QUE_CFG_EN 0)) = false)
    ∧ (let s := (ringed 0 0).setF (QUE_CTL_HALT 0) 1
      s.pf0Open 0x10028 = true ∧ s.flag (QUE_CTL_HALT 0) = true ∧ s.flag (QUE_CFG_EN 0) = true) := by decide +kernel

theorem test_hyp_TraceControlAndEnds :
    (linked.pf0Open 0x604004 = true ∧ bitOf (linked.getF OBS_TRTRIG_ARM) 4 = false)
    ∧ (let s := linked.setF OBS_TRTRIG_ARM 16
      s.pf0Open 0x604004 = true ∧ bitOf (s.getF OBS_TRTRIG_ARM) 4 = true ∧ s.getF OBS_TRSTAT_TRIGD = 0
        ∧ s.getF OBS_TRSTAT_FROZEN = 0)
    ∧ (({ up with trace := ⟨0, some 0⟩ } : State).trace.post = some 0 ∧ up.getF OBS_TRSTAT_FROZEN = 0 ∧ up.stopped = false)
    ∧ (let s := up.setFs [(MEM_SAGGAR_TRACE, 1), (OBS_TRCFG_MODE, 1), (OBS_TRSTAT_WOFF, 2 ^ 28)]
      s.traceAtEnd = true ∧ s.stopped = false)
    ∧ (up.setF OBS_TRSTAT_FULL 1).flag OBS_TRSTAT_FULL = true
    ∧ (let s := up.setFs [(MEM_SAGGAR_TRACE, 1), (OBS_TRCFG_MODE, 0), (OBS_TRSTAT_WOFF, 2 ^ 28 - 32)]
      s.traceOpen = true ∧ traceForced 15 = true ∧ s.getF OBS_TRCFG_MODE ≠ 1
        ∧ s.traceBytes ≤ s.getF OBS_TRSTAT_WOFF + 32) := by decide +kernel

/-- `DMP_CFG`: a field that takes its bits and a reserved profile; RW and RO fields. It follows no rule of its own;
the others of the sixteen that do are met by a register of each of the clauses below. -/
theorem test_hyp_RegisterWrite_fields :
    (regAtWrite 0x300000 4).map (fun p => (p.1.reg, p.2)) = some (Reg.DMP_CFG, 0, 0) ∧ linked.pf0Open 0x300000 = true
    ∧ Reg.DMP_CFG ∉ [Reg.QUE_CFG, .QUE_CTL, .CTX_SYNC, .CTX_PTB, .CTX_NWIN, .PWR_CTL, .RST_CTL, .FLU_PCTL, .HTH_CONECTL,
      .OBS_TRCTL, .OBS_SEL, .OBS_QSNAP, .OBS_TRCFG, .STK_MBCTL, .RST_FAULT0, .SVC_ALERT]
    ∧ up.accepts .DMP_CFG 0 0 30 3 = false ∧ up.accepts .DMP_CFG 0 0 0 1800 = true
    ∧ (regOf .DMP_CFG).fields.any (fun f => f.access == .rw && f.lo == 0) = true
    ∧ (regOf .CXL_SF).fields.all (fun f => f.access == .ro) = true
    ∧ up.flag SEC_BOOT_LOCK = false ∧ (up.setF SEC_BOOT_LOCK 1).flag SEC_BOOT_LOCK = true := by decide +kernel

/-- The three ways to a register: PF0, I3C at each of its three registers, a VF at the last word of its fault record; and no
register at an offset, no enabled VF. -/
theorem test_hyp_RegisterWrite_reach :
    (∀ off ∈ [0x300800, 0x300804, 0x1904], (regAtWrite off 4).isSome = true) ∧ up.i3cUp = true
    ∧ (vfState.pf0Open (vfState.vfPower 15 0x1118) = true ∧ vfState.vfOn 15 = true
      ∧ vfState.vfOffset 15 0x1118 = some (0x4000000 + 0x100 * 15 + 0x18)
      ∧ (regAtWrite (0x4000000 + 0x100 * 15 + 0x18) 8).isSome = true)
    ∧ (linked.pf0Open 0x8 = true ∧ regAtWrite 0x800FF8 8 = none ∧ regAtWrite 0x300002 4 = none
      ∧ linked.pf0Open (linked.vfPower 15 0x1118) = true ∧ linked.vfOn 15 = false) := by decide +kernel

/-- The registers with rules of their own, the mailbox busy and idle, the MSI-X table and the request buffer. -/
theorem test_hyp_RegisterWrite_rules :
    linked.pf0Open 0x20000 = true ∧ linked.flag STK_MBSTAT_BUSY = false
    ∧ (let s := linked.setF STK_MBSTAT_BUSY 1; s.pf0Open 0x20000 = true ∧ s.flag STK_MBSTAT_BUSY = true)
    ∧ linked.pf0Open 0x1800 = true ∧ (16 * 70 - 4) % 4 = 0 ∧ linked.pf0Open 0x801000 = true ∧ 65528 + 8 ≤ 65536
    ∧ linked.linkServes = true := by decide +kernel

/-! ### Witnesses: service requests and the mailbox -/

def hdr0 : SvcHdr := ⟨0, false, 0, []⟩

/-- A request repeated, new, unserved; an unenrolled and an enrolled module. -/
def answered : State := { up with stoker := { up.stoker with replies := [(0, 0, [])] } }
def enrolled : State := { up with fuses := { up.fuses with owner := some 1 } }
def authed (s : State) (b : Bool) : State := { s with seval := { s.seval with svcAuth := b } }

theorem test_hyp_ServiceRequestGate :
    answered.svcOpen hdr0 = false ∧ State.reset.svcOpen hdr0 = false
    ∧ up.svcOpen hdr0 = true ∧ hdr0.signed = false ∧ (authed up true).svcOpen hdr0 = true ∧ (authed up true).seval.svcAuth = true
    ∧ enrolled.svcOpen hdr0 = true ∧ enrolled.fuses.owner.isSome = true ∧ up.fuses.owner = none := by decide +kernel

/-- An update begun, of one byte. -/
def updating : State := { authed up false with stoker := { up.stoker with updLen := some 1 } }

theorem test_hyp_UpdateAndConfirm :
    (up.svcOpen hdr0 = true ∧ hdr0.signed = false ∧ up.bootHdr.pend = false ∧ 0 < 24 * 2 ^ 20)
    ∧ (updating.svcOpen hdr0 = true ∧ updating.stoker.updLen = some 1 ∧ [0xA5#8].length ≤ 8192 ∧ 0 + [0xA5#8].length ≤ 1
      ∧ updating.seval.svcAuth = false)
    ∧ up.stoker.updLen = none
    ∧ (let s := (authed up false).setF SEC_BOOT_TRIAL 1
      s.svcOpen hdr0 = true ∧ s.seval.svcAuth = false ∧ s.flag SEC_BOOT_TRIAL = true ∧ s.power.life = .up)
    ∧ (authed up false).flag SEC_BOOT_TRIAL = false := by decide +kernel

theorem test_hyp_ConfigPiecesGather :
    ((authed up false).svcOpen hdr0 = true ∧ (authed up false).seval.svcAuth = false ∧ 4 * 2 ^ 20 < 4 * 2 ^ 20 + 1)
    ∧ (let s : State := { authed up false with stoker := { up.stoker with cfgLen := 4 * 2 ^ 20 } }
      s.svcOpen hdr0 = true ∧ s.seval.svcAuth = false ∧ s.stoker.cfgLen = 4 * 2 ^ 20)
    ∧ spansCover (4 * 2 ^ 20) [(4 * 2 ^ 20 - 1, 1)] = false := by
  refine ⟨by decide +kernel, by decide +kernel, ?_⟩
  simp [spansCover]

/-- An enrolled module with a certificate and one leaf left. -/
def certified : State := up.setFs [(SEC_IDENT_CERT_OK, 1), (SEC_IDENT_LEAVES, 1)]

theorem test_hyp_IdentityAndOwnerServices :
    (up.svcOpen hdr0 = true ∧ up.fuses.owner = none ∧ (List.replicate 68 0#8).length = 68
      ∧ up.flag SEC_IDENT_CERT_OK = false)
    ∧ (enrolled.svcOpen hdr0 = true ∧ enrolled.fuses.owner.isSome = true)
    ∧ (certified.svcOpen hdr0 = true ∧ certified.flag SEC_IDENT_CERT_OK = true ∧ certified.signedLately = false
      ∧ certified.getF SEC_IDENT_LEAVES ≠ 0 ∧ certified.getF SEC_IDENT_LEAVES < 512 ∧ (List.replicate 32 0#8).length = 32)
    ∧ (let s : State := { certified with stoker := { certified.stoker with lastSign := some 0 } }
      s.svcOpen hdr0 = true ∧ s.flag SEC_IDENT_CERT_OK = true ∧ s.signedLately = true)
    ∧ (let s := enrolled.setF (HTH_STATE_STATE 287) hRetired
      s.svcOpen hdr0 = true ∧ s.hState 287 = hRetired ∧ s.stoker.fuseRetired.contains 287 = false)
    ∧ (let s : State := { enrolled with stoker := { enrolled.stoker with fuseRetired := [0] } }
      s.svcOpen hdr0 = true ∧ s.fuses.owner.isSome = true ∧ s.stoker.fuseRetired.contains 0 = true) := by decide +kernel

/-- One record in the first slot of the log, and a byte written in each of 252 blocks. -/
def fullLog : State :=
  { up with nvm := Mem.cells 0xFF (eventAddr 0) (eventBytes 1 0 7 0 []) ++ (List.range 251).map fun b => (evBase + 65536 * (b + 1), 0) }

theorem test_hyp_EventLogReclaim :
    fullLog.running = true ∧ (∃ b seq, fullLog.logBlocks.head? = some (b, seq)) ∧ fullLog.erasedBlocks ≤ 4 := by
  refine ⟨by decide +kernel, ?_, by decide +kernel⟩
  have h1 : 0 ∈ (((fullLog.nvm.filter fun p => decide (evBase ≤ p.1) && decide (p.1 < evBase + 64 * evSlots)).map
    fun p => (p.1 - evBase) / 64)) := by decide +kernel
  have h2 : (fullLog.evAt 0).isSome = true := by decide +kernel
  obtain ⟨r, hr⟩ := Option.isSome_iff_exists.mp h2
  have h3 : r ∈ fullLog.evList := by
    unfold State.evList
    exact List.mem_filterMap.mpr ⟨0, List.mem_dedup.mpr h1, hr⟩
  have h4 : fullLog.logBlocks ≠ [] := by
    unfold State.logBlocks
    intro h
    have h5 := congrArg List.length h
    simp only [List.length_mergeSort, List.length_map, List.length_nil, List.length_eq_zero_iff] at h5
    have h6 : r.pos / 1024 ∈ (fullLog.evList.map fun r => r.pos / 1024).dedup :=
      List.mem_dedup.mpr (List.mem_map.mpr ⟨r, h3, rfl⟩)
    simp [h5] at h6
  cases h : fullLog.logBlocks with
  | nil => exact absurd h h4
  | cons x l => exact ⟨x.1, x.2, rfl⟩

theorem test_hyp_MailboxAnswers :
    linked.mailOpen = true
    ∧ (let s : State := { linked with host := { linked.host with msixOn := [0], msix := [(67 * 4 + 3, 0)] } }
      s.mailOpen = true ∧ s.host.msixOn.contains 0 = true ∧ s.msixWord 0 67 3 % 2 = 0)
    ∧ (let s : State := { linked.setFs [(SEC_IDENT_CERT_OK, 1), (SEC_IDENT_LEAVES, 1)] with seval := { linked.seval with hostAttest := true } }
      s.mailOpen = true ∧ s.seval.hostAttest = true ∧ s.flag SEC_IDENT_CERT_OK = true ∧ s.signedLately = false
        ∧ s.getF SEC_IDENT_LEAVES ≠ 0)
    ∧ ({ linked with seval := { linked.seval with hostAttest := false } } : State).mailOpen = true := by decide +kernel

/-! ### Witnesses: the host's memory accesses and the link -/

/-- The last line of the window is uncorrectable. -/
def badLast : State := served.setBad (2 ^ 28 / 64 - 1) true

theorem test_hyp_UncorrectableHostReadPoisoned :
    badLast.memOpen = true ∧ badLast.inWindow (2 ^ 28 - 1) = true
    ∧ badLast.badLines.get false ((2 ^ 28 - 1 - badLast.host.hdmBase) / 64 * 64 / 64) = true
    ∧ (2 ^ 28 - 1 - badLast.host.hdmBase) / 64 * 64 < 2 ^ 40 := by decide +kernel

/-- The line below the Saggar regions is uncorrectable. -/
def badWrite : State := served.setBad (2 ^ 24 / 64 - 1) true

theorem test_hyp_HostMemoryAccesses :
    (served.memOpen = true ∧ served.inWindow 0 = true ∧ served.inWindow (2 ^ 28 - 1) = true ∧ served.inWindow (2 ^ 28) = false
      ∧ served.badLines.get false 0 = false)
    ∧ (let s : State := { served with seval := { served.seval with reqIde := true } }
      s.hdmServes = true ∧ s.ideOk = false)
    ∧ (let s : State := { served.setF RST_STAT_STEP 3 with recov := some ⟨false, 4, [], []⟩ }
      s.hdmServes = true ∧ s.shut = true)
    ∧ (63 % 64 + [1#8].length ≤ 64 ∧ 2 ^ 24 - 1 - served.host.hdmBase < served.saggar
      ∧ served.saggar ≤ 2 ^ 24 - served.host.hdmBase ∧ served.inWindow (2 ^ 24) = true)
    ∧ (badWrite.memOpen = true ∧ badWrite.inWindow (2 ^ 24 - 1) = true
      ∧ badWrite.badLines.get false ((2 ^ 24 - 1 - badWrite.host.hdmBase) / 64) = true ∧ [1#8].length < 64) := by decide +kernel

theorem test_hyp_HostLinkCommands :
    ((List.replicate 64 7#8).length = 64 ∧ linked.host.watch.contains 0 = false
      ∧ (let s : State := { linked with host := { linked.host with watch := [5] } }
        s.running = true ∧ s.linkServes = true ∧ s.ideOk = true ∧ s.host.watch.contains (5 * 64 / 64) = true))
    ∧ (linked.linkServes = true ∧ linked.ideOk = true ∧ linked.shut = false ∧ 2 ^ 40 % 2 ^ 28 = 0 ∧ (0 : Nat) < 2 ^ 40
      ∧ (2 ^ 40 + 2 ^ 28) % 2 ^ 28 = 0 ∧ 2 ^ 40 < 2 ^ 40 + 2 ^ 28) := by decide +kernel

theorem test_hyp_FunctionResetDisablesQueues :
    (vfState.linkServes = true ∧ vfState.vfOn 15 = true ∧ vfState.recov = none ∧ vfState.vfOn 16 = false)
    ∧ let s : State := { vfState with recov := some ⟨false, 4, [], []⟩ }
      s.linkServes = true ∧ s.vfOn 15 = true ∧ s.recov = some ⟨false, 4, [], []⟩ := by decide +kernel

/-! ### Witnesses: the Flue -/

/-- Port `p` ACTIVE with the given run state; the endpoint accepts. -/
def ported (p : Nat) (r : PortRt) : State :=
  let s := (up.setF (FLU_PORT_STATE p) portActive).setPort p r
  { s with flue := { s.flue with accepting := true } }

/-- A packet for this module from rank 1. -/
def pkt (ty : Nat) (args : List Nat) (data : List Byte) : Packet :=
  ⟨ty, (typeVc ty).getD 0, 0, flitsFor ty (data.length / 64), 0, 0, 0, 1, 0, 0, 9, args, data⟩

/-- The packet has arrived at port `p`. -/
def arrived (p : Nat) (pk : Packet) : State := ported p { PortRt.init with inbuf := [pk] }

/-- What a row takes, read off a test of the packet. -/
theorem some_of {o : Option (Packet × State)} {pk : Packet} (h : o.map (·.1) = some pk) : ∃ u, o = some (pk, u) := by
  cases o with
  | none => cases h
  | some x => exact ⟨x.2, by simp_all [Prod.ext_iff]⟩

/-- Codewords that decode, and a frame at sequence 255 with one packet and its CRC. -/
def clean : Codewords := ⟨0, false, false⟩
def goodFrame : FrameIn := ⟨⟨2, false, false⟩, [], crc24 [] 255 0, 255, 0, [pkt tyWrite [] []]⟩

/-- A SKIP frame with its CRC: sent at 0, our last one received at `rx`. -/
def skipAt (rx : Nat) : SkipIn := ⟨clean, [], crc24 [] 255 255, 0, rx⟩

/-- The next frame at sequence 255, a NAK outstanding or not, an acknowledgement, a malformed packet, and SKIP frames that
show the timebase 1 µs and 1 ns more behind the parent's. -/
theorem test_hyp_FramesAndTimebase :
    (let s := ported 5 { PortRt.init with rxSeq := 255 };
      s.linkUp 5 = true ∧ wordsGood goodFrame.words = true ∧ frameCrcOk goodFrame = true
        ∧ goodFrame.seq.val = (s.port 5).rxSeq ∧ goodFrame.packets.filter badPacket = [])
    ∧ ((ported 5 PortRt.init).linkUp 5 = true ∧ goodFrame.seq.val ≠ ((ported 5 PortRt.init).port 5).rxSeq
      ∧ ((ported 5 PortRt.init).port 5).nakSent = false ∧ ((ported 5 PortRt.init).port 5).unacked.length < 128
      ∧ ((ported 5 PortRt.init).port 5).framesSent < 4095)
    ∧ wordsGood ⟨0, true, false⟩ = false ∧ frameCrcOk { goodFrame with crc := crc24 [] 255 1 } = false
    ∧ ((ported 5 { PortRt.init with nakSent := true }).port 5).nakSent = true
    ∧ 4095 ≤ ((ported 5 { PortRt.init with framesSent := 4095 }).port 5).framesSent
    ∧ (let s := (ported 5 { PortRt.init with skipTx := some 0 }).setF FLU_TSTAT_PARENT 5
      s.linkUp 5 = true ∧ s.getF FLU_TSTAT_PARENT = 5 ∧ (s.port 5).skipTx = some 0 ∧ skipCrcOk (skipAt 2000) = true
        ∧ ((((s.now : Int) - 0) - (2000 - 0)) / 2).natAbs = 1000 ∧ ((((s.now : Int) - 0) - (2002 - 0)) / 2).natAbs = 1001)
    ∧ skipCrcOk { skipAt 0 with crc := 0 } = false
    ∧ (ported 4 PortRt.init).getF FLU_TSTAT_PARENT ≠ 4 ∧ ((ported 4 PortRt.init).port 4).skipTx = none := by decide +kernel

theorem test_hyp_LinkLocalPacketsAct :
    (let s := ported 0 { PortRt.init with framesSent := 4094, unacked := [(255, 0, [])] };
      s.linkUp 0 = true ∧ (s.port 0).unacked ≠ [] ∧ (s.port 0).framesSent + (s.port 0).unacked.length ≤ 4095)
    ∧ (∃ u, (arrived 0 (pkt tyNak [255] [])).takeLocal 0 tyNak = some (pkt tyNak [255] [], u))
    ∧ (let s := (arrived 0 (pkt tyNak [255] [])).setF (FLU_PORT_STATE 0) portRetrain
      s.linkUp 0 = false ∧ ∃ u, s.takeLocal 0 tyNak = some (pkt tyNak [255] [], u))
    ∧ (∃ u, (arrived 5 (pkt tyCredit [65535] [])).takeLocal 5 tyCredit = some (pkt tyCredit [65535] [], u))
    ∧ (∃ u, (arrived 5 (pkt tyIdle [] [])).takeLocal 5 tyIdle = some (pkt tyIdle [] [], u))
    ∧ (let s := ported 5 { PortRt.init with freed := [1, 0, 0, 0, 0, 0, 0, 0] }
      s.linkUp 5 = true ∧ (s.port 5).freed ≠ (s.port 5).reported ∧ (s.port 5).unacked.length < 128) :=
  ⟨by decide +kernel, some_of (by decide +kernel), ⟨by decide +kernel, some_of (by decide +kernel)⟩,
    some_of (by decide +kernel), some_of (by decide +kernel), by decide +kernel⟩

/-- Port 0 of a ring of two in its first dimension, training. -/
def trained (n : Nat) : State :=
  let s := up.setF (FLU_PORT_STATE 0) n
  { s with flue := { s.flue with dims := (2, 1, 1) } }

theorem test_hyp_PortTraining :
    (∀ st ∈ [portActive, portRetrain, portTraining, portFailed], let s := linked.setF (FLU_PORT_STATE 5) st
      s.pf0Open 0x401004 = true ∧ s.portState 5 = st ∧ (s.port 5).miswired = false ∧ s.stopped = false)
    ∧ (let s := (linked.setF (FLU_PORT_STATE 5) portFailed).setPort 5 { PortRt.init with miswired := true }
      s.pf0Open 0x401004 = true ∧ s.portState 5 = portFailed ∧ (s.port 5).miswired = true ∧ s.retrainState 5 = none)
    ∧ ((ported 5 { PortRt.init with unacked := [(0, 8, [])] }).linkUp 5 = true
      ∧ (ported 5 { PortRt.init with unacked := [(0, 8, [])] }).retrainDue 5 1 = true
      ∧ (ported 5 { PortRt.init with lockBad := 8 }).retrainDue 5 2 = true
      ∧ (ported 5 { PortRt.init with uncTimes := List.replicate 17 0 }).retrainDue 5 3 = true
      ∧ (ported 5 { PortRt.init with uncTimes := List.replicate 16 0 }).retrainDue 5 3 = false)
    ∧ ((trained portTraining).training 0 = true ∧ (trained portTraining).stopped = false
      ∧ (trained portTraining).wiredRight 0 ⟨0, 1, 0, 0, 1, true⟩ = true
      ∧ (chooseLanes ((trained portTraining).port 0).cap 0).isSome = true
      ∧ chooseLanes ((trained portTraining).port 0).cap (2 ^ 20 - 1) = none
      ∧ (trained portTraining).wiredRight 0 ⟨0, 1, 0, 0, 0, true⟩ = false)
    ∧ (trained portRetrain).training 0 = true := by decide +kernel

theorem test_hyp_RoutingSwapFollowsRoute :
    up.routes = true ∧ up.flue.root < 4096 ∧ State.reset.routes = false ∧ (up.setF PWR_STAT_STATE 2).routes = false := by
  decide +kernel

/-- Context 0's window: 2 MiB at PA 2 MiB. -/
def windowed (s : State) : State := s.setFs [(CTX_NWIN_EN 0, 1), (CTX_NWIN_BASE 0, 1), (CTX_NWIN_LEN 0, 1)]

def line : List Byte := List.replicate 64 7

/-- A packet has arrived, with a test of what is left. -/
theorem some_with {o : Option (Packet × State)} {pk : Packet} {f : State → Bool}
    (h : (o.any fun x => decide (x.1 = pk) && f x.2) = true) : ∃ u, o = some (pk, u) ∧ f u = true := by
  cases o with
  | none => cases h
  | some x => exact ⟨x.2, by simp_all [Prod.ext_iff]⟩

/-- A row whose packet waits, while the endpoint recovers and while none is there; a WRITE that just fits the window and one
that does not; a READ_REQ that fits, one that does not, and one of an uncorrectable line. -/
theorem test_hyp_NeighbourAccess :
    (let s : State := { arrived 1 (pkt tyUnreach [0, 1] []) with flue := up.flue };
      s.flue.accepting = false ∧ (∃ u, s.arrival 1 tyUnreach anyKind = some (pkt tyUnreach [0, 1] [], u))
        ∧ (s.arrival 1 tyWrite anyKind).isNone = true)
    ∧ (let pk := pkt tyWrite [2 ^ 21 - 64] line
      let s := windowed (arrived 5 pk)
      s.flue.accepting = true ∧ ∃ u, s.arrival 5 tyWrite anyKind = some (pk, u) ∧ u.windowOk pk pk.data.length = true)
    ∧ (let pk := pkt tyWrite [2 ^ 21 - 63] line
      let s := windowed (arrived 5 pk)
      s.flue.accepting = true ∧ ∃ u, s.arrival 5 tyWrite anyKind = some (pk, u) ∧ (!u.windowOk pk pk.data.length) = true)
    ∧ (let pk := pkt tyReadReq [2 ^ 21 - 64, 1] []
      let s := windowed (arrived 5 pk)
      s.flue.accepting = true ∧ ∃ u, s.arrival 5 tyReadReq anyKind = some (pk, u)
        ∧ (u.windowOk pk 64 && (u.badIn (u.windowPa pk) 64).isNone) = true)
    ∧ (let pk := pkt tyReadReq [2 ^ 21 - 64, 2] []
      let s := windowed (arrived 5 pk)
      ∃ u, s.arrival 5 tyReadReq anyKind = some (pk, u) ∧ (!u.windowOk pk 128) = true)
    ∧ (let pk := pkt tyReadReq [2 ^ 21 - 64, 1] []
      let s := (windowed (arrived 5 pk)).setBad (2 ^ 22 / 64 - 1) true
      s.flue.accepting = true ∧ ∃ u, s.arrival 5 tyReadReq anyKind = some (pk, u)
        ∧ (u.windowOk pk 64 && (u.badIn (u.windowPa pk) 64 == some (2 ^ 22 - 64))) = true) :=
  ⟨⟨by decide +kernel, some_of (by decide +kernel), by decide +kernel⟩,
    ⟨by decide +kernel, some_with (f := fun u => u.windowOk (pkt tyWrite [2 ^ 21 - 64] line) 64) (by decide +kernel)⟩,
    ⟨by decide +kernel, some_with (f := fun u => !u.windowOk (pkt tyWrite [2 ^ 21 - 63] line) 64) (by decide +kernel)⟩,
    ⟨by decide +kernel, some_with (f := fun u => u.windowOk (pkt tyReadReq [2 ^ 21 - 64, 1] []) 64
      && (u.badIn (u.windowPa (pkt tyReadReq [2 ^ 21 - 64, 1] [])) 64).isNone) (by decide +kernel)⟩,
    some_with (f := fun u => !u.windowOk (pkt tyReadReq [2 ^ 21 - 64, 2] []) 128) (by decide +kernel),
    ⟨by decide +kernel, some_with (f := fun u => u.windowOk (pkt tyReadReq [2 ^ 21 - 64, 1] []) 64
      && (u.badIn (u.windowPa (pkt tyReadReq [2 ^ 21 - 64, 1] [])) 64 == some (2 ^ 22 - 64))) (by decide +kernel)⟩⟩

/-- A command that waits for the packet with tag 9, and the packet. -/
def owning : Flight := { idleFlight with remotes := [⟨9, 0, 0x8000, 1⟩] }
def owned (pk : Packet) : State := { arrived 5 pk with flights := [owning] }

/-- The packet arrives, and the command that waits for it, or none, is found. -/
def ownedBy (n : Nat) (pk : Packet) (u : State) : Bool := u.owner? pk.ptag == if n = 9 then some (owning, ⟨9, 0, 0x8000, 1⟩) else none

/-- Each answer, with its command and without one. -/
theorem test_hyp_AnswersEndTransfers :
    (∀ x ∈ [(tyWriteAck, [0]), (tyWriteAck, [1]), (tyReadRsp, [0]), (tyReadRsp, [1]), (tyReadRsp, [2]), (tyUnreach, [0, tyReadReq])],
      (owned (pkt x.1 x.2 [])).flue.accepting = true
      ∧ (∃ u, (owned (pkt x.1 x.2 [])).arrival 5 x.1 anyKind = some (pkt x.1 x.2 [], u) ∧ ownedBy 9 (pkt x.1 x.2 []) u = true))
    ∧ (∀ x ∈ [(tyWriteAck, [0]), (tyReadRsp, [0]), (tyUnreach, [0, tyLinkstate])],
      ∃ u, (arrived 5 (pkt x.1 x.2 [])).arrival 5 x.1 anyKind = some (pkt x.1 x.2 [], u) ∧ ownedBy 0 (pkt x.1 x.2 []) u = true)
    ∧ ownTag tyReadReq = true ∧ ownTag tyLinkstate = false ∧ owning.running = [] := by
  refine ⟨?_, ?_, by decide, by decide, rfl⟩
  · intro x hx
    fin_cases hx <;> exact ⟨by decide +kernel, some_with (by decide +kernel)⟩
  · intro x hx
    fin_cases hx <;> exact some_with (by decide +kernel)

/-- Context 0 takes remote signals for object 0 alone, whose value is 1. -/
def signalled (pk : Packet) : State :=
  (arrived 5 pk).setFs [(CTX_CFG_EN 0, 1), (CTX_SYNC_REMOTE_OK 0, 1), (CTX_SYNC_COUNT 0, 1), (SYNC_VALUE 0, 1)]

/-- The conditions of R264 for the object and job of a packet. -/
def allows (pk : Packet) (u : State) : Bool :=
  u.getF (CTX_CFG_EN 0) != 0 && u.getF (CTX_SYNC_REMOTE_OK 0) != 0 && pk.job == u.getF (CTX_CFG_JOB 0)
    && decide (u.getF (CTX_SYNC_BASE 0) ≤ pk.args.getD 0 0)
    && decide (pk.args.getD 0 0 < u.getF (CTX_SYNC_BASE 0) + u.getF (CTX_SYNC_COUNT 0))

/-- The last value that the object takes and one more, an object out of range, and each answer with its command and without. -/
theorem test_hyp_RemoteSignalApplied :
    (let pk := pkt tySignal [0, 2 ^ 64 - 2] [];
      (signalled pk).flue.accepting = true ∧ ∃ u, (signalled pk).arrival 5 tySignal anyKind = some (pk, u)
        ∧ (allows pk u && decide (u.sync 0 + (2 ^ 64 - 2) < 2 ^ 64)) = true)
    ∧ (let pk := pkt tySignal [0, 2 ^ 64 - 1] []
      ∃ u, (signalled pk).arrival 5 tySignal anyKind = some (pk, u)
        ∧ (allows pk u && decide (2 ^ 64 ≤ u.sync 0 + (2 ^ 64 - 1))) = true)
    ∧ (let pk := pkt tySignal [1, 1] []
      ∃ u, (signalled pk).arrival 5 tySignal anyKind = some (pk, u) ∧ (!allows pk u) = true)
    ∧ (∀ k ∈ [sigAccepted, sigRefused, sigCarried],
      ∃ u, (owned (pkt tySignalAck [k] [])).arrival 5 tySignalAck anyKind = some (pkt tySignalAck [k] [], u)
        ∧ ownedBy 9 (pkt tySignalAck [k] []) u = true)
    ∧ ∃ u, (arrived 5 (pkt tySignalAck [0] [])).arrival 5 tySignalAck anyKind = some (pkt tySignalAck [0] [], u)
        ∧ ownedBy 0 (pkt tySignalAck [0] []) u = true := by
  refine ⟨⟨by decide +kernel, some_with (f := fun u => allows (pkt tySignal [0, 2 ^ 64 - 2] []) u
      && decide (u.sync 0 + (2 ^ 64 - 2) < 2 ^ 64)) (by decide +kernel)⟩,
    some_with (f := fun u => allows (pkt tySignal [0, 2 ^ 64 - 1] []) u
      && decide (2 ^ 64 ≤ u.sync 0 + (2 ^ 64 - 1))) (by decide +kernel),
    some_with (f := fun u => !allows (pkt tySignal [1, 1] []) u) (by decide +kernel), ?_, some_with (by decide +kernel)⟩
  intro k hk
  fin_cases hk <;> exact some_with (by decide +kernel)

/-- A REDUCE of two ranks in flight with its pending-table entry for key 3. -/
def redOne : RedOp := ⟨.bucket, 0x1000, 64, 0, [0, 1], 77, 0, 0, 3, 0, []⟩
def redFlight : Flight := Flight.fresh 0 0 0 (List.replicate 64 0) (.reduce redOne) 1 []
def redEntry : CollEntry := ⟨0, 0, 0, 0, 3, [], [], [], [], [], [], [], [], none, [], 9, [], none⟩
def collecting (pk : Packet) : State := { arrived 5 pk with flights := [redFlight], coll := [redEntry] }

/-- The key, read off tests of its entry, its flight and the command. -/
theorem test_hyp_CollectiveMessagesAct :
    (let pk := pkt tyCollData [4] line;
      ((collecting pk).arrival 5 tyCollData anyKind).map (fun x => (x.1, x.2.flue.accepting, x.2.keyOf pk 4)) = some (pk, true, none))
    ∧ (∀ x ∈ [(78, 0, false), (77, 0, true), (77, 1, true)], let pk := pkt tyCollData [3, 0, 0, x.2.1, 0, x.1, 64, 0, 0] line
      ((collecting pk).arrival 5 tyCollData anyKind).map (fun x => (x.1, x.2.keyOf pk 3))
          = some (pk, some (redEntry, redFlight, redOne))
        ∧ decide (pk.args.getD 5 0 = redOne.gchk ∧ pk.args.getD 6 0 = redOne.size ∧ pk.args.getD 7 0 = redOne.mode
          ∧ pk.args.getD 8 0 = redOne.owner) = x.2.2)
    ∧ redOne.kind ≠ .digestCheck
    ∧ (∀ k ∈ [(ctlReady, 0), (ctlAbort, 0), (ctlAck, 0), (ctlAck, 1)], let pk := pkt tyCollCtl [k.1, 3, 0, 0, k.2, 0] []
      ((collecting pk).arrival 5 tyCollCtl (ctlKind k.1)).map (fun x => (x.1, x.2.keyOf pk 3))
          = some (pk, some (redEntry, redFlight, redOne)))
    ∧ (∀ k ∈ [ctlReady, ctlAbort, ctlAck], let pk := pkt tyCollCtl [k, 4, 0, 0] []
      ((collecting pk).arrival 5 tyCollCtl (ctlKind k)).map (fun x => (x.1, x.2.keyOf pk 4)) = some (pk, none)) := by
  refine ⟨by decide +kernel, ?_, by decide, ?_, ?_⟩ <;> intro k hk <;> fin_cases hk
  all_goals first | exact ⟨by decide +kernel, rfl⟩ | decide +kernel

theorem test_hyp_FloodsAndTransit :
    (∀ up ∈ [0, 1], let pk := pkt tyLinkstate [4095, 5, 1, up] [];
      (arrived 5 pk).flue.seen.contains (4095, 5, 1) = false ∧ ∃ u, (arrived 5 pk).arrival 5 tyLinkstate anyKind = some (pk, u))
    ∧ (let pk := pkt tyLinkstate [4095, 5, 1, 0] []
      let s : State := { arrived 5 pk with flue := { (arrived 5 pk).flue with seen := [(4095, 5, 1)] } };
      s.flue.seen.contains (4095, 5, 1) = true ∧ ∃ u, s.arrival 5 tyLinkstate anyKind = some (pk, u))
    ∧ (∀ st ∈ [1, 2], let pk := pkt tyEndpoint [1, 1, st] []
      (arrived 5 pk).flue.epSeen.contains (1, 1) = false ∧ (arrived 5 pk).coll = []
        ∧ ∃ u, (arrived 5 pk).arrival 5 tyEndpoint anyKind = some (pk, u))
    ∧ (let pk := pkt tyEndpoint [1, 1, 1] []
      let s : State := { arrived 5 pk with flue := { (arrived 5 pk).flue with epSeen := [(1, 1)] } };
      s.flue.epSeen.contains (1, 1) = true ∧ ∃ u, s.arrival 5 tyEndpoint anyKind = some (pk, u))
    ∧ ((up.arrival 5 tyLinkstate anyKind).isNone = true ∧ (up.arrival 5 tyEndpoint anyKind).isNone = true)
    ∧ PortRt.init.outq.length = 8
    ∧ up.passes 5 = none
    ∧ (let pk := { pkt tyWrite [0] [] with dest := 1, hops := 48 }
      48 ≤ pk.hops ∧ ∃ u, (arrived 5 pk).passes 5 = some (pk, u))
    ∧ (let pk := { pkt tyWrite [0] [] with dest := 1, hops := 47 }
      let s := (arrived 5 pk).setF (FLU_RTE_PORT 1) 5;
      pk.hops < 48 ∧ pk.vc < 8 ∧ ∃ u, s.passes 5 = some (pk, u) ∧ decide (u.routeOut 1 < 6) = true)
    ∧ (let pk := { pkt tyWrite [0] [] with dest := 1 }
      let s := (arrived 5 pk).setF (FLU_RTE_PORT 1) 7;
      ∃ u, s.passes 5 = some (pk, u) ∧ decide (6 ≤ u.routeOut 1) = true) := by
  refine ⟨?_, ⟨by decide +kernel, some_of (by decide +kernel)⟩, ?_, ⟨by decide +kernel, some_of (by decide +kernel)⟩,
    by decide +kernel, by decide, by decide +kernel, ⟨by decide, some_of (by decide +kernel)⟩,
    ⟨by decide, by decide, some_with (f := fun u => decide (u.routeOut 1 < 6)) (by decide +kernel)⟩,
    some_with (f := fun u => decide (6 ≤ u.routeOut 1)) (by decide +kernel)⟩
  · intro k hk
    fin_cases hk <;> exact ⟨by decide +kernel, some_of (by decide +kernel)⟩
  · intro k hk
    fin_cases hk <;> exact ⟨by decide +kernel, by decide +kernel, some_of (by decide +kernel)⟩

/-- A packet that waits at requester 7, with credits and without. -/
def waits (sent : List Nat) : State :=
  ported 5 { PortRt.init with outq := List.replicate 7 [] ++ [[pkt tyLinkstate [] []]], sent := sent }

/-- The arbiter's choice at port 5. -/
def chosen (s : State) : Option Nat :=
  (arbitrate (s.port 5).requests s.seval.flHp s.seval.flQ (usedAt (s.port 5).used (s.port 5).win (0 / s.seval.flWin))
    (s.port 5).ptrH (s.port 5).ptrL).map (·.1)

theorem test_hyp_OutputArbitration :
    (arbitrate [] 0 [] [] 0 0 = none)
    ∧ (∃ v, arbitrate (List.replicate 8 true) 0x80 (List.replicate 8 1) (List.replicate 8 0) 7 0 = some v ∧ v.1 = 7)
    ∧ (let s := waits (List.replicate 8 0)
      s.linkUp 5 = true ∧ ((s.port 5).outq.getD 7 []).head? = some (pkt tyLinkstate [] []) ∧ chosen s = some 7)
    ∧ ((ported 5 PortRt.init).linkUp 5 = true ∧ chosen (ported 5 PortRt.init) = none
      ∧ ((ported 5 PortRt.init).port 5).unacked.length < 128
      ∧ chosen (ported 5 { PortRt.init with unacked := List.replicate 128 (0, 0, []) }) = none)
    ∧ (let s := waits [0, 0, 0, 577, 0, 0, 0, 0]
      s.linkUp 5 = true ∧ (s.port 5).hasCredits (pkt tyLinkstate [] []) = false
      ∧ ((s.port 5).outq.getD (7 : Fin 8) []).head? = some (pkt tyLinkstate [] [])
      ∧ (s.setF (FLU_PORT_STATE 5) portRetrain).linkUp 5 = false)
    ∧ (ported 5 PortRt.init).starved 5 7 = none := by
  refine ⟨by decide, ⟨_, rfl, by decide⟩, by decide +kernel, by decide +kernel, by decide +kernel, by decide +kernel⟩

/-! ### Witnesses: the stacks -/

/-- Stack port 15 with the given run state. -/
def stacked (r : StackRt) : State := up.setStackPort 15 r

def lastBeat : Beat := ⟨0, false, 1, [], none⟩
def lastWrite : Beat := ⟨0, true, 1, List.replicate 64 7, none⟩

/-- The choice of stack port 15's arbiter. -/
def stackChoice (reqs : List (Option Beat)) : Option Nat :=
  (arbitrate (reqs.map Option.isSome) (up.getF MEM_ARBCFG_HP) up.seval.spQ
    (usedAt (up.stackPort 15).used (up.stackPort 15).win (1015 / up.getF MEM_ARBCFG_WIN)) (up.stackPort 15).ptrH
    (up.stackPort 15).ptrL).map (·.1)

/-- The last cycle before a blackout, its first, and 64 beats outstanding; requester 7 alone asks to write. -/
theorem test_hyp_StackPortGrantTransfersBeat :
    let write : List (Option Beat) := List.replicate 7 none ++ [some lastWrite]
    up.running = true ∧ up.portReady 15 1015 = true ∧ up.portReady 15 1016 = false
    ∧ (stacked { StackRt.init with outstanding := List.replicate 64 (0, lastBeat) }).portReady 15 0 = false
    ∧ stackChoice (List.replicate 8 none) = none
    ∧ (stackChoice write = some 7 ∧ write.getD 7 none = some lastWrite ∧ (up.beatLines 15 lastWrite).length = 1
      ∧ 64 * 0 + 64 ≤ lastWrite.data.length)
    ∧ stackChoice [some lastBeat] = some 0 := by decide +kernel

theorem test_hyp_ReadBeatsAndRefresh :
    (let s := stacked { StackRt.init with outstanding := [(0, lastBeat)] ++ (7, lastBeat) :: [(7, lastBeat)] };
      s.running = true ∧ (s.stackPort 15).outstanding = [(0, lastBeat)] ++ ((7 : Fin 8).val, lastBeat) :: [(7, lastBeat)]
        ∧ (∀ y ∈ [(0, lastBeat)], y.1 ≠ (7 : Fin 8).val) ∧ (∀ y ∈ (s.stackPort 15).outstanding, y.1 ≠ (3 : Fin 8).val)
        ∧ ∀ pa ∈ s.beatLines 15 lastBeat, s.badLines.get false (pa / 64) = false)
    ∧ (startsBlackout (up.flag (MEM_STK_REF2X 15)) 1016 = true ∧ startsBlackout (up.flag (MEM_STK_REF2X 15)) 504 = false
      ∧ (let s := up.setF (MEM_STK_REF2X 15) 1; startsBlackout (s.flag (MEM_STK_REF2X 15)) 504 = true))
    ∧ ((up.setF (DMP_TDRM_TOP 15) 1361).stackTemp 15 > 1360 ∧ (up.setF (DMP_TDRM_TOP 15) 1360).stackTemp 15 = 1360
      ∧ (up.setF (DMP_TDRM_TOP 15) 1328).stackTemp 15 ≤ 1328 ∧ 1024 % 1024 = 0 ∧ 1023 % 1024 ≠ 0)
    ∧ (let s := up.setF PWR_STAT_STATE 1; s.running = false ∧ s.selfRefresh = true)
    ∧ (State.reset.running = false ∧ State.reset.selfRefresh = false) := by decide +kernel

theorem test_hyp_ScrubAndSpare :
    up.active = true ∧ State.reset.active = false ∧ (up.setF (MEM_SCRUB_PTR 15) (2 ^ 24 - 1)).getF (MEM_SCRUB_PTR 15) + 1 = 2 ^ 24
    ∧ (let s := (stacked { StackRt.init with due := [9] }).setF (MEM_STK_SPARE 15) 1
      s.running = true ∧ 9 ∈ (s.stackPort 15).due ∧ s.getF (MEM_STK_SPARE 15) ≠ 0 ∧ s.getF (MEM_STK_SPARE 15) < 2 ^ 14)
    ∧ (let s := (stacked { StackRt.init with due := [9] }).setF (MEM_STK_SPARE 15) 0
      s.running = true ∧ 9 ∈ (s.stackPort 15).due ∧ s.getF (MEM_STK_SPARE 15) = 0) := by decide +kernel

/-! ### Witnesses: the Damper -/

theorem test_hyp_SensorsReported :
    up.running = true ∧ (125 : Fin 128).val % 8 = 5 ∧ up.getF (DMP_TDRM_FAIL_BOT (125 / 8)) = 0 ∧ (127 : Fin 128).val % 8 = 7 := by
  decide +kernel

theorem test_hyp_DutiesFollowPower :
    up.running = true ∧ up.flag DMP_STAT_TRIP = false ∧ (up.setF DMP_STAT_TRIP 1).flag DMP_STAT_TRIP = true
    ∧ (up.setF DMP_STAT_TRIP 1).running = true ∧ shortLimit up.damper.profile < shortLimit up.damper.profile + 1
    ∧ up.getF (DMP_BAY_DUTY 15) < 32 ∧ up.damper.missing = false := by decide +kernel

/-- The regulator's cases meet at an allowance of 16 W: 17 W is over by one step, 16 W and 15 W are neither, 14 W is below. -/
theorem test_hyp_DutiesFollowPower_regulator :
    (16 : Rat) < (17 : Nat) ∧ (0 : Rat) < 16 ∧ (16 : Rat) * ((17 : Nat) - 16) ≤ (1 : Nat) * 16
    ∧ ((1 : Nat) : Rat) * 16 < 16 * ((17 : Nat) - 16) + 16 ∧ ((16 : Nat) : Rat) ≤ 16 ∧ (15 : Rat) * 16 ≤ 16 * (15 : Nat)
    ∧ (16 : Rat) * (14 : Nat) < 15 * 16 := by norm_num

/-- The regulator at the two ends of its range. -/
theorem test_regulator : nextDuty 16 16 17 16 2 = 15 ∧ nextDuty 15 16 0 16 2 = 16 ∧ nextDuty 16 16 15 16 2 = 16
    ∧ nextDuty 0 16 17 16 2 = 0 := by decide +kernel

theorem test_hyp_ThermalLimits :
    up.power.life ≠ .off ∧ up.flag DMP_STAT_WARN = false ∧ up.flag DMP_STAT_TRIP = false ∧ up.running = true
    ∧ (let s := up.setFs [(DMP_STAT_WARN, 1), (DMP_STAT_TRIP, 1)]
      s.power.life ≠ .off ∧ s.flag DMP_STAT_WARN = true ∧ s.flag DMP_STAT_TRIP = true ∧ s.recov = none ∧ s.running = true) := by
  decide +kernel

/-! ### Witnesses: Hearths and cone tests -/

/-- Hearth 287 in a state, under test. -/
def testing (st : Nat) (quar : List Nat) : State :=
  (up.setF (HTH_STATE_STATE 287) st).setHearth 287 { HearthRt.init with testing := true, quar := quar }

theorem test_hyp_ConeTestsScheduled :
    (let s := up.setF (HTH_STATE_STATE 287) hEnabled;
      s.mayGate 287 = true ∧ s.active = true ∧ s.schedulable 287 = true ∧ (s.hearth 287).due = false
        ∧ (s.hearth 287).testing = false ∧ s.hState 287 = hEnabled)
    ∧ (up.setF (HTH_STATE_STATE 287) hDrained).mayTest 287 = true
    ∧ (let s := (up.setF (HTH_STATE_STATE 287) hEnabled).setHearth 287 { HearthRt.init with due := true }
      s.active = true ∧ (s.hearth 287).due = true ∧ s.hState 287 = hEnabled ∧ (s.hearth 287).testing = false)
    ∧ (let s := linked.setF (HTH_STATE_STATE 287) hEnabled
      s.pf0Open 0x3C80 = true ∧ s.hState 287 = hEnabled ∧ s.hState 0 ≠ hEnabled) := by decide +kernel

theorem test_hyp_ConeTestVerdicts :
    (∀ st ∈ [hEnabled, hDrained], let s := testing st [];
      s.active = true ∧ (s.hearth 287).testing = true ∧ s.hState 287 = st
        ∧ ¬ (s.hState 287 = hQuarantined ∧ 3 ≤ (s.hearth 287).quar.length))
    ∧ (let s : State := { (testing hQuarantined [1, 2]).setF (HTH_STATE_ROWS_FREE 287) 2 with seval := { up.seval with retire := false } }
      s.active = true ∧ (s.hearth 287).testing = true ∧ s.hState 287 = hQuarantined ∧ (s.hearth 287).quar.length < 3
        ∧ s.seval.retire = false ∧ s.getF (HTH_STATE_ROWS_FREE 287) = 2 ∧ s.getF (HTH_STATE_COLS_FREE 287) = 0)
    ∧ (let s := testing hQuarantined [1, 2, 3]
      s.active = true ∧ (s.hearth 287).testing = true ∧ s.hState 287 = hQuarantined ∧ 3 ≤ (s.hearth 287).quar.length)
    ∧ (let s : State := { testing hQuarantined [] with seval := { up.seval with retire := true } }
      s.hState 287 = hQuarantined ∧ s.seval.retire = true)
    ∧ ConeFinding.pass ≠ .glaze ∧ State.reset.active = false ∧ (up.hearth 287).testing = false ∧ hearthBay 287 = 15 := by
  decide +kernel

/-- One failing cell in the last row takes one row record when no column is free. -/
theorem test_chooseRecords : chooseRecords 2 0 [(129, 5)] = some ([129], []) ∧ chooseRecords 0 0 [(129, 5)] = none := by
  simp [chooseRecords, recordSizes, choose, coversCells]

/-! ### Witnesses: recovery -/

theorem test_hyp_RecoveryCauses :
    (up.running = true ∧ State.reset.running = false ∧ State.reset.power.life ≠ .up
      ∧ (let s := up.setF DMP_STAT_TRIP 1; s.running = true ∧ s.flag DMP_STAT_TRIP = true) ∧ up.flag DMP_STAT_TRIP = false)
    ∧ (let s : State := { up with recov := some ⟨false, 4, [], []⟩ }
      s.running = false ∧ s.power.life = .up ∧ s.recov.isSome = true)
    ∧ (linked.running = true ∧ linked.pf0Open 0x700004 = true)
    ∧ (let s : State := { linked with recov := some ⟨false, 4, [], []⟩ };
      s.running = false ∧ s.pf0Open 0x700004 = true ∧ s.linkServes = true ∧ s.recov.isSome = true)
    ∧ ((flying 1 vecFlight).running = true ∧ ((0 : Fin 64), 0) ∈ [((0 : Fin 64), 0), (1, 0)]
      ∧ (flying 1 vecFlight).dispatching 0 0 = some vecFlight ∧ (flying 1 vecFlight).dispatching 1 0 = none)
    ∧ ((∃ l ∈ d2dLinks, l.1 = (1 : Fin 16).val ∨ l.2 = (1 : Fin 16).val) ∧ ¬ (∃ l ∈ d2dLinks, l.1 = (0 : Fin 16).val ∨ l.2 = (0 : Fin 16).val)
      ∧ (flying 1 vecFlight).flight? 0 0 = some vecFlight ∧ up.flight? 0 0 = none)
    ∧ (linked.linkServes = true ∧ up.linkServes = false
      ∧ (let s := linked.setF PWR_STAT_STATE 1; s.linkServes = true ∧ s.running = false ∧ s.recov = none))
    ∧ (vfState.running = true ∧ vfState.vfOn 15 = true ∧ vfState.vfOn 16 = false) := by decide +kernel

/-- A recovery that waits in step 2 for a held port, and a THERMAL one that waits in step 8 for the trip to end. -/
theorem test_hyp_RecoveryLimitsAndLatch :
    (let s : State := { up.setF RST_STAT_STEP 2 with recov := some ⟨false, 4, [], []⟩ };
      s.recov = some ⟨false, 4, [], []⟩ ∧ s.quiescing = true)
    ∧ (let s : State := { up.setF RST_STAT_STEP 8 with recov := some ⟨false, 6, [], []⟩ };
      s.withheld = true)
    ∧ up.power.life = .up ∧ up.getF PWR_STAT_STATE ≠ 2 ∧ up.quiescing = false ∧ up.withheld = false
    ∧ (up.setF PWR_STAT_STATE 2).getF PWR_STAT_STATE = 2
    ∧ (let s : State := { up with power := ⟨.latched, true, false, true⟩ }
      s.stopped = true ∧ s.power.life = .latched ∧ actsStopped (.tilePlace []) = false ∧ actsStopped .routingTableSwap = false
        ∧ actsLatched (.tilePlace []) = false) := by decide +kernel

/-! ### Witnesses: power states, the board and the boot -/

theorem test_hyp_PowerStateRequests :
    (up.i3cUp = true ∧ up.power.life = .up ∧ bitOf up.seval.stateAllow (1 - 1) = true ∧ bitOf up.seval.stateAllow (2 - 1) = true
      ∧ up.recov = none ∧ up.getF PWR_STAT_STATE = 0)
    ∧ (let s : State := { up with recov := some ⟨false, 4, [], []⟩ }
      s.i3cUp = true ∧ bitOf s.seval.stateAllow 0 = true ∧ s.recov.isSome = true)
    ∧ (let s : State := { up with seval := { up.seval with stateAllow := 0 } }
      s.i3cUp = true ∧ bitOf s.seval.stateAllow 0 = false ∧ bitOf s.seval.stateAllow 1 = false)
    ∧ (∀ k ∈ [1, 2, 3], let s := up.setF PWR_STAT_STATE k
      s.i3cUp = true ∧ s.power.life = .up ∧ s.recov = none ∧ s.getF PWR_STAT_STATE = k)
    ∧ (∀ k ∈ [1, 2], let s := up.setFs [(PWR_STAT_STATE, 3), (PWR_CTL_TARGET, k)]
      s.entering = true ∧ s.quiet = true ∧ s.getF PWR_CTL_TARGET = k)
    ∧ (let s := (ringed 0 0).setF PWR_STAT_STATE 3
      s.entering = true ∧ s.quiet = false)
    ∧ (let s := up.setFs [(PWR_STAT_STATE, 4), (PWR_STAT_STEP, 4)]
      s.power.life = .up ∧ s.getF PWR_STAT_STATE = 4 ∧ s.getF PWR_STAT_STEP = (4 : Fin 5).val) := by decide +kernel

theorem test_hyp_InputLossSwitchesOff :
    up.power.life ≠ .off ∧ State.reset.power.life = .off ∧ State.reset.power.lowHold = false
    ∧ (let s := State.reset.setFs [(SVC_SIDEBAND_PWR_EN, 1), (SVC_SIDEBAND_MOD_RST_N, 1)]
      s.power.life = .off ∧ s.power.lowHold = false ∧ s.flag SVC_SIDEBAND_PWR_EN = true ∧ s.flag SVC_SIDEBAND_MOD_RST_N = true) := by
  decide +kernel

theorem test_hyp_PowerDownAndPerst :
    up.power.life ≠ .off ∧ State.reset.power.life = .off
    ∧ (let s : State := { up.setF SVC_SIDEBAND_PERST_N 1 with power := { up.power with life := .booting 4 } }
      s.flag SVC_SIDEBAND_PERST_N = true ∧ s.power.life ≠ .up)
    ∧ (let s := up.setF SVC_SIDEBAND_PERST_N 0
      s.flag SVC_SIDEBAND_PERST_N = false ∧ s.power.life = .up ∧ s.getF PWR_STAT_STATE ≠ 2 ∧ s.flag CXL_LINK_UP = false
        ∧ s.recov = none) := by decide +kernel

theorem test_hyp_BootStartsAndStops :
    ({ up with power := { up.power with life := .inReset } } : State).power.life = .inReset
    ∧ (let s := State.reset.setF SVC_SIDEBAND_MOD_RST_N 1
      s.power.life = .off ∧ s.power.inputOk = true ∧ s.power.lowHold = false ∧ s.flag SVC_SIDEBAND_MOD_RST_N = true)
    ∧ (let s : State := { State.reset.setF SVC_SIDEBAND_PWR_EN 0 with power := { State.reset.power with lowHold := true } }
      s.power.life = .off ∧ s.power.lowHold = true ∧ s.flag SVC_SIDEBAND_PWR_EN = false)
    ∧ (let o : BootOut := ⟨true, true, false, 0, true, [], [], [], [], 0, 0⟩
      o.railsOk = true ∧ o.lateStep ≠ 1 ∧ o.lateStep ≠ 2 ∧ o.pllOk = true ∧ o.nvmOk = false)
    ∧ (let s : State := { up with power := { up.power with life := .booting 4 } }
      s.power.life = .booting 4 ∧ decide (4 ≤ 4) = true) := by decide +kernel

/-! ### Single steps -/

/-- R258: the head moves on when a command starts. -/
theorem test_nop_starts : (after (.nop 0) (ringed 0 0)).headIdx 0 = 1 ∧ (after (.nop 0) (ringed 0 0)).flights.length = 1 := by
  decide +kernel

/-- R266: a wait that holds shows WAITING. -/
theorem test_nop_waits : (after (.nop 0) waiting).getF (QUE_STAT_STATE 0) = qWaiting := by decide +kernel

/-- R17: a reserved bit ends the command with DECODE_ERROR. -/
theorem test_reserved_bit : (after (.nop 0) reserved).flights.map (·.errs) = [[.decodeError]] := by decide +kernel

/-- R583: a head that cannot be read ends ACCESS_FAULT. -/
theorem test_unreadable_head : (after (.fence 0) unmapped).flights.map (·.errs) = [[.accessFault]] := by decide +kernel

/-- R252: the tail at its bound is taken; one past it halts the queue with DECODE_ERROR. -/
theorem test_watch_tail : ((after (.watchLinePoll 0) (watched (3 * 2 ^ 48 + 2 ^ 47))).queue 0).tail = 2 ^ 47 := by decide +kernel
theorem test_watch_tail_bad : (after (.watchLinePoll 0) (watched (3 * 2 ^ 48 + 2 ^ 47 + 1))).getF (QUE_CTL_HALT 0) = 1 := by
  decide +kernel

/-- R279: a failed tile is to be placed again, its retry counted. -/
theorem test_tile_retry : let g := vecFlight.retried (vecFlight.backWith 0) 0 0 false
    (g.retries, g.again, g.tries 0, g.running.length) = (1, [0], 1, 0) := by decide +kernel

/-- R285: a command that ends in error halts its queue. -/
theorem test_complete_halts :
    let t := after (.commandComplete 0) (flying 1 { idleFlight with errs := [.decodeError] })
    t.getF (QUE_CTL_HALT 0) = 1 ∧ t.getF (QUE_STAT_LAST_STATUS 0) = Status.decodeError.code ∧ t.flights = [] := by decide +kernel

/-- R266: the waiting head ends TIMEOUT. -/
theorem test_wait_timeout : (after (.waitTimeout 0) waiting).flights.map (·.errs) = [[.timeout]] := by decide +kernel

/-- R286: the step counter moves on once every queue holds at its mark. -/
theorem test_step_barrier : (after (.stepBarrier 0) (marked (false, 0))).getF (CTX_STEP_STEP 0) = 1 := by decide +kernel

/-- R263: a VF writes the last object of its range and not the one before it. -/
theorem test_vf_sync : (after (.syncObjectWrite (.vf 15) 8191 9) vfState).sync 8191 = 9
    ∧ (after (.syncObjectWrite (.vf 15) 8190 9) vfState).sync 8190 = 0 := by decide +kernel

/-- R249: a queue is created parked at command 0 on the engine that the write names. -/
theorem test_queue_enable : let t := after (.queueEnable 63 0xD0030000) linked
    t.getF (QUE_STAT_STATE 63) = qParked ∧ t.engine 63 = 5 ∧ t.ctxOf 63 = 3 := by decide +kernel

/-- R500, R501: FIRE fires an armed trigger; REARM clears it. -/
theorem test_fire : (after .fire (linked.setF OBS_TRTRIG_ARM 16)).getF OBS_TRSTAT_CAUSE = 5 := by decide +kernel
theorem test_rearm : (after .rearm (linked.setFs [(OBS_TRSTAT_TRIGD, 1), (OBS_TRSTAT_FROZEN, 1)])).getF OBS_TRSTAT_FROZEN = 0 := by
  decide +kernel

/-- R12: an RW1C bit falls to a 1; a reserved profile is discarded while the cap of the same write is taken. -/
theorem test_rw1c : (after (.registerWrite (.bar .pf0 0x1904) 4 (2 ^ 31)) (linked.setFs [(SVC_ALERT_THERM, 1)])).regAt 0x1904 < 2 ^ 31 := by
  decide +kernel
theorem test_reserved_profile : let t := after (.registerWrite (.bar .pf0 0x300000) 4 (3 * 2 ^ 30 + 1800)) linked
    t.getF DMP_CFG_P_CAP = 1800 ∧ t.getF DMP_CFG_PROFILE = linked.getF DMP_CFG_PROFILE := by decide +kernel

/-- R546: an unsigned WRAP_PSK is answered AUTH_FAILED. -/
theorem test_wrap_unsigned : (after (.wrapPsk hdr0 (List.replicate 32 0)) up).stoker.replies = [(0, svcAuthFailed, [])] := by
  decide +kernel

/-- R529: CONFIRM of a module that runs no trial is not allowed. -/
theorem test_confirm_no_trial : (after (.confirm hdr0) up).stoker.replies = [(0, svcNotAllowed, [])] := by decide +kernel

/-- R516: an uncorrectable line reads as poisoned zeros and is logged. -/
theorem test_poison_read : let t := after (.hostMemRead (2 ^ 28 - 1)) badLast
    t.hostReply = some ⟨List.replicate 64 0, true⟩ ∧ t.getF CXL_ERR_POISON = 1 ∧ t.getF (MEM_UEADR_ADDR 0) = 2 ^ 22 - 1 := by decide +kernel

/-- R512: the byte past the window is no address of the module. -/
theorem test_outside_window : (match exec (.hostMemRead (2 ^ 28)) served with | .fault (.hostAddress a) => a == 2 ^ 28 | _ => false) = true := by decide +kernel

/-- R375: a write into the Saggar regions changes nothing. -/
theorem test_saggar_write : (after (.hostMemWrite (2 ^ 24) [7]) served).dram = served.dram := by decide +kernel

/-- A byte written through CXL.mem stands at its PA. -/
theorem test_host_write : (after (.hostMemWrite 63 [7]) served).dbyte 63 = 7 := by decide +kernel

/-- R512: the decoder takes 1 TiB and no more. -/
theorem test_hdm_commit : (after (.hdmCommit 0 (2 ^ 40) 1) linked).host.hdmSize = 2 ^ 40
    ∧ (after (.hdmCommit 0 (2 ^ 40 + 2 ^ 28) 1) linked).host.hdmSize = 0 := by decide +kernel

/-- R348, R349: sequence 255 is followed by 0, and its packet is taken; a wrong CRC is refused. -/
theorem test_frame_wraps : let s := ported 5 { PortRt.init with rxSeq := 255 }
    ((after (.frameReceive 5 goodFrame) s).port 5).rxSeq = 0 ∧ ((after (.frameReceive 5 goodFrame) s).port 5).inbuf.length = 1
    ∧ ((after (.frameReceive 5 { goodFrame with crc := crc24 [] 255 1 }) s).port 5).rxSeq = 255 := by decide +kernel

/-- R345: two codewords that fail are two in a row, and a good one ends the run. -/
theorem test_lock_run : let s := ported 5 { PortRt.init with lockBad := 6 }
    ((after (.frameReceive 5 { goodFrame with words := ⟨0, true, true⟩ }) s).port 5).lockBad = 8
    ∧ ((after (.frameReceive 5 { goodFrame with words := ⟨0, true, false⟩ }) s).port 5).lockBad = 0
    ∧ ((after (.frameReceive 5 { goodFrame with words := ⟨0, false, true⟩ }) s).port 5).lockBad = 1 := by decide +kernel

/-- R368: beyond 1 µs the timebase steps at once. -/
theorem test_timebase_steps : (after (.skipFrameReceive 5 (skipAt 2002))
    ((ported 5 { PortRt.init with skipTx := some 0 }).setF FLU_TSTAT_PARENT 5)).now = 1001 := by decide +kernel

/-- R347: training ends ACTIVE on the right neighbour, and FAILED on the wrong one. -/
theorem test_training : (after (.retrainDone 0 ⟨0, 1, 0, 0, 1, true⟩) (trained portTraining)).portState 0 = portActive
    ∧ (after (.retrainDone 0 ⟨0, 1, 0, 0, 0, true⟩) (trained portTraining)).getF (FLU_PORT_CAUSE 0) = 5 := by decide +kernel

/-- R395: a line written into the window's end, and one that would pass it. -/
theorem test_neighbour_write :
    (after (.writePacket 5) (windowed (arrived 5 (pkt tyWrite [2 ^ 21 - 64] line)))).dbyte (2 ^ 22 - 1) = 7
    ∧ (after (.writePacket 5) (windowed (arrived 5 (pkt tyWrite [2 ^ 21 - 63] line)))).dram = [] := by decide +kernel

/-- R264: a remote SIGNAL adds to the object. -/
theorem test_remote_signal : (after (.signalPacket 5) (signalled (pkt tySignal [0, 2 ^ 64 - 2] []))).sync 0 = 2 ^ 64 - 1 := by
  decide +kernel

/-- R316: data that disagrees with the member's command aborts the key. -/
theorem test_disagreeing_data :
    (after (.collData 5) (collecting (pkt tyCollData [3, 0, 0, 0, 0, 78, 64, 0, 0] line))).flights.map (·.errs) = [[.linkFailed]] := by
  decide +kernel

/-- R382, R387: a granted write stores its line and drops the line's corrective write. -/
theorem test_grant_drops_correction :
    let s := stacked { StackRt.init with corrective := up.beatLines 15 lastWrite ++ [2 ^ 30] }
    let t := after (.stackPortGrant 15 0 [some lastWrite]) s
    (t.stackPort 15).corrective = [2 ^ 30] ∧ t.dbyte ((up.beatLines 15 lastWrite).headD 0 + 63) = 7 := by decide +kernel

/-- R386: above 85.0 °C the window is 32 ms. -/
theorem test_refresh_2x : (after (.refreshWindowChange 15 1024 ⟨false, 0⟩) (up.setF (DMP_TDRM_TOP 15) 1361)).getF (MEM_STK_REF2X 15) = 1
    ∧ (after (.refreshWindowChange 15 1024 ⟨false, 1361⟩) (up.setF (DMP_TDRM_TOP 15) 1360)).getF (MEM_STK_REF2X 15) = 0
    ∧ (after (.refreshWindowChange 15 1023 ⟨false, 1361⟩) (up.setF PWR_STAT_STATE 1)).getF (MEM_STK_REF2X 15) = 1 := by decide +kernel

/-- R383: the pointer wraps after the last block with one more pass. -/
theorem test_scrub_wraps : let t := after (.patrolScrub 15 []) (up.setF (MEM_SCRUB_PTR 15) (2 ^ 24 - 1))
    t.getF (MEM_SCRUB_PTR 15) = 0 ∧ t.getF (MEM_SCRUB_PASSES 15) = 1 := by decide +kernel

/-- R406: the fast limiter takes 4 from a duty. -/
theorem test_fast_limiter : (after (.fastLimiter 2101) (up.setF (DMP_BAY_DUTY 15) 16)).getF (DMP_BAY_DUTY 15) = 12 := by decide +kernel

/-- R105: a first FAIL quarantines, and in quarantine a part that cannot be spared retires the Hearth. -/
theorem test_cone_fail : (after (.coneTestEnd 287 .fixedPart) (testing hEnabled [])).hState 287 = hQuarantined
    ∧ (after (.coneTestEnd 287 .fixedPart) (testing hQuarantined [1])).hState 287 = hRetired := by decide +kernel

/-- R31: the loss of a PLL's lock latches the module. -/
theorem test_pll_loss : (after .pllLockLoss up).power.life = .latched := by decide +kernel

/-- R424: an entry begins at step 1, and a wake request cancels it. -/
theorem test_entry : (after (.emberRequest .i3c) up).getF PWR_STAT_STATE = 3
    ∧ (after (.wakeRequest .i3c ⟨0, false, true, 3⟩) (up.setF PWR_STAT_STATE 3)).getF PWR_STAT_CANCELLED = 1 := by decide +kernel

/-- R553: the lockout loses DRAM. -/
theorem test_lockout : (after .undervoltageLockout served).dram = [] ∧ (after .undervoltageLockout served).power.life = .off := by
  decide +kernel

/-- R531: a boot past its limit fails with ERR 9. -/
theorem test_boot_timeout :
    (after .bootTimeout { up with power := { up.power with life := .booting 3 } }).getF SEC_BOOT_ERR = 9 := by decide +kernel

/-- R37: a live queue keeps its engine and context when it is enabled again. -/
theorem test_queue_bound : let t := after (.queueEnable 0 0xD0030000) (ringed 0 0)
    t.engine 0 = 1 ∧ t.ctxOf 0 = 0 := by decide +kernel

/-- R31: a module that has stopped computes no route and takes no frame. -/
theorem test_stopped : let s : State := { ported 5 PortRt.init with power := ⟨.latched, true, false, true⟩ }
    exec .routingTableSwap s = .next s ∧ s.linkUp 5 = false := ⟨rfl, by decide +kernel⟩

/-- R345, R350: the seventeenth codeword that fails within 1 ms lets the port retrain. -/
theorem test_error_rate : (after (.retrainEntry 5 3) (ported 5 { PortRt.init with uncTimes := List.replicate 17 0 })).portState 5
    = portRetrain ∧ (after (.retrainEntry 5 3) (ported 5 { PortRt.init with uncTimes := List.replicate 16 0 })).portState 5
    = portActive := by decide +kernel

/-- R33: Bay 0 has no die-to-die link, so nothing arrives there; a first failure at Bay 1 is retried and changes
nothing. -/
theorem test_attach : exec (.d2dUncorr 0 true none) up = .next up ∧ exec (.d2dUncorr 1 false none) up = .next up := ⟨rfl, rfl⟩

/-- R357: a report sends what has been freed; the eighth class too. -/
theorem test_credit_report : ((after (.creditReport 5) (ported 5 { PortRt.init with freed := [0, 0, 0, 0, 0, 0, 0, 1] })).port 5).reported
    = [0, 0, 0, 0, 0, 0, 0, 1] := by decide +kernel

/-- R34: corrected transfers of a link are counted. -/
theorem test_d2d_corrected : ((flying 2 vecFlight).countCorrected vecFlight 0 2 [(5, 3)]).d2dCorr.get 0 5 = 3 := by decide +kernel
/-! ### Operations of the array and the dispatcher -/

/-- R32, R33, R35: the longest path, between opposite corners of the diagonal Kilns, and a diagonal inside one. -/
theorem test_paths : bayPath 0 15 = (4, 1) ∧ bayPath 3 12 = (0, 1) ∧ bayPath 5 6 = (2, 0) ∧ bayPath 7 7 = (0, 0)
    ∧ readLatency true 0 15 = 168 := by decide

/-- R85: the last sub-array of the finest partition, and the second of the first one that parts the array. -/
theorem test_subArrays : subArray 3 15 = ⟨96, 96, 32, 32, 4096, [15]⟩ ∧ (subArray 1 1).col = 64 ∧ (subArray 1 1).row = 0
    ∧ (subArray 1 1).units = [2, 3, 6, 7, 10, 11, 14, 15] := by decide

/-- R102: logical positions skip the recorded physical ones; with two records the last logical row is physical row 129. -/
theorem test_records : physicalOf [0, 5] 0 = some 1 ∧ physicalOf [0, 5] 4 = some 6 ∧ physicalOf [0, 5] 127 = some 129 := by
  decide +kernel

/-- R440, R441: errors that S and V share cancel; an exact check reports any other, a tolerance check only past τ. -/
theorem test_check :
    let fault (dS dV : Int) : CheckFault := ⟨0, 0, 0, 0, 0, dS, dV, 0⟩
    (Check.mk Ex.zero Ex.zero Ex.zero).mismatch (fault 1 0) = true ∧ (Check.mk Ex.zero Ex.zero Ex.zero).mismatch (fault 1 1) = false
    ∧ (Check.mk Ex.zero Ex.zero Ex.one).mismatch (fault 0 1) = false ∧ (Check.mk Ex.zero Ex.zero Ex.one).mismatch (fault 2 0) = true := by
  decide +kernel

/-- R439: a checksum of 12 bits is rounded to 11 significant ones, to even. -/
theorem test_chi_hat (op : MatOp) (p : Pass) (h : op.exactPass p = false) :
    op.chiHat p (Ex.ofInt 2049) = (Ex.ofInt 2049).rneGrid 11 ((Ex.ofInt 2049).lam - 10)
    ∧ ((Ex.ofInt 2049).rneGrid 11 ((Ex.ofInt 2049).lam - 10)).rneInt = 2048 := by
  refine ⟨?_, by decide +kernel⟩
  simp only [MatOp.chiHat, h, Bool.false_or]
  rw [if_neg (by decide +kernel)]

/-- R307: the partial sums of two runs, in either order, give the digest of the whole vector. -/
theorem test_digest_parts :
    digestAdd (digestAdd (0, 0) [3] 7 0) [2 ^ 48 - 1, 0] 7 1 = digestAdd (0, 0) [3, 2 ^ 48 - 1, 0] 7 0
    ∧ digestAdd (digestAdd (0, 0) [2 ^ 48 - 1, 0] 7 1) [3] 7 0 = digestAdd (0, 0) [3, 2 ^ 48 - 1, 0] 7 0
    ∧ digestAdd (0, 0) [3, 2 ^ 48 - 1, 0] 7 0 ≠ digestAdd (0, 0) [2 ^ 48 - 1, 3, 0] 7 0 := by
  decide +kernel

end Sys2Proof.Machine
end

/-! Every operation of the model changes the parts it names and no other, keeps the queue of waiting commands and the
form of every store, and only burns fuses (R528, R529, R540, R541). -/

namespace Sys2Proof.Machine

open Sys2Proof

set_option Elab.async false

variable {T : Nat} {s0 s : State}

/-! ### More sets of parts -/

/-- What a bit of `SVC_ALERT` may change (R555, R569). -/
def alertParts : List Part := [.reg .SVC_SIDEBAND, .reg .SVC_ALERT]

/-- What a packet that leaves a port may change (R349, R355). -/
def portParts : List Part := triggerParts ++ [.flue, .ports]

/-- What the run of a tile may change when it ends (R476, R485). -/
def runParts : List Part := triggerParts ++ [.flights, .hearths, .free, .reg .OBS_CNT]

/-- What a read that meets an uncorrectable line may change (R381, R465). -/
def readParts : List Part := faultParts ++ lineErrorParts

/-- What a record of the tap ring may change (R492, R493). -/
def ringParts : List Part := lineParts ++ [.reg .OBS_CTX, .reg .OBS_RING]

/-- What the end of a collective may change (R331). -/
def collParts : List Part := [.flights, .coll, .ports, .reg .FLU_RED]

/-- What an answer of the mailbox may change (R547). -/
def mailParts : List Part := irqParts ++ [.mbResp, .reg .STK_MBCTL, .reg .STK_MBSTAT]

/-- What a change of a Hearth's state may change (R104, R532). -/
def retireParts : List Part :=
  irqParts ++ logParts ++ alertParts ++ [.hearths, .reg .ID_HEARTHS, .reg .ID_HMAP, .reg .HTH_STATE]

/-- A Hearth's repair records (R102). -/
def repairParts : List Part := [.reg .HTH_RREP, .reg .HTH_CREP]

/-- The registers that recovery clears (R15). -/
def clearedParts : List Part := clearedRegs.map Part.reg

/-- The registers of contexts (R565). -/
def contextParts : List Part := contextRegs.map Part.reg

theorem Parts.le_refl (l : List Part) : Parts.le (Parts.of l) (Parts.of l) := Nat.and_self _

/-- A smaller set of parts, which the kernel compares with the larger. -/
theorem Parts.within {M N T : Nat} (h : Parts.le M T) (hN : (N &&& M == N) = true := by decide +kernel) :
    Parts.le N T :=
  Parts.sub h (beq_iff_eq.1 hN)

/-! ### Writes of named registers -/

theorem State.setF_keeps_reg {f : Fld} (r : Reg) (hT : Parts.le (Parts.of [.reg r]) T) (h : Keeps T s0 s) (v : Nat)
    (hr : f.reg = r := by rfl) : Keeps T s0 (s.setF f v) :=
  State.setF_keeps (hr ▸ hT) h v

theorem State.addSat_keeps_reg {f : Fld} (r : Reg) (hT : Parts.le (Parts.of [.reg r]) T) (h : Keeps T s0 s) (n : Nat)
    (hr : f.reg = r := by rfl) : Keeps T s0 (s.addSat f n) :=
  State.setF_keeps_reg r hT h _ hr

theorem State.incF_keeps_reg {f : Fld} (r : Reg) (hT : Parts.le (Parts.of [.reg r]) T) (h : Keeps T s0 s) (n : Nat)
    (hr : f.reg = r := by rfl) : Keeps T s0 (s.incF f n) :=
  State.setF_keeps_reg r hT h _ hr

theorem State.clrF_keeps_reg {f : Fld} (r : Reg) (hT : Parts.le (Parts.of [.reg r]) T) (h : Keeps T s0 s)
    (hr : f.reg = r := by rfl) : Keeps T s0 (s.clrF f) :=
  State.setF_keeps_reg r hT h _ hr

theorem State.setBit_keeps_reg {f : Fld} (r : Reg) (hT : Parts.le (Parts.of [.reg r]) T) (h : Keeps T s0 s) (i : Nat)
    (b : Bool) (hr : f.reg = r := by rfl) : Keeps T s0 (s.setBit f i b) :=
  State.setF_keeps_reg r hT h _ hr

theorem Parts.le_of_mem {p : Part} {l : List Part} (h : p ∈ l) : Parts.le (Parts.of [p]) (Parts.of l) := by
  induction l with
  | nil => cases h
  | cons q l ih =>
    rcases List.mem_cons.1 h with rfl | h
    · exact Parts.le_head
    · exact Parts.sub Parts.le_tail (ih h)

theorem State.setFs_keeps_regs {l : List (Fld × Nat)} (rs : List Reg) (hT : Parts.le (Parts.of (rs.map Part.reg)) T)
    (h : Keeps T s0 s) (hl : l.all (fun p => rs.contains p.1.reg) = true := by rfl) : Keeps T s0 (s.setFs l) := by
  refine List.foldlRecOn l _ (motive := Keeps T s0) h fun s hs p hp => ?_
  refine State.setF_keeps (Parts.sub hT (Parts.le_of_mem (List.mem_map_of_mem ?_))) hs _
  simpa using List.all_eq_true.1 hl p hp

/-! ### Updates of one field -/

theorem State.flights_keeps (hT : Parts.le (Parts.of [.flights]) T) (h : Keeps T s0 s) (x : List Flight) :
    Keeps T s0 { s with flights := x } :=
  keeps_change h hT (by intro p; cases p <;> simp [Part.same, State.getF]) rfl (le_refl _) (Fuses.growsTo_refl _) id

theorem State.accNext_keeps (hT : Parts.le (Parts.of [.accNext]) T) (h : Keeps T s0 s) (x : Store Nat) :
    Keeps T s0 { s with accNext := x } :=
  keeps_change h hT (by intro p; cases p <;> simp [Part.same, State.getF]) rfl (le_refl _) (Fuses.growsTo_refl _) id

theorem State.arena_keeps (hT : Parts.le (Parts.of [.arena]) T) (h : Keeps T s0 s) (x : Store Nat) :
    Keeps T s0 { s with arena := x } :=
  keeps_change h hT (by intro p; cases p <;> simp [Part.same, State.getF]) rfl (le_refl _) (Fuses.growsTo_refl _) id

theorem State.coll_keeps (hT : Parts.le (Parts.of [.coll]) T) (h : Keeps T s0 s) (x : List CollEntry) :
    Keeps T s0 { s with coll := x } :=
  keeps_change h hT (by intro p; cases p <;> simp [Part.same, State.getF]) rfl (le_refl _) (Fuses.growsTo_refl _) id

theorem State.decisions_keeps (hT : Parts.le (Parts.of [.decisions]) T) (h : Keeps T s0 s) (x : List (Nat × Nat)) :
    Keeps T s0 { s with decisions := x } :=
  keeps_change h hT (by intro p; cases p <;> simp [Part.same, State.getF]) rfl (le_refl _) (Fuses.growsTo_refl _) id

theorem State.damper_keeps (hT : Parts.le (Parts.of [.damper]) T) (h : Keeps T s0 s) (x : DamperRt) :
    Keeps T s0 { s with damper := x } :=
  keeps_change h hT (by intro p; cases p <;> simp [Part.same, State.getF]) rfl (le_refl _) (Fuses.growsTo_refl _) id

theorem State.trace_keeps (hT : Parts.le (Parts.of [.trace]) T) (h : Keeps T s0 s) (x : TraceRt) :
    Keeps T s0 { s with trace := x } :=
  keeps_change h hT (by intro p; cases p <;> simp [Part.same, State.getF]) rfl (le_refl _) (Fuses.growsTo_refl _) id

theorem State.recov_keeps (hT : Parts.le (Parts.of [.recov]) T) (h : Keeps T s0 s) (x : Option RecRt) :
    Keeps T s0 { s with recov := x } :=
  keeps_change h hT (by intro p; cases p <;> simp [Part.same, State.getF]) rfl (le_refl _) (Fuses.growsTo_refl _) id

theorem State.seval_keeps (hT : Parts.le (Parts.of [.seval]) T) (h : Keeps T s0 s) (x : Seval) :
    Keeps T s0 { s with seval := x } :=
  keeps_change h hT (by intro p; cases p <;> simp [Part.same, State.getF]) rfl (le_refl _) (Fuses.growsTo_refl _) id

theorem State.stoker_keeps (hT : Parts.le (Parts.of [.stoker]) T) (h : Keeps T s0 s) (x : StokerRt) :
    Keeps T s0 { s with stoker := x } :=
  keeps_change h hT (by intro p; cases p <;> simp [Part.same, State.getF]) rfl (le_refl _) (Fuses.growsTo_refl _) id

theorem State.power_keeps (hT : Parts.le (Parts.of [.power]) T) (h : Keeps T s0 s) (x : PowerRt) :
    Keeps T s0 { s with power := x } :=
  keeps_change h hT (by intro p; cases p <;> simp [Part.same, State.getF]) rfl (le_refl _) (Fuses.growsTo_refl _) id

theorem State.irqs_keeps (hT : Parts.le (Parts.of [.irqs]) T) (h : Keeps T s0 s) (x : List (Nat × Nat)) :
    Keeps T s0 { s with irqs := x } :=
  keeps_change h hT (by intro p; cases p <;> simp [Part.same, State.getF]) rfl (le_refl _) (Fuses.growsTo_refl _) id

theorem State.hostReply_keeps (hT : Parts.le (Parts.of [.reply]) T) (h : Keeps T s0 s) (x : Option HostReply) :
    Keeps T s0 { s with hostReply := x } :=
  keeps_change h hT (by intro p; cases p <;> simp [Part.same, State.getF]) rfl (le_refl _) (Fuses.growsTo_refl _) id

theorem State.flue_keeps (hT : Parts.le (Parts.of [.flue]) T) (h : Keeps T s0 s) (x : FlueRt)
    (hx : (x.dims, x.root, x.excluded) = (s.flue.dims, s.flue.root, s.flue.excluded)) :
    Keeps T s0 { s with flue := x } := by
  simp only [Prod.mk.injEq] at hx
  exact keeps_change h hT (by intro p; cases p <;> simp [Part.same, State.getF, hx]) rfl (le_refl _)
    (Fuses.growsTo_refl _) id

theorem State.topology_keeps (hT : Parts.le (Parts.of [.topology]) T) (h : Keeps T s0 s) (dims : Nat × Nat × Nat)
    (root : Nat) (excluded : List (Nat × Nat)) :
    Keeps T s0 { s with flue := { s.flue with dims := dims, root := root, excluded := excluded } } :=
  keeps_change h hT (by intro p; cases p <;> simp [Part.same, State.getF]) rfl (le_refl _) (Fuses.growsTo_refl _) id

theorem State.host_keeps (hT : Parts.le (Parts.of [.link, .filter, .pba, .watch, .atc]) T) (h : Keeps T s0 s)
    (x : HostRt) : Keeps T s0 { s with host := x } :=
  keeps_change h hT (by intro p; cases p <;> simp [Part.same, State.getF]) rfl (le_refl _) (Fuses.growsTo_refl _) id

theorem State.link_keeps (hT : Parts.le (Parts.of [.link]) T) (h : Keeps T s0 s) (x : HostRt)
    (hx : (x.filter, x.pba, x.watch, x.atc) = (s.host.filter, s.host.pba, s.host.watch, s.host.atc)) :
    Keeps T s0 { s with host := x } := by
  simp only [Prod.mk.injEq] at hx
  exact keeps_change h hT (by intro p; cases p <;> simp [Part.same, State.getF, hx]) rfl (le_refl _)
    (Fuses.growsTo_refl _) id

theorem State.filter_keeps (hT : Parts.le (Parts.of [.filter]) T) (h : Keeps T s0 s) (x : List Nat) :
    Keeps T s0 { s with host := { s.host with filter := x } } :=
  keeps_change h hT (by intro p; cases p <;> simp [Part.same, State.getF]) rfl (le_refl _) (Fuses.growsTo_refl _) id

theorem State.pba_keeps (hT : Parts.le (Parts.of [.pba]) T) (h : Keeps T s0 s) (x : Store Bool) :
    Keeps T s0 { s with host := { s.host with pba := x } } :=
  keeps_change h hT (by intro p; cases p <;> simp [Part.same, State.getF]) rfl (le_refl _) (Fuses.growsTo_refl _) id

theorem State.watch_keeps (hT : Parts.le (Parts.of [.watch]) T) (h : Keeps T s0 s) (x : List Nat) :
    Keeps T s0 { s with host := { s.host with watch := x } } :=
  keeps_change h hT (by intro p; cases p <;> simp [Part.same, State.getF]) rfl (le_refl _) (Fuses.growsTo_refl _) id

theorem State.atc_keeps (hT : Parts.le (Parts.of [.atc]) T) (h : Keeps T s0 s) (x : List (Nat × Nat)) :
    Keeps T s0 { s with host := { s.host with atc := x } } :=
  keeps_change h hT (by intro p; cases p <;> simp [Part.same, State.getF]) rfl (le_refl _) (Fuses.growsTo_refl _) id

/-- Burning: a change of the fuses that they may grow to. -/
theorem State.fuses_keeps (hT : Parts.le (Parts.of [.fuses, .burn]) T) (h : Keeps T s0 s) {x : Fuses}
    (hx : s.fuses.growsTo x) : Keeps T s0 { s with fuses := x } :=
  keeps_change h hT (by intro p; cases p <;> simp [Part.same, State.getF]) rfl (le_refl _) hx id

/-- Burning that leaves the security version and the owner. -/
theorem State.otherFuses_keeps (hT : Parts.le (Parts.of [.fuses]) T) (h : Keeps T s0 s) {x : Fuses}
    (hx : s.fuses.growsTo x) (hb : (x.svn, x.owner) = (s.fuses.svn, s.fuses.owner)) :
    Keeps T s0 { s with fuses := x } := by
  simp only [Prod.mk.injEq] at hb
  exact keeps_change h hT (by intro p; cases p <;> simp [Part.same, State.getF, hb]) rfl (le_refl _) hx id

/-! ### Pairs and choices -/

theorem keeps_fst {α : Type} {p : State × α} {t : State} {x : α} (he : p = (t, x)) (h : Keeps T s0 p.1) :
    Keeps T s0 t := by
  rw [he] at h
  exact h

theorem keeps_snd {α : Type} {p : α × State} {t : State} {x : α} (he : p = (x, t)) (h : Keeps T s0 p.2) :
    Keeps T s0 t := by
  rw [he] at h
  exact h

theorem ite_keepsOut {c : Prop} [Decidable c] {a b : Host.Outcome State Fault Refusal} (ha : KeepsOut T s0 a)
    (hb : KeepsOut T s0 b) : KeepsOut T s0 (if c then a else b) := by
  split
  · exact ha
  · exact hb

/-! ### The named operations -/

theorem State.vwrite1_keeps (hT : Parts.le (Parts.of (lineParts ++ ([.hostMem] : List Part))) T) (h : Keeps T s0 s)
    (c va : Nat) (bs : List Byte) : Keeps T s0 (s.vwrite1 c va bs) := by
  unfold State.vwrite1
  split
  · exact State.dwrite_keeps (Parts.within hT) h _ _
  · exact State.hostMem_keeps (Parts.within hT) h _ _
  · exact h

theorem State.vwriteGo_keeps (hT : Parts.le (Parts.of (lineParts ++ ([.hostMem] : List Part))) T) (n : Nat)
    (h : Keeps T s0 s) (c va : Nat) (bs : List Byte) : Keeps T s0 (State.vwriteGo n s c va bs) := by
  induction n generalizing s va bs with
  | zero => exact h
  | succ n ih => exact ite_keeps h (ih (State.vwrite1_keeps hT h _ _ _) _ _)

theorem State.vwrite_keeps (hT : Parts.le (Parts.of (lineParts ++ ([.hostMem] : List Part))) T) (h : Keeps T s0 s)
    (c va : Nat) (bs : List Byte) : Keeps T s0 (s.vwrite c va bs) :=
  State.vwriteGo_keeps hT _ h _ _ _

theorem State.cachePages_keeps (hT : Parts.le (Parts.of [.tlb, .atc]) T) (h : Keeps T s0 s) (c : Nat)
    (ps : List Nat) : Keeps T s0 (s.cachePages c ps) := by
  unfold State.cachePages
  refine keeps_foldl _ h fun _ _ hs => ?_
  split
  · exact ite_keeps (State.atc_keeps (Parts.within hT) (State.tlbInsert_keeps (Parts.within hT) hs _ _) _)
      (State.tlbInsert_keeps (Parts.within hT) hs _ _)
  · exact hs

/-! ### Counters, faults, interrupts and the trace -/

theorem State.setOut_keeps (hT : Parts.le (Parts.of [.reg .SVC_SIDEBAND]) T) (h : Keeps T s0 s) (i : Nat) (b : Bool) :
    Keeps T s0 (s.setOut i b) :=
  State.setBit_keeps_reg .SVC_SIDEBAND hT h _ _

theorem State.syncPins_keeps (hT : Parts.le (Parts.of [.reg .SVC_SIDEBAND]) T) (h : Keeps T s0 s) :
    Keeps T s0 s.syncPins :=
  State.setOut_keeps hT (State.setOut_keeps hT h _ _) _ _

theorem State.alert_keeps {f : Fld} (hT : Parts.le (Parts.of alertParts) T) (h : Keeps T s0 s)
    (hf : f.reg = .SVC_ALERT := by rfl) : Keeps T s0 (s.alert f) :=
  State.syncPins_keeps (Parts.within hT) (State.setF_keeps_reg .SVC_ALERT (Parts.within hT) h _ hf)

theorem State.latchFail_keeps (hT : Parts.le (Parts.of [.power, .reg .SVC_SIDEBAND]) T) (h : Keeps T s0 s) :
    Keeps T s0 s.latchFail :=
  State.syncPins_keeps (Parts.within hT) (State.setOut_keeps (Parts.within hT)
    (State.power_keeps (Parts.within hT) h _) _ _)

theorem State.irq_keeps (hT : Parts.le (Parts.of irqParts) T) (h : Keeps T s0 s) (fn vec : Nat) :
    Keeps T s0 (s.irq fn vec) :=
  ite_keeps (State.pba_keeps (Parts.within hT) h _) (ite_keeps (State.irqs_keeps (Parts.within hT) h _) h)

theorem State.queueIrq_keeps (hT : Parts.le (Parts.of irqParts) T) (h : Keeps T s0 s) (q : Nat) :
    Keeps T s0 (s.queueIrq q) :=
  State.irq_keeps hT h _ _

theorem State.traceWrite_keeps (hT : Parts.le (Parts.of traceParts) T) (h : Keeps T s0 s)
    (cls sub ctx queue d0 d1 : Nat) : Keeps T s0 (s.traceWrite cls sub ctx queue d0 d1) :=
  ite_keeps (State.trace_keeps (Parts.within hT) (State.incF_keeps_reg .OBS_GCNT (Parts.within hT)
    (State.setF_keeps_reg .OBS_TRSTAT (Parts.within hT) (State.dwrite_keeps (Parts.within hT) h _ _) _) _) _) h

theorem State.traceRec_keeps (hT : Parts.le (Parts.of traceParts) T) (h : Keeps T s0 s)
    (cls sub ctx queue d0 d1 : Nat) : Keeps T s0 (s.traceRec cls sub ctx queue d0 d1) :=
  ite_keeps (State.traceWrite_keeps hT h ..) h

theorem State.trigger_keeps (hT : Parts.le (Parts.of triggerParts) T) (h : Keeps T s0 s) (cause value : Nat) :
    Keeps T s0 (s.trigger cause value) :=
  ite_keeps (ite_keeps (State.trace_keeps (Parts.within hT) (State.setFs_keeps_regs [.OBS_TRPOS, .OBS_TRSTAT]
    (Parts.within hT) (State.traceWrite_keeps (Parts.within hT) h ..)) _)
    (State.setFs_keeps_regs [.OBS_TRPOS, .OBS_TRSTAT] (Parts.within hT)
    (State.traceWrite_keeps (Parts.within hT) h ..))) h

theorem State.counterTrigger_keeps (hT : Parts.le (Parts.of triggerParts) T) (h : Keeps T s0 s) (e c v : Nat) :
    Keeps T s0 (s.counterTrigger e c v) :=
  ite_keeps (State.trigger_keeps hT h _ _) h

theorem State.count_keeps (hT : Parts.le (Parts.of (triggerParts ++ ([.reg .OBS_CNT] : List Part))) T)
    (h : Keeps T s0 s) (c e n : Nat) : Keeps T s0 (s.count c e n) :=
  ite_keeps h (State.counterTrigger_keeps (Parts.within hT) (State.incF_keeps_reg .OBS_CNT (Parts.within hT) h _) _ _
    _)

theorem State.gcount_keeps (hT : Parts.le (Parts.of triggerParts) T) (h : Keeps T s0 s) (e n : Nat) :
    Keeps T s0 (s.gcount e n) :=
  ite_keeps h (State.counterTrigger_keeps hT (State.incF_keeps_reg .OBS_GCNT (Parts.within hT) h _) _ _ _)

theorem State.countAll_keeps (hT : Parts.le (Parts.of (triggerParts ++ ([.reg .OBS_CNT] : List Part))) T)
    (h : Keeps T s0 s) (c : Nat) (l : List (Nat × Nat)) : Keeps T s0 (s.countAll c l) :=
  keeps_foldl _ h fun _ _ hs => State.count_keeps hT hs _ _ _

theorem State.logEvent_keeps (hT : Parts.le (Parts.of logParts) T) (h : Keeps T s0 s) (ty persist : Nat)
    (body : List Byte) : Keeps T s0 (s.logEvent ty persist body) :=
  State.stoker_keeps (Parts.within hT) (State.nwrite_keeps (Parts.within hT) h _ _) _

theorem State.vfCopy_keeps (hT : Parts.le (Parts.of (irqParts ++ ([.reg .VF_FAULT0, .reg .VF_FAULT1, .reg .VF_FAULT2,
    .reg .VF_FAULT3] : List Part))) T) (h : Keeps T s0 s) (c : Nat) : Keeps T s0 (s.vfCopy c) :=
  ite_keeps h (State.irq_keeps (Parts.within hT) (State.setFs_keeps_regs [.VF_FAULT0, .VF_FAULT1, .VF_FAULT2,
    .VF_FAULT3] (Parts.within hT) h) _ _)

theorem State.fault_keeps (hT : Parts.le (Parts.of faultParts) T) (h : Keeps T s0 s) (r : FaultRec) :
    Keeps T s0 (s.fault r) := by
  unfold State.fault
  extract_lets held s1 s2 s3 armed s4
  have hs1 : Keeps T s0 s1 := State.setFs_keeps_regs [.RST_FAULT1, .RST_FAULT2, .RST_FAULT3, .RST_FAULT0]
    (Parts.within hT) h
  have hs2 : Keeps T s0 s2 := State.irq_keeps (Parts.within hT) (State.alert_keeps (Parts.within hT) hs1) _ _
  have hs3 : Keeps T s0 s3 := by
    unfold s3
    split
    · exact State.vfCopy_keeps (Parts.within hT) hs2 _
    · exact hs2
  have hs4 : Keeps T s0 s4 := ite_keeps (State.trigger_keeps (Parts.within hT) hs3 _ _)
    (State.traceRec_keeps (Parts.within hT) hs3 ..)
  exact ite_keeps (State.addSat_keeps_reg .RST_STAT (Parts.within hT) h _)
    (State.setF_keeps_reg .OBS_TRSTAT (Parts.within hT) hs4 _)

theorem State.setPwrState_keeps (hT : Parts.le (Parts.of (traceParts ++ alertParts ++ irqParts ++
    ([.reg .PWR_STAT] : List Part))) T) (h : Keeps T s0 s) (v : Nat) : Keeps T s0 (s.setPwrState v) :=
  ite_keeps h (State.traceRec_keeps (Parts.within hT) (State.irq_keeps (Parts.within hT)
    (State.alert_keeps (Parts.within hT) (State.setF_keeps_reg .PWR_STAT (Parts.within hT) h _)) _ _) ..)

theorem State.setRstStep_keeps (hT : Parts.le (Parts.of (traceParts ++ ([.reg .RST_STAT] : List Part))) T)
    (h : Keeps T s0 s) (v : Nat) : Keeps T s0 (s.setRstStep v) :=
  State.traceRec_keeps (Parts.within hT) (State.setF_keeps_reg .RST_STAT (Parts.within hT) h _) ..

theorem State.thermChanged_keeps (hT : Parts.le (Parts.of (alertParts ++ irqParts)) T) (h : Keeps T s0 s) :
    Keeps T s0 s.thermChanged :=
  State.irq_keeps (Parts.within hT) (State.alert_keeps (Parts.within hT) h) _ _

theorem State.ring_keeps (hT : Parts.le (Parts.of ringParts) T) (h : Keeps T s0 s) (c : Nat) (rec' : List Byte) :
    Keeps T s0 (s.ring c rec') :=
  ite_keeps (State.addSat_keeps_reg .OBS_CTX (Parts.within hT) h _)
    (State.setF_keeps_reg .OBS_RING (Parts.within hT) (State.dwrite_keeps (Parts.within hT)
    (State.dwrite_keeps (Parts.within hT) h _ _) _ _) _)

theorem State.signalObj_keeps (hT : Parts.le (Parts.of (triggerParts ++ ([.reg .SYNC] : List Part))) T)
    (h : Keeps T s0 s) (n inc sub c q : Nat) : Keeps T s0 (s.signalObj n inc sub c q) :=
  ite_keeps (State.trigger_keeps (Parts.within hT) (State.traceRec_keeps (Parts.within hT)
    (State.setF_keeps_reg .SYNC (Parts.within hT) h _) ..) _ _) (State.traceRec_keeps (Parts.within hT)
    (State.setF_keeps_reg .SYNC (Parts.within hT) h _) ..)

theorem State.syncAdd_keeps (hT : Parts.le (Parts.of (triggerParts ++ ([.reg .SYNC] : List Part))) T)
    (h : Keeps T s0 s) (n inc sub c q : Nat) : Keeps T s0 (s.syncAdd n inc sub c q) :=
  ite_keeps h (State.signalObj_keeps hT h ..)

/-! ### The start of commands -/

theorem State.setQState_keeps (hT : Parts.le (Parts.of [.reg .QUE_STAT]) T) (h : Keeps T s0 s) (q v : Nat) :
    Keeps T s0 (s.setQState q v) :=
  State.setF_keeps_reg .QUE_STAT hT h _

theorem State.setFlight_keeps (hT : Parts.le (Parts.of [.flights]) T) (h : Keeps T s0 s) (f : Flight) :
    Keeps T s0 (s.setFlight f) :=
  State.flights_keeps hT h _

theorem State.putSlot_keeps (hT : Parts.le (Parts.of lineParts) T) (h : Keeps T s0 s) (f : Flight) :
    Keeps T s0 (s.putSlot f) :=
  State.dwrite_keeps hT h _ _

theorem State.putQHeader_keeps (hT : Parts.le (Parts.of lineParts) T) (h : Keeps T s0 s) (q done : Nat) :
    Keeps T s0 (s.putQHeader q done) :=
  State.dwrite_keeps hT h _ _

theorem State.writeFolds_keeps (hT : Parts.le (Parts.of (lineParts ++ ([.hostMem] : List Part))) T) (h : Keeps T s0 s)
    (c : Nat) (eval : Bool) (b : BbfOut) : Keeps T s0 (s.writeFolds c eval b) :=
  ite_keeps h (keeps_foldl _ h fun _ _ hs => State.vwrite_keeps hT hs _ _ _)

theorem State.noteStart_keeps (hT : Parts.le (Parts.of [.queues]) T) (h : Keeps T s0 s) (f : Flight) :
    Keeps T s0 (s.noteStart f) :=
  State.setQueue_keeps hT h _ _

theorem State.launch_keeps (hT : Parts.le (Parts.of (traceParts ++ ([.flights, .queues, .reg .QUE_STAT] : List Part)))
    T) (h : Keeps T s0 s) (f : Flight) : Keeps T s0 (s.launch f) :=
  State.putQHeader_keeps (Parts.within hT) (State.putSlot_keeps (Parts.within hT)
    (State.traceRec_keeps (Parts.within hT) (State.setQState_keeps (Parts.within hT)
    (State.setF_keeps_reg .QUE_STAT (Parts.within hT) (State.noteStart_keeps (Parts.within hT)
    (State.flights_keeps (Parts.within hT) h _) _) _) _ _) ..) _) _ _

theorem State.rowDue_keeps (hT : Parts.le (Parts.of [.stackPorts]) T) (h : Keeps T s0 s) (b row : Nat) :
    Keeps T s0 (s.rowDue b row) :=
  ite_keeps h (State.setStackPort_keeps hT h _ _)

theorem State.ueFound_keeps (hT : Parts.le (Parts.of lineErrorParts) T) (h : Keeps T s0 s) (pa : Nat) (scrub : Bool)
    (ctx : Nat) : Keeps T s0 (s.ueFound pa scrub ctx) :=
  State.incF_keeps_reg .MEM_UEPTR (Parts.within hT) (State.setFs_keeps_regs [.MEM_ERR, .MEM_UEPTR, .MEM_UEADR]
    (Parts.within hT) (State.addSat_keeps_reg .MEM_ERR (Parts.within hT) (State.rowDue_keeps (Parts.within hT) h _ _)
    _)) _

theorem State.memFault_keeps (hT : Parts.le (Parts.of readParts) T) (h : Keeps T s0 s) (q n pa : Nat) :
    Keeps T s0 (s.memFault q n pa) :=
  State.fault_keeps (Parts.within hT) (State.ueFound_keeps (Parts.within hT) h _ _ _) _

theorem State.startUnreadable_keeps (hT : Parts.le (Parts.of (readParts ++
    ([.flights, .queues, .reg .QUE_STAT] : List Part))) T) (h : Keeps T s0 s) (q : Nat) (e : Status × Option Nat) :
    Keeps T s0 (s.startUnreadable q e) := by
  unfold State.startUnreadable
  extract_lets n s1
  have hs1 : Keeps T s0 s1 := State.launch_keeps (Parts.within hT) h _
  split
  · exact State.memFault_keeps (Parts.within hT) hs1 _ _ _
  · exact hs1

theorem State.newTag_keeps (hT : Parts.le (Parts.of [.flue]) T) (h : Keeps T s0 s) : Keeps T s0 s.newTag.2 :=
  State.flue_keeps hT h _ (by rfl)

theorem State.startRejected_keeps (hT : Parts.le (Parts.of (readParts ++
    ([.flights, .queues, .reg .QUE_STAT] : List Part))) T) (h : Keeps T s0 s) (q : Nat) (ws : List Byte)
    (e : Status × Option Nat) : Keeps T s0 (s.startRejected q ws e) := by
  unfold State.startRejected
  extract_lets n total src s1
  have hs1 : Keeps T s0 s1 := State.launch_keeps (Parts.within hT) h _
  split
  · exact State.memFault_keeps (Parts.within hT) hs1 _ _ _
  · exact hs1

theorem State.startAccepted_keeps (hT : Parts.le (Parts.of (traceParts ++
    ([.accNext, .atc, .coll, .flights, .flue, .hostMem, .queues, .reg .FLU_RED, .reg .QUE_STAT, .tlb] : List Part)))
    T) (h : Keeps T s0 s) (q : Nat) (ws : List Byte) (plan : Plan) : Keeps T s0 (s.startAccepted q ws plan) := by
  unfold State.startAccepted
  extract_lets n c eval s1 f keys resume first acted holds f1 s2 s3 r s4 s5 r1 s6 s7
  have hs1 : Keeps T s0 s1 := State.cachePages_keeps (Parts.within hT) h _ _
  have hs2 : Keeps T s0 s2 := State.accNext_keeps (Parts.within hT) hs1 _
  have hs3 : Keeps T s0 s3 := keeps_foldl _ hs2 fun _ _ hs => State.writeFolds_keeps (Parts.within hT) hs _ _ _
  have hs4 : Keeps T s0 s4 := ite_keeps (State.setQueue_keeps (Parts.within hT) hs3 _ _) hs3
  have hs5 : Keeps T s0 s5 := by
    unfold s5
    split
    · exact State.addSat_keeps_reg .FLU_RED (Parts.within hT) (State.coll_keeps (Parts.within hT)
        (State.newTag_keeps (Parts.within hT) hs4) _) _
    · exact hs4
  have hs6 : Keeps T s0 s6 := ite_keeps (State.setQueue_keeps (Parts.within hT) hs5 _ _) hs5
  have hs7 : Keeps T s0 s7 := State.launch_keeps (Parts.within hT) hs6 _
  exact ite_keeps (State.setQState_keeps (Parts.within hT) hs7 _ _) hs7

theorem State.startHead_keeps (hT : Parts.le (Parts.of (readParts ++
    ([.accNext, .atc, .coll, .flights, .flue, .hostMem, .queues, .reg .CXL_ERR, .reg .FLU_RED, .reg .QUE_STAT, .tlb] :
    List Part))) T) (h : Keeps T s0 s) (q : Nat) (ws : List Byte) : Keeps T s0 (s.startHead q ws) := by
  unfold State.startHead
  refine ite_keeps h ?_
  refine ite_keeps (State.setQState_keeps (Parts.within hT) h _ _) ?_
  split
  · exact State.startRejected_keeps (Parts.within hT) (ite_keeps (State.addSat_keeps_reg .CXL_ERR (Parts.within hT) h
      _) h) _ _ _
  · exact ite_keeps h (State.startAccepted_keeps (Parts.within hT) h _ _ _)

theorem State.startIfUnreadable_keeps (hT : Parts.le (Parts.of (readParts ++
    ([.flights, .queues, .reg .QUE_STAT] : List Part))) T) (h : Keeps T s0 s) (q : Nat) :
    Keeps T s0 (s.startIfUnreadable q) := by
  unfold State.startIfUnreadable
  refine ite_keeps ?_ h
  split
  · exact State.startUnreadable_keeps hT h _ _
  · exact h

theorem State.startRow_keeps (hT : Parts.le (Parts.of (readParts ++
    ([.accNext, .atc, .coll, .flights, .flue, .hostMem, .queues, .reg .CXL_ERR, .reg .FLU_RED, .reg .QUE_STAT, .tlb] :
    List Part))) T) (h : Keeps T s0 s) (q : Nat) (p : Nat → Bool) : Keeps T s0 (s.startRow q p) := by
  unfold State.startRow
  refine ite_keeps ?_ h
  split
  · exact State.startUnreadable_keeps (Parts.within hT) h _ _
  · exact ite_keeps (State.startHead_keeps hT h _ _) h

/-! ### Packets and ports -/

theorem State.swapRoutes_keeps (hT : Parts.le (Parts.of [.reg .FLU_RTE, .reg .FLU_RTGEN, .reg .FLU_TSTAT]) T)
    (h : Keeps T s0 s) : Keeps T s0 s.swapRoutes := by
  unfold State.swapRoutes
  extract_lets bad s1 s2 s3 p s4
  have hs1 : Keeps T s0 s1 := keeps_foldl _ h fun _ _ hs => State.setFs_keeps_regs [.FLU_RTE] (Parts.within hT) hs
  have hs2 : Keeps T s0 s2 := State.setFs_keeps_regs [.FLU_RTGEN] (Parts.within hT) hs1
  have hs3 : Keeps T s0 s3 := State.incF_keeps_reg .FLU_RTGEN (Parts.within hT) hs2 _
  have hs4 : Keeps T s0 s4 := State.setF_keeps_reg .FLU_TSTAT (Parts.within hT) hs3 _
  exact ite_keeps (State.setF_keeps_reg .FLU_TSTAT (Parts.within hT) hs4 _)
    (ite_keeps (State.setF_keeps_reg .FLU_TSTAT (Parts.within hT) hs4 _) hs4)

theorem State.loopback_keeps (hT : Parts.le (Parts.of [.ports]) T) (h : Keeps T s0 s) (pk : Packet) :
    Keeps T s0 (s.loopback pk) :=
  State.setPort_keeps hT h _ _

theorem State.enqueue_keeps (hT : Parts.le (Parts.of [.ports]) T) (h : Keeps T s0 s) (p req : Nat) (pk : Packet) :
    Keeps T s0 (s.enqueue p req pk) :=
  State.setPort_keeps hT h _ _

theorem State.inject_keeps (hT : Parts.le (Parts.of [.ports]) T) (h : Keeps T s0 s) (pk : Packet) :
    Keeps T s0 (s.inject pk) :=
  ite_keeps (State.loopback_keeps hT h _) (ite_keeps (ite_keeps h (State.loopback_keeps hT h _))
    (State.enqueue_keeps hT h _ _ _))

theorem State.injectAll_keeps (hT : Parts.le (Parts.of [.ports]) T) (h : Keeps T s0 s) (l : List Packet) :
    Keeps T s0 (s.injectAll l) :=
  ite_keeps (keeps_foldl _ h fun _ _ hs => State.inject_keeps hT hs _) h

theorem State.discardPacket_keeps (hT : Parts.le (Parts.of [.ports]) T) (h : Keeps T s0 s) (pk : Packet)
    (cause : Nat) : Keeps T s0 (s.discardPacket pk cause) :=
  ite_keeps h (State.inject_keeps hT h _)

theorem State.flood_keeps (hT : Parts.le (Parts.of [.ports]) T) (h : Keeps T s0 s) (ty : Nat) (args : List Nat)
    (except : Option Nat) : Keeps T s0 (s.flood ty args except) :=
  keeps_foldl _ h fun _ _ hs => State.enqueue_keeps hT hs _ _ _

theorem State.floodLink_keeps (hT : Parts.le (Parts.of [.flue, .ports]) T) (h : Keeps T s0 s) (p : Nat) (up : Bool) :
    Keeps T s0 (s.floodLink p up) :=
  State.flood_keeps (Parts.within hT) (State.flue_keeps (Parts.within hT) h _ (by rfl)) _ _ _

theorem State.floodEndpoint_keeps (hT : Parts.le (Parts.of [.flue, .ports]) T) (h : Keeps T s0 s) (ready : Bool) :
    Keeps T s0 (s.floodEndpoint ready) :=
  State.flood_keeps (Parts.within hT) (State.flue_keeps (Parts.within hT) h _ (by rfl)) _ _ _

theorem State.onWire_keeps (hT : Parts.le (Parts.of [.flue]) T) (h : Keeps T s0 s) (l : List Sent) :
    Keeps T s0 (s.onWire l) :=
  State.flue_keeps hT h _ (by rfl)

theorem State.sendSkip_keeps (hT : Parts.le (Parts.of [.flue, .ports]) T) (h : Keeps T s0 s) (p : Nat) :
    Keeps T s0 (s.sendSkip p) :=
  State.onWire_keeps (Parts.within hT) (State.setPort_keeps (Parts.within hT) h _ _) _

theorem State.putFrame_keeps (hT : Parts.le (Parts.of [.flue, .ports]) T) (h : Keeps T s0 s) (p : Nat)
    (f : Nat × Nat × List (Packet × Nat)) : Keeps T s0 (s.putFrame p f) :=
  State.onWire_keeps (Parts.within hT) (State.setPort_keeps (Parts.within hT)
    (ite_keeps (State.sendSkip_keeps hT h _) h) _ _) _

theorem State.countFlits_keeps (hT : Parts.le (Parts.of triggerParts) T) (h : Keeps T s0 s) (code p frames : Nat) :
    Keeps T s0 (s.countFlits code p frames) :=
  State.gcount_keeps hT h _ _

theorem State.newFrame_keeps (hT : Parts.le (Parts.of portParts) T) (h : Keeps T s0 s) (p : Nat)
    (l : List (Packet × Nat)) : Keeps T s0 (s.newFrame p l) :=
  State.countFlits_keeps (Parts.within hT) (State.putFrame_keeps (Parts.within hT)
    (State.setPort_keeps (Parts.within hT) h _ _) _ _) _ _ _

theorem State.placePacket_keeps (hT : Parts.le (Parts.of portParts) T) (h : Keeps T s0 s) (p : Nat) (pk : Packet) :
    Keeps T s0 (s.placePacket p pk) :=
  keeps_foldl _ (State.setPort_keeps (Parts.within hT) h _ _) fun _ _ hs => State.newFrame_keeps hT hs _ _

theorem State.fillFrame_keeps (hT : Parts.le (Parts.of portParts) T) (h : Keeps T s0 s) (p : Nat) :
    Keeps T s0 (s.fillFrame p) :=
  State.newFrame_keeps hT (State.setPort_keeps (Parts.within hT) h _ _) _ _

theorem State.sendLocal_keeps (hT : Parts.le (Parts.of portParts) T) (h : Keeps T s0 s) (p ty : Nat)
    (args : List Nat) : Keeps T s0 (s.sendLocal p ty args) :=
  State.fillFrame_keeps hT (State.setPort_keeps (Parts.within hT) h _ _) _

theorem State.replayFrom_keeps (hT : Parts.le (Parts.of [.flue, .ports, .reg .FLU_PERR]) T) (h : Keeps T s0 s)
    (p seq : Nat) : Keeps T s0 (s.replayFrom p seq) :=
  keeps_foldl _ (State.addSat_keeps_reg .FLU_PERR (Parts.within hT) (State.setPort_keeps (Parts.within hT) h _ _) _)
    fun _ _ hs => State.putFrame_keeps (Parts.within hT) hs _ _

theorem State.reportCredit_keeps (hT : Parts.le (Parts.of portParts) T) (h : Keeps T s0 s) (p : Nat) :
    Keeps T s0 (s.reportCredit p) :=
  State.sendLocal_keeps hT (State.setPort_keeps (Parts.within hT) h _ _) _ _ _

theorem State.freeFlits_keeps (hT : Parts.le (Parts.of portParts) T) (h : Keeps T s0 s) (p : Nat) (pk : Packet) :
    Keeps T s0 (s.freeFlits p pk) :=
  ite_keeps h (ite_keeps (State.reportCredit_keeps hT (State.setPort_keeps (Parts.within hT) h _ _) _)
    (State.setPort_keeps (Parts.within hT) h _ _))

theorem State.takeFirst_keeps (hT : Parts.le (Parts.of portParts) T) (h : Keeps T s0 s) (p : Nat) (f : Packet → Bool)
    {x : Packet × State} (he : s.takeFirst p f = some x) : Keeps T s0 x.2 := by
  obtain ⟨pk, -, rfl⟩ := Option.map_eq_some_iff.1 he
  exact State.freeFlits_keeps hT (State.setPort_keeps (Parts.within hT) h _ _) _ _

/-! ### Hearths -/

theorem State.syncHearths_keeps (hT : Parts.le (Parts.of (alertParts ++ irqParts ++ logParts ++
    ([.reg .ID_HEARTHS, .reg .ID_HMAP] : List Part))) T) (h : Keeps T s0 s) : Keeps T s0 s.syncHearths := by
  unfold State.syncHearths
  extract_lets on s1 s2 deg was s3 s4 s5
  have hs1 : Keeps T s0 s1 := keeps_foldl _ h fun _ _ hs => State.setF_keeps_reg .ID_HMAP (Parts.within hT) hs _
  have hs2 : Keeps T s0 s2 := State.setF_keeps_reg .ID_HEARTHS (Parts.within hT) hs1 _
  have hs3 : Keeps T s0 s3 := State.setF_keeps_reg .ID_HEARTHS (Parts.within hT) hs2 _
  have hs4 : Keeps T s0 s4 := State.alert_keeps (Parts.within hT) hs3
  have hs5 : Keeps T s0 s5 := State.logEvent_keeps (Parts.within hT) hs4 _ _ _
  exact ite_keeps (State.irq_keeps (Parts.within hT) hs5 _ _) (ite_keeps (State.irq_keeps (Parts.within hT) hs3 _ _)
    hs3)

theorem State.recordHearth_keeps (hT : Parts.le (Parts.of logParts) T) (h : Keeps T s0 s) (k st : Nat) :
    Keeps T s0 (s.recordHearth k st) :=
  State.stoker_keeps (Parts.within hT) (State.logEvent_keeps hT h _ _ _) _

theorem State.noteHearth_keeps (hT : Parts.le (Parts.of (logParts ++ ([.reg .HTH_STATE] : List Part))) T)
    (h : Keeps T s0 s) (k st : Nat) : Keeps T s0 (s.noteHearth k st) :=
  ite_keeps (State.recordHearth_keeps (Parts.within hT) (State.setF_keeps_reg .HTH_STATE (Parts.within hT) h _) _ _)
    (State.stoker_keeps (Parts.within hT) (State.setF_keeps_reg .HTH_STATE (Parts.within hT) h _) _)

theorem State.setHearthState_keeps (hT : Parts.le (Parts.of (alertParts ++ irqParts ++ logParts ++
    ([.reg .HTH_STATE, .reg .ID_HEARTHS, .reg .ID_HMAP] : List Part))) T) (h : Keeps T s0 s) (k st : Nat) :
    Keeps T s0 (s.setHearthState k st) :=
  State.syncHearths_keeps (Parts.within hT) (State.noteHearth_keeps (Parts.within hT) h _ _)

theorem State.countRun_keeps (hT : Parts.le (Parts.of (triggerParts ++ ([.free, .reg .OBS_CNT] : List Part))) T)
    (h : Keeps T s0 s) (f : Flight) (t : Nat) : Keeps T s0 (s.countRun f t) :=
  keeps_foldl _ h fun _ _ hs => ite_keeps (State.count_keeps (Parts.within hT)
    (State.fresh_keeps (Parts.within hT) (State.countAll_keeps (Parts.within hT) hs _ _)) _ _ _)
    (State.count_keeps (Parts.within hT) (State.fresh_keeps (Parts.within hT)
    (State.countAll_keeps (Parts.within hT) hs _ _)) _ _ _)

theorem State.countBusy_keeps (hT : Parts.le (Parts.of (triggerParts ++
    ([.free, .hearths, .reg .OBS_CNT] : List Part))) T) (h : Keeps T s0 s) (f : Flight) (t : Nat) :
    Keeps T s0 (s.countBusy f t) := by
  unfold State.countBusy
  extract_lets e c
  split
  rename_i n s he
  have hs : Keeps T s0 s := keeps_snd he (State.fresh_keeps (Parts.within hT) h)
  split
  · exact hs
  · exact ite_keeps (State.setHearth_keeps (Parts.within hT) (State.count_keeps (Parts.within hT) hs _ _ _) _ _)
      (ite_keeps (State.count_keeps (Parts.within hT) hs _ _ _) hs)

theorem State.runEnds_keeps (hT : Parts.le (Parts.of (triggerParts ++ ([.free, .hearths, .reg .OBS_CNT] : List Part)))
    T) (h : Keeps T s0 s) (f : Flight) (t : Nat) : Keeps T s0 (s.runEnds f t) :=
  ite_keeps (State.countRun_keeps (Parts.within hT) (State.countBusy_keeps hT h _ _) _ _)
    (State.countBusy_keeps hT h _ _)

theorem State.runCut_keeps (hT : Parts.le (Parts.of (triggerParts ++ ([.free, .hearths, .reg .OBS_CNT] : List Part)))
    T) (h : Keeps T s0 s) (f : Flight) (t : Nat) : Keeps T s0 (s.runCut f t) := by
  unfold State.runCut
  extract_lets c rd whole s1
  have hs1 : Keeps T s0 s1 := keeps_foldl _ (State.countBusy_keeps hT h _ _) fun _ _ hs => State.count_keeps
    (Parts.within hT) (State.fresh_keeps (Parts.within hT) hs) _ _ _
  exact ite_keeps (ite_keeps (State.count_keeps (Parts.within hT) (State.fresh_keeps (Parts.within hT) hs1) _ _ _)
    (State.count_keeps (Parts.within hT) (State.fresh_keeps (Parts.within hT) hs1) _ _ _)) h

theorem State.abandonOn_keeps (hT : Parts.le (Parts.of runParts) T) (h : Keeps T s0 s) (k : Nat) :
    Keeps T s0 (s.abandonOn k) :=
  State.flights_keeps (Parts.within hT) (keeps_foldl _ h fun _ _ hs => keeps_foldl _ hs fun _ _ hs =>
    State.runCut_keeps (Parts.within hT) hs _ _) _

theorem State.quarantine_keeps (hT : Parts.le (Parts.of (runParts ++ retireParts ++ ([.reg .HTH_CONE] : List Part)))
    T) (h : Keeps T s0 s) (k : Nat) : Keeps T s0 (s.quarantine k) :=
  ite_keeps (State.abandonOn_keeps (Parts.within hT) (State.setHearthState_keeps (Parts.within hT)
    (State.setF_keeps_reg .HTH_CONE (Parts.within hT) (State.setHearth_keeps (Parts.within hT) h _ _) _) _ _) _) h

theorem State.hearthMismatch_keeps (hT : Parts.le (Parts.of (runParts ++ retireParts ++
    ([.reg .HTH_CONE] : List Part))) T) (h : Keeps T s0 s) (k : Nat) : Keeps T s0 (s.hearthMismatch k) :=
  ite_keeps (State.quarantine_keeps hT (State.addSat_keeps_reg .HTH_STATE (Parts.within hT) h _) _)
    (State.setF_keeps_reg .HTH_CONE (Parts.within hT) (State.addSat_keeps_reg .HTH_STATE (Parts.within hT) h _) _)

theorem State.glazeFault_keeps (hT : Parts.le (Parts.of (runParts ++ retireParts ++
    ([.reg .HTH_CONE, .reg .HTH_GLZSTAT] : List Part))) T) (h : Keeps T s0 s) (b : Nat) :
    Keeps T s0 (s.glazeFault b) :=
  keeps_foldl _ (State.stoker_keeps (Parts.within hT) (State.setBit_keeps_reg .HTH_GLZSTAT (Parts.within hT) h _ _) _)
    fun _ _ hs => State.quarantine_keeps (Parts.within hT) hs _

theorem State.glazeMismatch_keeps (hT : Parts.le (Parts.of (runParts ++ retireParts ++
    ([.bays, .reg .HTH_CONE, .reg .HTH_GLZSTAT] : List Part))) T) (h : Keeps T s0 s) (b : Nat) :
    Keeps T s0 (s.glazeMismatch b) :=
  ite_keeps (State.glazeFault_keeps (Parts.within hT) (State.setBay_keeps (Parts.within hT) h _ _) _)
    (State.setBay_keeps (Parts.within hT) h _ _)

theorem State.unitMismatch_keeps (hT : Parts.le (Parts.of [.bays, .reg .HTH_GLZSTAT]) T) (h : Keeps T s0 s)
    (b : Nat) : Keeps T s0 (s.unitMismatch b) :=
  ite_keeps (State.setBit_keeps_reg .HTH_GLZSTAT (Parts.within hT) (State.setBay_keeps (Parts.within hT) h _ _) _ _)
    (State.setBay_keeps (Parts.within hT) h _ _)

/-! ### The dispatcher -/

theorem State.putAcc_keeps (hT : Parts.le (Parts.of lineParts) T) (h : Keeps T s0 s) (f : Flight) :
    Keeps T s0 (s.putAcc f) :=
  keeps_foldl _ h fun _ _ hs => State.dwrite_keeps hT hs _ _

theorem State.putFlight_keeps (hT : Parts.le (Parts.of (lineParts ++ ([.flights] : List Part))) T) (h : Keeps T s0 s)
    (f : Flight) : Keeps T s0 (s.putFlight f) :=
  State.putAcc_keeps (Parts.within hT) (State.putSlot_keeps (Parts.within hT)
    (State.setFlight_keeps (Parts.within hT) h _) _) _

theorem State.notePlaced_keeps (hT : Parts.le (Parts.of (traceParts ++ ([.bays, .hearths] : List Part))) T)
    (h : Keeps T s0 s) (ts : List Nat) (f : Flight) (t inst b : Nat) : Keeps T s0 (s.notePlaced ts f t inst b) :=
  State.traceRec_keeps (Parts.within hT) (ite_keeps (State.setHearth_keeps (Parts.within hT)
    (keeps_foldl _ h fun _ _ hs => State.setBay_keeps (Parts.within hT) hs _ _) _ _)
    (keeps_foldl _ h fun _ _ hs => State.setBay_keeps (Parts.within hT) hs _ _)) ..

theorem State.failTiles_keeps (hT : Parts.le (Parts.of runParts) T) (h : Keeps T s0 s) (f : Flight) (ts : List Nat)
    (st : Status) : Keeps T s0 (s.failTiles f ts st) :=
  State.putFlight_keeps (Parts.within hT) (keeps_foldl _ h fun _ _ hs => State.runCut_keeps (Parts.within hT) hs _ _)
    _

theorem State.failMemory_keeps (hT : Parts.le (Parts.of (readParts ++ runParts)) T) (h : Keeps T s0 s) (f : Flight)
    (ts : List Nat) (pa : Nat) : Keeps T s0 (s.failMemory f ts pa) :=
  State.failTiles_keeps (Parts.within hT) (State.fault_keeps (Parts.within hT)
    (State.ueFound_keeps (Parts.within hT) h _ _ _) _) _ _ _

theorem State.landTiles_keeps (hT : Parts.le (Parts.of runParts) T) (h : Keeps T s0 s) (f : Flight) (ts : List Nat) :
    Keeps T s0 (s.landTiles f ts) :=
  State.putFlight_keeps (Parts.within hT) (State.count_keeps (Parts.within hT)
    (keeps_foldl _ h fun _ _ hs => State.runEnds_keeps (Parts.within hT) hs _ _) _ _ _) _

theorem State.applyWrites_keeps (hT : Parts.le (Parts.of (triggerParts ++ ([.hostMem, .reg .OBS_CNT] : List Part))) T)
    (h : Keeps T s0 s) (c : Nat) (ws : Writes) : Keeps T s0 (s.applyWrites c ws) :=
  keeps_foldl _ h fun _ _ hs => State.count_keeps (Parts.within hT) (State.vwrite_keeps (Parts.within hT) hs _ _ _) _
    _ _

theorem State.holdPart_keeps (hT : Parts.le (Parts.of (readParts ++ runParts)) T) (h : Keeps T s0 s) (f : Flight)
    (t : Nat) : Keeps T s0 (s.holdPart f t) := by
  unfold State.holdPart
  split
  · exact State.failMemory_keeps hT h _ _ _
  · exact State.putFlight_keeps (Parts.within hT) (State.runEnds_keeps (Parts.within hT) h _ _) _

theorem State.landWrites_keeps (hT : Parts.le (Parts.of tileParts) T) (h : Keeps T s0 s) (f : Flight) (ts : List Nat)
    (reads : List (Nat × Nat)) (out : Option Writes) (events : List (Nat × Nat)) :
    Keeps T s0 (s.landWrites f ts reads out events) := by
  unfold State.landWrites
  extract_lets c
  split
  · exact State.failMemory_keeps (Parts.within hT) h _ _ _
  · split
    · exact State.failTiles_keeps (Parts.within hT) h _ _ _
    · exact State.landTiles_keeps (Parts.within hT) (State.countAll_keeps (Parts.within hT)
        (State.applyWrites_keeps (Parts.within hT) h _ _) _ _) _ _

theorem State.mergeLedger_keeps (hT : Parts.le (Parts.of (lineParts ++ ([.hostMem] : List Part))) T)
    (h : Keeps T s0 s) (c : Nat) (o : BbfOut) (u obs step : Nat) (repl : Bool) :
    Keeps T s0 (s.mergeLedger c o u obs step repl) := by
  unfold State.mergeLedger
  extract_lets t a
  split
  · exact h
  · exact State.vwrite_keeps hT h _ _ _

theorem State.flushUnits_keeps (hT : Parts.le (Parts.of (triggerParts ++
    ([.flights, .hostMem, .reg .OBS_CNT] : List Part))) T) (h : Keeps T s0 s) (q n : Nat) (p : Nat → Bool) :
    Keeps T s0 (s.flushUnits q n p) := by
  unfold State.flushUnits
  split
  · exact h
  · extract_lets due s1
    have hs1 : Keeps T s0 s1 := by
      unfold s1
      refine keeps_foldl _ h fun _ _ hs => ?_
      extract_lets s2
      have hs2 : Keeps T s0 s2 := State.applyWrites_keeps (Parts.within hT) hs _ _
      split
      · exact hs2
      · exact ite_keeps (State.mergeLedger_keeps (Parts.within hT) hs2 ..) hs2
    exact State.putFlight_keeps (Parts.within hT) hs1 _

theorem State.amaxTile_keeps (hT : Parts.le (Parts.of tileParts) T) (h : Keeps T s0 s) (f : Flight) (op : ConvOp)
    (o : BbfOut) (u : Nat) : Keeps T s0 (s.amaxTile f op o u) := by
  unfold State.amaxTile
  extract_lets c rd
  split
  · exact State.failMemory_keeps (Parts.within hT) h _ _ _
  · split
    · exact State.failTiles_keeps (Parts.within hT) h _ _ _
    · exact State.landTiles_keeps (Parts.within hT) (ite_keeps h (State.mergeLedger_keeps (Parts.within hT) h ..)) _ _

theorem State.landPacked_keeps (hT : Parts.le (Parts.of tileParts) T) (h : Keeps T s0 s) (f : Flight)
    (ps : List (MatOp × Option BbfOut)) : Keeps T s0 (s.landPacked f ps) := by
  unfold State.landPacked
  extract_lets c rd tiles s1
  have hs1 : Keeps T s0 s1 := State.flushUnits_keeps (Parts.within hT)
    (State.applyWrites_keeps (Parts.within hT) h _ _) _ _ _
  split
  · exact State.failMemory_keeps (Parts.within hT) h _ _ _
  · exact ite_keeps (State.failTiles_keeps (Parts.within hT) h _ _ _)
      (State.landTiles_keeps (Parts.within hT) hs1 _ _)

theorem State.completeTile_keeps (hT : Parts.le (Parts.of tileParts) T) (h : Keeps T s0 s) (f : Flight) (t : Nat) :
    Keeps T s0 (s.completeTile f t) := by
  unfold State.completeTile
  extract_lets c rd off
  split
  · extract_lets u ts tm tn
    split
    · exact ite_keeps (State.landTiles_keeps (Parts.within hT) h _ _) (State.holdPart_keeps (Parts.within hT) h _ _)
    · exact ite_keeps (State.holdPart_keeps (Parts.within hT) h _ _) (State.landWrites_keeps hT h ..)
  · exact State.landPacked_keeps hT h _ _
  · exact ite_keeps (State.amaxTile_keeps hT h ..) (State.landTiles_keeps (Parts.within hT) h _ _)
  · exact State.landWrites_keeps hT h ..
  · exact State.landWrites_keeps hT h ..
  · extract_lets n
    split
    · exact State.landTiles_keeps (Parts.within hT) h _ _
    · exact State.landTiles_keeps (Parts.within hT) h _ _
    · exact State.landWrites_keeps hT h ..
  · exact ite_keeps (State.landTiles_keeps (Parts.within hT) h _ _) (State.landWrites_keeps hT h ..)
  · exact State.landWrites_keeps hT h ..
  · exact State.landTiles_keeps (Parts.within hT) h _ _

/-! ### Emission -/

theorem State.countUnit_keeps (hT : Parts.le (Parts.of (triggerParts ++ ([.free, .reg .OBS_CNT] : List Part))) T)
    (h : Keeps T s0 s) (f : Flight) (pi u : Nat) : Keeps T s0 (s.countUnit f pi u) := by
  unfold State.countUnit
  split
  · rename_i ps _
    cases ps[pi]? with
    | none => exact h
    | some q => exact State.countRun_keeps hT h _ _
  · exact keeps_foldl _ h fun s x hs => State.countRun_keeps hT hs _ _
  · exact h

theorem State.writeUnit_keeps (hT : Parts.le (Parts.of (triggerParts ++
    ([.flights, .hostMem, .reg .OBS_CNT] : List Part))) T) (h : Keeps T s0 s) (f : Flight) (o : BbfOut) (lu u : Nat)
    (out : UnitOut) (wide : Bool) : Keeps T s0 (s.writeUnit f o lu u out wide) :=
  State.flushUnits_keeps hT (State.setFlight_keeps (Parts.within hT) (State.countAll_keeps (Parts.within hT) h _ _) _)
    _ _ _

theorem State.logRing_keeps (hT : Parts.le (Parts.of (traceParts ++ ringParts)) T) (h : Keeps T s0 s) (c q : Nat)
    (rec' : List Byte) : Keeps T s0 (s.logRing c q rec') :=
  State.traceRec_keeps (Parts.within hT) (State.ring_keeps (Parts.within hT) h _ _) ..

theorem State.decideEsc_keeps (hT : Parts.le (Parts.of (runParts ++ ringParts)) T) (h : Keeps T s0 s) (q n : Nat) :
    Keeps T s0 (s.decideEsc q n) := by
  unfold State.decideEsc
  split
  · exact h
  · exact ite_keeps (ite_keeps (State.putFlight_keeps (Parts.within hT)
      (keeps_foldl _ (State.count_keeps (Parts.within hT) h _ _ _) fun _ _ hs => State.runCut_keeps (Parts.within hT)
      hs _ _) _) (State.logRing_keeps (Parts.within hT) (State.putFlight_keeps (Parts.within hT)
      (State.count_keeps (Parts.within hT) h _ _ _) _) _ _ _)) h

theorem State.encodeUnit_keeps (hT : Parts.le (Parts.of tileParts) T) (h : Keeps T s0 s) (f : Flight) (u : Nat)
    (wide : Bool) : Keeps T s0 (s.encodeUnit f u wide) := by
  unfold State.encodeUnit
  split
  · exact h
  · extract_lets c rd ts
    split
    · exact State.failMemory_keeps (Parts.within hT) h _ _ _
    · split
      · exact State.failTiles_keeps (Parts.within hT) h _ _ _
      · exact ite_keeps (State.writeUnit_keeps (Parts.within hT) (State.countUnit_keeps (Parts.within hT)
          (State.countUnit_keeps (Parts.within hT) h _ _ _) _ _ _) ..) (State.writeUnit_keeps (Parts.within hT) h ..)

theorem execGlazeEncode_keeps (hT : Parts.le (Parts.of (tileParts ++ ringParts)) T) (h : Keeps T s0 s) (q : Fin 64)
    (n unit : Nat) : KeepsOut T s0 (execGlazeEncode q n unit s) := by
  unfold execGlazeEncode
  split
  · exact keepsOut_next (State.decideEsc_keeps (Parts.within hT) (State.encodeUnit_keeps (Parts.within hT) h _ _ _) _
      _)
  · exact keepsOut_next h

theorem State.beginEmission_keeps (hT : Parts.le (Parts.of runParts) T) (h : Keeps T s0 s) (f : Flight) (op : UpdOp)
    (o : BbfOut) : Keeps T s0 (s.beginEmission f op o) :=
  ite_keeps (State.putFlight_keeps (Parts.within hT) h _) (State.failTiles_keeps hT
    (State.putFlight_keeps (Parts.within hT) h _) _ _ _)

theorem execNarrowEmission_keeps (hT : Parts.le (Parts.of runParts) T) (h : Keeps T s0 s) (q : Fin 64) (n : Nat) :
    KeepsOut T s0 (execNarrowEmission q n s) := by
  unfold execNarrowEmission
  split
  · exact keepsOut_next (State.beginEmission_keeps hT h _ _ _)
  · exact keepsOut_next h

/-! ### Tiles -/

theorem State.sendRemote_keeps (hT : Parts.le (Parts.of (portParts ++ ([.flights, .reg .OBS_CNT] : List Part))) T)
    (h : Keeps T s0 s) (f : Flight) (t ty port dst lines : Nat) (args : List Nat) (data : List Byte) :
    Keeps T s0 (s.sendRemote f t ty port dst lines args data) := by
  unfold State.sendRemote
  split
  · exact h
  · exact State.injectAll_keeps (Parts.within hT) (State.count_keeps (Parts.within hT)
      (State.setFlight_keeps (Parts.within hT) (State.newTag_keeps (Parts.within hT) h) _) _ _ _) _

theorem State.sendSpill_keeps (hT : Parts.le (Parts.of (readParts ++ runParts ++ portParts)) T) (h : Keeps T s0 s)
    (f : Flight) (op : MoveOp) (port t : Nat) : Keeps T s0 (s.sendSpill f op port t) := by
  unfold State.sendSpill
  extract_lets c off n
  split
  · exact State.failMemory_keeps (Parts.within hT) h _ _ _
  · exact ite_keeps (State.failTiles_keeps (Parts.within hT) h _ _ _)
      (keeps_foldl _ h fun _ _ hs => State.sendRemote_keeps (Parts.within hT) hs ..)

theorem State.sendFetch_keeps (hT : Parts.le (Parts.of (runParts ++ portParts)) T) (h : Keeps T s0 s) (f : Flight)
    (op : MoveOp) (port t : Nat) : Keeps T s0 (s.sendFetch f op port t) :=
  ite_keeps (State.failTiles_keeps (Parts.within hT) h _ _ _) (keeps_foldl _ h fun _ _ hs => State.sendRemote_keeps
    (Parts.within hT) hs ..)

theorem State.tileStarted_keeps (hT : Parts.le (Parts.of (readParts ++ runParts ++ portParts)) T) (h : Keeps T s0 s)
    (q n t : Nat) : Keeps T s0 (s.tileStarted q n t) := by
  unfold State.tileStarted
  split
  · exact h
  · split
    · split
      · exact State.sendSpill_keeps hT h ..
      · exact State.sendFetch_keeps (Parts.within hT) h ..
      · exact h
    · exact h

theorem State.placeGroup_keeps (hT : Parts.le (Parts.of (readParts ++ runParts ++ portParts ++ ([.bays] : List Part)))
    T) (h : Keeps T s0 s) (f : Flight) (ts : List Nat) (b : Nat) : Keeps T s0 (s.placeGroup f ts b) :=
  keeps_foldl _ (keeps_foldl _ (State.putFlight_keeps (Parts.within hT) h _) fun _ _ hs => State.notePlaced_keeps
    (Parts.within hT) hs ..) fun _ _ hs => State.tileStarted_keeps (Parts.within hT) hs _ _ _

theorem State.passQueue_keeps (hT : Parts.le (Parts.of [.damper]) T) (h : Keeps T s0 s) (q : Nat) (aged : Bool) :
    Keeps T s0 (s.passQueue q aged) :=
  ite_keeps h (State.damper_keeps hT h _)

theorem State.placeCycle_keeps (hT : Parts.le (Parts.of (readParts ++ runParts ++ portParts ++
    ([.bays, .damper] : List Part))) T) (h : Keeps T s0 s) (aged : List Nat) : Keeps T s0 (s.placeCycle aged) := by
  unfold State.placeCycle
  split
  · exact h
  · exact State.passQueue_keeps (Parts.within hT) (State.placeGroup_keeps (Parts.within hT) h _ _ _) _ _

theorem execTilePlace_keeps (hT : Parts.le (Parts.of (readParts ++ runParts ++ portParts ++
    ([.bays, .damper] : List Part))) T) (h : Keeps T s0 s) (aged : List (Fin 64)) :
    KeepsOut T s0 (execTilePlace aged s) :=
  onlyIf_keeps h _ (fun _ hs => State.placeCycle_keeps hT hs _)

theorem State.noteFailure_keeps (hT : Parts.le (Parts.of (runParts ++ retireParts ++
    ([.bays, .reg .HTH_CONE, .reg .HTH_GLZSTAT] : List Part))) T) (h : Keeps T s0 s) (f : Flight) (r : Running)
    (cause : FailCause) : Keeps T s0 (s.noteFailure f r cause) := by
  unfold State.noteFailure
  extract_lets c b inst ev
  have hev : ∀ s place unit op, Keeps T s0 s → Keeps T s0 (ev s place unit op) := fun s _ _ _ hs =>
    State.logEvent_keeps (Parts.within hT) hs _ _ _
  have hc : ∀ e, Keeps T s0 (s.count c e 1) := fun e => State.count_keeps (Parts.within hT) h _ _ _
  split
  · exact State.hearthMismatch_keeps (Parts.within hT) (hev _ _ _ _ (hc _)) _
  · exact State.hearthMismatch_keeps (Parts.within hT) (hev _ _ _ _ (hc _)) _
  · exact State.glazeMismatch_keeps (Parts.within hT) (hev _ _ _ _ (hc _)) _
  · exact State.unitMismatch_keeps (Parts.within hT) (hev _ _ _ _ (hc _)) _
  · exact h

theorem State.retryOrFail_keeps (hT : Parts.le (Parts.of runParts) T) (h : Keeps T s0 s) (q n t inst : Nat)
    (bayOut : Bool) : Keeps T s0 (s.retryOrFail q n t inst bayOut) := by
  unfold State.retryOrFail
  split
  · exact h
  · exact ite_keeps (State.putFlight_keeps (Parts.within hT) (State.count_keeps (Parts.within hT)
      (keeps_foldl _ h fun _ _ hs => State.runCut_keeps (Parts.within hT) hs _ _) _ _ _) _)
      (State.failTiles_keeps hT h _ _ _)

theorem State.tileFails_keeps (hT : Parts.le (Parts.of (readParts ++ runParts ++ retireParts ++
    ([.bays, .reg .HTH_CONE, .reg .HTH_GLZSTAT] : List Part))) T) (h : Keeps T s0 s) (f : Flight) (r : Running)
    (cause : FailCause) : Keeps T s0 (s.tileFails f r cause) := by
  unfold State.tileFails
  split
  · exact State.failMemory_keeps (Parts.within hT) (State.setBad_keeps (Parts.within hT) h _ _) _ _ _
  · exact State.retryOrFail_keeps (Parts.within hT) (State.noteFailure_keeps (Parts.within hT) h _ _ _) ..

theorem State.escFailure_keeps (hT : Parts.le (Parts.of (runParts ++ retireParts ++
    ([.bays, .reg .HTH_CONE, .reg .HTH_GLZSTAT] : List Part))) T) (h : Keeps T s0 s) (q n : Nat)
    (x : Nat × Nat × FailCause) : Keeps T s0 (s.escFailure q n x) := by
  unfold State.escFailure
  split
  · exact h
  · exact ite_keeps (State.retryOrFail_keeps (Parts.within hT) (State.noteFailure_keeps hT h _ _ _) ..) h

theorem State.escalate_keeps (hT : Parts.le (Parts.of (tileParts ++ retireParts ++ ringParts ++
    ([.bays, .reg .HTH_CONE, .reg .HTH_GLZSTAT] : List Part))) T) (h : Keeps T s0 s) (f : Flight) (e : EscState)
    (fails : List (Nat × Nat × FailCause)) : Keeps T s0 (s.escalate f e fails) := by
  unfold State.escalate
  extract_lets s1 s2 s3
  have hs1 : Keeps T s0 s1 := keeps_foldl _ h fun _ _ hs => State.escFailure_keeps (Parts.within hT) hs _ _ _
  have hs2 : Keeps T s0 s2 := by
    unfold s2
    refine keeps_foldl _ hs1 fun _ _ hs => ?_
    split
    · exact hs
    · exact ite_keeps hs (State.encodeUnit_keeps (Parts.within hT) hs _ _ _)
  have hs3 : Keeps T s0 s3 := by
    unfold s3
    split
    · exact ite_keeps (State.landPacked_keeps (Parts.within hT) hs2 _ _) hs2
    · exact hs2
  split
  · exact hs3
  · exact State.logRing_keeps (Parts.within hT) (State.putFlight_keeps (Parts.within hT)
      (State.count_keeps (Parts.within hT) hs3 _ _ _) _) _ _ _

theorem execEscalationPass_keeps (hT : Parts.le (Parts.of (tileParts ++ retireParts ++ ringParts ++
    ([.bays, .reg .HTH_CONE, .reg .HTH_GLZSTAT] : List Part))) T) (h : Keeps T s0 s) (q : Fin 64) (p : PassEnd) :
    KeepsOut T s0 (execEscalationPass q p s) := by
  unfold execEscalationPass
  split
  · split
    · exact keepsOut_next (State.escalate_keeps hT h _ _ _)
    · exact keepsOut_next h
  · exact keepsOut_next h

/-! ### Collectives -/

theorem State.setEntry_keeps (hT : Parts.le (Parts.of [.coll]) T) (h : Keeps T s0 s) (e : CollEntry) :
    Keeps T s0 (s.setEntry e) :=
  State.coll_keeps hT h _

theorem State.freeEntry_keeps (hT : Parts.le (Parts.of [.coll, .reg .FLU_RED]) T) (h : Keeps T s0 s) (q n : Nat) :
    Keeps T s0 (s.freeEntry q n) := by
  unfold State.freeEntry
  split
  · exact h
  · exact State.setF_keeps_reg .FLU_RED (Parts.within hT) (State.coll_keeps (Parts.within hT) h _) _

theorem State.sendCtl_keeps (hT : Parts.le (Parts.of [.ports]) T) (h : Keeps T s0 s) (e : CollEntry) (op : RedOp)
    (kind sl toHeap dir k : Nat) : Keeps T s0 (s.sendCtl e op kind sl toHeap dir k) :=
  State.injectAll_keeps hT h _

theorem State.sendData_keeps (hT : Parts.le (Parts.of (triggerParts ++ ([.ports, .reg .OBS_CNT] : List Part))) T)
    (h : Keeps T s0 s) (e : CollEntry) (op : RedOp) (sl toHeap dir k : Nat) (more : List Nat) (data : List Byte) :
    Keeps T s0 (s.sendData e op sl toHeap dir k more data) :=
  State.injectAll_keeps (Parts.within hT) (State.count_keeps (Parts.within hT) h _ _ _) _

theorem State.abortKey_keeps (hT : Parts.le (Parts.of (collParts ++ lineParts)) T) (h : Keeps T s0 s) (e : CollEntry)
    (st : Option Status) (from? : Option Nat) : Keeps T s0 (s.abortKey e st from?) := by
  unfold State.abortKey
  split
  · exact h
  · split
    · exact h
    · exact State.putFlight_keeps (Parts.within hT) (State.freeEntry_keeps (Parts.within hT)
        (keeps_foldl _ h fun _ _ hs => State.injectAll_keeps (Parts.within hT) hs _) _ _) _

theorem State.ownDataBad_keeps (hT : Parts.le (Parts.of (readParts ++ collParts)) T) (h : Keeps T s0 s)
    (e : CollEntry) (sl pa : Nat) : Keeps T s0 (s.ownDataBad e sl pa) :=
  State.abortKey_keeps (Parts.within hT) (State.fault_keeps (Parts.within hT)
    (State.ueFound_keeps (Parts.within hT) h _ _ _) _) _ _ _

theorem State.sliceFailed_keeps (hT : Parts.le (Parts.of (runParts ++ collParts)) T) (h : Keeps T s0 s) (f : Flight)
    (t : Nat) : Keeps T s0 (s.sliceFailed f t) := by
  unfold State.sliceFailed
  extract_lets s1
  have hs1 : Keeps T s0 s1 := State.failTiles_keeps (Parts.within hT) h _ _ _
  split
  · exact hs1
  · exact State.abortKey_keeps (Parts.within hT) hs1 _ _ _

theorem State.chunkUp_keeps (hT : Parts.le (Parts.of (readParts ++ collParts ++
    ([.hostMem, .reg .OBS_CNT] : List Part))) T) (h : Keeps T s0 s) (e : CollEntry) (op : RedOp) (f : Flight)
    (sl k : Nat) : Keeps T s0 (s.chunkUp e op f sl k) := by
  unfold State.chunkUp
  extract_lets c a own root first lane dig more used s1 s2
  have hs1 : Keeps T s0 s1 := ite_keeps (State.vwrite_keeps (Parts.within hT) h _ _ _)
    (State.vwrite_keeps (Parts.within hT) h _ _ _)
  have hs2 : Keeps T s0 s2 := State.setEntry_keeps (Parts.within hT) h _
  split
  · exact State.ownDataBad_keeps (Parts.within hT) h _ _ _
  · exact ite_keeps (State.setEntry_keeps (Parts.within hT) hs1 _) (State.sendData_keeps (Parts.within hT) hs2 ..)

theorem State.chunkDown_keeps (hT : Parts.le (Parts.of (readParts ++ collParts ++ ([.reg .OBS_CNT] : List Part))) T)
    (h : Keeps T s0 s) (e : CollEntry) (op : RedOp) (sl y k : Nat) : Keeps T s0 (s.chunkDown e op sl y k) := by
  unfold State.chunkDown
  extract_lets c a payload more s1
  have hs1 : Keeps T s0 s1 := State.setEntry_keeps (Parts.within hT) h _
  split
  · exact State.ownDataBad_keeps (Parts.within hT) h _ _ _
  · exact State.sendData_keeps (Parts.within hT) hs1 ..

theorem State.pumpChunk_keeps (hT : Parts.le (Parts.of (readParts ++ collParts ++
    ([.hostMem, .reg .OBS_CNT] : List Part))) T) (h : Keeps T s0 s) (q n sl k : Nat) :
    Keeps T s0 (s.pumpChunk q n sl k) := by
  unfold State.pumpChunk
  extract_lets up down ack kids
  have hup : ∀ s, Keeps T s0 s → Keeps T s0 (up s) := by
    intro s hs
    unfold up
    split
    · split
      · exact ite_keeps (State.chunkUp_keeps hT hs ..) hs
      · exact hs
    · exact hs
  have hdown : ∀ c s, Keeps T s0 s → Keeps T s0 (down c s) := by
    intro c s hs
    unfold down
    split
    · split
      · exact ite_keeps (State.chunkDown_keeps (Parts.within hT) hs ..) hs
      · exact hs
    · exact hs
  have hack : ∀ s, Keeps T s0 s → Keeps T s0 (ack s) := by
    intro s hs
    unfold ack
    split
    · split
      · exact ite_keeps (State.sendCtl_keeps (Parts.within hT) (State.setEntry_keeps (Parts.within hT) hs _) ..) hs
      · exact hs
    · exact hs
  exact hack _ (keeps_foldl _ (hup s h) fun s c hs => hdown c s hs)

theorem State.markSlices_keeps (hT : Parts.le (Parts.of (triggerParts ++ ([.flights, .reg .OBS_CNT] : List Part))) T)
    (h : Keeps T s0 s) (q n : Nat) : Keeps T s0 (s.markSlices q n) := by
  unfold State.markSlices
  split
  · split
    · exact ite_keeps h (State.putFlight_keeps (Parts.within hT) (State.count_keeps (Parts.within hT) h _ _ _) _)
    · exact h
  · exact h

theorem State.pump_keeps (hT : Parts.le (Parts.of (readParts ++ collParts ++ ([.hostMem, .reg .OBS_CNT] : List Part)))
    T) (h : Keeps T s0 s) (q n : Nat) : Keeps T s0 (s.pump q n) := by
  unfold State.pump
  split
  · exact h
  · exact State.markSlices_keeps (Parts.within hT) (keeps_foldl _ h fun _ _ hs => keeps_foldl _ hs fun _ _ hs =>
      State.pumpChunk_keeps hT hs ..) _ _

theorem State.openColl_keeps (hT : Parts.le (Parts.of (readParts ++ portParts ++ collParts ++
    ([.hostMem, .reg .OBS_CNT] : List Part))) T) (h : Keeps T s0 s) (q n : Nat) : Keeps T s0 (s.openColl q n) := by
  unfold State.openColl
  split
  · split
    · exact State.pump_keeps (Parts.within hT) (keeps_foldl _ (State.flue_keeps (Parts.within hT)
        (State.setEntry_keeps (Parts.within hT) (State.putFlight_keeps (Parts.within hT) h _) _) _ (by rfl))
        fun _ _ hs => keeps_foldl _ hs fun _ _ hs => State.sendCtl_keeps (Parts.within hT) hs ..) _ _
    · exact h
  · exact h

theorem State.abortRank_keeps (hT : Parts.le (Parts.of (collParts ++ lineParts)) T) (h : Keeps T s0 s) (rank : Nat) :
    Keeps T s0 (s.abortRank rank) :=
  keeps_foldl _ h fun _ _ hs => State.abortKey_keeps hT hs _ _ _

theorem State.d2dCorrSet_keeps (hT : Parts.le (Parts.of [.d2dCorr]) T) (h : Keeps T s0 s) (k v : Nat) :
    Keeps T s0 { s with d2dCorr := s.d2dCorr.set 0 k v } :=
  keeps_change h hT (by intro p; cases p <;> simp [Part.same, State.getF]) rfl (le_refl _) (Fuses.growsTo_refl _)
    (canon_stores id id id id id id id id id id id id id (Store.wf_set _ _))

theorem State.countCorrected_keeps (hT : Parts.le (Parts.of [.d2dCorr, .hearths]) T) (h : Keeps T s0 s) (f : Flight)
    (t reads : Nat) (links : List (Fin 6 × Nat)) : Keeps T s0 (s.countCorrected f t reads links) := by
  unfold State.countCorrected
  extract_lets s1
  have hs1 : Keeps T s0 s1 := keeps_foldl _ h fun s x hs => State.d2dCorrSet_keeps (Parts.within hT) hs _ _
  split
  · exact ite_keeps (State.setHearth_keeps (Parts.within hT) hs1 _ _) hs1
  · exact hs1

theorem State.tileEnds_keeps (hT : Parts.le (Parts.of (tileParts ++ ringParts ++ ([.reg .CXL_ERR] : List Part))) T)
    (h : Keeps T s0 s) (f : Flight) (t : Nat) : Keeps T s0 (s.tileEnds f t) := by
  unfold State.tileEnds
  extract_lets inst s'
  have hs' : Keeps T s0 s' := ite_keeps (State.retryOrFail_keeps (Parts.within hT)
    (State.addSat_keeps_reg .CXL_ERR (Parts.within hT) h _) ..) (State.completeTile_keeps (Parts.within hT) h _ _)
  exact ite_keeps hs' (State.decideEsc_keeps (Parts.within hT) hs' _ _)

theorem execTileComplete_keeps (hT : Parts.le (Parts.of (tileParts ++ ringParts ++
    ([.d2dCorr, .reg .CXL_ERR] : List Part))) T) (h : Keeps T s0 s) (q : Fin 64) (n : Nat) (e : TileEnd) :
    KeepsOut T s0 (execTileComplete q n e s) := by
  unfold execTileComplete
  split
  · exact keepsOut_next (State.tileEnds_keeps (Parts.within hT) (State.countCorrected_keeps (Parts.within hT) h ..) _
      _)
  · exact keepsOut_next h

theorem State.sliceFails_keeps (hT : Parts.le (Parts.of (runParts ++ collParts ++ logParts)) T) (h : Keeps T s0 s)
    (f : Flight) (t : Nat) : Keeps T s0 (s.sliceFails f t) := by
  unfold State.sliceFails
  extract_lets s1
  have hs1 : Keeps T s0 s1 := State.logEvent_keeps (Parts.within hT) (State.count_keeps (Parts.within hT) h _ _ _) _ _
    _
  exact ite_keeps (State.putFlight_keeps (Parts.within hT) (State.count_keeps (Parts.within hT) hs1 _ _ _) _)
    (State.sliceFailed_keeps (Parts.within hT) hs1 _ _)

theorem execTileFail_keeps (hT : Parts.le (Parts.of (readParts ++ runParts ++ retireParts ++ ringParts ++ collParts ++
    ([.bays, .reg .HTH_CONE, .reg .HTH_GLZSTAT] : List Part))) T) (h : Keeps T s0 s) (q : Fin 64) (n tile : Nat)
    (cause : FailCause) : KeepsOut T s0 (execTileFail q n tile cause s) := by
  unfold execTileFail
  split
  · exact onlyIf_keeps h _ (fun _ hs => State.decideEsc_keeps (Parts.within hT)
      (State.tileFails_keeps (Parts.within hT) hs _ _ _) _ _)
  · exact keepsOut_next (State.sliceFails_keeps (Parts.within hT) h _ _)
  · exact keepsOut_next h

/-! ### The end of tiles and commands -/

theorem State.settle_keeps (hT : Parts.le (Parts.of [.reg .QUE_STAT]) T) (h : Keeps T s0 s) (q : Nat) :
    Keeps T s0 (s.settle q) :=
  ite_keeps h (ite_keeps (State.setQState_keeps hT h _ _) (ite_keeps (State.setQState_keeps hT h _ _)
    (ite_keeps (State.setQState_keeps hT h _ _) h)))

theorem State.haltQueue_keeps (hT : Parts.le (Parts.of (triggerParts ++
    ([.reg .QUE_CTL, .reg .QUE_STAT, .reg .SYNC] : List Part))) T) (h : Keeps T s0 s) (q : Nat) :
    Keeps T s0 (s.haltQueue q) :=
  State.setQState_keeps (Parts.within hT) (State.setF_keeps_reg .QUE_CTL (Parts.within hT)
    (ite_keeps (State.syncAdd_keeps (Parts.within hT) h ..) h) _) _ _

theorem State.ftMap_keeps (hT : Parts.le (Parts.of (lineParts ++ ([.hostMem] : List Part))) T) (h : Keeps T s0 s)
    (c first count : Nat) (g : State → FtEntry → FtEntry) : Keeps T s0 (s.ftMap c first count g) :=
  keeps_foldl _ h fun _ _ hs => ite_keeps hs (State.vwrite_keeps hT hs _ _ _)

theorem State.precisionApply_keeps (hT : Parts.le (Parts.of (lineParts ++ ([.hostMem] : List Part))) T)
    (h : Keeps T s0 s) (f : Flight) : Keeps T s0 (s.precisionApply f) := by
  unfold State.precisionApply
  exact State.ftMap_keeps hT (State.ftMap_keeps hT (State.ftMap_keeps hT h _ _ _ _) _ _ _ _) _ _ _ _

theorem State.tapOne_keeps (hT : Parts.le (Parts.of ringParts) T) (h : Keeps T s0 s) (f : Flight) (src : Nat)
    (t : TDesc) (tapId hb dseed : Nat) : Keeps T s0 (s.tapOne f src t tapId hb dseed) :=
  State.ring_keeps hT h _ _

theorem State.tapAll_keeps (hT : Parts.le (Parts.of ringParts) T) (h : Keeps T s0 s) (f : Flight) :
    Keeps T s0 (s.tapAll f) :=
  ite_keeps (State.tapOne_keeps hT h ..) (ite_keeps (keeps_foldl _ h fun _ _ hs => State.tapOne_keeps hT hs ..) h)

theorem State.addStats_keeps (hT : Parts.le (Parts.of (lineParts ++ ([.hostMem] : List Part))) T) (h : Keeps T s0 s)
    (f : Flight) : Keeps T s0 (s.addStats f) :=
  keeps_foldl _ h fun _ _ hs => State.vwrite_keeps hT hs _ _ _

theorem State.countUnits_keeps (hT : Parts.le (Parts.of (triggerParts ++ ([.reg .OBS_CNT] : List Part))) T)
    (h : Keeps T s0 s) (f : Flight) : Keeps T s0 (s.countUnits f) :=
  State.countAll_keeps hT h _ _

theorem State.countReads_keeps (hT : Parts.le (Parts.of (triggerParts ++ ([.reg .OBS_CNT] : List Part))) T)
    (h : Keeps T s0 s) (f : Flight) : Keeps T s0 (s.countReads f) :=
  State.countAll_keeps hT h _ _

theorem State.writeDigest_keeps (hT : Parts.le (Parts.of (triggerParts ++ ([.hostMem, .reg .OBS_CNT] : List Part))) T)
    (h : Keeps T s0 s) (f : Flight) : Keeps T s0 (s.writeDigest f) := by
  unfold State.writeDigest
  extract_lets c
  split
  · exact ite_keeps h (State.applyWrites_keeps hT h _ _)
  · exact State.applyWrites_keeps hT h _ _
  · exact h

theorem State.applyLane_keeps (hT : Parts.le (Parts.of (lineParts ++ ([.hostMem] : List Part))) T) (h : Keeps T s0 s)
    (f : Flight) : Keeps T s0 (s.applyLane f) := by
  unfold State.applyLane
  split
  · exact keeps_foldl _ h fun _ _ hs => ite_keeps hs (State.vwrite_keeps hT hs _ _ _)
  · exact h

theorem State.noteDigest_keeps (hT : Parts.le (Parts.of (triggerParts ++ ([.reg .OBS_CNT] : List Part))) T)
    (h : Keeps T s0 s) (f : Flight) : Keeps T s0 (s.noteDigest f) := by
  unfold State.noteDigest
  split
  · exact ite_keeps h (ite_keeps (State.setF_keeps_reg .OBS_TRSTAT (Parts.within hT) (State.count_keeps hT h _ _ _) _)
      (State.count_keeps hT h _ _ _))
  · exact h

theorem State.applySignals_keeps (hT : Parts.le (Parts.of (triggerParts ++ ([.reg .SYNC] : List Part))) T)
    (h : Keeps T s0 s) (f : Flight) : Keeps T s0 (s.applySignals f).1 := by
  refine keeps_foldl_fst _ h fun p x hp => ?_
  split
  · exact hp
  · exact State.syncAdd_keeps hT hp ..

theorem State.writeBitmap_keeps (hT : Parts.le (Parts.of (triggerParts ++
    ([.arena, .hostMem, .reg .OBS_CNT] : List Part))) T) (h : Keeps T s0 s) (f : Flight) :
    Keeps T s0 (s.writeBitmap f).2 := by
  unfold State.writeBitmap
  split
  · exact h
  · extract_lets c need len next at' bytes s1
    have hs1 : Keeps T s0 s1 := State.arena_keeps (Parts.within hT) h _
    split
    · exact h
    · exact State.applyWrites_keeps (Parts.within hT) hs1 _ _

theorem State.finish_keeps (hT : Parts.le (Parts.of (triggerParts ++ ringParts ++ irqParts ++
    ([.arena, .coll, .flights, .free, .hostMem, .reg .FLU_RED, .reg .OBS_CNT, .reg .QUE_CTL, .reg .QUE_STAT,
    .reg .SYNC] : List Part))) T) (h : Keeps T s0 s) (f : Flight) (st : Status) : Keeps T s0 (s.finish f st) := by
  unfold State.finish
  extract_lets q c
  split
  rename_i bitmap s he
  have hs : Keeps T s0 s := keeps_snd he (State.writeBitmap_keeps (Parts.within hT) h _)
  split
  rename_i cycles s he
  have hs : Keeps T s0 s := keeps_snd he (State.fresh_keeps (Parts.within hT) hs)
  extract_lets s1 ends s2 s3 s4 s5 s6 s7 s8 s9 s10 s11
  have hs1 : Keeps T s0 s1 := State.applyWrites_keeps (Parts.within hT) hs _ _
  have hs2 : Keeps T s0 s2 := State.setF_keeps_reg .QUE_STAT (Parts.within hT) hs1 _
  have hs3 : Keeps T s0 s3 := ite_keeps (State.ring_keeps (Parts.within hT) hs2 _ _) hs2
  have hs4 : Keeps T s0 s4 := State.countAll_keeps (Parts.within hT) hs3 _ _
  have hs5 : Keeps T s0 s5 := State.traceRec_keeps (Parts.within hT) hs4 ..
  have hs6 : Keeps T s0 s6 := ite_keeps (State.trigger_keeps (Parts.within hT) hs5 _ _) hs5
  have hs7 : Keeps T s0 s7 := State.freeEntry_keeps (Parts.within hT) hs6 _ _
  have hs8 : Keeps T s0 s8 := State.flights_keeps (Parts.within hT) hs7 _
  have hs9 : Keeps T s0 s9 := State.putQHeader_keeps (Parts.within hT) (State.dwrite_keeps (Parts.within hT) hs8 _ _)
    _ _
  have hs10 : Keeps T s0 s10 := ite_keeps hs9 (State.haltQueue_keeps (Parts.within hT) hs9 _)
  have hs11 : Keeps T s0 s11 := ite_keeps (State.queueIrq_keeps (Parts.within hT) hs10 _) hs10
  exact State.settle_keeps (Parts.within hT) hs11 _

theorem State.complete_keeps (hT : Parts.le (Parts.of (readParts ++ ringParts ++
    ([.arena, .coll, .flights, .free, .hostMem, .reg .FLU_RED, .reg .OBS_CNT, .reg .QUE_CTL, .reg .QUE_STAT,
    .reg .SYNC] : List Part))) T) (h : Keeps T s0 s) (f : Flight) : Keeps T s0 (s.complete f) := by
  unfold State.complete
  extract_lets late s1 f1 st s2 s3 s4 s5 s6
  have hs1 : Keeps T s0 s1 := by
    unfold s1
    split
    · exact State.memFault_keeps (Parts.within hT) h _ _ _
    · exact h
  have hs2 : Keeps T s0 s2 := State.countReads_keeps (Parts.within hT)
    (State.countUnits_keeps (Parts.within hT) (State.addStats_keeps (Parts.within hT) hs1 _) _) _
  have hs3 : Keeps T s0 s3 := ite_keeps (State.noteDigest_keeps (Parts.within hT)
    (ite_keeps (State.precisionApply_keeps (Parts.within hT) hs2 _) hs2) _) hs2
  have hs4 : Keeps T s0 s4 := ite_keeps (State.writeDigest_keeps (Parts.within hT) hs3 _) hs3
  have hs5 : Keeps T s0 s5 := ite_keeps (State.applyLane_keeps (Parts.within hT)
    (State.tapAll_keeps (Parts.within hT) hs4 _) _) hs4
  have hs6 : Keeps T s0 s6 := ite_keeps (State.applySignals_keeps (Parts.within hT) hs5 _) hs5
  exact State.finish_keeps (Parts.within hT) hs6 _ _

theorem execWaitTimeout_keeps (hT : Parts.le (Parts.of (readParts ++
    ([.flights, .queues, .reg .QUE_STAT] : List Part))) T) (h : Keeps T s0 s) (q : Fin 64) :
    KeepsOut T s0 (execWaitTimeout q s) := by
  unfold execWaitTimeout
  split
  · exact keepsOut_next (State.startRejected_keeps hT h _ _ _)
  · exact keepsOut_next (State.putFlight_keeps (Parts.within hT) (State.setQueue_keeps (Parts.within hT) h _ _) _)
  · exact keepsOut_next h

/-! ### The queue rows -/

theorem State.takeUp_keeps (hT : Parts.le (Parts.of (lineParts ++ ([.flights, .free] : List Part))) T)
    (h : Keeps T s0 s) (f : Flight) : Keeps T s0 (s.takeUp f) :=
  State.putFlight_keeps (Parts.within hT) (State.fresh_keeps (Parts.within hT)
    (State.fresh_keeps (Parts.within hT) (State.fresh_keeps (Parts.within hT) h))) _

theorem State.sendSignal_keeps (hT : Parts.le (Parts.of (traceParts ++
    ([.flights, .flue, .free, .ports] : List Part))) T) (h : Keeps T s0 s) (f : Flight) :
    Keeps T s0 (s.sendSignal f) :=
  State.injectAll_keeps (Parts.within hT) (State.traceRec_keeps (Parts.within hT)
    (State.putFlight_keeps (Parts.within hT) (State.fresh_keeps (Parts.within hT)
    (State.newTag_keeps (Parts.within hT) h)) _) ..) _

theorem State.started_keeps (hT : Parts.le (Parts.of (readParts ++ portParts ++ collParts ++
    ([.free, .hostMem, .reg .OBS_CNT, .reg .QUE_STAT] : List Part))) T) (h : Keeps T s0 s) (q n : Nat) :
    Keeps T s0 (s.started q n) := by
  unfold State.started
  split
  · exact h
  · exact State.settle_keeps (Parts.within hT) (ite_keeps (State.takeUp_keeps (Parts.within hT) h _)
      (ite_keeps (State.openColl_keeps (Parts.within hT) h _ _) (ite_keeps
      (State.sendSignal_keeps (Parts.within hT) h _) (State.putFlight_keeps (Parts.within hT) h _)))) _

theorem State.issue_keeps (hT : Parts.le (Parts.of issueParts) T) (h : Keeps T s0 s) (q : Nat) (p : Nat → Bool) :
    Keeps T s0 (s.issue q p) :=
  ite_keeps (State.startRow_keeps (Parts.within hT) h _ _) (State.started_keeps (Parts.within hT)
    (State.startRow_keeps (Parts.within hT) h _ _) _ _)

theorem State.issueUnreadable_keeps (hT : Parts.le (Parts.of issueParts) T) (h : Keeps T s0 s) (q : Nat) :
    Keeps T s0 (s.issueUnreadable q) :=
  State.issue_keeps hT h _ _

theorem execCommandComplete_keeps (hT : Parts.le (Parts.of (issueParts ++ ringParts ++
    ([.arena, .reg .QUE_CTL, .reg .SYNC] : List Part))) T) (h : Keeps T s0 s) (q : Fin 64) :
    KeepsOut T s0 (execCommandComplete q s) := by
  unfold execCommandComplete
  split
  · exact keepsOut_next (State.issueUnreadable_keeps (Parts.within hT) (State.complete_keeps (Parts.within hT) h _) _)
  · exact keepsOut_next h

theorem State.badTail_keeps (hT : Parts.le (Parts.of (triggerParts ++ irqParts ++
    ([.reg .QUE_CTL, .reg .QUE_STAT, .reg .SYNC] : List Part))) T) (h : Keeps T s0 s) (q : Nat) :
    Keeps T s0 (s.badTail q) :=
  State.queueIrq_keeps (Parts.within hT) (State.haltQueue_keeps (Parts.within hT)
    (State.setF_keeps_reg .QUE_STAT (Parts.within hT) h _) _) _

theorem State.holdWatch_keeps (hT : Parts.le (Parts.of [.watch]) T) (h : Keeps T s0 s) (q : Nat) :
    Keeps T s0 (s.holdWatch q) := by
  unfold State.holdWatch
  split
  · exact ite_keeps h (State.watch_keeps hT h _)
  · exact h

theorem State.takeWatch_keeps (hT : Parts.le (Parts.of (issueParts ++ ([.reg .QUE_CTL, .reg .SYNC] : List Part))) T)
    (h : Keeps T s0 s) (q tail cqHead : Nat) : Keeps T s0 (s.takeWatch q tail cqHead) :=
  ite_keeps (State.badTail_keeps (Parts.within hT) h _) (State.issueUnreadable_keeps (Parts.within hT)
    (State.settle_keeps (Parts.within hT) (State.setQueue_keeps (Parts.within hT) h _ _) _) _)

theorem State.readWatch_keeps (hT : Parts.le (Parts.of watchParts) T) (h : Keeps T s0 s) (q : Nat) :
    Keeps T s0 (s.readWatch q) := by
  unfold State.readWatch
  extract_lets c a rd
  refine ite_keeps h ?_
  split
  · exact State.ueFound_keeps (Parts.within hT) h _ _ _
  · exact ite_keeps (State.holdWatch_keeps (Parts.within hT) h _)
      (State.takeWatch_keeps (Parts.within hT) (State.holdWatch_keeps (Parts.within hT) h _) _ _ _)

theorem State.snoopWrite_keeps (hT : Parts.le (Parts.of watchParts) T) (h : Keeps T s0 s) (pa n : Nat) :
    Keeps T s0 (s.snoopWrite pa n) :=
  keeps_foldl _ h fun _ _ hs => State.readWatch_keeps hT hs _

theorem execWatchLinePoll_keeps (hT : Parts.le (Parts.of watchParts) T) (h : Keeps T s0 s) (q : Fin 64) :
    KeepsOut T s0 (execWatchLinePoll q s) :=
  onlyIf_keeps h _ (fun _ hs => State.readWatch_keeps hT hs _)

/-! ### Steps, decisions and interludes -/

theorem State.govRead_keeps (hT : Parts.le (Parts.of lineErrorParts) T) (h : Keeps T s0 s) (c a len : Nat) :
    Keeps T s0 (s.govRead c a len).2 := by
  unfold State.govRead
  split
  · exact h
  · split
    · exact State.ueFound_keeps hT h _ _ _
    · exact h

theorem State.foldRecord_keeps (hT : Parts.le (Parts.of (lineErrorParts ++ lineParts ++ ([.hostMem] : List Part))) T)
    (h : Keeps T s0 s) (c w i : Nat) : Keeps T s0 (s.foldRecord c w i) :=
  ite_keeps (State.vwrite_keeps (Parts.within hT) (State.govRead_keeps (Parts.within hT) h _ _ _) _ _ _)
    (State.govRead_keeps (Parts.within hT) h _ _ _)

theorem State.decideEntry_keeps (hT : Parts.le (Parts.of (traceParts ++ ringParts ++ lineErrorParts ++
    ([.hostMem] : List Part))) T) (h : Keeps T s0 s) (c w i : Nat) (t : GovTally) (e : FtEntry) :
    Keeps T s0 (s.decideEntry c w i t e).1 := by
  unfold State.decideEntry
  extract_lets adv ra e1
  split
  rename_i ok s he
  have hs : Keeps T s0 s := keeps_snd he (State.govRead_keeps (Parts.within hT) h _ _ _)
  split
  · exact hs
  · dsimp only
    refine State.vwrite_keeps (Parts.within hT) (ite_keeps ?_ (State.logRing_keeps (Parts.within hT) ?_ _ _ _)) _ _ _
    all_goals exact State.vwrite_keeps (Parts.within hT) hs _ _ _

theorem State.govReadIf_keeps (hT : Parts.le (Parts.of lineErrorParts) T) (h : Keeps T s0 s) (b : Bool)
    (c a n : Nat) : Keeps T s0 (s.govReadIf b c a n).2 := by
  unfold State.govReadIf
  split
  · exact State.govRead_keeps hT h _ _ _
  · exact h

theorem State.processEntry_keeps (hT : Parts.le (Parts.of (traceParts ++ ringParts ++ lineErrorParts ++
    ([.hostMem] : List Part))) T) (h : Keeps T s0 s) (c w i : Nat) (t : GovTally) :
    Keeps T s0 (s.processEntry c w i t).1 := by
  unfold State.processEntry
  extract_lets a
  split
  rename_i ok s he
  have hs : Keeps T s0 s := keeps_snd he (State.govRead_keeps (Parts.within hT) h _ _ _)
  split
  · exact hs
  · extract_lets e len la named
    split
    · exact hs
    · split
      rename_i ok s he
      have hs : Keeps T s0 s := keeps_snd he (State.govReadIf_keeps (Parts.within hT) hs ..)
      split
      · exact hs
      · extract_lets lead
        split
        · dsimp only
          exact State.vwrite_keeps (Parts.within hT) hs _ _ _
        · exact State.decideEntry_keeps hT hs ..

theorem State.decideWindow_keeps (hT : Parts.le (Parts.of (traceParts ++ ringParts ++ lineErrorParts ++
    ([.hostMem, .reg .CTX_GOVSTAT] : List Part))) T) (h : Keeps T s0 s) (c w : Nat) (t : GovTally) :
    Keeps T s0 (s.decideWindow c w t) :=
  State.setF_keeps_reg .CTX_GOVSTAT (Parts.within hT) (keeps_foldl_fst _
    (keeps_foldl _ h fun _ _ hs => State.foldRecord_keeps (Parts.within hT) hs _ _ _) fun _ _ hs =>
    State.processEntry_keeps (Parts.within hT) hs ..) _

theorem State.runDecision_keeps (hT : Parts.le (Parts.of (traceParts ++ ringParts ++ lineErrorParts ++
    ([.hostMem, .reg .CTX_GOVSTAT] : List Part))) T) (h : Keeps T s0 s) : Keeps T s0 s.runDecision := by
  unfold State.runDecision
  split
  · exact h
  · exact State.decideWindow_keeps hT (State.setF_keeps_reg .CTX_GOVSTAT (Parts.within hT) h _) _ _ _

theorem State.rerunDecision_keeps (hT : Parts.le (Parts.of (traceParts ++ ringParts ++ lineErrorParts ++
    ([.hostMem, .reg .CTX_GOVSTAT] : List Part))) T) (h : Keeps T s0 s) : Keeps T s0 s.rerunDecision := by
  unfold State.rerunDecision
  split
  · exact h
  · exact State.decideWindow_keeps hT (State.setF_keeps_reg .CTX_GOVSTAT (Parts.within hT) h _) _ _ _

theorem State.onMark_keeps (hT : Parts.le (Parts.of (lineParts ++ ([.flights] : List Part))) T) (h : Keeps T s0 s)
    (g : Flight → Flight) (q : Nat) : Keeps T s0 (s.onMark g q) := by
  unfold State.onMark
  split
  · exact State.putFlight_keeps hT h _
  · exact h

theorem State.dropMark_keeps (hT : Parts.le (Parts.of [.queues]) T) (h : Keeps T s0 s) (q : Nat) :
    Keeps T s0 (s.dropMark q) :=
  State.setQueue_keeps hT h _ _

theorem State.closeWindow_keeps (hT : Parts.le (Parts.of (traceParts ++ ringParts ++ lineErrorParts ++
    ([.decisions, .hostMem, .reg .CTX_GOVDONE, .reg .CTX_GOVSTAT, .reg .CTX_GOVWIN] : List Part))) T)
    (h : Keeps T s0 s) (c : Nat) : Keeps T s0 (s.closeWindow c) := by
  unfold State.closeWindow
  extract_lets w s1 idle s2
  have hs1 : Keeps T s0 s1 := State.incF_keeps_reg .CTX_GOVWIN (Parts.within hT) h _
  have hs2 : Keeps T s0 s2 := State.decisions_keeps (Parts.within hT) hs1 _
  exact ite_keeps (State.setF_keeps_reg .CTX_GOVDONE (Parts.within hT) hs1 _)
    (ite_keeps (State.runDecision_keeps (Parts.within hT) hs2) hs2)

theorem State.closeInterlude_keeps (hT : Parts.le (Parts.of (lineParts ++
    ([.flights, .queues, .reg .CTX_CFG, .reg .QUE_STAT] : List Part))) T) (h : Keeps T s0 s) (c : Nat) :
    Keeps T s0 (s.closeInterlude c) :=
  keeps_foldl _ (State.setF_keeps_reg .CTX_CFG (Parts.within hT) h _) fun _ _ hs => State.settle_keeps
    (Parts.within hT) (State.dropMark_keeps (Parts.within hT) (State.onMark_keeps (Parts.within hT) hs _ _) _) _

theorem State.actBarrier_keeps (hT : Parts.le (Parts.of decisionParts) T) (h : Keeps T s0 s) (c : Nat) :
    Keeps T s0 (s.actBarrier c) := by
  unfold State.actBarrier
  refine ite_keeps ?_ ?_
  · exact keeps_foldl _ h fun _ _ hs => State.dropMark_keeps (Parts.within hT)
      (State.onMark_keeps (Parts.within hT) hs _ _) _
  · extract_lets closes s1 s2 s3 s4
    have hs1 : Keeps T s0 s1 := State.setF_keeps_reg .CTX_STEP (Parts.within hT) h _
    have hs2 : Keeps T s0 s2 := ite_keeps (State.closeWindow_keeps (Parts.within hT) hs1 _) hs1
    have hs3 : Keeps T s0 s3 := State.setF_keeps_reg .CTX_CFG (Parts.within hT) hs2 _
    have hs4 : Keeps T s0 s4 := keeps_foldl _ hs3 fun _ _ hs => State.onMark_keeps (Parts.within hT) hs _ _
    exact ite_keeps (State.closeInterlude_keeps (Parts.within hT) hs4 _) hs4

theorem State.barrier_keeps (hT : Parts.le (Parts.of decisionParts) T) (h : Keeps T s0 s) (c : Nat) :
    Keeps T s0 (s.barrier c) :=
  ite_keeps (State.setF_keeps_reg .CTX_GOVSTAT (Parts.within hT) h _) (State.actBarrier_keeps hT h _)

theorem execStepBarrier_keeps (hT : Parts.le (Parts.of decisionParts) T) (h : Keeps T s0 s) (c : Fin 16) :
    KeepsOut T s0 (execStepBarrier c s) :=
  onlyIf_keeps h _ (fun _ hs => State.barrier_keeps hT hs _)

theorem State.endDecision_keeps (hT : Parts.le (Parts.of decisionParts) T) (h : Keeps T s0 s) (c w : Nat) :
    Keeps T s0 (s.endDecision c w) := by
  unfold State.endDecision
  extract_lets s1 s2
  have hs1 : Keeps T s0 s1 := State.setFs_keeps_regs [.CTX_GOVDONE, .CTX_GOVSTAT] (Parts.within hT) h
  have hs2 : Keeps T s0 s2 := State.runDecision_keeps (Parts.within hT)
    (State.decisions_keeps (Parts.within hT) hs1 _)
  exact ite_keeps (State.barrier_keeps hT hs2 _) hs2

theorem execDecisionStepEnd_keeps (hT : Parts.le (Parts.of decisionParts) T) (h : Keeps T s0 s) (c : Fin 16) :
    KeepsOut T s0 (execDecisionStepEnd c s) := by
  unfold execDecisionStepEnd
  split
  · exact onlyIf_keeps h _ (fun _ hs => State.endDecision_keeps hT hs _ _)
  · exact keepsOut_next h

theorem execInterludeClose_keeps (hT : Parts.le (Parts.of (lineParts ++
    ([.flights, .queues, .reg .CTX_CFG, .reg .QUE_STAT] : List Part))) T) (h : Keeps T s0 s) (c : Fin 16) :
    KeepsOut T s0 (execInterludeClose c s) :=
  onlyIf_keeps h _ (fun _ hs => State.closeInterlude_keeps hT hs _)

/-! ### The links -/

theorem State.setPort'_keeps {l : List (Fld × Nat)} (rs : List Reg) (hT : Parts.le (Parts.of traceParts) T)
    (hR : Parts.le (Parts.of (rs.map Part.reg)) T) (h : Keeps T s0 s) (p st : Nat)
    (hl : ((FLU_PORT_STATE p, st) :: l).all (fun x => rs.contains x.1.reg) = true := by rfl) :
    Keeps T s0 (s.setPort' p st l) :=
  State.traceRec_keeps hT (State.setFs_keeps_regs rs hR h hl) ..

theorem State.takeWords_keeps (hT : Parts.le (Parts.of [.ports, .reg .FLU_PERR]) T) (h : Keeps T s0 s) (p : Nat)
    (w : Codewords) : Keeps T s0 (s.takeWords p w) :=
  State.setPort_keeps (Parts.within hT) (State.addSat_keeps_reg .FLU_PERR (Parts.within hT)
    (State.addSat_keeps_reg .FLU_PERR (Parts.within hT) h _) _) _ _

theorem State.acceptFrame_keeps (hT : Parts.le (Parts.of (portParts ++ ([.reg .FLU_PERR] : List Part))) T)
    (h : Keeps T s0 s) (p : Nat) (f : FrameIn) : Keeps T s0 (s.acceptFrame p f) :=
  State.countFlits_keeps (Parts.within hT) (State.addSat_keeps_reg .FLU_PERR (Parts.within hT)
    (keeps_foldl _ (State.setPort_keeps (Parts.within hT) h _ _) fun _ _ hs => State.freeFlits_keeps (Parts.within hT)
    hs _ _) _) _ _ _

theorem State.refuseFrame_keeps (hT : Parts.le (Parts.of portParts) T) (h : Keeps T s0 s) (p : Nat) :
    Keeps T s0 (s.refuseFrame p) :=
  ite_keeps h (State.sendLocal_keeps hT (State.setPort_keeps (Parts.within hT) h _ _) _ _ _)

theorem State.takeFrame_keeps (hT : Parts.le (Parts.of (portParts ++ ([.reg .FLU_PERR] : List Part))) T)
    (h : Keeps T s0 s) (p : Nat) (f : FrameIn) : Keeps T s0 (s.takeFrame p f) :=
  ite_keeps (State.acceptFrame_keeps hT (State.takeWords_keeps (Parts.within hT) h _ _) _ _)
    (State.refuseFrame_keeps (Parts.within hT) (State.takeWords_keeps (Parts.within hT) h _ _) _)

theorem execFrameReceive_keeps (hT : Parts.le (Parts.of (portParts ++ ([.reg .FLU_PERR] : List Part))) T)
    (h : Keeps T s0 s) (p : Fin 6) (f : FrameIn) : KeepsOut T s0 (execFrameReceive p f s) :=
  onlyIf_keeps h _ (fun _ hs => State.takeFrame_keeps hT hs _ _)

theorem State.correct_keeps (hT : Parts.le (Parts.of [.flue, .free, .reg .FLU_TIME]) T) (h : Keeps T s0 s) (o : ℤ) :
    Keeps T s0 (s.correct o) :=
  ite_keeps (State.setF_keeps_reg .FLU_TIME (Parts.within hT) h _)
    (State.flue_keeps (Parts.within hT) (State.fresh_keeps (Parts.within hT) h) _ (by rfl))

theorem State.takeOffset_keeps (hT : Parts.le (Parts.of [.flue, .free, .reg .FLU_TIME, .reg .FLU_TSTAT]) T)
    (h : Keeps T s0 s) (o : ℤ) : Keeps T s0 (s.takeOffset o) :=
  State.setF_keeps_reg .FLU_TSTAT (Parts.within hT) (State.correct_keeps (Parts.within hT)
    (State.setF_keeps_reg .FLU_TSTAT (Parts.within hT) h _) _) _

theorem State.takeSkip_keeps (hT : Parts.le (Parts.of [.flue, .free, .ports, .reg .FLU_TIME, .reg .FLU_TSTAT]) T)
    (h : Keeps T s0 s) (p : Nat) (f : SkipIn) : Keeps T s0 (s.takeSkip p f) := by
  unfold State.takeSkip
  dsimp only
  split
  · refine ite_keeps (State.takeOffset_keeps (Parts.within hT) ?_ _) ?_
    all_goals exact State.setPort_keeps (Parts.within hT) h _ _
  · exact State.setPort_keeps (Parts.within hT) h _ _

theorem execSkipFrameReceive_keeps (hT : Parts.le (Parts.of [.flue, .free, .ports, .reg .FLU_PERR, .reg .FLU_TIME,
    .reg .FLU_TSTAT]) T) (h : Keeps T s0 s) (p : Fin 6) (f : SkipIn) : KeepsOut T s0 (execSkipFrameReceive p f s) :=
  onlyIf_keeps h _ (fun _ hs => ite_keeps (State.takeSkip_keeps (Parts.within hT)
    (State.takeWords_keeps (Parts.within hT) hs _ _) _ _) (State.takeWords_keeps (Parts.within hT) hs _ _))

theorem execSkipFrameSend_keeps (hT : Parts.le (Parts.of [.flue, .ports]) T) (h : Keeps T s0 s) (p : Fin 6) :
    KeepsOut T s0 (execSkipFrameSend p s) :=
  onlyIf_keeps h _ (fun _ hs => State.sendSkip_keeps hT hs _)

theorem State.tick_keeps (hT : Parts.le (Parts.of [.flue, .reg .FLU_TIME]) T) (h : Keeps T s0 s) :
    Keeps T s0 s.tick :=
  ite_keeps h (State.setF_keeps_reg .FLU_TIME (Parts.within hT) (State.flue_keeps (Parts.within hT) h _ (by rfl)) _)

theorem State.replay_keeps (hT : Parts.le (Parts.of (portParts ++ ([.reg .FLU_PERR] : List Part))) T)
    (h : Keeps T s0 s) (p seq : Nat) : Keeps T s0 (s.replay p seq) :=
  State.countFlits_keeps (Parts.within hT) (State.replayFrom_keeps (Parts.within hT) h _ _) _ _ _

theorem State.replayAll_keeps (hT : Parts.le (Parts.of (portParts ++ ([.reg .FLU_PERR] : List Part))) T)
    (h : Keeps T s0 s) (p : Nat) : Keeps T s0 (s.replayAll p) := by
  unfold State.replayAll
  split
  · exact State.replay_keeps hT h _ _
  · exact h

theorem execReplayTimeout_keeps (hT : Parts.le (Parts.of (portParts ++ ([.reg .FLU_PERR] : List Part))) T)
    (h : Keeps T s0 s) (p : Fin 6) : KeepsOut T s0 (execReplayTimeout p s) :=
  onlyIf_keeps h _ (fun _ hs => State.replayAll_keeps hT hs _)

theorem State.takeFront_keeps (hT : Parts.le (Parts.of portParts) T) (h : Keeps T s0 s) (p : Nat) (vc : Option Nat)
    (f : Packet → Bool) {x : Packet × State} (he : s.takeFront p vc f = some x) : Keeps T s0 x.2 := by
  unfold State.takeFront at he
  split at he
  · split at he
    · exact State.takeFirst_keeps hT h _ _ he
    · cases he
  · cases he

theorem State.takeLocal_keeps (hT : Parts.le (Parts.of portParts) T) (h : Keeps T s0 s) (p ty : Nat)
    {x : Packet × State} (he : s.takeLocal p ty = some x) : Keeps T s0 x.2 :=
  State.takeFront_keeps hT h _ _ _ he

theorem execNak_keeps (hT : Parts.le (Parts.of (portParts ++ ([.reg .FLU_PERR] : List Part))) T) (h : Keeps T s0 s)
    (p : Fin 6) : KeepsOut T s0 (execNak p s) := by
  unfold execNak
  split
  · rename_i pk t he
    have ht : Keeps T s0 t := State.takeLocal_keeps (Parts.within hT) h _ _ he
    exact onlyIf_keeps h _ (fun _ hs => State.replay_keeps hT ht _ _)
  · exact keepsOut_next h

theorem execCredit_keeps (hT : Parts.le (Parts.of portParts) T) (h : Keeps T s0 s) (p : Fin 6) :
    KeepsOut T s0 (execCredit p s) := by
  unfold execCredit
  split
  · rename_i pk s he
    have hs : Keeps T s0 s := State.takeLocal_keeps hT h _ _ he
    exact keepsOut_next (State.setPort_keeps (Parts.within hT) hs _ _)
  · exact keepsOut_next h

theorem execCreditReport_keeps (hT : Parts.le (Parts.of portParts) T) (h : Keeps T s0 s) (p : Fin 6) :
    KeepsOut T s0 (execCreditReport p s) :=
  onlyIf_keeps h _ (fun _ hs => State.reportCredit_keeps hT hs _)

theorem execIdle_keeps (hT : Parts.le (Parts.of portParts) T) (h : Keeps T s0 s) (p : Fin 6) :
    KeepsOut T s0 (execIdle p s) := by
  unfold execIdle
  split
  · rename_i fst s he
    have hs : Keeps T s0 s := State.takeLocal_keeps hT h _ _ he
    exact keepsOut_next hs
  · exact keepsOut_next h

theorem State.enterRetrain_keeps (hT : Parts.le (Parts.of (traceParts ++ ([.reg .FLU_PORT] : List Part))) T)
    (h : Keeps T s0 s) (p cause : Nat) : Keeps T s0 (s.enterRetrain p cause) :=
  State.setPort'_keeps [.FLU_PORT] (Parts.within hT) (Parts.within hT) h _ _

theorem execRetrainEntry_keeps (hT : Parts.le (Parts.of (traceParts ++ ([.reg .FLU_PORT] : List Part))) T)
    (h : Keeps T s0 s) (p : Fin 6) (cause : Fin 8) : KeepsOut T s0 (execRetrainEntry p cause s) :=
  onlyIf_keeps h _ (fun _ hs => State.enterRetrain_keeps hT hs _ _)

theorem State.drainOutput_keeps (hT : Parts.le (Parts.of [.ports]) T) (h : Keeps T s0 s) (p : Nat) :
    Keeps T s0 (s.drainOutput p) :=
  keeps_foldl _ (State.setPort_keeps hT h _ _) fun _ _ hs => State.discardPacket_keeps hT hs _ _

theorem State.failPort_keeps (hT : Parts.le (Parts.of (traceParts ++
    ([.flue, .ports, .reg .FLU_PCTL, .reg .FLU_PORT] : List Part))) T) (h : Keeps T s0 s) (p cause : Nat)
    (miswired : Bool) : Keeps T s0 (s.failPort p cause miswired) := by
  unfold State.failPort
  extract_lets src s1 s2
  have hs1 : Keeps T s0 s1 := State.setPort_keeps (Parts.within hT) h _ _
  have hs2 : Keeps T s0 s2 :=
    State.setPort'_keeps [.FLU_PORT, .FLU_PCTL] (Parts.within hT) (Parts.within hT) hs1 _ _
  exact State.drainOutput_keeps (Parts.within hT) (State.floodLink_keeps (Parts.within hT) hs2 _ _) _

theorem State.activatePort_keeps (hT : Parts.le (Parts.of (portParts ++
    ([.reg .FLU_PCTL, .reg .FLU_PERR, .reg .FLU_PORT] : List Part))) T) (h : Keeps T s0 s) (p : Nat)
    (l : Nat × Nat × Nat) : Keeps T s0 (s.activatePort p l) := by
  unfold State.activatePort
  extract_lets fromTraining src s1 s2 s3
  have hs1 : Keeps T s0 s1 := State.setPort_keeps (Parts.within hT) h _ _
  have hs2 : Keeps T s0 s2 := State.setPort'_keeps [.FLU_PORT, .FLU_PCTL] (Parts.within hT) (Parts.within hT) hs1 _ _
  have hs3 : Keeps T s0 s3 := State.replayAll_keeps (Parts.within hT) hs2 _
  exact ite_keeps (State.floodLink_keeps (Parts.within hT) hs3 _ _) hs3

theorem State.endTraining_keeps (hT : Parts.le (Parts.of (portParts ++
    ([.reg .FLU_PCTL, .reg .FLU_PERR, .reg .FLU_PORT] : List Part))) T) (h : Keeps T s0 s) (p : Nat) (o : TrainOut) :
    Keeps T s0 (s.endTraining p o) := by
  unfold State.endTraining
  extract_lets s1
  have hs1 : Keeps T s0 s1 := State.setF_keeps_reg .FLU_PORT (Parts.within hT) h _
  refine ite_keeps (State.failPort_keeps (Parts.within hT) hs1 _ _ _) ?_
  split
  · exact State.failPort_keeps (Parts.within hT) hs1 _ _ _
  · exact State.activatePort_keeps hT hs1 _ _

theorem execRetrainDone_keeps (hT : Parts.le (Parts.of (portParts ++
    ([.reg .FLU_PCTL, .reg .FLU_PERR, .reg .FLU_PORT] : List Part))) T) (h : Keeps T s0 s) (p : Fin 6)
    (out : TrainOut) : KeepsOut T s0 (execRetrainDone p out s) :=
  onlyIf_keeps h _ (fun _ hs => State.endTraining_keeps hT hs _ _)

theorem execRetrainTimeout_keeps (hT : Parts.le (Parts.of (traceParts ++
    ([.flue, .ports, .reg .FLU_PCTL, .reg .FLU_PORT] : List Part))) T) (h : Keeps T s0 s) (p : Fin 6) :
    KeepsOut T s0 (execRetrainTimeout p s) :=
  onlyIf_keeps h _ (fun _ hs => State.failPort_keeps hT hs _ _ _)

theorem execFailedPortRetry_keeps (hT : Parts.le (Parts.of (traceParts ++ ([.reg .FLU_PORT] : List Part))) T)
    (h : Keeps T s0 s) (p : Fin 6) : KeepsOut T s0 (execFailedPortRetry p s) :=
  onlyIf_keeps h _ (fun _ hs => State.setPort'_keeps [.FLU_PORT] (Parts.within hT) (Parts.within hT) hs _ _)

theorem State.retrainFull_keeps (hT : Parts.le (Parts.of (traceParts ++
    ([.ports, .reg .FLU_PCTL, .reg .FLU_PORT] : List Part))) T) (h : Keeps T s0 s) (p : Nat) :
    Keeps T s0 (s.retrainFull p) := by
  unfold State.retrainFull
  split
  · exact State.setPort'_keeps [.FLU_PORT] (Parts.within hT) (Parts.within hT)
      (State.setF_keeps_reg .FLU_PCTL (Parts.within hT) (State.setPort_keeps (Parts.within hT) h _ _) _) _ _
  · exact h

theorem State.takeRoutes_keeps (hT : Parts.le (Parts.of (collParts ++ lineParts ++
    ([.reg .FLU_RTE, .reg .FLU_RTGEN, .reg .FLU_TSTAT] : List Part))) T) (h : Keeps T s0 s) :
    Keeps T s0 s.takeRoutes :=
  keeps_foldl _ (State.swapRoutes_keeps (Parts.within hT) h) fun _ _ hs => State.abortRank_keeps (Parts.within hT) hs
    _

theorem execRoutingTableSwap_keeps (hT : Parts.le (Parts.of (collParts ++ lineParts ++
    ([.reg .FLU_RTE, .reg .FLU_RTGEN, .reg .FLU_TSTAT] : List Part))) T) (h : Keeps T s0 s) :
    KeepsOut T s0 (execRoutingTableSwap s) :=
  onlyIf_keeps h _ (fun _ hs => State.takeRoutes_keeps hT hs)

/-! ### The Flue -/

theorem State.arrival_keeps (hT : Parts.le (Parts.of portParts) T) (h : Keeps T s0 s) (p ty : Nat)
    (kind : Packet → Bool) {x : Packet × State} (he : s.arrival p ty kind = some x) : Keeps T s0 x.2 := by
  unfold State.arrival at he
  extract_lets v at he
  split at he
  · obtain ⟨y, hy, rfl⟩ := Option.map_eq_some_iff.1 he
    exact State.flue_keeps (Parts.within hT) (State.takeFront_keeps hT h _ _ _ hy) _ rfl
  · cases he

theorem State.deliver_keeps {f : State → Packet → State} (hT : Parts.le (Parts.of portParts) T) (h : Keeps T s0 s)
    (p ty : Nat) (kind : Packet → Bool) (hf : ∀ s x, Keeps T s0 s → Keeps T s0 (f s x)) :
    KeepsOut T s0 (s.deliver p ty kind f) := by
  unfold State.deliver
  split
  · exact keepsOut_next h
  · rename_i pk t he
    have ht : Keeps T s0 t := State.arrival_keeps hT h _ _ _ he
    exact keepsOut_next (ite_keeps (hf t pk ht) (State.discardPacket_keeps (Parts.within hT) ht _ _))

theorem State.takeWrite_keeps (hT : Parts.le (Parts.of (triggerParts ++ ([.ports, .reg .OBS_CNT] : List Part))) T)
    (h : Keeps T s0 s) (pk : Packet) : Keeps T s0 (s.takeWrite pk) :=
  ite_keeps (State.inject_keeps (Parts.within hT) (State.count_keeps (Parts.within hT)
    (State.dwrite_keeps (Parts.within hT) h _ _) _ _ _) _) (State.inject_keeps (Parts.within hT) h _)

theorem State.takeRead_keeps (hT : Parts.le (Parts.of (triggerParts ++ lineErrorParts ++
    ([.ports, .reg .OBS_CNT] : List Part))) T) (h : Keeps T s0 s) (pk : Packet) : Keeps T s0 (s.takeRead pk) := by
  unfold State.takeRead
  extract_lets n data
  refine ite_keeps ?_ (State.inject_keeps (Parts.within hT) h _)
  split
  · exact State.inject_keeps (Parts.within hT) (State.ueFound_keeps (Parts.within hT) h _ _ _) _
  · exact State.inject_keeps (Parts.within hT) (State.count_keeps (Parts.within hT) h _ _ _) _

theorem execWritePacket_keeps (hT : Parts.le (Parts.of (portParts ++ ([.reg .OBS_CNT] : List Part))) T)
    (h : Keeps T s0 s) (p : Fin 6) : KeepsOut T s0 (execWritePacket p s) :=
  State.deliver_keeps (Parts.within hT) h _ _ _ (fun _ _ hs => State.takeWrite_keeps (Parts.within hT) hs _)

theorem execReadReq_keeps (hT : Parts.le (Parts.of (portParts ++ lineErrorParts ++ ([.reg .OBS_CNT] : List Part))) T)
    (h : Keeps T s0 s) (p : Fin 6) : KeepsOut T s0 (execReadReq p s) :=
  State.deliver_keeps (Parts.within hT) h _ _ _ (fun _ _ hs => State.takeRead_keeps (Parts.within hT) hs _)

theorem State.endRemote_keeps (hT : Parts.le (Parts.of runParts) T) (h : Keeps T s0 s) (f : Flight) (r : Remote)
    (st : Status) : Keeps T s0 (s.endRemote f r st) :=
  ite_keeps (State.failTiles_keeps hT h _ _ _) (State.putFlight_keeps (Parts.within hT) h _)

theorem State.remoteBad_keeps (hT : Parts.le (Parts.of (faultParts ++ runParts)) T) (h : Keeps T s0 s) (f : Flight)
    (r : Remote) (pk : Packet) : Keeps T s0 (s.remoteBad f r pk) :=
  State.endRemote_keeps (Parts.within hT) (State.fault_keeps (Parts.within hT) h _) _ _ _

theorem State.takeWriteAck_keeps (hT : Parts.le (Parts.of runParts) T) (h : Keeps T s0 s) (pk : Packet) :
    Keeps T s0 (s.takeWriteAck pk) := by
  unfold State.takeWriteAck
  split
  · exact h
  · exact ite_keeps (State.putFlight_keeps (Parts.within hT) h _) (State.endRemote_keeps hT h _ _ _)

theorem State.takeReadRsp_keeps (hT : Parts.le (Parts.of (faultParts ++ runParts ++ ([.hostMem] : List Part))) T)
    (h : Keeps T s0 s) (pk : Packet) : Keeps T s0 (s.takeReadRsp pk) := by
  unfold State.takeReadRsp
  split
  · exact h
  · exact ite_keeps (State.putFlight_keeps (Parts.within hT) (State.vwrite_keeps (Parts.within hT)
      (State.count_keeps (Parts.within hT) h _ _ _) _ _ _) _) (ite_keeps
      (State.remoteBad_keeps (Parts.within hT) h _ _ _) (State.endRemote_keeps (Parts.within hT) h _ _ _))

theorem execReadRsp_keeps (hT : Parts.le (Parts.of (faultParts ++ runParts ++ portParts ++ ([.hostMem] : List Part)))
    T) (h : Keeps T s0 s) (p : Fin 6) : KeepsOut T s0 (execReadRsp p s) :=
  State.deliver_keeps (Parts.within hT) h _ _ _ (fun _ _ hs => State.takeReadRsp_keeps (Parts.within hT) hs _)

theorem execWriteAck_keeps (hT : Parts.le (Parts.of (runParts ++ portParts)) T) (h : Keeps T s0 s) (p : Fin 6) :
    KeepsOut T s0 (execWriteAck p s) :=
  State.deliver_keeps (Parts.within hT) h _ _ _ (fun _ _ hs => State.takeWriteAck_keeps (Parts.within hT) hs _)

theorem State.takeSignal_keeps (hT : Parts.le (Parts.of (triggerParts ++ ([.ports, .reg .SYNC] : List Part))) T)
    (h : Keeps T s0 s) (pk : Packet) : Keeps T s0 (s.takeSignal pk) :=
  ite_keeps (State.inject_keeps (Parts.within hT) h _) (ite_keeps (State.inject_keeps (Parts.within hT) h _)
    (State.inject_keeps (Parts.within hT) (State.signalObj_keeps (Parts.within hT) h ..) _))

theorem execSignalPacket_keeps (hT : Parts.le (Parts.of (portParts ++ ([.reg .SYNC] : List Part))) T)
    (h : Keeps T s0 s) (p : Fin 6) : KeepsOut T s0 (execSignalPacket p s) :=
  State.deliver_keeps (Parts.within hT) h _ _ _ (fun _ _ hs => State.takeSignal_keeps (Parts.within hT) hs _)

theorem State.takeSignalAck_keeps (hT : Parts.le (Parts.of runParts) T) (h : Keeps T s0 s) (pk : Packet) :
    Keeps T s0 (s.takeSignalAck pk) := by
  unfold State.takeSignalAck
  split
  · exact h
  · exact ite_keeps (State.putFlight_keeps (Parts.within hT) h _) (State.endRemote_keeps hT h _ _ _)

theorem execSignalAck_keeps (hT : Parts.le (Parts.of (runParts ++ portParts)) T) (h : Keeps T s0 s) (p : Fin 6) :
    KeepsOut T s0 (execSignalAck p s) :=
  State.deliver_keeps (Parts.within hT) h _ _ _ (fun _ _ hs => State.takeSignalAck_keeps (Parts.within hT) hs _)

theorem State.stageChunk_keeps (hT : Parts.le (Parts.of [.coll, .ports]) T) (h : Keeps T s0 s) (e : CollEntry)
    (op : RedOp) (sl y k : Nat) (more : List Nat) (data : List Byte) :
    Keeps T s0 (s.stageChunk e op sl y k more data) :=
  State.sendCtl_keeps (Parts.within hT) (State.setEntry_keeps (Parts.within hT) h _) ..

theorem State.takeResult_keeps (hT : Parts.le (Parts.of (lineParts ++ ([.coll, .hostMem] : List Part))) T)
    (h : Keeps T s0 s) (e : CollEntry) (op : RedOp) (sl k : Nat) (more : List Nat) (data : List Byte) :
    Keeps T s0 (s.takeResult e op sl k more data) :=
  ite_keeps (State.setEntry_keeps (Parts.within hT) (State.vwrite_keeps (Parts.within hT) h _ _ _) _)
    (ite_keeps (State.setEntry_keeps (Parts.within hT) (State.vwrite_keeps (Parts.within hT) h _ _ _) _)
    (State.setEntry_keeps (Parts.within hT) h _))

theorem State.takeData_keeps (hT : Parts.le (Parts.of (readParts ++ collParts ++
    ([.hostMem, .reg .OBS_CNT] : List Part))) T) (h : Keeps T s0 s) (pk : Packet) : Keeps T s0 (s.takeData pk) := by
  unfold State.takeData
  extract_lets a
  split
  · exact State.addSat_keeps_reg .FLU_RED (Parts.within hT) h _
  · exact ite_keeps (State.abortKey_keeps (Parts.within hT) (State.count_keeps (Parts.within hT) h _ _ _) _ _ _)
      (State.pump_keeps hT (ite_keeps (State.stageChunk_keeps (Parts.within hT)
      (State.count_keeps (Parts.within hT) h _ _ _) ..) (State.takeResult_keeps (Parts.within hT)
      (State.count_keeps (Parts.within hT) h _ _ _) ..)) _ _)

theorem execCollData_keeps (hT : Parts.le (Parts.of (readParts ++ portParts ++ collParts ++
    ([.hostMem, .reg .OBS_CNT] : List Part))) T) (h : Keeps T s0 s) (p : Fin 6) : KeepsOut T s0 (execCollData p s) :=
  State.deliver_keeps (Parts.within hT) h _ _ _ (fun _ _ hs => State.takeData_keeps (Parts.within hT) hs _)

theorem State.takeReady_keeps (hT : Parts.le (Parts.of (readParts ++ portParts ++ collParts ++
    ([.hostMem, .reg .OBS_CNT] : List Part))) T) (h : Keeps T s0 s) (pk : Packet) : Keeps T s0 (s.takeReady pk) := by
  unfold State.takeReady
  extract_lets a at' src
  split
  · exact State.pump_keeps (Parts.within hT) (State.setEntry_keeps (Parts.within hT) h _) _ _
  · exact State.flue_keeps (Parts.within hT) h _ (by rfl)

theorem execCollReady_keeps (hT : Parts.le (Parts.of (readParts ++ portParts ++ collParts ++
    ([.hostMem, .reg .OBS_CNT] : List Part))) T) (h : Keeps T s0 s) (p : Fin 6) : KeepsOut T s0 (execCollReady p s) :=
  State.deliver_keeps (Parts.within hT) h _ _ _ (fun _ _ hs => State.takeReady_keeps hT hs _)

theorem execCollAbort_keeps (hT : Parts.le (Parts.of (portParts ++ collParts)) T) (h : Keeps T s0 s) (p : Fin 6) :
    KeepsOut T s0 (execCollAbort p s) := by
  refine State.deliver_keeps (Parts.within hT) h _ _ _ fun s x hs => ?_
  split
  · exact State.abortKey_keeps (Parts.within hT) hs _ _ _
  · exact hs

theorem State.takeAck_keeps (hT : Parts.le (Parts.of (readParts ++ collParts ++
    ([.hostMem, .reg .OBS_CNT] : List Part))) T) (h : Keeps T s0 s) (pk : Packet) : Keeps T s0 (s.takeAck pk) := by
  unfold State.takeAck
  extract_lets a
  split
  · exact State.pump_keeps hT (State.setEntry_keeps (Parts.within hT) h _) _ _
  · exact h

theorem execCollAck_keeps (hT : Parts.le (Parts.of (readParts ++ portParts ++ collParts ++
    ([.hostMem, .reg .OBS_CNT] : List Part))) T) (h : Keeps T s0 s) (p : Fin 6) : KeepsOut T s0 (execCollAck p s) :=
  State.deliver_keeps (Parts.within hT) h _ _ _ (fun _ _ hs => State.takeAck_keeps (Parts.within hT) hs _)

theorem State.takeUnreach_keeps (hT : Parts.le (Parts.of (runParts ++ collParts)) T) (h : Keeps T s0 s)
    (pk : Packet) : Keeps T s0 (s.takeUnreach pk) := by
  unfold State.takeUnreach
  refine ite_keeps h ?_
  split
  · exact State.endRemote_keeps (Parts.within hT) h _ _ _
  · exact State.abortKey_keeps (Parts.within hT) h _ _ _
  · exact h

theorem execUnreach_keeps (hT : Parts.le (Parts.of (runParts ++ portParts ++ collParts)) T) (h : Keeps T s0 s)
    (p : Fin 6) : KeepsOut T s0 (execUnreach p s) :=
  State.deliver_keeps (Parts.within hT) h _ _ _ (fun _ _ hs => State.takeUnreach_keeps (Parts.within hT) hs _)

theorem State.deliverSwitch_keeps {f : State → Packet → State} (hT : Parts.le (Parts.of portParts) T)
    (h : Keeps T s0 s) (p ty : Nat) (hf : ∀ s x, Keeps T s0 s → Keeps T s0 (f s x)) :
    KeepsOut T s0 (s.deliverSwitch p ty f) := by
  unfold State.deliverSwitch
  split
  · exact keepsOut_next h
  · rename_i pk t he
    exact keepsOut_next (hf t pk (State.arrival_keeps hT h _ _ _ he))

theorem State.takeLinkstate_keeps (hT : Parts.le (Parts.of [.flue, .ports]) T) (h : Keeps T s0 s) (p : Nat)
    (pk : Packet) : Keeps T s0 (s.takeLinkstate p pk) :=
  ite_keeps h (State.flood_keeps (Parts.within hT) (State.flue_keeps (Parts.within hT) h _ (by rfl)) _ _ _)

theorem execLinkstate_keeps (hT : Parts.le (Parts.of portParts) T) (h : Keeps T s0 s) (p : Fin 6) :
    KeepsOut T s0 (execLinkstate p s) :=
  State.deliverSwitch_keeps hT h _ _ (fun _ _ hs => State.takeLinkstate_keeps (Parts.within hT) hs _ _)

theorem State.takeEndpoint_keeps (hT : Parts.le (Parts.of (collParts ++ lineParts ++ ([.flue] : List Part))) T)
    (h : Keeps T s0 s) (p : Nat) (pk : Packet) : Keeps T s0 (s.takeEndpoint p pk) :=
  ite_keeps h (ite_keeps (State.flood_keeps (Parts.within hT) (State.flue_keeps (Parts.within hT) h _ (by rfl)) _ _ _)
    (State.abortRank_keeps (Parts.within hT) (State.flood_keeps (Parts.within hT)
    (State.flue_keeps (Parts.within hT) h _ (by rfl)) _ _ _) _))

theorem execEndpoint_keeps (hT : Parts.le (Parts.of (portParts ++ collParts)) T) (h : Keeps T s0 s) (p : Fin 6) :
    KeepsOut T s0 (execEndpoint p s) :=
  State.deliverSwitch_keeps (Parts.within hT) h _ _ (fun _ _ hs => State.takeEndpoint_keeps (Parts.within hT) hs _ _)

theorem State.transit_keeps (hT : Parts.le (Parts.of [.ports]) T) (h : Keeps T s0 s) (p : Nat) (pk : Packet) :
    Keeps T s0 (s.transit p pk) := by
  unfold State.transit
  split
  · exact State.discardPacket_keeps hT h _ _
  · exact State.enqueue_keeps hT (State.setPort_keeps hT h _ _) _ _ _

theorem State.passes_keeps (hT : Parts.le (Parts.of portParts) T) (h : Keeps T s0 s) (p : Nat) {x : Packet × State}
    (he : s.passes p = some x) : Keeps T s0 x.2 := by
  obtain ⟨v, -, hv⟩ := List.exists_of_findSome?_eq_some he
  exact State.takeFront_keeps hT h _ _ _ hv

theorem execTransitPacket_keeps (hT : Parts.le (Parts.of portParts) T) (h : Keeps T s0 s) (p : Fin 6) :
    KeepsOut T s0 (execTransitPacket p s) := by
  unfold execTransitPacket
  split
  · rename_i pk t he
    have ht : Keeps T s0 t := State.passes_keeps hT h _ he
    exact keepsOut_next (State.transit_keeps (Parts.within hT) ht _ _)
  · exact keepsOut_next h

theorem State.sendOut_keeps (hT : Parts.le (Parts.of portParts) T) (h : Keeps T s0 s) (p g : Nat) (pk : Packet) :
    Keeps T s0 (s.sendOut p g pk) :=
  State.placePacket_keeps hT (State.setPort_keeps (Parts.within hT) h _ _) _ _

theorem State.grantOutput_keeps (hT : Parts.le (Parts.of portParts) T) (h : Keeps T s0 s) (p cycle : Nat) :
    Keeps T s0 (s.grantOutput p cycle) := by
  unfold State.grantOutput
  extract_lets r w used s1
  have hs1 : Keeps T s0 s1 := State.setPort_keeps (Parts.within hT) h _ _
  split
  · exact ite_keeps (State.fillFrame_keeps hT hs1 _) hs1
  · extract_lets s2
    have hs2 : Keeps T s0 s2 := State.setPort_keeps (Parts.within hT) h _ _
    split
    · exact State.sendOut_keeps hT hs2 _ _ _
    · exact hs2

theorem execOutputGrant_keeps (hT : Parts.le (Parts.of portParts) T) (h : Keeps T s0 s) (p : Fin 6) (cycle : Nat) :
    KeepsOut T s0 (execOutputGrant p cycle s) :=
  onlyIf_keeps h _ (fun _ hs => State.grantOutput_keeps hT hs _ _)

theorem execCreditWaitTimeout_keeps (hT : Parts.le (Parts.of [.ports]) T) (h : Keeps T s0 s) (p : Fin 6)
    (requester : Fin 8) : KeepsOut T s0 (execCreditWaitTimeout p requester s) := by
  unfold execCreditWaitTimeout
  split
  · exact keepsOut_next h
  · exact onlyIf_keeps h _ (fun _ hs => State.discardPacket_keeps hT (State.setPort_keeps hT hs _ _) _ _)

/-! ### The stacks -/

theorem execRefreshBlackout_keeps (hT : Parts.le (Parts.of [.stackPorts]) T) (h : Keeps T s0 s) (b : Fin 16)
    (cycle : Nat) : KeepsOut T s0 (execRefreshBlackout b cycle s) :=
  onlyIf_keeps h _ (fun _ hs => State.setStackPort_keeps hT hs _ _)

theorem execRefreshWindowChange_keeps (hT : Parts.le (Parts.of [.reg .MEM_STK]) T) (h : Keeps T s0 s) (b : Fin 16)
    (cycle : Nat) (heat : StackHeat) : KeepsOut T s0 (execRefreshWindowChange b cycle heat s) :=
  ite_keepsOut (onlyIf_keeps h _ (fun _ hs => State.setF_keeps_reg .MEM_STK hT hs _))
    (onlyIf_keeps h _ (fun _ hs => State.setF_keeps_reg .MEM_STK hT hs _))

theorem State.storeBeat_keeps (hT : Parts.le (Parts.of lineParts) T) (h : Keeps T s0 s) (b : Nat) (x : Beat) :
    Keeps T s0 (s.storeBeat b x) :=
  keeps_foldl _ h fun _ _ hs => ite_keeps (State.dwrite_keeps hT hs _ _) hs

theorem State.transfer_keeps (hT : Parts.le (Parts.of (triggerParts ++ ([.reg .OBS_CNT, .stackPorts] : List Part))) T)
    (h : Keeps T s0 s) (b g : Nat) (x : Beat) : Keeps T s0 (s.transfer b g x) := by
  unfold State.transfer
  extract_lets n s1 s2 r lines
  have hs1 : Keeps T s0 s1 := State.gcount_keeps (Parts.within hT) h _ _
  have hs2 : Keeps T s0 s2 := by
    unfold s2
    split
    · exact State.count_keeps (Parts.within hT) hs1 _ _ _
    · exact hs1
  exact ite_keeps (State.setStackPort_keeps (Parts.within hT) (State.storeBeat_keeps (Parts.within hT) hs2 _ _) _ _)
    (State.setStackPort_keeps (Parts.within hT) hs2 _ _)

theorem State.grantStack_keeps (hT : Parts.le (Parts.of (triggerParts ++ ([.reg .OBS_CNT, .stackPorts] : List Part)))
    T) (h : Keeps T s0 s) (b cycle : Nat) (requests : List (Option Beat)) :
    Keeps T s0 (s.grantStack b cycle requests) := by
  unfold State.grantStack
  extract_lets r w used
  refine ite_keeps (State.setStackPort_keeps (Parts.within hT) h _ _) ?_
  split
  · exact State.setStackPort_keeps (Parts.within hT) h _ _
  · extract_lets s1
    have hs1 : Keeps T s0 s1 := State.setStackPort_keeps (Parts.within hT) h _ _
    split
    · exact State.transfer_keeps hT hs1 _ _ _
    · exact hs1

theorem execStackPortGrant_keeps (hT : Parts.le (Parts.of (triggerParts ++
    ([.reg .OBS_CNT, .stackPorts] : List Part))) T) (h : Keeps T s0 s) (b : Fin 16) (cycle : Nat)
    (requests : List (Option Beat)) : KeepsOut T s0 (execStackPortGrant b cycle requests s) :=
  onlyIf_keeps h _ (fun _ hs => State.grantStack_keeps hT hs _ _ _)

theorem State.correctedLine_keeps (hT : Parts.le (Parts.of [.reg .MEM_ERR, .stackPorts]) T) (h : Keeps T s0 s)
    (b pa : Nat) : Keeps T s0 (s.correctedLine b pa) :=
  ite_keeps (State.addSat_keeps_reg .MEM_ERR (Parts.within hT) h _)
    (State.setStackPort_keeps (Parts.within hT) (State.addSat_keeps_reg .MEM_ERR (Parts.within hT) h _) _ _)

theorem State.checkLine_keeps (hT : Parts.le (Parts.of (readParts ++ runParts ++ ringParts)) T) (h : Keeps T s0 s)
    (b g pa : Nat) (x : LineCheck) (reader : Option (Nat × Nat × Nat)) (ctx : Nat) :
    Keeps T s0 (s.checkLine b g pa x reader ctx) := by
  unfold State.checkLine
  split
  · exact h
  · exact State.correctedLine_keeps (Parts.within hT) h _ _
  · extract_lets s1
    have hs1 : Keeps T s0 s1 := State.setBad_keeps (Parts.within hT) h _ _
    split
    · exact State.decideEsc_keeps (Parts.within hT) (State.failMemory_keeps (Parts.within hT) hs1 _ _ _) _ _
    · exact State.ueFound_keeps (Parts.within hT) hs1 _ _ _

theorem State.returnBeat_keeps (hT : Parts.le (Parts.of (readParts ++ runParts ++ ringParts)) T) (h : Keeps T s0 s)
    (b g : Nat) (x : Beat) (rest : List (Nat × Beat)) (lines : List LineCheck) (reader : Option (Nat × Nat × Nat)) :
    Keeps T s0 (s.returnBeat b g x rest lines reader) :=
  keeps_foldl _ (State.setStackPort_keeps (Parts.within hT) h _ _) fun _ _ hs => State.checkLine_keeps hT hs ..

theorem execReadBeatReturn_keeps (hT : Parts.le (Parts.of (readParts ++ runParts ++ ringParts)) T) (h : Keeps T s0 s)
    (b : Fin 16) (beat : BeatReturn) (reader : Option (Fin 64 × Nat × Nat)) :
    KeepsOut T s0 (execReadBeatReturn b beat reader s) := by
  unfold execReadBeatReturn
  split
  · exact onlyIf_keeps h _ (fun _ hs => State.returnBeat_keeps hT hs ..)
  · exact keepsOut_next h

theorem State.scrubCorrected_keeps (hT : Parts.le (Parts.of [.reg .MEM_ERR, .stackPorts]) T) (h : Keeps T s0 s)
    (b pa : Nat) : Keeps T s0 (s.scrubCorrected b pa) :=
  ite_keeps (State.rowDue_keeps (Parts.within hT) (State.setStackPort_keeps (Parts.within hT)
    (State.correctedLine_keeps hT h _ _) _ _) _ _) (State.setStackPort_keeps (Parts.within hT)
    (State.correctedLine_keeps hT h _ _) _ _)

theorem State.scrubLine_keeps (hT : Parts.le (Parts.of (lineErrorParts ++ ([.badLines] : List Part))) T)
    (h : Keeps T s0 s) (b pa : Nat) (x : LineCheck) : Keeps T s0 (s.scrubLine b pa x) := by
  unfold State.scrubLine
  split
  · exact h
  · exact State.scrubCorrected_keeps (Parts.within hT) h _ _
  · exact State.ueFound_keeps (Parts.within hT) (State.setBad_keeps (Parts.within hT) h _ _) _ _ _

theorem State.scrubBlock_keeps (hT : Parts.le (Parts.of (lineErrorParts ++
    ([.badLines, .reg .MEM_SCRUB] : List Part))) T) (h : Keeps T s0 s) (b : Nat) (lines : List LineCheck) :
    Keeps T s0 (s.scrubBlock b lines) := by
  unfold State.scrubBlock
  extract_lets ptr s1 s2
  have hs1 : Keeps T s0 s1 := keeps_foldl _ h fun _ _ hs => State.scrubLine_keeps (Parts.within hT) hs _ _ _
  have hs2 : Keeps T s0 s2 := State.incF_keeps_reg .MEM_SCRUB (Parts.within hT) hs1 _
  exact ite_keeps (State.incF_keeps_reg .MEM_SCRUB (Parts.within hT) hs2 _) hs2

theorem execPatrolScrub_keeps (hT : Parts.le (Parts.of (lineErrorParts ++ ([.badLines, .reg .MEM_SCRUB] : List Part)))
    T) (h : Keeps T s0 s) (b : Fin 16) (lines : List LineCheck) : KeepsOut T s0 (execPatrolScrub b lines s) :=
  onlyIf_keeps h _ (fun _ hs => State.scrubBlock_keeps hT hs _ _)

theorem execCorrectiveWrite_keeps (hT : Parts.le (Parts.of [.stackPorts]) T) (h : Keeps T s0 s) (b : Fin 16) :
    KeepsOut T s0 (execCorrectiveWrite b s) :=
  onlyIf_keeps h _ (fun _ hs => State.setStackPort_keeps hT hs _ _)

theorem State.spareRow_keeps (hT : Parts.le (Parts.of (logParts ++
    ([.reg .MEM_ERR, .reg .MEM_STK, .stackPorts] : List Part))) T) (h : Keeps T s0 s) (b row : Nat) :
    Keeps T s0 (s.spareRow b row) :=
  ite_keeps (State.setStackPort_keeps (Parts.within hT) h _ _) (State.logEvent_keeps (Parts.within hT)
    (State.addSat_keeps_reg .MEM_ERR (Parts.within hT) (State.setF_keeps_reg .MEM_STK (Parts.within hT)
    (State.setStackPort_keeps (Parts.within hT) h _ _) _) _) _ _ _)

theorem execRowSpare_keeps (hT : Parts.le (Parts.of (logParts ++ ([.reg .MEM_ERR, .reg .MEM_STK, .stackPorts] : List
    Part))) T) (h : Keeps T s0 s) (b : Fin 16) (row : Nat) : KeepsOut T s0 (execRowSpare b row s) :=
  onlyIf_keeps h _ (fun _ hs => State.spareRow_keeps hT hs _ _)

/-! ### The trace -/

theorem execTraceFreeze_keeps (hT : Parts.le (Parts.of [.reg .OBS_TRSTAT]) T) (h : Keeps T s0 s) :
    KeepsOut T s0 (execTraceFreeze s) :=
  onlyIf_keeps h _ (fun _ hs => State.setF_keeps_reg .OBS_TRSTAT hT hs _)

theorem execTraceFull_keeps (hT : Parts.le (Parts.of [.reg .OBS_TRSTAT]) T) (h : Keeps T s0 s) :
    KeepsOut T s0 (execTraceFull s) :=
  onlyIf_keeps h _ (fun _ hs => State.setF_keeps_reg .OBS_TRSTAT hT hs _)

theorem State.rearm_keeps (hT : Parts.le (Parts.of [.reg .OBS_TRSTAT, .trace]) T) (h : Keeps T s0 s) :
    Keeps T s0 s.rearm :=
  State.setFs_keeps_regs [.OBS_TRSTAT] (Parts.within hT) (State.trace_keeps (Parts.within hT) h _)

theorem State.fire_keeps (hT : Parts.le (Parts.of triggerParts) T) (h : Keeps T s0 s) : Keeps T s0 s.fire :=
  State.trigger_keeps hT h _ _

/-! ### The Damper -/

theorem State.failSensor_keeps (hT : Parts.le (Parts.of (alertParts ++ logParts ++
    ([.bays, .reg .DMP_BAY, .reg .DMP_TDRM] : List Part))) T) (h : Keeps T s0 s) (i : Nat) :
    Keeps T s0 (s.failSensor i) := by
  unfold State.failSensor
  extract_lets b j known src s1 s2
  have hs1 : Keeps T s0 s1 := ite_keeps (State.setF_keeps_reg .DMP_TDRM (Parts.within hT) h _)
    (ite_keeps (State.setF_keeps_reg .DMP_TDRM (Parts.within hT) h _) (State.setBay_keeps (Parts.within hT) h _ _))
  have hs2 : Keeps T s0 s2 := State.setBit_keeps_reg .DMP_BAY (Parts.within hT) hs1 _ _
  exact ite_keeps h (State.alert_keeps (Parts.within hT) (State.logEvent_keeps (Parts.within hT) hs2 _ _ _))

theorem State.sampleBay_keeps (hT : Parts.le (Parts.of (alertParts ++ logParts ++
    ([.bays, .reg .DMP_BAY, .reg .DMP_TDRM, .reg .DMP_TLOG] : List Part))) T) (h : Keeps T s0 s) (codes : List Nat)
    (b : Nat) : Keeps T s0 (s.sampleBay codes b) :=
  State.setFs_keeps_regs [.DMP_TLOG, .DMP_TDRM] (Parts.within hT)
    (keeps_foldl _ h fun _ _ hs => ite_keeps (State.failSensor_keeps (Parts.within hT) hs _) hs)

theorem execSensorSample_keeps (hT : Parts.le (Parts.of (alertParts ++ logParts ++
    ([.bays, .reg .DMP_BAY, .reg .DMP_PWR, .reg .DMP_TDRM, .reg .DMP_TLOG] : List Part))) T) (h : Keeps T s0 s)
    (m : SampleIn) : KeepsOut T s0 (execSensorSample m s) :=
  onlyIf_keeps h _ (fun _ hs => State.setF_keeps_reg .DMP_PWR (Parts.within hT)
    (keeps_foldl _ hs fun _ _ hs => State.sampleBay_keeps (Parts.within hT) hs _ _) _)

theorem execSensorFailure_keeps (hT : Parts.le (Parts.of (alertParts ++ logParts ++
    ([.bays, .reg .DMP_BAY, .reg .DMP_TDRM] : List Part))) T) (h : Keeps T s0 s) (i : Fin 128) :
    KeepsOut T s0 (execSensorFailure i s) :=
  onlyIf_keeps h _ (fun _ hs => State.failSensor_keeps hT hs _)

theorem State.setDuties_keeps (hT : Parts.le (Parts.of (traceParts ++ ([.reg .DMP_BAY] : List Part))) T)
    (h : Keeps T s0 s) (d : List Nat) : Keeps T s0 (s.setDuties d) :=
  keeps_foldl _ (keeps_foldl _ h fun _ _ hs => State.setF_keeps_reg .DMP_BAY (Parts.within hT) hs _) fun _ _ hs =>
    ite_keeps hs (State.traceRec_keeps (Parts.within hT) hs ..)

theorem State.learnBay_keeps (hT : Parts.le (Parts.of [.bays, .reg .DMP_BAY]) T) (h : Keeps T s0 s)
    (profile b p issued : Nat) : Keeps T s0 (s.learnBay profile b p issued) :=
  State.setBay_keeps (Parts.within hT) (ite_keeps (State.setF_keeps_reg .DMP_BAY (Parts.within hT) h _) h) _ _

theorem State.periodEnds_keeps (hT : Parts.le (Parts.of [.bays]) T) (h : Keeps T s0 s) (b : Nat) :
    Keeps T s0 (s.periodEnds b) :=
  State.setBay_keeps hT h _ _

theorem State.recordPeriod_keeps (hT : Parts.le (Parts.of (triggerParts ++
    ([.damper, .reg .DMP_BAY, .reg .DMP_PWR, .reg .DMP_STAT, .reg .DMP_TDRM] : List Part))) T) (h : Keeps T s0 s)
    (profile : Nat) (m : PeriodIn) : Keeps T s0 (s.recordPeriod profile m) := by
  unfold State.recordPeriod
  extract_lets bays pIn s1 src d n s2
  have hs1 : Keeps T s0 s1 := keeps_foldl _ h fun _ _ hs => ite_keeps
    (State.gcount_keeps (Parts.within hT) (State.setFs_keeps_regs [.DMP_BAY, .DMP_TDRM] (Parts.within hT) hs) _ _)
    (State.setFs_keeps_regs [.DMP_BAY, .DMP_TDRM] (Parts.within hT) hs)
  have hs2 : Keeps T s0 s2 := State.damper_keeps (Parts.within hT) hs1 _
  exact State.setFs_keeps_regs [.DMP_PWR, .DMP_BAY, .DMP_TDRM, .DMP_STAT] (Parts.within hT) hs2

theorem State.allot_keeps (hT : Parts.le (Parts.of (traceParts ++
    ([.bays, .damper, .reg .DMP_BAY, .reg .DMP_STAT] : List Part))) T) (h : Keeps T s0 s) (profile pCap : Nat)
    (m : PeriodIn) : Keeps T s0 (s.allot profile pCap m) :=
  State.setF_keeps_reg .DMP_STAT (Parts.within hT) (State.setDuties_keeps (Parts.within hT)
    (State.damper_keeps (Parts.within hT) (keeps_foldl _ (keeps_foldl _ h fun _ _ hs => State.learnBay_keeps
    (Parts.within hT) hs ..) fun _ _ hs => State.setFs_keeps_regs [.DMP_BAY, .DMP_STAT] (Parts.within hT) hs) _) _) _

theorem State.coneClock_keeps (hT : Parts.le (Parts.of [.reg .HTH_CONE]) T) (h : Keeps T s0 s) (k : Nat) :
    Keeps T s0 (s.coneClock k) :=
  State.setFs_keeps_regs [.HTH_CONE] hT h

theorem State.runPeriod_keeps (hT : Parts.le (Parts.of (triggerParts ++
    ([.bays, .damper, .reg .DMP_BAY, .reg .DMP_PWR, .reg .DMP_STAT, .reg .DMP_TDRM, .reg .HTH_CONE] : List Part))) T)
    (h : Keeps T s0 s) (m : PeriodIn) : Keeps T s0 (s.runPeriod m) := by
  unfold State.runPeriod
  extract_lets profile pCap s1 src s2 s3 s4 s5 src2
  have hs1 : Keeps T s0 s1 := State.recordPeriod_keeps (Parts.within hT) h _ _
  have hs2 : Keeps T s0 s2 := State.damper_keeps (Parts.within hT) hs1 _
  have hs3 : Keeps T s0 s3 := ite_keeps hs2 (State.allot_keeps (Parts.within hT) hs2 _ _ _)
  have hs4 : Keeps T s0 s4 := keeps_foldl _ hs3 fun _ _ hs => State.periodEnds_keeps (Parts.within hT) hs _
  have hs5 : Keeps T s0 s5 := keeps_foldl _ hs4 fun _ _ hs => State.coneClock_keeps (Parts.within hT) hs _
  exact State.damper_keeps (Parts.within hT) hs5 _

theorem execBudgetPeriod_keeps (hT : Parts.le (Parts.of (triggerParts ++
    ([.bays, .damper, .reg .DMP_BAY, .reg .DMP_PWR, .reg .DMP_STAT, .reg .DMP_TDRM, .reg .HTH_CONE] : List Part))) T)
    (h : Keeps T s0 s) (m : PeriodIn) : KeepsOut T s0 (execBudgetPeriod m s) :=
  onlyIf_keeps h _ (fun _ hs => State.runPeriod_keeps hT hs _)

theorem State.limitFast_keeps (hT : Parts.le (Parts.of (traceParts ++
    ([.damper, .reg .DMP_BAY, .reg .DMP_STAT] : List Part))) T) (h : Keeps T s0 s) : Keeps T s0 s.limitFast :=
  State.setF_keeps_reg .DMP_STAT (Parts.within hT) (State.damper_keeps (Parts.within hT)
    (State.setDuties_keeps (Parts.within hT) (keeps_foldl _ h fun _ _ hs => State.setBit_keeps_reg .DMP_BAY
    (Parts.within hT) hs _ _) _) _) _

theorem execFastLimiter_keeps (hT : Parts.le (Parts.of (traceParts ++
    ([.damper, .reg .DMP_BAY, .reg .DMP_STAT] : List Part))) T) (h : Keeps T s0 s) (avg : Nat) :
    KeepsOut T s0 (execFastLimiter avg s) :=
  onlyIf_keeps h _ (fun _ hs => State.limitFast_keeps hT hs)

theorem State.fallDuties_keeps (hT : Parts.le (Parts.of (traceParts ++ ([.reg .DMP_BAY] : List Part))) T)
    (h : Keeps T s0 s) : Keeps T s0 s.fallDuties :=
  State.setDuties_keeps hT h _

theorem State.fallBack_keeps (hT : Parts.le (Parts.of (traceParts ++
    ([.damper, .reg .DMP_BAY, .reg .DMP_STAT] : List Part))) T) (h : Keeps T s0 s) : Keeps T s0 s.fallBack := by
  unfold State.fallBack
  extract_lets s1 s2 src s3
  have hs1 : Keeps T s0 s1 := State.addSat_keeps_reg .DMP_STAT (Parts.within hT) h _
  have hs2 : Keeps T s0 s2 := keeps_foldl _ hs1 fun _ _ hs => State.setBit_keeps_reg .DMP_BAY (Parts.within hT) hs _ _
  have hs3 : Keeps T s0 s3 := State.damper_keeps (Parts.within hT) hs2 _
  exact State.setF_keeps_reg .DMP_STAT (Parts.within hT) (ite_keeps hs3
    (State.fallDuties_keeps (Parts.within hT) hs3)) _

theorem execFallback_keeps (hT : Parts.le (Parts.of (traceParts ++
    ([.damper, .reg .DMP_BAY, .reg .DMP_STAT] : List Part))) T) (h : Keeps T s0 s) : KeepsOut T s0 (execFallback s) :=
  onlyIf_keeps h _ (fun _ hs => State.fallBack_keeps hT hs)

theorem State.leastAllowances_keeps (hT : Parts.le (Parts.of (traceParts ++ ([.damper, .reg .DMP_BAY] : List Part)))
    T) (h : Keeps T s0 s) : Keeps T s0 s.leastAllowances :=
  State.fallDuties_keeps (Parts.within hT) (keeps_foldl _ (State.damper_keeps (Parts.within hT) h _) fun _ _ hs =>
    State.setF_keeps_reg .DMP_BAY (Parts.within hT) hs _)

theorem State.damperStart_keeps (hT : Parts.le (Parts.of (traceParts ++
    ([.bays, .damper, .reg .DMP_BAY, .reg .DMP_STAT] : List Part))) T) (h : Keeps T s0 s) :
    Keeps T s0 s.damperStart :=
  State.setF_keeps_reg .DMP_STAT (Parts.within hT) (State.leastAllowances_keeps (Parts.within hT)
    (keeps_foldl _ (State.damper_keeps (Parts.within hT) h _) fun _ _ hs => State.setBay_keeps (Parts.within hT) hs _
    _)) _

theorem execThermWarn_keeps (hT : Parts.le (Parts.of (alertParts ++ irqParts ++ ([.reg .DMP_STAT] : List Part))) T)
    (h : Keeps T s0 s) : KeepsOut T s0 (execThermWarn s) :=
  onlyIf_keeps h _ (fun _ hs => State.thermChanged_keeps (Parts.within hT)
    (State.setOut_keeps (Parts.within hT) (State.setF_keeps_reg .DMP_STAT (Parts.within hT) hs _) _ _))

theorem execThermWarnRelease_keeps (hT : Parts.le (Parts.of (alertParts ++ irqParts ++
    ([.reg .DMP_STAT] : List Part))) T) (h : Keeps T s0 s) : KeepsOut T s0 (execThermWarnRelease s) :=
  onlyIf_keeps h _ (fun _ hs => State.thermChanged_keeps (Parts.within hT)
    (State.setOut_keeps (Parts.within hT) (State.setF_keeps_reg .DMP_STAT (Parts.within hT) hs _) _ _))

theorem State.trip_keeps (hT : Parts.le (Parts.of (traceParts ++ alertParts ++ irqParts ++
    ([.reg .DMP_BAY, .reg .DMP_STAT] : List Part))) T) (h : Keeps T s0 s) : Keeps T s0 s.trip := by
  unfold State.trip
  extract_lets s1
  have hs1 : Keeps T s0 s1 := State.thermChanged_keeps (Parts.within hT)
    (State.setOut_keeps (Parts.within hT) (State.setF_keeps_reg .DMP_STAT (Parts.within hT) h _) _ _)
  exact ite_keeps (State.setDuties_keeps (Parts.within hT) (keeps_foldl _ hs1 fun _ _ hs =>
    State.setBit_keeps_reg .DMP_BAY (Parts.within hT) hs _ _) _) hs1

theorem execThermTrip_keeps (hT : Parts.le (Parts.of (traceParts ++ alertParts ++ irqParts ++
    ([.reg .DMP_BAY, .reg .DMP_STAT] : List Part))) T) (h : Keeps T s0 s) : KeepsOut T s0 (execThermTrip s) :=
  onlyIf_keeps h _ (fun _ hs => State.trip_keeps hT hs)

theorem State.releaseTrip_keeps (hT : Parts.le (Parts.of (traceParts ++ alertParts ++ irqParts ++
    ([.damper, .reg .DMP_BAY, .reg .DMP_STAT] : List Part))) T) (h : Keeps T s0 s) : Keeps T s0 s.releaseTrip := by
  unfold State.releaseTrip
  extract_lets s1
  have hs1 : Keeps T s0 s1 := State.thermChanged_keeps (Parts.within hT)
    (State.setOut_keeps (Parts.within hT) (State.setF_keeps_reg .DMP_STAT (Parts.within hT) h _) _ _)
  exact ite_keeps (State.leastAllowances_keeps (Parts.within hT) hs1) hs1

theorem execHearthGate_keeps (hT : Parts.le (Parts.of [.hearths]) T) (h : Keeps T s0 s) (k : Fin 288) :
    KeepsOut T s0 (execHearthGate k s) :=
  onlyIf_keeps h _ (fun _ hs => State.setHearth_keeps hT hs _ _)

theorem State.saveBusy_keeps (hT : Parts.le (Parts.of logParts) T) (h : Keeps T s0 s) : Keeps T s0 s.saveBusy :=
  keeps_foldl _ (State.stoker_keeps (Parts.within hT) h _) fun _ _ hs => State.logEvent_keeps hT hs _ _ _

theorem execBusyTimeSave_keeps (hT : Parts.le (Parts.of logParts) T) (h : Keeps T s0 s) :
    KeepsOut T s0 (execBusyTimeSave s) :=
  onlyIf_keeps h _ (fun _ hs => State.saveBusy_keeps hT hs)

/-! ### Cone tests -/

theorem State.syncCone_keeps (hT : Parts.le (Parts.of [.reg .HTH_CONECTL]) T) (h : Keeps T s0 s) :
    Keeps T s0 s.syncCone :=
  State.setFs_keeps_regs [.HTH_CONECTL] hT h

theorem execConeTestDue_keeps (hT : Parts.le (Parts.of [.hearths, .reg .HTH_CONECTL]) T) (h : Keeps T s0 s)
    (k : Fin 288) : KeepsOut T s0 (execConeTestDue k s) :=
  onlyIf_keeps h _ (fun _ hs => State.syncCone_keeps (Parts.within hT)
    (State.setHearth_keeps (Parts.within hT) hs _ _))

theorem State.drain_keeps (hT : Parts.le (Parts.of retireParts) T) (h : Keeps T s0 s) (k : Nat) :
    Keeps T s0 (s.drain k) :=
  State.setHearthState_keeps (Parts.within hT) (State.setHearth_keeps (Parts.within hT) h _ _) _ _

theorem execConeTestOverdue_keeps (hT : Parts.le (Parts.of retireParts) T) (h : Keeps T s0 s) (k : Fin 288) :
    KeepsOut T s0 (execConeTestOverdue k s) :=
  onlyIf_keeps h _ (fun _ hs => State.drain_keeps hT hs _)

theorem State.sweep_keeps (hT : Parts.le (Parts.of [.hearths, .reg .HTH_CONECTL]) T) (h : Keeps T s0 s) :
    Keeps T s0 s.sweep :=
  State.syncCone_keeps (Parts.within hT) (keeps_foldl _ h fun _ _ hs => ite_keeps
    (State.setHearth_keeps (Parts.within hT) hs _ _) hs)

theorem execConeTestStart_keeps (hT : Parts.le (Parts.of [.hearths]) T) (h : Keeps T s0 s) (k : Fin 288) :
    KeepsOut T s0 (execConeTestStart k s) :=
  onlyIf_keeps h _ (fun _ hs => State.setHearth_keeps hT hs _ _)

theorem recFlds_regs (h slot : Nat) :
    ∀ f ∈ [(recFlds h slot).valid, (recFlds h slot).field, (recFlds h slot).pend, (recFlds h slot).phys],
      [Reg.HTH_RREP, .HTH_CREP].contains f.reg = true := by
  unfold recFlds
  split_ifs <;> simp only [List.forall_mem_cons] <;> exact ⟨rfl, rfl, rfl, rfl, by simp⟩

theorem State.setRecord_keeps (hT : Parts.le (Parts.of repairParts) T) (h : Keeps T s0 s)
    (k slot field pend phys : Nat) : Keeps T s0 (s.setRecord k slot field pend phys) := by
  have hr := recFlds_regs k slot
  simp only [List.forall_mem_cons] at hr
  obtain ⟨h1, h2, h3, h4, -⟩ := hr
  exact State.setFs_keeps_regs [.HTH_RREP, .HTH_CREP] (Parts.within hT) h
    (by simp only [List.all_cons, h1, h2, h3, h4]; rfl)

theorem State.syncFree_keeps (hT : Parts.le (Parts.of [.reg .HTH_STATE]) T) (h : Keeps T s0 s) (k : Nat) :
    Keeps T s0 (s.syncFree k) :=
  State.setFs_keeps_regs [.HTH_STATE] hT h

theorem State.addPending_keeps (hT : Parts.le (Parts.of repairParts) T) (h : Keeps T s0 s) (k a b phys : Nat) :
    Keeps T s0 (s.addPending k a b phys) :=
  ite_keeps (State.setRecord_keeps hT h ..) (State.setRecord_keeps hT h ..)

theorem State.allocate_keeps (hT : Parts.le (Parts.of (repairParts ++ ([.reg .HTH_STATE, .stoker] : List Part))) T)
    (h : Keeps T s0 s) (k : Nat) (r : List Nat × List Nat) : Keeps T s0 (s.allocate k r) :=
  State.stoker_keeps (Parts.within hT) (State.syncFree_keeps (Parts.within hT)
    (keeps_foldl _ (keeps_foldl _ h fun _ _ hs => State.addPending_keeps (Parts.within hT) hs ..) fun _ _ hs =>
    State.addPending_keeps (Parts.within hT) hs ..) _) _

theorem State.testOver_keeps (hT : Parts.le (Parts.of [.hearths, .reg .HTH_CONECTL]) T) (h : Keeps T s0 s) (k : Nat) :
    Keeps T s0 (s.testOver k) :=
  State.syncCone_keeps (Parts.within hT) (State.setHearth_keeps (Parts.within hT) h _ _)

theorem State.conePass_keeps (hT : Parts.le (Parts.of (retireParts ++
    ([.reg .HTH_CONE, .reg .HTH_CONECTL] : List Part))) T) (h : Keeps T s0 s) (k : Nat) :
    Keeps T s0 (s.conePass k) := by
  unfold State.conePass
  extract_lets s1 src s2 s3
  have hs1 : Keeps T s0 s1 := State.testOver_keeps (Parts.within hT) h _
  have hs2 : Keeps T s0 s2 := State.setHearth_keeps (Parts.within hT) hs1 _ _
  have hs3 : Keeps T s0 s3 := State.addSat_keeps_reg .HTH_CONE (Parts.within hT)
    (State.setFs_keeps_regs [.HTH_CONE] (Parts.within hT) hs2) _
  exact ite_keeps hs3 (State.setHearthState_keeps (Parts.within hT) hs3 _ _)

theorem State.resolveFail_keeps (hT : Parts.le (Parts.of (alertParts ++ irqParts ++ repairParts ++ logParts ++
    ([.reg .HTH_STATE, .reg .ID_HEARTHS, .reg .ID_HMAP] : List Part))) T) (h : Keeps T s0 s) (k : Nat)
    (cells : Option (List (Nat × Nat))) : Keeps T s0 (s.resolveFail k cells) := by
  unfold State.resolveFail
  dsimp only
  split
  · exact State.setHearthState_keeps (Parts.within hT) (State.allocate_keeps (Parts.within hT) h _ _) _ _
  · exact State.setHearthState_keeps (Parts.within hT) h _ _

theorem State.coneFail_keeps (hT : Parts.le (Parts.of (runParts ++ retireParts ++ repairParts ++
    ([.reg .HTH_CONE, .reg .HTH_CONECTL] : List Part))) T) (h : Keeps T s0 s) (k : Nat)
    (cells : Option (List (Nat × Nat))) : Keeps T s0 (s.coneFail k cells) := by
  unfold State.coneFail
  extract_lets s1
  have hs1 : Keeps T s0 s1 := State.addSat_keeps_reg .HTH_STATE (Parts.within hT)
    (State.setF_keeps_reg .HTH_CONE (Parts.within hT) (State.testOver_keeps (Parts.within hT) h _) _) _
  exact ite_keeps (State.resolveFail_keeps (Parts.within hT) hs1 _ _) (State.quarantine_keeps (Parts.within hT) hs1 _)

theorem State.coneVerdict_keeps (hT : Parts.le (Parts.of (runParts ++ retireParts ++ repairParts ++
    ([.reg .HTH_CONE, .reg .HTH_CONECTL, .reg .HTH_GLZSTAT] : List Part))) T) (h : Keeps T s0 s) (k : Nat)
    (f : ConeFinding) : Keeps T s0 (s.coneVerdict k f) := by
  unfold State.coneVerdict
  refine ite_keeps ?_ ?_
  · exact State.glazeFault_keeps (Parts.within hT) (State.setHearth_keeps (Parts.within hT) h _ _) _
  · refine ite_keeps (State.coneFail_keeps (Parts.within hT) h _ _) ?_
    split
    · exact State.conePass_keeps (Parts.within hT) h _
    · exact State.conePass_keeps (Parts.within hT) h _
    · exact State.coneFail_keeps (Parts.within hT) h _ _
    · exact State.coneFail_keeps (Parts.within hT) h _ _

theorem execConeTestEnd_keeps (hT : Parts.le (Parts.of (runParts ++ retireParts ++ repairParts ++
    ([.reg .HTH_CONE, .reg .HTH_CONECTL, .reg .HTH_GLZSTAT] : List Part))) T) (h : Keeps T s0 s) (k : Fin 288)
    (f : ConeFinding) : KeepsOut T s0 (execConeTestEnd k f s) :=
  onlyIf_keeps h _ (fun _ hs => State.coneVerdict_keeps hT hs _ _)

/-! ### Images and persistent records -/

theorem State.putHdr_keeps (hT : Parts.le (Parts.of [.nvm]) T) (h : Keeps T s0 s) (k : BootHdr) :
    Keeps T s0 (s.putHdr k) :=
  State.nwrite_keeps hT (State.nerase_keeps hT h _ _) _ _

theorem State.chooseSlot_keeps (hT : Parts.le (Parts.of [.nvm]) T) (h : Keeps T s0 s) {x : State × Nat × Bool}
    (he : s.chooseSlot = some x) : Keeps T s0 x.1 := by
  unfold State.chooseSlot at he
  extract_lets hd src back t at he
  have hback : ∀ s, Keeps T s0 s → back s = some x → Keeps T s0 x.1 := by
    intro s hs hb
    unfold back at hb
    split at hb
    · cases hb
      exact State.putHdr_keeps hT hs _
    · cases hb
  have ht : Keeps T s0 t := State.putHdr_keeps hT h _
  split at he
  · split at he
    · cases he
      exact ite_keeps (State.putHdr_keeps hT h _) h
    · cases he
  · split at he
    · split at he
      · cases he
        exact ht
      · exact hback t ht he
    · exact hback s h he

theorem State.calibrate_keeps (hT : Parts.le (Parts.of [.reg .CAL_ECOEF, .reg .CAL_ISNS, .reg .CAL_TSNS,
    .reg .DMP_ECOEF]) T) (h : Keeps T s0 s) (b : List Byte) : Keeps T s0 (s.calibrate b) :=
  keeps_foldl _ (keeps_foldl _ (keeps_foldl _ h fun _ _ hs => State.setFs_keeps_regs [.CAL_TSNS] (Parts.within hT) hs)
    fun _ _ hs => State.setFs_keeps_regs [.CAL_ISNS] (Parts.within hT) hs) fun _ _ hs =>
    State.setFs_keeps_regs [.DMP_ECOEF, .CAL_ECOEF] (Parts.within hT) hs

theorem State.observe_keeps (hT : Parts.le (Parts.of [.reg .OBS_TRCFG, .reg .OBS_TRTRIG]) T) (h : Keeps T s0 s)
    (b : List Byte) : Keeps T s0 (s.observe b) :=
  State.setFs_keeps_regs [.OBS_TRCFG, .OBS_TRTRIG] hT h

theorem State.applySeval_keeps (hT : Parts.le (Parts.of [.reg .CAL_ECOEF, .reg .CAL_ISNS, .reg .CAL_TSNS,
    .reg .DMP_CFG, .reg .DMP_ECOEF, .reg .MEM_ARBCFG, .reg .MEM_BANDMAP, .reg .MEM_SAGGAR, .reg .OBS_TRCFG,
    .reg .OBS_TRTRIG, .seval]) T) (h : Keeps T s0 s) (m : SevalImg) : Keeps T s0 (s.applySeval m) := by
  unfold State.applySeval
  extract_lets l s1 pw s2 cv s3 ar s4 s5
  have hs1 : Keeps T s0 s1 := State.seval_keeps (Parts.within hT) h _
  have hs2 : Keeps T s0 s2 := ite_keeps hs1 (State.setFs_keeps_regs [.DMP_CFG] (Parts.within hT) hs1)
  have hs3 : Keeps T s0 s3 := State.setFs_keeps_regs [.MEM_BANDMAP, .MEM_SAGGAR] (Parts.within hT) hs2
  have hs4 : Keeps T s0 s4 := State.setFs_keeps_regs [.MEM_ARBCFG] (Parts.within hT) hs3
  have hs5 : Keeps T s0 s5 := State.calibrate_keeps (Parts.within hT) hs4 _
  split
  · exact State.observe_keeps (Parts.within hT) hs5 _
  · exact hs5

theorem State.applyTopology_keeps (hT : Parts.le (Parts.of [.topology, .reg .FLU_POS]) T) (h : Keeps T s0 s)
    (m : SevalImg) : Keeps T s0 (s.applyTopology m) :=
  State.setFs_keeps_regs [.FLU_POS] (Parts.within hT) (State.topology_keeps (Parts.within hT) h _ _ _)

/-! ### Recovery -/

theorem State.cxlDown_keeps (hT : Parts.le (Parts.of [.atc, .filter, .link, .pba, .reg .CXL_LINK, .reg .CXL_SF,
    .watch]) T) (h : Keeps T s0 s) : Keeps T s0 s.cxlDown :=
  State.setFs_keeps_regs [.CXL_LINK, .CXL_SF] (Parts.within hT) (State.host_keeps (Parts.within hT) h _)

theorem State.cxlTrain_keeps (hT : Parts.le (Parts.of [.free, .reg .CXL_LINK]) T) (h : Keeps T s0 s) :
    Keeps T s0 s.cxlTrain :=
  State.setFs_keeps_regs [.CXL_LINK] (Parts.within hT) (State.fresh_keeps (Parts.within hT)
    (State.fresh_keeps (Parts.within hT) h))

theorem State.flrEnd_keeps (hT : Parts.le (Parts.of (triggerParts ++
    ([.coll, .flights, .link, .queues, .reg .FLU_RED, .reg .OBS_CNT, .reg .QUE_CFG, .reg .QUE_CTL, .reg .QUE_STAT,
    .reg .VF_FAULT0] : List Part))) T) (h : Keeps T s0 s) (c : Nat) : Keeps T s0 (s.flrEnd c) := by
  unfold State.flrEnd
  extract_lets qs s1 s2 s3 s4
  have hs1 : Keeps T s0 s1 := keeps_foldl _ h fun _ _ hs => State.freeEntry_keeps (Parts.within hT)
    (State.countUnits_keeps (Parts.within hT) hs _) _ _
  have hs2 : Keeps T s0 s2 := State.flights_keeps (Parts.within hT) hs1 _
  have hs3 : Keeps T s0 s3 := keeps_foldl _ hs2 fun _ _ hs => State.setFs_keeps_regs [.QUE_CFG, .QUE_CTL, .QUE_STAT]
    (Parts.within hT) (State.setQueue_keeps (Parts.within hT) hs _ _)
  have hs4 : Keeps T s0 s4 := keeps_foldl _ hs3 fun _ _ hs => State.link_keeps (Parts.within hT) hs _ (by rfl)
  exact State.setF_keeps_reg .VF_FAULT0 (Parts.within hT) hs4 _

theorem State.leaveReady_keeps (hT : Parts.le (Parts.of [.flue, .ports, .reg .SVC_SIDEBAND]) T) (h : Keeps T s0 s) :
    Keeps T s0 s.leaveReady :=
  State.flue_keeps (Parts.within hT) (State.floodEndpoint_keeps (Parts.within hT)
    (State.setOut_keeps (Parts.within hT) h _ _) _) _ (by rfl)

theorem State.enterReady_keeps (hT : Parts.le (Parts.of [.flue, .ports, .reg .SVC_SIDEBAND]) T) (h : Keeps T s0 s) :
    Keeps T s0 s.enterReady :=
  State.floodEndpoint_keeps (Parts.within hT) (State.setOut_keeps (Parts.within hT)
    (State.flue_keeps (Parts.within hT) h _ (by rfl)) _ _) _

theorem State.cancelEntry_keeps (hT : Parts.le (Parts.of (traceParts ++ alertParts ++ irqParts ++
    ([.reg .PWR_STAT] : List Part))) T) (h : Keeps T s0 s) : Keeps T s0 s.cancelEntry :=
  ite_keeps (State.setOut_keeps (Parts.within hT) (State.setPwrState_keeps hT
    (State.setFs_keeps_regs [.PWR_STAT] (Parts.within hT) h) _) _ _) h

/-- A torn tile changes memory and takes a free value; of what completing it would do, nothing else stays. -/
theorem State.tear_keeps (hT : Parts.le (Parts.of [.dram, .hostMem, .free]) T) (h : Keeps T s0 s) (f : Flight)
    (t : Nat) : Keeps T s0 (s.tear f t) := by
  have hs := State.fresh_keeps (Parts.within hT) h
  exact keeps_change hs (l := [.dram, .hostMem]) (Parts.within hT)
    (by intro p; cases p <;> simp [Part.same, State.getF, State.tear]) rfl (le_refl _) (Fuses.growsTo_refl _)
    (canon_stores id (mixMem_wf _ _) id (mixMem_wf _ _) id id id id id id id id id id)

theorem State.countCut_keeps (hT : Parts.le (Parts.of (triggerParts ++
    ([.free, .hearths, .reg .OBS_CNT] : List Part))) T) (h : Keeps T s0 s) (f : Flight) : Keeps T s0 (s.countCut f) :=
  ite_keeps (keeps_foldl _ h fun _ _ hs => State.runCut_keeps hT hs _ _)
    (State.countUnits_keeps (Parts.within hT) (keeps_foldl _ h fun _ _ hs => State.runCut_keeps hT hs _ _) _)

theorem State.cut_keeps (hT : Parts.le (Parts.of [.dram, .free, .hostMem]) T) (h : Keeps T s0 s) (f : Flight)
    (clamped : List Nat) : Keeps T s0 (s.cut f clamped).2 := by
  unfold State.cut
  split
  · exact h
  · exact keeps_foldl _ (State.fresh_keeps (Parts.within hT) h) fun _ _ hs => State.tear_keeps (Parts.within hT) hs _
      _

theorem State.stackPortsUpdate_keeps (hT : Parts.le (Parts.of [.stackPorts]) T) (h : Keeps T s0 s)
    (f : StackRt → StackRt) : Keeps T s0 { s with
      stackPorts := s.stackPorts.filterMap fun p => if f p.2 = StackRt.init then none else some (p.1, f p.2) } :=
  keeps_change h hT (by intro p; cases p <;> simp [Part.same, State.getF]) rfl (le_refl _) (Fuses.growsTo_refl _)
    (canon_stores id id id id id id id id id id (Store.wf_update f) id id id)

theorem State.quiesce_keeps (hT : Parts.le (Parts.of (runParts ++
    ([.coll, .flue, .hostMem, .reg .RST_CLAMP, .stackPorts] : List Part))) T) (h : Keeps T s0 s)
    (bays engines : Nat) : Keeps T s0 (s.quiesce bays engines) := by
  unfold State.quiesce
  extract_lets s1 r src1 src2 s2 s3
  have hs1 : Keeps T s0 s1 := State.setFs_keeps_regs [.RST_CLAMP] (Parts.within hT) h
  have hr : Keeps T s0 r.2 := by
    refine List.foldlRecOn _ _ (motive := fun a : List Flight × State => Keeps T s0 a.2) hs1 fun a ha f _ => ?_
    exact State.cut_keeps (Parts.within hT) (State.countCut_keeps (Parts.within hT) ha _) _ _
  have hf : Keeps T s0 { r.2 with flights := r.1 } := State.flights_keeps (Parts.within hT) hr _
  have hc : Keeps T s0 { r.2 with flights := r.1, coll := [] } := State.coll_keeps (Parts.within hT) hf _
  have hs2 : Keeps T s0 s2 := State.flue_keeps (Parts.within hT) hc { r.2.flue with early := [] } rfl
  have hs3 : Keeps T s0 s3 := keeps_foldl _ hs2 fun _ _ hs => State.putSlot_keeps (Parts.within hT) hs _
  exact State.stackPortsUpdate_keeps (Parts.within hT) hs3 fun r : StackRt =>
    { r with outstanding := [], corrective := [] }

theorem State.dcopy_keeps (hT : Parts.le (Parts.of [.dram, .badLines]) T) (h : Keeps T s0 s) (src dst n : Nat) :
    Keeps T s0 (s.dcopy src dst n) :=
  keeps_change h hT (by intro p; cases p <;> simp [Part.same, State.getF, State.dcopy]) rfl (le_refl _)
    (Fuses.growsTo_refl _) (canon_stores id (Mem.copy_wf _ _ _) (Store.wf_filter _) id id id id id id id id id id id)

theorem State.capture_keeps (hT : Parts.le (Parts.of (lineParts ++ ([.free] : List Part))) T) (h : Keeps T s0 s) :
    Keeps T s0 s.capture := by
  unfold State.capture
  extract_lets b s1 s2 s3 s4
  have hs1 : Keeps T s0 s1 := State.dwrite_keeps (Parts.within hT) h _ _
  have hs2 : Keeps T s0 s2 := State.dwrite_keeps (Parts.within hT) hs1 _ _
  have hs3 : Keeps T s0 s3 := State.dwrite_keeps (Parts.within hT) hs2 _ _
  have hs4 : Keeps T s0 s4 := State.dwrite_keeps (Parts.within hT) hs3 _ _
  exact State.dwrite_keeps (Parts.within hT) (State.fresh_keeps (Parts.within hT)
    (State.dwrite_keeps (Parts.within hT) (State.fresh_keeps (Parts.within hT)
    (State.dcopy_keeps (Parts.within hT) (State.dwrite_keeps (Parts.within hT)
    (State.fresh_keeps (Parts.within hT) hs4) _ _) _ _ _)) _ _)) _ _

theorem State.mailboxBusy_keeps (hT : Parts.le (Parts.of (irqParts ++ ([.reg .STK_MBSTAT] : List Part))) T)
    (h : Keeps T s0 s) (was : Bool) : Keeps T s0 (s.mailboxBusy was) :=
  ite_keeps (State.irq_keeps (Parts.within hT) (State.setF_keeps_reg .STK_MBSTAT (Parts.within hT) h _) _ _) h

theorem keptPorts_wf {m : Store StackRt} (h : Store.wf StackRt.init m = true) :
    Store.wf StackRt.init (keptPorts m) = true :=
  Store.wf_update (fun r : StackRt => { StackRt.init with rows := r.rows, due := r.due }) h

theorem State.resetMain_keeps (hT : Parts.le (Parts.of (clearedParts ++
    ([.arena, .atc, .bays, .filter, .hearths, .link, .mbReq, .mbResp, .pba, .queues, .stackPorts, .stoker, .tlb,
    .watch] : List Part))) T) (h : Keeps T s0 s) : Keeps T s0 s.resetMain := by
  unfold State.resetMain
  extract_lets trip warn src1 src2 s1
  have hs1 : Keeps T s0 s1 := keeps_change h (l := clearedParts ++
    ([.tlb, .arena, .stackPorts, .mbReq, .mbResp, .bays,
      .hearths, .queues, .stoker] : List Part)) (Parts.within hT)
    (fun p => by
      cases p with
      | reg r =>
        refine (clearedRegs_filter (fun _ => false) rfl r).imp (fun hr => ?_) id
        exact List.mem_append_left _ (List.mem_map_of_mem hr)
      | _ => simp [Part.same, s1]) rfl (le_refl _) (Fuses.growsTo_refl _)
    (canon_stores (Store.sorted_filter _) id id id id (fun _ => rfl) (fun _ => rfl) (fun _ => rfl)
      (Store.wf_update fun r : QueueRt => { r with mark := none }) id keptPorts_wf
      (Store.wf_update fun r : BayRt => { BayRt.init with logicBad := r.logicBad })
      (Store.wf_update fun r : HearthRt => { r with testing := false, gated := false, sweep := false }) id)
  exact State.setFs_keeps_regs [.DMP_STAT] (Parts.within hT) (State.cxlDown_keeps (Parts.within hT) hs1)

theorem State.reload_keeps (hT : Parts.le (Parts.of [.reg .RST_STAT]) T) (h : Keeps T s0 s) {t : State}
    (he : s.reload = some t) : Keeps T s0 t := by
  unfold State.reload at he
  extract_lets slot fw sv nvFw nvSv at he
  split at he
  · cases he
    exact State.setF_keeps_reg .RST_STAT hT h _
  · cases he

theorem State.restore_keeps (hT : Parts.le (Parts.of (traceParts ++ alertParts ++ irqParts ++ logParts ++
    ([.bays, .damper, .reg .DMP_BAY, .reg .DMP_STAT, .reg .HTH_CONECTL, .reg .HTH_STATE, .reg .ID_HEARTHS,
    .reg .ID_HMAP] : List Part))) T) (h : Keeps T s0 s) : Keeps T s0 s.restore := by
  unfold State.restore
  extract_lets s1 s2
  have hs1 : Keeps T s0 s1 := keeps_foldl _ h fun _ _ hs => ite_keeps
    (State.setHearthState_keeps (Parts.within hT) hs _ _) hs
  have hs2 : Keeps T s0 s2 := State.damperStart_keeps (Parts.within hT) (State.syncCone_keeps (Parts.within hT) hs1)
  exact ite_keeps (State.setDuties_keeps (Parts.within hT) hs2 _) hs2

theorem State.recoverRecord_keeps (hT : Parts.le (Parts.of (triggerParts ++
    ([.arena, .free, .hostMem, .reg .OBS_CNT, .reg .QUE_STAT] : List Part))) T) (h : Keeps T s0 s) (f : Flight)
    (st : Status) : Keeps T s0 (s.recoverRecord f st) :=
  State.countAll_keeps (Parts.within hT) (State.setF_keeps_reg .QUE_STAT (Parts.within hT)
    (State.applyWrites_keeps (Parts.within hT) (State.fresh_keeps (Parts.within hT)
    (State.writeBitmap_keeps (Parts.within hT) h _)) _ _) _) _ _

theorem State.recoverQueue_keeps (hT : Parts.le (Parts.of (triggerParts ++ irqParts ++
    ([.arena, .free, .hostMem, .queues, .reg .OBS_CNT, .reg .QUE_CTL, .reg .QUE_STAT, .reg .SYNC] : List Part))) T)
    (h : Keeps T s0 s) (timedOut : List (Nat × Nat)) (q : Nat) : Keeps T s0 (s.recoverQueue timedOut q) := by
  unfold State.recoverQueue
  refine ite_keeps ?_ h
  extract_lets src s1
  have hs1 : Keeps T s0 s1 := State.setQueue_keeps (Parts.within hT) h _ _
  split
  · exact State.queueIrq_keeps (Parts.within hT) (State.haltQueue_keeps (Parts.within hT)
      (State.recoverRecord_keeps (Parts.within hT) hs1 _ _) _) _
  · exact State.setQState_keeps (Parts.within hT) (State.setF_keeps_reg .QUE_CTL (Parts.within hT) hs1 _) _ _

theorem State.logRecovery_keeps (hT : Parts.le (Parts.of logParts) T) (h : Keeps T s0 s) : Keeps T s0 s.logRecovery :=
  State.logEvent_keeps hT h _ _ _

theorem State.readyAfter_keeps (hT : Parts.le (Parts.of (portParts ++ ringParts ++ lineErrorParts ++ collParts ++
    irqParts ++ logParts ++ ([.arena, .free, .hostMem, .link, .queues, .recov, .reg .CTX_GOVSTAT, .reg .OBS_CNT,
    .reg .QUE_CFG, .reg .QUE_CTL, .reg .QUE_STAT, .reg .RST_CTL, .reg .RST_STAT, .reg .SVC_SIDEBAND, .reg .SYNC,
    .reg .VF_FAULT0] : List Part))) T) (h : Keeps T s0 s) (r : RecRt) : Keeps T s0 (s.readyAfter r) := by
  unfold State.readyAfter
  extract_lets s1 s2 s3 s4
  have hs1 : Keeps T s0 s1 := keeps_foldl _ h fun _ _ hs => State.flrEnd_keeps (Parts.within hT) hs _
  have hs2 : Keeps T s0 s2 := keeps_foldl _ hs1 fun _ _ hs => State.recoverQueue_keeps (Parts.within hT) hs _ _
  clear_value s2
  have hf : Keeps T s0 { s2 with flights := [] } := State.flights_keeps (Parts.within hT) hs2 _
  have hs3 : Keeps T s0 s3 := State.recov_keeps (Parts.within hT) hf none
  have hs4 : Keeps T s0 s4 := State.enterReady_keeps (Parts.within hT) (State.setRstStep_keeps (Parts.within hT)
    (State.setFs_keeps_regs [.RST_CTL] (Parts.within hT) hs3) _)
  exact State.irq_keeps (Parts.within hT) (State.rerunDecision_keeps (Parts.within hT)
    (State.logRecovery_keeps (Parts.within hT) hs4)) _ _

/-- Two runs of a memory, one below the other. -/
theorem Mem.twoRuns_wf {d : Byte} {m : List Host.Cell} {a b e : Nat} (hab : a ≤ b) (hbe : b ≤ e)
    (h : Memory.wf d m = true) :
    Memory.wf d ((m.filter fun p => decide (p.1 < a)) ++ m.filter fun p => decide (b ≤ p.1) && decide (p.1 < e)) =
      true := by
  have hw := Mem.sandwich (c := []) hab (Store.wf_filter (fun p => decide (p.1 < e)) h) List.Pairwise.nil (by simp)
  rw [List.nil_append, List.filter_filter, List.filter_filter] at hw
  refine (congrArg (Memory.wf d) (congrArg₂ (· ++ ·) (List.filter_congr fun p _ => ?_) rfl)).trans hw
  simp only [← Bool.decide_and, decide_eq_decide]
  omega

theorem State.clearContexts_keeps (hT : Parts.le (Parts.of (contextParts ++
    ([.accNext, .badLines, .decisions, .dram, .flights, .queues, .reg .QUE_CFG, .reg .QUE_CTL, .reg .QUE_STAT] : List
    Part))) T) (h : Keeps T s0 s) : Keeps T s0 s.clearContexts := by
  unfold State.clearContexts
  extract_lets lo s1
  have hs1 : Keeps T s0 s1 := keeps_change h (l := contextParts ++ ([.queues, .flights, .accNext, .decisions, .dram,
      .badLines] : List Part)) (Parts.within hT)
    (fun p => by
      cases p with
      | reg r =>
        refine (contextRegs_filter rfl r).imp (fun hr => ?_) id
        exact List.mem_append_left _ (List.mem_map_of_mem hr)
      | _ => simp [Part.same, s1]) rfl (le_refl _) (Fuses.growsTo_refl _)
    (canon_stores (Store.sorted_filter _)
      (Mem.twoRuns_wf (Nat.sub_le _ _) (by decide)) (Store.wf_filter _) id id id id id
      (fun _ => rfl) id id id id id)
  exact keeps_foldl _ hs1 fun s x hs =>
    State.setFs_keeps_regs [.QUE_CFG, .QUE_CTL, .QUE_STAT] (Parts.within hT) hs

theorem State.readyWarm_keeps (hT : Parts.le (Parts.of (contextParts ++ traceParts ++
    ([.accNext, .decisions, .flights, .flue, .ports, .queues, .recov, .reg .QUE_CFG, .reg .QUE_CTL, .reg .QUE_STAT,
    .reg .RST_CTL, .reg .RST_STAT, .reg .SVC_SIDEBAND] : List Part))) T) (h : Keeps T s0 s) :
    Keeps T s0 s.readyWarm :=
  State.enterReady_keeps (Parts.within hT) (State.setRstStep_keeps (Parts.within hT)
    (State.setF_keeps_reg .RST_CTL (Parts.within hT) (State.recov_keeps (Parts.within hT)
    (State.clearContexts_keeps (Parts.within hT) h) _) _) _)

theorem State.recoveryFails_keeps (hT : Parts.le (Parts.of (traceParts ++
    ([.power, .reg .RST_STAT, .reg .SVC_SIDEBAND] : List Part))) T) (h : Keeps T s0 s) (step : Nat) :
    Keeps T s0 (s.recoveryFails step) :=
  State.latchFail_keeps (Parts.within hT) (State.setRstStep_keeps (Parts.within hT) h _)

theorem State.afterRestore_keeps (hT : Parts.le (Parts.of (decisionParts ++ contextParts ++ portParts ++ collParts ++
    irqParts ++ logParts ++ ([.accNext, .arena, .free, .link, .recov, .reg .OBS_CNT, .reg .QUE_CFG, .reg .QUE_CTL,
    .reg .RST_CTL, .reg .RST_STAT, .reg .SVC_SIDEBAND, .reg .VF_FAULT0] : List Part))) T) (h : Keeps T s0 s)
    (r : RecRt) : Keeps T s0 (s.afterRestore r) :=
  ite_keeps (State.readyWarm_keeps (Parts.within hT) h) (ite_keeps (State.setRstStep_keeps (Parts.within hT) h _)
    (State.readyAfter_keeps (Parts.within hT) h _))

theorem State.afterQuiesce_keeps (hT : Parts.le (Parts.of (decisionParts ++ contextParts ++ clearedParts ++ runParts
    ++ retireParts ++ portParts ++ ([.accNext, .arena, .atc, .bays, .coll, .damper, .link, .mbReq, .mbResp, .power,
    .recov, .reg .QUE_CFG, .reg .QUE_CTL, .reg .RST_STAT, .reg .VF_FAULT0, .tlb, .watch] : List Part))) T)
    (h : Keeps T s0 s) (r : RecRt) : Keeps T s0 (s.afterQuiesce r) := by
  unfold State.afterQuiesce
  extract_lets busy s1 s2 s3
  have hs1 : Keeps T s0 s1 := State.capture_keeps (Parts.within hT) (State.setRstStep_keeps (Parts.within hT) h _)
  have hs2 : Keeps T s0 s2 := ite_keeps hs1 (State.incF_keeps_reg .RST_STAT (Parts.within hT) hs1 _)
  have hs3 : Keeps T s0 s3 := State.resetMain_keeps (Parts.within hT) (State.setRstStep_keeps (Parts.within hT) hs2 _)
  split
  · exact State.recoveryFails_keeps (Parts.within hT) hs3 _
  · rename_i s he
    have hs : Keeps T s0 s := State.reload_keeps (Parts.within hT) hs3 he
    exact State.afterRestore_keeps (Parts.within hT) (State.restore_keeps (Parts.within hT)
      (State.setRstStep_keeps (Parts.within hT) (State.mailboxBusy_keeps (Parts.within hT)
      (ite_keeps (State.cxlTrain_keeps (Parts.within hT) hs) hs) _) _)) _

theorem State.recoverGo_keeps (hT : Parts.le (Parts.of recoverParts) T) (h : Keeps T s0 s) (r : RecRt) :
    Keeps T s0 (s.recoverGo r) :=
  ite_keeps (State.setRstStep_keeps (Parts.within hT) h _) (State.afterQuiesce_keeps (Parts.within hT)
    (State.quiesce_keeps (Parts.within hT) (State.setRstStep_keeps (Parts.within hT) h _) _ _) _)

theorem State.startRecovery_keeps (hT : Parts.le (Parts.of causeParts) T) (h : Keeps T s0 s) (r : RecRt)
    (rec' : FaultRec) : Keeps T s0 (s.startRecovery r rec') := by
  unfold State.startRecovery
  extract_lets s1 s2
  have hs1 : Keeps T s0 s1 := State.setF_keeps_reg .RST_TIME (Parts.within hT) (State.fault_keeps (Parts.within hT)
    (State.cancelEntry_keeps (Parts.within hT) h) _) _
  have hs2 : Keeps T s0 s2 := State.recov_keeps (Parts.within hT) hs1 _
  exact State.recoverGo_keeps (Parts.within hT) (State.setRstStep_keeps (Parts.within hT)
    (State.leaveReady_keeps (Parts.within hT) hs2) _) _

theorem State.cause_keeps (hT : Parts.le (Parts.of causeParts) T) (h : Keeps T s0 s) (code : Nat)
    (timedOut : List (Nat × Nat)) (flr : List Nat) (owner : Option (Nat × Nat × Nat × Nat))
    (inst : Option (Nat × Nat × Nat)) : Keeps T s0 (s.cause code timedOut flr owner inst) :=
  ite_keeps (State.startRecovery_keeps hT h _ _) (ite_keeps (State.addSat_keeps_reg .RST_STAT (Parts.within hT) h _)
    h)

theorem State.plainCause_keeps (hT : Parts.le (Parts.of causeParts) T) (h : Keeps T s0 s) (code : Nat) :
    Keeps T s0 (s.plainCause code) :=
  State.cause_keeps hT h ..

theorem State.recover_keeps (hT : Parts.le (Parts.of causeParts) T) (h : Keeps T s0 s) : Keeps T s0 s.recover :=
  ite_keeps (State.plainCause_keeps hT (State.setF_keeps_reg .RST_CTL (Parts.within hT) h _) _) h

theorem State.warmReset_keeps (hT : Parts.le (Parts.of recoverParts) T) (h : Keeps T s0 s) :
    Keeps T s0 s.warmReset := by
  unfold State.warmReset
  split
  · exact State.recoverGo_keeps hT (State.setRstStep_keeps (Parts.within hT)
      (State.leaveReady_keeps (Parts.within hT) (State.recov_keeps (Parts.within hT) h _)) _) _
  · exact ite_keeps (State.readyWarm_keeps (Parts.within hT) (State.recov_keeps (Parts.within hT) h _))
      (State.recov_keeps (Parts.within hT) h _)

theorem execDispatchTimeout_keeps (hT : Parts.le (Parts.of causeParts) T) (h : Keeps T s0 s)
    (expired : List (Fin 64 × Nat)) : KeepsOut T s0 (execDispatchTimeout expired s) := by
  unfold execDispatchTimeout
  extract_lets l
  split
  · exact onlyIf_keeps h _ (fun _ hs => State.cause_keeps hT hs ..)
  · exact keepsOut_next h

theorem execD2dUncorr_keeps (hT : Parts.le (Parts.of causeParts) T) (h : Keeps T s0 s) (bay : Fin 16) (second : Bool)
    (owner : Option (Fin 64 × Nat)) : KeepsOut T s0 (execD2dUncorr bay second owner s) :=
  onlyIf_keeps h _ (fun _ hs => State.cause_keeps hT hs ..)

theorem execStokerEcc_keeps (hT : Parts.le (Parts.of causeParts) T) (h : Keeps T s0 s) :
    KeepsOut T s0 (execStokerEcc s) :=
  keepsOut_next (State.plainCause_keeps hT h _)

theorem execStokerWdt_keeps (hT : Parts.le (Parts.of causeParts) T) (h : Keeps T s0 s) :
    KeepsOut T s0 (execStokerWdt s) :=
  keepsOut_next (State.plainCause_keeps hT h _)

theorem execRegulator_keeps (hT : Parts.le (Parts.of causeParts) T) (h : Keeps T s0 s) :
    KeepsOut T s0 (execRegulator s) :=
  keepsOut_next (State.plainCause_keeps hT h _)

theorem execStokerSramScrub_keeps (h : Keeps T s0 s) : KeepsOut T s0 (execStokerSramScrub s) :=
  keepsOut_next h

theorem execPllLockLoss_keeps (hT : Parts.le (Parts.of [.power, .reg .SVC_SIDEBAND]) T) (h : Keeps T s0 s) :
    KeepsOut T s0 (execPllLockLoss s) :=
  onlyIf_keeps h _ (fun _ hs => State.latchFail_keeps hT hs)

theorem execQuiesceTimeout_keeps (hT : Parts.le (Parts.of recoverParts) T) (h : Keeps T s0 s) (bays engines : Nat) :
    KeepsOut T s0 (execQuiesceTimeout bays engines s) := by
  unfold execQuiesceTimeout
  split
  · exact onlyIf_keeps h _ (fun _ hs => State.afterQuiesce_keeps (Parts.within hT)
      (State.quiesce_keeps (Parts.within hT) hs _ _) _)
  · exact keepsOut_next h

theorem execSequencerWatchdog_keeps (hT : Parts.le (Parts.of [.power, .reg .SVC_SIDEBAND]) T) (h : Keeps T s0 s) :
    KeepsOut T s0 (execSequencerWatchdog s) :=
  onlyIf_keeps h _ (fun _ hs => State.latchFail_keeps hT hs)

theorem execTripHoldTimeout_keeps (hT : Parts.le (Parts.of causeParts) T) (h : Keeps T s0 s) :
    KeepsOut T s0 (execTripHoldTimeout s) :=
  onlyIf_keeps h _ (fun _ hs => State.plainCause_keeps hT hs _)

theorem execTripRelease_keeps (hT : Parts.le (Parts.of (portParts ++ ringParts ++ lineErrorParts ++ collParts ++
    alertParts ++ irqParts ++ logParts ++ ([.arena, .damper, .free, .hostMem, .link, .queues, .recov,
    .reg .CTX_GOVSTAT, .reg .DMP_BAY, .reg .DMP_STAT, .reg .OBS_CNT, .reg .QUE_CFG, .reg .QUE_CTL, .reg .QUE_STAT,
    .reg .RST_CTL, .reg .RST_STAT, .reg .SYNC, .reg .VF_FAULT0] : List Part))) T) (h : Keeps T s0 s) :
    KeepsOut T s0 (execTripRelease s) := by
  refine onlyIf_keeps h _ fun s hs => ?_
  have ht : Keeps T s0 s.releaseTrip := State.releaseTrip_keeps (Parts.within hT) hs
  split
  · exact ite_keeps (State.readyAfter_keeps (Parts.within hT) (State.leastAllowances_keeps (Parts.within hT) ht) _) ht
  · exact ht

theorem execThermalReadyTimeout_keeps (hT : Parts.le (Parts.of [.power, .reg .SVC_SIDEBAND]) T) (h : Keeps T s0 s) :
    KeepsOut T s0 (execThermalReadyTimeout s) :=
  onlyIf_keeps h _ (fun _ hs => State.setOut_keeps (Parts.within hT) (State.power_keeps (Parts.within hT) hs _) _ _)

/-! ### Power states -/

theorem State.barWrite_keeps {f : State → State} (hT : Parts.le (Parts.of [.reg .CXL_ERR]) T) (h : Keeps T s0 s)
    (hf : ∀ s, Keeps T s0 s → Keeps T s0 (f s)) : Keeps T s0 (s.barWrite f) :=
  ite_keeps h (ite_keeps (State.addSat_keeps_reg .CXL_ERR hT h _) (ite_keeps h (hf s h)))

theorem State.alwaysWrite_keeps {f : State → State} (hT : Parts.le (Parts.of [.reg .CXL_ERR]) T) (h : Keeps T s0 s)
    (a : Accessor) (hf : ∀ s, Keeps T s0 s → Keeps T s0 (f s)) : Keeps T s0 (s.alwaysWrite a f) := by
  cases a with
  | pf0 => exact State.barWrite_keeps hT h hf
  | vf c => exact h
  | i3c => exact ite_keeps (hf s h) h

theorem State.flushSvc_keeps (hT : Parts.le (Parts.of portParts) T) (h : Keeps T s0 s) (p : Nat) :
    Keeps T s0 (s.flushSvc p) :=
  ite_keeps (State.fillFrame_keeps hT (keeps_foldl _ h fun _ _ hs => ite_keeps (State.sendOut_keeps hT hs _ _ _) hs)
    _) (keeps_foldl _ h fun _ _ hs => ite_keeps (State.sendOut_keeps hT hs _ _ _) hs)

theorem State.floodDown_keeps (hT : Parts.le (Parts.of portParts) T) (h : Keeps T s0 s) : Keeps T s0 s.floodDown :=
  keeps_foldl _ (keeps_foldl _ h fun _ _ hs => State.floodLink_keeps (Parts.within hT) hs _ _) fun _ _ hs =>
    State.flushSvc_keeps hT hs _

theorem State.idlePorts_keeps (hT : Parts.le (Parts.of (traceParts ++ ([.reg .FLU_PORT] : List Part))) T)
    (h : Keeps T s0 s) : Keeps T s0 s.idlePorts :=
  keeps_foldl _ h fun _ _ hs => State.setPort'_keeps [.FLU_PORT] (Parts.within hT) (Parts.within hT) hs _ _

theorem State.saveSync_keeps (hT : Parts.le (Parts.of (lineParts ++ ([.free] : List Part))) T) (h : Keeps T s0 s) :
    Keeps T s0 s.saveSync :=
  State.dwrite_keeps (Parts.within hT) (State.fresh_keeps (Parts.within hT) h) _ _

theorem State.darken_keeps (hT : Parts.le (Parts.of (clearedParts ++
    ([.arena, .atc, .hearths, .stackPorts, .tlb, .watch] : List Part))) T) (h : Keeps T s0 s) (ember : Bool) :
    Keeps T s0 (s.darken ember) := by
  unfold State.darken
  extract_lets trip warn src s1
  have hs1 : Keeps T s0 s1 := keeps_change h (l := clearedParts ++
    ([.tlb, .arena, .stackPorts, .hearths, .watch, .atc] : List Part))
    (Parts.within hT)
    (fun p => by
      cases p with
      | reg r =>
        refine (clearedRegs_filter (fun k => !ember && keptAwake (cellOffset k)) rfl r).imp (fun hr => ?_) id
        exact List.mem_append_left _ (List.mem_map_of_mem hr)
      | _ => simp [Part.same, s1, src]) rfl (le_refl _) (Fuses.growsTo_refl _)
    (canon_stores (Store.sorted_filter _) id id id id id id (fun _ => rfl) id id keptPorts_wf id
      (Store.wf_update fun r : HearthRt => { r with testing := false, gated := false, sweep := false }) id)
  exact State.setFs_keeps_regs [.DMP_STAT] (Parts.within hT) hs1

theorem State.mailBuffers_keeps (hT : Parts.le (Parts.of [.mbReq, .mbResp]) T) (h : Keeps T s0 s) :
    Keeps T s0 { s with mbReq := [], mbResp := [] } :=
  keeps_change h hT (by intro p; cases p <;> simp [Part.same, State.getF]) rfl (le_refl _) (Fuses.growsTo_refl _)
    (canon_stores id id id id id (fun _ => rfl) (fun _ => rfl) id id id id id id id)

theorem State.emberOff_keeps (hT : Parts.le (Parts.of (clearedParts ++ traceParts ++
    ([.arena, .atc, .hearths, .link, .mbReq, .mbResp, .pba, .reg .FLU_PORT, .stackPorts, .tlb, .watch] : List Part)))
    T) (h : Keeps T s0 s) : Keeps T s0 s.emberOff :=
  State.mailBuffers_keeps (Parts.within hT) (State.cxlDown_keeps (Parts.within hT)
    (State.idlePorts_keeps (Parts.within hT) (State.darken_keeps (Parts.within hT) h _)))

/-- A flood of this module's own state leaves the torus as it is. -/
theorem State.floodEndpoint_topology (s : State) (up : Bool) : Part.same .topology s (s.floodEndpoint up) :=
  (State.floodEndpoint_keeps (T := Parts.of [.flue, .ports]) rfl (keeps_refl s) up).same .topology (by decide)

theorem State.enterSleep_keeps (hT : Parts.le (Parts.of sleepParts) T) (h : Keeps T s0 s) :
    Keeps T s0 s.enterSleep := by
  unfold State.enterSleep
  extract_lets t src1 src2 s1 s2 s3
  obtain ⟨hd, hr, he⟩ := s.floodEndpoint_topology false
  have hs1 : Keeps T s0 s1 := State.flue_keeps (Parts.within hT) (State.floodEndpoint_keeps (Parts.within hT) h false)
    { s.flue with accepting := false } (by rw [hd, hr, he])
  have hs2 : Keeps T s0 s2 := State.saveSync_keeps (Parts.within hT)
    (ite_keeps (State.floodDown_keeps (Parts.within hT) hs1) hs1)
  have hs3 : Keeps T s0 s3 :=
    ite_keeps (State.emberOff_keeps (Parts.within hT) hs2) (State.darken_keeps (Parts.within hT) hs2 _)
  exact State.setPwrState_keeps (Parts.within hT) (State.setF_keeps_reg .PWR_STAT (Parts.within hT) hs3 _) _

theorem State.requestSleep_keeps (hT : Parts.le (Parts.of (clearedParts ++ portParts ++ mailParts ++ alertParts ++
    ([.arena, .atc, .hearths, .link, .mbReq, .reg .FLU_PORT, .reg .PWR_CTL, .reg .PWR_STAT, .stackPorts, .tlb,
    .watch] : List Part))) T) (h : Keeps T s0 s) (t : Nat) : Keeps T s0 (s.requestSleep t) := by
  unfold State.requestSleep
  extract_lets st
  exact ite_keeps h (ite_keeps (State.setFs_keeps_regs [.PWR_CTL, .PWR_STAT] (Parts.within hT) h)
    (ite_keeps (State.setOut_keeps (Parts.within hT) (State.setPwrState_keeps (Parts.within hT)
    (State.setFs_keeps_regs [.PWR_CTL, .PWR_STAT] (Parts.within hT) h) _) _ _)
    (ite_keeps (State.setF_keeps_reg .PWR_CTL (Parts.within hT) h _)
    (ite_keeps (State.setPwrState_keeps (Parts.within hT) (State.emberOff_keeps (Parts.within hT)
    (State.floodDown_keeps (Parts.within hT) (State.setF_keeps_reg .PWR_CTL (Parts.within hT) h _))) _) h))))

theorem execBankedRequest_keeps (hT : Parts.le (Parts.of (clearedParts ++ portParts ++ mailParts ++ alertParts ++
    ([.arena, .atc, .hearths, .link, .mbReq, .reg .CXL_ERR, .reg .FLU_PORT, .reg .PWR_CTL, .reg .PWR_STAT,
    .stackPorts, .tlb, .watch] : List Part))) T) (h : Keeps T s0 s) (a : Accessor) :
    KeepsOut T s0 (execBankedRequest a s) :=
  keepsOut_next (State.alwaysWrite_keeps (Parts.within hT) h _ (fun _ hs => State.requestSleep_keeps (Parts.within hT)
    hs _))

theorem execEmberRequest_keeps (hT : Parts.le (Parts.of (clearedParts ++ portParts ++ mailParts ++ alertParts ++
    ([.arena, .atc, .hearths, .link, .mbReq, .reg .CXL_ERR, .reg .FLU_PORT, .reg .PWR_CTL, .reg .PWR_STAT,
    .stackPorts, .tlb, .watch] : List Part))) T) (h : Keeps T s0 s) (a : Accessor) :
    KeepsOut T s0 (execEmberRequest a s) :=
  keepsOut_next (State.alwaysWrite_keeps (Parts.within hT) h _ (fun _ hs => State.requestSleep_keeps (Parts.within hT)
    hs _))

theorem execPowerEntry_keeps (hT : Parts.le (Parts.of sleepParts) T) (h : Keeps T s0 s) :
    KeepsOut T s0 (execPowerEntry s) :=
  onlyIf_keeps h _ (fun _ hs => State.enterSleep_keeps hT hs)

theorem State.refuseEntry_keeps (hT : Parts.le (Parts.of (traceParts ++ alertParts ++ irqParts ++
    ([.reg .PWR_STAT] : List Part))) T) (h : Keeps T s0 s) : Keeps T s0 s.refuseEntry :=
  State.setOut_keeps (Parts.within hT) (State.setPwrState_keeps hT
    (State.setFs_keeps_regs [.PWR_STAT] (Parts.within hT) h) _) _ _

theorem execEntryTimeout_keeps (hT : Parts.le (Parts.of (traceParts ++ alertParts ++ irqParts ++
    ([.reg .PWR_STAT] : List Part))) T) (h : Keeps T s0 s) : KeepsOut T s0 (execEntryTimeout s) :=
  onlyIf_keeps h _ (fun _ hs => State.refuseEntry_keeps hT hs)

theorem State.stall_keeps (hT : Parts.le (Parts.of (traceParts ++ alertParts ++ irqParts ++
    ([.reg .PWR_STAT] : List Part))) T) (h : Keeps T s0 s) (k : Nat) : Keeps T s0 (s.stall k) :=
  State.setPwrState_keeps hT (State.setF_keeps_reg .PWR_STAT (Parts.within hT) h _) _

theorem State.awake_keeps (hT : Parts.le (Parts.of (watchParts ++
    ([.bays, .damper, .reg .CXL_LINK, .reg .DMP_BAY, .reg .DMP_STAT, .reg .PWR_CTL, .reg .PWR_STAT] : List Part))) T)
    (h : Keeps T s0 s) (o : WakeOut) : Keeps T s0 (s.awake o) := by
  unfold State.awake
  extract_lets s1 s2 s3 s4
  have hs1 : Keeps T s0 s1 := State.setPwrState_keeps (Parts.within hT)
    (State.setFs_keeps_regs [.PWR_STAT, .PWR_CTL] (Parts.within hT) h) _
  have hs2 : Keeps T s0 s2 := State.enterReady_keeps (Parts.within hT) (State.damperStart_keeps (Parts.within hT) hs1)
  have hs3 : Keeps T s0 s3 := ite_keeps (State.cxlTrain_keeps (Parts.within hT) hs2) hs2
  have hs4 : Keeps T s0 s4 := State.irq_keeps (Parts.within hT) (ite_keeps
    (State.setDuties_keeps (Parts.within hT) hs3 _) hs3) _ _
  exact keeps_foldl _ hs4 fun _ _ hs => State.readWatch_keeps (Parts.within hT) hs _

theorem State.wakeEmber_keeps (hT : Parts.le (Parts.of (watchParts ++
    ([.bays, .damper, .reg .CXL_LINK, .reg .DMP_BAY, .reg .DMP_STAT, .reg .PWR_CTL, .reg .PWR_STAT] : List Part))) T)
    (h : Keeps T s0 s) (o : WakeOut) : Keeps T s0 (s.wakeEmber o) := by
  unfold State.wakeEmber
  split
  · exact State.stall_keeps (Parts.within hT) h _
  · rename_i s he
    have hs : Keeps T s0 s := State.reload_keeps (Parts.within hT) h he
    exact State.awake_keeps hT hs _

theorem State.wake_keeps (hT : Parts.le (Parts.of wakeParts) T) (h : Keeps T s0 s) (o : WakeOut) :
    Keeps T s0 (s.wake o) :=
  ite_keeps (State.stall_keeps (Parts.within hT) h _) (ite_keeps (State.latchFail_keeps (Parts.within hT)
    (State.stall_keeps (Parts.within hT) h _)) (ite_keeps (State.stall_keeps (Parts.within hT) h _)
    (ite_keeps (State.wakeEmber_keeps (Parts.within hT) h _) (State.awake_keeps (Parts.within hT) h _))))

theorem State.requestWake_keeps (hT : Parts.le (Parts.of wakeParts) T) (h : Keeps T s0 s) (o : WakeOut) :
    Keeps T s0 (s.requestWake o) :=
  ite_keeps h (ite_keeps (State.setF_keeps_reg .PWR_CTL (Parts.within hT)
    (State.cancelEntry_keeps (Parts.within hT) h) _) (ite_keeps (State.wake_keeps hT h _)
    (State.setF_keeps_reg .PWR_CTL (Parts.within hT) h _)))

theorem execWakeRequest_keeps (hT : Parts.le (Parts.of wakeParts) T) (h : Keeps T s0 s) (a : Accessor)
    (out : WakeOut) : KeepsOut T s0 (execWakeRequest a out s) :=
  keepsOut_next (State.alwaysWrite_keeps (Parts.within hT) h _ (fun _ hs => State.requestWake_keeps hT hs _))

theorem execWakeTimeout_keeps (hT : Parts.le (Parts.of [.power, .reg .SVC_SIDEBAND]) T) (h : Keeps T s0 s)
    (step : Fin 5) : KeepsOut T s0 (execWakeTimeout step s) :=
  onlyIf_keeps h _ (fun _ hs => State.latchFail_keeps hT hs)

/-! ### The boot -/

theorem State.scanLog_keeps (hT : Parts.le (Parts.of [.stoker]) T) (h : Keeps T s0 s) : Keeps T s0 s.scanLog := by
  unfold State.scanLog
  split
  · exact State.stoker_keeps hT h _
  · exact State.stoker_keeps hT h _

theorem State.logUpdate_keeps (hT : Parts.le (Parts.of logParts) T) (h : Keeps T s0 s) (slot svn tries : Nat) :
    Keeps T s0 (s.logUpdate slot svn tries) :=
  State.logEvent_keeps hT h _ _ _

theorem State.showGrade_keeps (hT : Parts.le (Parts.of [.reg .ID_PART]) T) (h : Keeps T s0 s) :
    Keeps T s0 s.showGrade :=
  ite_keeps (State.setFs_keeps_regs [.ID_PART] hT h) (State.setFs_keeps_regs [.ID_PART] hT h)

theorem State.wiped_keeps (hT : Parts.le (Parts.of wipeParts) T) (h : Keeps T s0 s) (life : Life) (pwrgd : Bool) :
    Keeps T s0 (s.wiped life pwrgd) := by
  unfold State.wiped
  extract_lets keep src1 src2 src3 src4 z
  have hz : Keeps T s0 z := keeps_change h hT
    (fun p => by
      cases p with
      | reg r => exact .inl (List.mem_append_left _ (List.mem_append_left _ (mem_regParts r)))
      | _ => simp [Part.same, z, src1, wipeParts, lineParts]) rfl (le_refl _) (Fuses.growsTo_refl _)
    (canon_stores (fun _ => rfl) (fun _ => rfl) (fun _ => rfl) id id (fun _ => rfl) (fun _ => rfl) (fun _ => rfl)
      (fun _ => rfl) (fun _ => rfl) (fun _ => rfl) (fun _ => rfl) (fun _ => rfl) (fun _ => rfl))
  exact State.setOut_keeps (Parts.within hT) (State.showGrade_keeps (Parts.within hT)
    (State.setFs_keeps_regs [.SVC_SIDEBAND] (Parts.within hT) hz)) _ _

theorem State.bootFail_keeps (hT : Parts.le (Parts.of (alertParts ++ logParts ++
    ([.power, .reg .SEC_BOOT] : List Part))) T) (h : Keeps T s0 s) (err step : Nat) (fw : Bool) :
    Keeps T s0 (s.bootFail err step fw) := by
  unfold State.bootFail
  extract_lets src s1 s2 s3
  have hs1 : Keeps T s0 s1 := State.power_keeps (Parts.within hT) h _
  have hs2 : Keeps T s0 s2 := State.alert_keeps (Parts.within hT)
    (State.setF_keeps_reg .SEC_BOOT (Parts.within hT) hs1 _)
  have hs3 : Keeps T s0 s3 := ite_keeps (State.logEvent_keeps (Parts.within hT) hs2 _ _ _) hs2
  exact ite_keeps (State.setOut_keeps (Parts.within hT) hs3 _ _) hs3

theorem State.bootStuck_keeps (hT : Parts.le (Parts.of [.power]) T) (h : Keeps T s0 s) (step : Nat) :
    Keeps T s0 (s.bootStuck step) :=
  State.power_keeps hT h _

theorem execBootTimeout_keeps (hT : Parts.le (Parts.of (alertParts ++ logParts ++
    ([.power, .reg .SEC_BOOT] : List Part))) T) (h : Keeps T s0 s) : KeepsOut T s0 (execBootTimeout s) := by
  unfold execBootTimeout
  split
  · exact keepsOut_next (State.bootFail_keeps hT h _ _ _)
  · exact keepsOut_next h

theorem State.loadRecords_keeps (hT : Parts.le (Parts.of (repairParts ++ ([.reg .HTH_STATE] : List Part))) T)
    (h : Keeps T s0 s) (k : Nat) : Keeps T s0 (s.loadRecords k) :=
  State.syncFree_keeps (Parts.within hT) (keeps_foldl _ h fun _ _ hs => ite_keeps hs
    (State.setRecord_keeps (Parts.within hT) hs ..)) _

theorem State.clearPending_keeps (hT : Parts.le (Parts.of [.stoker]) T) (h : Keeps T s0 s) (k : Nat) :
    Keeps T s0 (s.clearPending k) :=
  State.stoker_keeps hT h _

theorem State.programRecords_keeps (hT : Parts.le (Parts.of [.fuses, .stoker]) T) (h : Keeps T s0 s) (x : Nat)
    (bad : Nat → Bool) : Keeps T s0 (s.programRecords x bad) := by
  refine State.clearPending_keeps (Parts.within hT) ?_ _
  exact State.otherFuses_keeps (Parts.within hT) h ⟨rfl, rfl, rfl, le_refl _, List.prefix_refl _, fun _ => rfl⟩ rfl

theorem State.bootVerdict_keeps (hT : Parts.le (Parts.of [.reg .HTH_CONE, .reg .HTH_STATE]) T) (h : Keeps T s0 s)
    (k : Nat) (pass : Bool) : Keeps T s0 (s.bootVerdict k pass) :=
  ite_keeps (State.addSat_keeps_reg .HTH_CONE (Parts.within hT) (State.setF_keeps_reg .HTH_CONE (Parts.within hT) h _)
    _) (State.addSat_keeps_reg .HTH_STATE (Parts.within hT) (State.setF_keeps_reg .HTH_CONE (Parts.within hT) h _) _)

theorem State.resolveSpare_keeps (hT : Parts.le (Parts.of (repairParts ++ logParts ++
    ([.fuses, .reg .HTH_CONE, .reg .HTH_STATE] : List Part))) T) (h : Keeps T s0 s) (k : Nat) (bad : Nat → Bool)
    (testOk : Bool) : Keeps T s0 (s.resolveSpare k bad testOk) := by
  unfold State.resolveSpare
  extract_lets ok s1
  have hs1 : Keeps T s0 s1 := State.loadRecords_keeps (Parts.within hT)
    (State.programRecords_keeps (Parts.within hT) h _ _) _
  exact ite_keeps (State.noteHearth_keeps (Parts.within hT) (State.bootVerdict_keeps (Parts.within hT) hs1 _ _) _ _)
    (State.noteHearth_keeps (Parts.within hT) hs1 _ _)

theorem State.bootHearth_keeps (hT : Parts.le (Parts.of (repairParts ++ logParts ++
    ([.fuses, .reg .HTH_CONE, .reg .HTH_STATE] : List Part))) T) (h : Keeps T s0 s) (o : BootOut) (k : Nat) :
    Keeps T s0 (s.bootHearth o k) := by
  unfold State.bootHearth
  extract_lets rec' has s1 src
  have hs1 : Keeps T s0 s1 := State.loadRecords_keeps (Parts.within hT) h _
  exact ite_keeps (State.setF_keeps_reg .HTH_STATE (Parts.within hT) h _)
    (ite_keeps (State.noteHearth_keeps (Parts.within hT) (State.clearPending_keeps (Parts.within hT)
    (State.stoker_keeps (Parts.within hT) hs1 _) _) _ _) (ite_keeps
    (ite_keeps (State.noteHearth_keeps (Parts.within hT) (State.stoker_keeps (Parts.within hT) hs1 _) _ _)
    (State.setF_keeps_reg .HTH_STATE (Parts.within hT) hs1 _)) (ite_keeps
    (State.setF_keeps_reg .HTH_STATE (Parts.within hT) hs1 _) (ite_keeps (State.resolveSpare_keeps hT hs1 _ _ _)
    (State.setF_keeps_reg .HTH_STATE (Parts.within hT) hs1 _)))))

theorem State.bootGlaze_keeps (hT : Parts.le (Parts.of (logParts ++
    ([.reg .HTH_CONE, .reg .HTH_GLZSTAT, .reg .HTH_STATE] : List Part))) T) (h : Keeps T s0 s) (o : BootOut)
    (b : Nat) : Keeps T s0 (s.bootGlaze o b) :=
  ite_keeps h (ite_keeps (keeps_foldl _ (State.setBit_keeps_reg .HTH_GLZSTAT (Parts.within hT) h _ _) fun _ _ hs =>
    ite_keeps (State.noteHearth_keeps (Parts.within hT) (State.bootVerdict_keeps (Parts.within hT) hs _ _) _ _) hs)
    (State.stoker_keeps (Parts.within hT) h _))

theorem State.bootHearths_keeps (hT : Parts.le (Parts.of (retireParts ++ repairParts ++
    ([.fuses, .reg .HTH_CONE, .reg .HTH_GLZSTAT] : List Part))) T) (h : Keeps T s0 s) (o : BootOut) :
    Keeps T s0 (s.bootHearths o) :=
  State.syncHearths_keeps (Parts.within hT) (keeps_foldl _ (keeps_foldl _
    (keeps_foldl _ h fun _ _ hs => State.bootHearth_keeps (Parts.within hT) hs _ _) fun _ _ hs =>
    State.bootGlaze_keeps (Parts.within hT) hs _ _) fun _ _ hs => State.setHearth_keeps (Parts.within hT) hs _ _)

theorem State.checkCert_keeps (hT : Parts.le (Parts.of (logParts ++ ([.reg .SEC_IDENT] : List Part))) T)
    (h : Keeps T s0 s) : Keeps T s0 s.checkCert :=
  ite_keeps (State.setF_keeps_reg .SEC_IDENT (Parts.within hT) h _) (State.logEvent_keeps (Parts.within hT) h _ _ _)

theorem State.putConfig_keeps (hT : Parts.le (Parts.of [.nvm]) T) (h : Keeps T s0 s) (slot : Nat) (m : List Byte) :
    Keeps T s0 (s.putConfig slot m) :=
  State.nwrite_keeps hT (State.nerase_keeps hT h _ _) _ _

theorem State.readSeval_keeps (hT : Parts.le (Parts.of [.free, .nvm]) T) (h : Keeps T s0 s) (slot : Nat)
    {x : State × SevalImg} (he : s.readSeval slot = some x) : Keeps T s0 x.1 := by
  have hv : Keeps T s0 s.fresh.2 := State.fresh_keeps (Parts.within hT) h
  unfold State.readSeval at he
  dsimp only at he
  split at he
  · cases he
    exact h
  · split at he
    · cases he
    · split at he
      · split at he
        · cases he
          exact State.putHdr_keeps (Parts.within hT) (State.putConfig_keeps (Parts.within hT) hv _ _) _
        · cases he
          exact hv
      · cases he

theorem State.bootPorts_keeps (hT : Parts.le (Parts.of (portParts ++
    ([.reg .FLU_PCTL, .reg .FLU_PERR, .reg .FLU_PORT, .reg .FLU_RTE, .reg .FLU_RTGEN, .reg .FLU_TSTAT] : List Part)))
    T) (h : Keeps T s0 s) (o : BootOut) : Keeps T s0 (s.bootPorts o) := by
  unfold State.bootPorts
  extract_lets s1 s2
  have hs1 : Keeps T s0 s1 := keeps_foldl _ h fun _ _ hs => ite_keeps hs
    (State.setPort'_keeps [.FLU_PORT] (Parts.within hT) (Parts.within hT) hs _ _)
  have hs2 : Keeps T s0 s2 := by
    unfold s2
    refine keeps_foldl _ hs1 fun _ _ hs => ?_
    split
    · exact ite_keeps (State.endTraining_keeps (Parts.within hT) hs _ _) hs
    · exact hs
  exact State.swapRoutes_keeps (Parts.within hT) hs2

theorem State.bootReady_keeps (hT : Parts.le (Parts.of (traceParts ++ logParts ++
    ([.bays, .damper, .flue, .free, .ports, .power, .reg .CXL_LINK, .reg .DMP_BAY, .reg .DMP_STAT, .reg .SEC_BOOT,
    .reg .SVC_SIDEBAND] : List Part))) T) (h : Keeps T s0 s) : Keeps T s0 s.bootReady := by
  unfold State.bootReady
  extract_lets src s1 s2 s3
  have hs1 : Keeps T s0 s1 := State.power_keeps (Parts.within hT) h _
  have hs2 : Keeps T s0 s2 := State.enterReady_keeps (Parts.within hT)
    (State.setF_keeps_reg .SEC_BOOT (Parts.within hT) (State.damperStart_keeps (Parts.within hT) hs1) _)
  have hs3 : Keeps T s0 s3 := ite_keeps (State.cxlTrain_keeps (Parts.within hT) hs2) hs2
  exact State.logEvent_keeps (Parts.within hT) hs3 _ _ _

theorem State.bootRepair_keeps (hT : Parts.le (Parts.of (retireParts ++ traceParts ++ repairParts ++
    ([.bays, .damper, .flue, .free, .fuses, .ports, .power, .reg .CXL_LINK, .reg .DMP_BAY, .reg .DMP_STAT,
    .reg .HTH_CONE, .reg .HTH_GLZSTAT, .reg .SEC_BOOT] : List Part))) T) (h : Keeps T s0 s) (o : BootOut) :
    Keeps T s0 (s.bootRepair o) :=
  ite_keeps (State.bootStuck_keeps (Parts.within hT) (State.bootHearths_keeps (Parts.within hT) h _) _)
    (ite_keeps (State.bootStuck_keeps (Parts.within hT) (State.bootHearths_keeps (Parts.within hT) h _) _)
    (State.bootReady_keeps (Parts.within hT) (State.bootHearths_keeps (Parts.within hT) h _)))

theorem State.bootMemory_keeps (hT : Parts.le (Parts.of (retireParts ++ portParts ++ repairParts ++
    ([.bays, .damper, .free, .fuses, .power, .reg .CAL_ECOEF, .reg .CAL_ISNS, .reg .CAL_TSNS, .reg .CXL_LINK,
    .reg .DMP_BAY, .reg .DMP_CFG, .reg .DMP_ECOEF, .reg .DMP_STAT, .reg .FLU_PCTL, .reg .FLU_PERR, .reg .FLU_PORT,
    .reg .FLU_POS, .reg .FLU_RTE, .reg .FLU_RTGEN, .reg .FLU_TSTAT, .reg .HTH_CONE, .reg .HTH_GLZSTAT,
    .reg .MEM_ARBCFG, .reg .MEM_BANDMAP, .reg .MEM_SAGGAR, .reg .MEM_STK, .reg .OBS_TRCFG, .reg .OBS_TRTRIG,
    .reg .SEC_BOOT, .seval, .topology] : List Part))) T) (h : Keeps T s0 s) (o : BootOut) (slot : Nat)
    (m : SevalImg) : Keeps T s0 (s.bootMemory o slot m) := by
  unfold State.bootMemory
  extract_lets s1 s2 s3
  have hs1 : Keeps T s0 s1 := State.applyTopology_keeps (Parts.within hT)
    (State.applySeval_keeps (Parts.within hT) h _) _
  have hs2 : Keeps T s0 s2 := keeps_foldl _ hs1 fun _ _ hs => State.setF_keeps_reg .MEM_STK (Parts.within hT) hs _
  have hs3 : Keeps T s0 s3 := State.dwrite_keeps (Parts.within hT)
    (State.dwrite_keeps (Parts.within hT) (State.bootPorts_keeps (Parts.within hT) hs2 _) _ _) _ _
  exact ite_keeps (State.bootFail_keeps (Parts.within hT) hs1 _ _ _)
    (ite_keeps (State.bootStuck_keeps (Parts.within hT) hs3 _) (State.bootRepair_keeps (Parts.within hT) hs3 _))

theorem State.bootFirmware_keeps (hT : Parts.le (Parts.of (retireParts ++ portParts ++ repairParts ++
    ([.bays, .damper, .free, .fuses, .power, .reg .CAL_ECOEF, .reg .CAL_ISNS, .reg .CAL_TSNS, .reg .CXL_LINK,
    .reg .DMP_BAY, .reg .DMP_CFG, .reg .DMP_ECOEF, .reg .DMP_STAT, .reg .FLU_PCTL, .reg .FLU_PERR, .reg .FLU_PORT,
    .reg .FLU_POS, .reg .FLU_RTE, .reg .FLU_RTGEN, .reg .FLU_TSTAT, .reg .HTH_CONE, .reg .HTH_GLZSTAT,
    .reg .MEM_ARBCFG, .reg .MEM_BANDMAP, .reg .MEM_SAGGAR, .reg .MEM_STK, .reg .OBS_TRCFG, .reg .OBS_TRTRIG,
    .reg .SEC_BOOT, .reg .SEC_IDENT, .seval, .topology] : List Part))) T) (h : Keeps T s0 s) (o : BootOut)
    (slot : Nat) : Keeps T s0 (s.bootFirmware o slot) := by
  unfold State.bootFirmware
  extract_lets src s1 s2 s3
  have hs1 : Keeps T s0 s1 := State.scanLog_keeps (Parts.within hT) (State.stoker_keeps (Parts.within hT) h _)
  have hs2 : Keeps T s0 s2 := State.checkCert_keeps (Parts.within hT)
    (State.setF_keeps_reg .SVC_SIDEBAND (Parts.within hT) hs1 _)
  have hs3 : Keeps T s0 s3 := ite_keeps (State.logUpdate_keeps (Parts.within hT) hs2 _ _ _) hs2
  split
  · exact State.bootFail_keeps (Parts.within hT) hs3 _ _ _
  · rename_i s m he
    have hs : Keeps T s0 s := State.readSeval_keeps (Parts.within hT) hs3 _ he
    exact ite_keeps (State.bootFail_keeps (Parts.within hT) hs _ _ _)
      (ite_keeps (State.bootStuck_keeps (Parts.within hT) hs _) (State.bootMemory_keeps (Parts.within hT)
      (State.setF_keeps_reg .SEC_BOOT (Parts.within hT) hs _) _ _ _))

theorem State.showSlot_keeps (hT : Parts.le (Parts.of [.reg .SEC_BOOT, .reg .SEC_IDENT]) T) (h : Keeps T s0 s)
    (slot : Nat) (trial back : Bool) : Keeps T s0 (s.showSlot slot trial back) :=
  State.setFs_keeps_regs [.SEC_BOOT, .SEC_IDENT] hT h

theorem State.boot_keeps (hT : Parts.le (Parts.of bootParts) T) (h : Keeps T s0 s) (o : BootOut) :
    Keeps T s0 (s.boot o) := by
  unfold State.boot
  extract_lets s1 s2
  have hs1 : Keeps T s0 s1 := State.wiped_keeps (Parts.within hT) h _ _
  have hs2 : Keeps T s0 s2 := State.setOut_keeps (Parts.within hT) hs1 _ _
  refine ite_keeps hs1 ?_
  refine ite_keeps (State.bootStuck_keeps (Parts.within hT) hs2 _) ?_
  refine ite_keeps (State.bootFail_keeps (Parts.within hT) hs2 _ _ _) ?_
  split
  · exact State.bootFail_keeps (Parts.within hT) hs2 _ _ _
  · rename_i t slot trial he
    have ht : Keeps T s0 t := State.chooseSlot_keeps (Parts.within hT) hs2 he
    exact ite_keeps (State.bootStuck_keeps (Parts.within hT) (State.showSlot_keeps (Parts.within hT) ht _ _ _) _)
      (State.bootFirmware_keeps (Parts.within hT) (State.showSlot_keeps (Parts.within hT) ht _ _ _) _ _)

theorem State.powerUp_keeps (hT : Parts.le (Parts.of bootParts) T) (h : Keeps T s0 s) (o : BootOut) :
    Keeps T s0 (s.powerUp o) :=
  ite_keeps (ite_keeps (State.boot_keeps hT h _) (State.wiped_keeps (Parts.within hT) h _ _)) h

theorem execPowerOnReset_keeps (hT : Parts.le (Parts.of bootParts) T) (h : Keeps T s0 s) (out : BootOut) :
    KeepsOut T s0 (execPowerOnReset out s) := by
  unfold execPowerOnReset
  split
  · exact keepsOut_next (State.powerUp_keeps hT (State.setF_keeps_reg .SVC_SIDEBAND (Parts.within hT) h _) _)
  · exact keepsOut_next (State.boot_keeps hT (State.setF_keeps_reg .SVC_SIDEBAND (Parts.within hT) h _) _)
  · exact keepsOut_next h

theorem execInputReturn_keeps (hT : Parts.le (Parts.of bootParts) T) (h : Keeps T s0 s) (out : BootOut) :
    KeepsOut T s0 (execInputReturn out s) :=
  keepsOut_next (State.powerUp_keeps hT (State.power_keeps (Parts.within hT) h _) _)

theorem execPwrEnHoldEnd_keeps (hT : Parts.le (Parts.of bootParts) T) (h : Keeps T s0 s) (out : BootOut) :
    KeepsOut T s0 (execPwrEnHoldEnd out s) :=
  onlyIf_keeps h _ (fun _ hs => State.powerUp_keeps hT (State.power_keeps (Parts.within hT) hs _) _)

/-! ### The board -/

theorem State.railsOff_keeps (hT : Parts.le (Parts.of wipeParts) T) (h : Keeps T s0 s) : Keeps T s0 s.railsOff :=
  State.power_keeps (Parts.within hT) (State.wiped_keeps hT h _ _) _

theorem execPowerDown_keeps (hT : Parts.le (Parts.of wipeParts) T) (h : Keeps T s0 s) :
    KeepsOut T s0 (execPowerDown s) :=
  keepsOut_next (ite_keeps (State.power_keeps (Parts.within hT) (State.setF_keeps_reg .SVC_SIDEBAND (Parts.within hT)
    h _) _) (State.railsOff_keeps hT (ite_keeps (State.setF_keeps_reg .SVC_SIDEBAND (Parts.within hT) h _)
    (State.floodDown_keeps (Parts.within hT) (State.setF_keeps_reg .SVC_SIDEBAND (Parts.within hT) h _)))))

theorem State.lockout_keeps (hT : Parts.le (Parts.of wipeParts) T) (h : Keeps T s0 s) : Keeps T s0 s.lockout :=
  ite_keeps (State.power_keeps (Parts.within hT) h _) (State.railsOff_keeps hT
    (State.power_keeps (Parts.within hT) h _))

theorem execUndervoltageLockout_keeps (hT : Parts.le (Parts.of wipeParts) T) (h : Keeps T s0 s) :
    KeepsOut T s0 (execUndervoltageLockout s) :=
  keepsOut_next (State.lockout_keeps hT h)

theorem execOvervoltageShutdown_keeps (hT : Parts.le (Parts.of wipeParts) T) (h : Keeps T s0 s) :
    KeepsOut T s0 (execOvervoltageShutdown s) :=
  keepsOut_next (State.lockout_keeps hT h)

theorem execModRstAssert_keeps (hT : Parts.le (Parts.of wipeParts) T) (h : Keeps T s0 s) :
    KeepsOut T s0 (execModRstAssert s) :=
  keepsOut_next (ite_keeps (State.setF_keeps_reg .SVC_SIDEBAND (Parts.within hT) h _)
    (State.wiped_keeps hT (State.setF_keeps_reg .SVC_SIDEBAND (Parts.within hT) h _) _ _))

theorem State.perstLink_keeps (hT : Parts.le (Parts.of [.atc, .filter, .link, .pba, .reg .CXL_LINK, .reg .CXL_SF,
    .watch]) T) (h : Keeps T s0 s) : Keeps T s0 s.perstLink :=
  ite_keeps (State.cxlDown_keeps hT (State.addSat_keeps_reg .CXL_LINK (Parts.within hT) h _))
    (State.cxlDown_keeps hT h)

theorem State.perst_keeps (hT : Parts.le (Parts.of (recoverParts ++ wakeParts)) T) (h : Keeps T s0 s) (o : WakeOut) :
    Keeps T s0 (s.perst o) := by
  unfold State.perst
  extract_lets s1 s2
  have hs1 : Keeps T s0 s1 := State.perstLink_keeps (Parts.within hT) h
  have hs2 : Keeps T s0 s2 := State.wake_keeps (Parts.within hT) hs1 _
  exact ite_keeps hs1 (ite_keeps (ite_keeps (State.warmReset_keeps (Parts.within hT) hs2) hs2)
    (ite_keeps hs1 (State.warmReset_keeps (Parts.within hT) (State.cancelEntry_keeps (Parts.within hT) hs1))))

theorem execPerstAssert_keeps (hT : Parts.le (Parts.of (recoverParts ++ wakeParts)) T) (h : Keeps T s0 s)
    (out : WakeOut) : KeepsOut T s0 (execPerstAssert out s) :=
  onlyIf_keeps h _ (fun _ hs => State.perst_keeps hT (State.setF_keeps_reg .SVC_SIDEBAND (Parts.within hT) hs _) _)

theorem execPerstRelease_keeps (hT : Parts.le (Parts.of [.free, .reg .CXL_LINK, .reg .SVC_SIDEBAND]) T)
    (h : Keeps T s0 s) : KeepsOut T s0 (execPerstRelease s) :=
  keepsOut_next (ite_keeps (State.cxlTrain_keeps (Parts.within hT)
    (State.setF_keeps_reg .SVC_SIDEBAND (Parts.within hT) h _)) (State.setF_keeps_reg .SVC_SIDEBAND (Parts.within hT)
    h _))

/-! ### The host's link -/

theorem State.poisonReply_keeps (hT : Parts.le (Parts.of [.reg .CXL_ERR, .reply]) T) (h : Keeps T s0 s) :
    Keeps T s0 s.poisonReply :=
  State.addSat_keeps_reg .CXL_ERR (Parts.within hT) (State.hostReply_keeps (Parts.within hT) h _) _

theorem State.grantLine_keeps (hT : Parts.le (Parts.of [.filter, .reg .CXL_SF]) T) (h : Keeps T s0 s) (line : Nat) :
    Keeps T s0 (s.grantLine line) :=
  State.setF_keeps_reg .CXL_SF (Parts.within hT) (State.filter_keeps (Parts.within hT) h _) _

theorem State.readLine_keeps (hT : Parts.le (Parts.of (lineErrorParts ++
    ([.filter, .reg .CXL_ERR, .reg .CXL_SF, .reply] : List Part))) T) (h : Keeps T s0 s) (pa : Nat) :
    Keeps T s0 (s.readLine pa) :=
  ite_keeps (State.poisonReply_keeps (Parts.within hT) (State.ueFound_keeps (Parts.within hT) h _ _ _))
    (State.grantLine_keeps (Parts.within hT) (State.hostReply_keeps (Parts.within hT) h _) _)

theorem State.sleepReply_keeps (hT : Parts.le (Parts.of [.free, .reply]) T) (h : Keeps T s0 s) :
    Keeps T s0 s.sleepReply :=
  State.hostReply_keeps (Parts.within hT) (State.fresh_keeps (Parts.within hT) h) _

theorem execHostMemRead_keeps (hT : Parts.le (Parts.of (lineErrorParts ++
    ([.filter, .free, .reg .CXL_ERR, .reg .CXL_SF, .reply] : List Part))) T) (h : Keeps T s0 s) (addr : Nat) :
    KeepsOut T s0 (execHostMemRead addr s) :=
  ite_keepsOut (keepsOut_next h) (ite_keepsOut (keepsOut_next (State.poisonReply_keeps (Parts.within hT) h))
    (ite_keepsOut (keepsOut_fault _) (ite_keepsOut (keepsOut_next (State.sleepReply_keeps (Parts.within hT) h))
    (keepsOut_next (State.readLine_keeps (Parts.within hT) h _)))))

theorem State.hostPut_keeps (hT : Parts.le (Parts.of [.dram, .badLines]) T) (h : Keeps T s0 s) (pa : Nat)
    (bs : List Byte) : Keeps T s0 (s.hostPut pa bs) :=
  keeps_change h hT (by intro p; cases p <;> simp [Part.same, State.getF, State.hostPut]) rfl (le_refl _)
    (Fuses.growsTo_refl _) (canon_stores id (Mem.write_wf _ _) (Store.wf_filter _) id id id id id id id id id id id)

theorem State.writeLine_keeps (hT : Parts.le (Parts.of watchParts) T) (h : Keeps T s0 s) (pa : Nat) (bs : List Byte) :
    Keeps T s0 (s.writeLine pa bs) :=
  ite_keeps (State.addSat_keeps_reg .MEM_ERR (Parts.within hT) h _)
    (ite_keeps (State.ueFound_keeps (Parts.within hT) h _ _ _) (State.snoopWrite_keeps hT
    (State.hostPut_keeps (Parts.within hT) h _ _) _ _))

theorem State.sleepWrite_keeps (hT : Parts.le (Parts.of [.badLines, .dram, .free]) T) (h : Keeps T s0 s) (pa : Nat)
    (bs : List Byte) : Keeps T s0 (s.sleepWrite pa bs) :=
  ite_keeps (State.hostPut_keeps (Parts.within hT) (State.fresh_keeps (Parts.within hT) h) _ _)
    (State.fresh_keeps (Parts.within hT) h)

theorem execHostMemWrite_keeps (hT : Parts.le (Parts.of watchParts) T) (h : Keeps T s0 s) (addr : Nat)
    (data : List Byte) : KeepsOut T s0 (execHostMemWrite addr data s) := by
  unfold execHostMemWrite
  extract_lets bs pa
  exact ite_keepsOut (keepsOut_next h) (ite_keepsOut (keepsOut_next
    (State.addSat_keeps_reg .CXL_ERR (Parts.within hT) h _)) (ite_keepsOut
    (keepsOut_next (State.addSat_keeps_reg .CXL_ERR (Parts.within hT) h _))
    (ite_keepsOut (keepsOut_fault _) (ite_keepsOut (keepsOut_next (State.sleepWrite_keeps (Parts.within hT) h _ _))
    (keepsOut_next (State.writeLine_keeps hT h _ _))))))

theorem execHdmCommit_keeps (hT : Parts.le (Parts.of [.link, .reg .CXL_ERR, .reg .CXL_LINK]) T) (h : Keeps T s0 s)
    (base size ways : Nat) : KeepsOut T s0 (execHdmCommit base size ways s) :=
  keepsOut_next (State.barWrite_keeps (Parts.within hT) h (fun _ hs => ite_keeps
    (State.setF_keeps_reg .CXL_LINK (Parts.within hT) (State.link_keeps (Parts.within hT) hs _ (by rfl)) _) hs))

theorem State.hostLine_keeps (hT : Parts.le (Parts.of [.hostMem]) T) (h : Keeps T s0 s) (addr : Nat)
    (data : List Byte) : Keeps T s0 (s.hostLine addr data) :=
  State.hostMem_keeps (Parts.within hT) h _ _

theorem State.snooped_keeps (hT : Parts.le (Parts.of watchParts) T) (h : Keeps T s0 s) (line : Nat) :
    Keeps T s0 (s.snooped line) :=
  keeps_foldl _ (State.watch_keeps (Parts.within hT) h _) fun _ _ hs => State.readWatch_keeps hT hs _

theorem execSnoopInvalidation_keeps (hT : Parts.le (Parts.of watchParts) T) (h : Keeps T s0 s) (addr : Nat)
    (data : List Byte) : KeepsOut T s0 (execSnoopInvalidation addr data s) :=
  onlyIf_keeps (State.hostLine_keeps (Parts.within hT) h _ _) _ (fun _ hs => State.snooped_keeps hT hs _)

theorem execAtsInvalidation_keeps (hT : Parts.le (Parts.of [.link, .atc]) T) (h : Keeps T s0 s) (c : Fin 16)
    (page : Nat) (granted : Bool) : KeepsOut T s0 (execAtsInvalidation c page granted s) := by
  unfold execAtsInvalidation
  extract_lets k deny
  refine onlyIf_keeps h _ fun s hs => ?_
  have ha := State.atc_keeps (Parts.within hT) hs (s.host.atc.filter (· != k))
  exact State.link_keeps (Parts.within hT) ha _ rfl

theorem execIdeKeyProgram_keeps (hT : Parts.le (Parts.of [.link, .reg .CXL_LINK]) T) (h : Keeps T s0 s)
    (stream : Fin 2) : KeepsOut T s0 (execIdeKeyProgram stream s) := by
  refine onlyIf_keeps h _ fun s hs => State.setF_keeps_reg .CXL_LINK (Parts.within hT)
    (State.link_keeps (Parts.within hT) hs _ ?_) _
  split <;> rfl

theorem State.flr_keeps (hT : Parts.le (Parts.of (triggerParts ++
    ([.coll, .flights, .link, .queues, .recov, .reg .FLU_RED, .reg .OBS_CNT, .reg .QUE_CFG, .reg .QUE_CTL,
    .reg .QUE_STAT, .reg .VF_FAULT0] : List Part))) T) (h : Keeps T s0 s) (c : Nat) : Keeps T s0 (s.flr c) := by
  unfold State.flr
  split
  · exact State.recov_keeps (Parts.within hT) h _
  · exact State.flrEnd_keeps (Parts.within hT) h _

theorem execFlr_keeps (hT : Parts.le (Parts.of (triggerParts ++ ([.coll, .flights, .link, .queues, .recov,
    .reg .FLU_RED, .reg .OBS_CNT, .reg .QUE_CFG, .reg .QUE_CTL, .reg .QUE_STAT, .reg .VF_FAULT0] : List Part))) T)
    (h : Keeps T s0 s) (c : Fin 16) : KeepsOut T s0 (execFlr c s) :=
  onlyIf_keeps h _ (fun _ hs => State.flr_keeps hT hs _)

theorem execFlrTimeout_keeps (hT : Parts.le (Parts.of causeParts) T) (h : Keeps T s0 s) (c : Fin 16) :
    KeepsOut T s0 (execFlrTimeout c s) :=
  onlyIf_keeps h _ (fun _ hs => State.cause_keeps hT hs ..)

theorem execCxlLinkDown_keeps (hT : Parts.le (Parts.of causeParts) T) (h : Keeps T s0 s) :
    KeepsOut T s0 (execCxlLinkDown s) :=
  onlyIf_keeps h _ (fun _ hs => State.plainCause_keeps hT (State.cxlDown_keeps (Parts.within hT)
    (State.addSat_keeps_reg .CXL_LINK (Parts.within hT) hs _)) _)

/-! ### The services -/

theorem State.refuse_keeps (h : Keeps T s0 s) (status : Nat) : Keeps T s0 (s.refuse status).1 :=
  h

theorem State.appendJournal_keeps (hT : Parts.le (Parts.of [.nvm]) T) (h : Keeps T s0 s) (ty value hash : Nat) :
    Keeps T s0 (s.appendJournal ty value hash) :=
  State.nwrite_keeps hT (ite_keeps (State.nerase_keeps hT h _ _) h) _ _

theorem Fuses.growsTo_leaf (f : Fuses) (l : List Nat) : f.growsTo { f with leaf := f.leaf ++ l } :=
  ⟨rfl, rfl, rfl, le_refl _, List.prefix_append _ _, fun _ => rfl⟩

theorem State.reserve_keeps (hT : Parts.le (Parts.of (logParts ++ ([.fuses, .reg .SEC_IDENT] : List Part))) T)
    (h : Keeps T s0 s) {t : State} (he : s.reserve = some t) : Keeps T s0 t := by
  unfold State.reserve at he
  extract_lets k s1 s2 at he
  have hs1 : Keeps T s0 s1 := State.appendJournal_keeps (Parts.within hT) h _ _ _
  split at he
  · cases he
  · cases he
    exact State.setFs_keeps_regs [.SEC_IDENT] (Parts.within hT) (State.stoker_keeps (Parts.within hT)
      (State.otherFuses_keeps (Parts.within hT) hs1 (Fuses.growsTo_leaf s1.fuses _) rfl) _)

theorem State.leafReady_keeps (hT : Parts.le (Parts.of (logParts ++ ([.fuses, .reg .SEC_IDENT] : List Part))) T)
    (h : Keeps T s0 s) {t : State} (he : s.leafReady = some t) : Keeps T s0 t := by
  unfold State.leafReady at he
  split at he
  · exact State.reserve_keeps hT h he
  · cases he
    exact h

theorem State.sign_keeps (hT : Parts.le (Parts.of (logParts ++ ([.reg .SEC_IDENT] : List Part))) T) (h : Keeps T s0 s)
    (hash : Nat) : Keeps T s0 (s.sign hash).1 :=
  State.setF_keeps_reg .SEC_IDENT (Parts.within hT) (State.stoker_keeps (Parts.within hT)
    (State.appendJournal_keeps (Parts.within hT) h _ _ _) _) _

theorem State.attest_keeps (hT : Parts.le (Parts.of (logParts ++ ([.fuses, .reg .SEC_IDENT] : List Part))) T)
    (h : Keeps T s0 s) (nonce : List Byte) : Keeps T s0 (s.attest nonce).1 := by
  unfold State.attest
  split
  · exact State.refuse_keeps h _
  · split
    · exact State.refuse_keeps h _
    · split
      · exact State.refuse_keeps h _
      · split
        · exact State.refuse_keeps (State.setF_keeps_reg .SEC_IDENT (Parts.within hT) h _) _
        · rename_i s he
          have hs : Keeps T s0 s := State.leafReady_keeps hT h he
          exact State.sign_keeps (Parts.within hT) hs _

theorem State.getCert_keeps (h : Keeps T s0 s) : Keeps T s0 s.getCert.1 := by
  unfold State.getCert
  split
  · exact h
  · exact State.refuse_keeps h _

theorem State.events_keeps (h : Keeps T s0 s) (seq count : Nat) : Keeps T s0 (s.events seq count).1 :=
  h

theorem State.takeOctr_keeps (hT : Parts.le (Parts.of [.nvm]) T) (h : Keeps T s0 s) (k : SvcHdr) :
    Keeps T s0 (s.takeOctr k) :=
  ite_keeps (State.putHdr_keeps hT h _) h

theorem State.respond_keeps (hT : Parts.le (Parts.of [.stoker]) T) (x : SvcHdr) {r : Reply} (h : Keeps T s0 r.1) :
    Keeps T s0 (State.respond x r) :=
  State.stoker_keeps hT h _

theorem State.service_keeps {act : State → Reply} (hT : Parts.le (Parts.of logParts) T) (h : Keeps T s0 s)
    (rule : SigRule) (x : SvcHdr) (cmd : Nat) (body : List Byte) (hact : ∀ s, Keeps T s0 s → Keeps T s0 (act s).1) :
    KeepsOut T s0 (s.service rule x cmd body act) := by
  unfold State.service
  split
  · exact keepsOut_next h
  · split
    · exact keepsOut_next (State.respond_keeps (Parts.within hT) _
        (hact _ (State.takeOctr_keeps (Parts.within hT) h _)))
    · exact keepsOut_next (State.respond_keeps (Parts.within hT) _ h)

theorem State.updateBegin_keeps (hT : Parts.le (Parts.of logParts) T) (h : Keeps T s0 s) (len : Nat) :
    Keeps T s0 (s.updateBegin len).1 := by
  unfold State.updateBegin
  split
  · exact State.refuse_keeps h _
  · split
    · exact State.refuse_keeps h _
    · exact State.stoker_keeps (Parts.within hT) (State.putHdr_keeps (Parts.within hT)
        (State.nerase_keeps (Parts.within hT) h _ _) _) _

theorem State.updateData_keeps (hT : Parts.le (Parts.of logParts) T) (h : Keeps T s0 s) (offset : Nat)
    (data : List Byte) : Keeps T s0 (s.updateData offset data).1 := by
  unfold State.updateData
  split
  · exact State.refuse_keeps h _
  · split
    · exact State.refuse_keeps h _
    · exact State.stoker_keeps (Parts.within hT) (State.nwrite_keeps (Parts.within hT) h _ _) _

theorem State.updateEnd_keeps (hT : Parts.le (Parts.of (logParts ++ ([.reg .SEC_BOOT] : List Part))) T)
    (h : Keeps T s0 s) : Keeps T s0 s.updateEnd.1 := by
  unfold State.updateEnd
  split
  · exact State.refuse_keeps h _
  · extract_lets x src s1 src2 s2
    have hs1 : Keeps T s0 s1 := State.putHdr_keeps (Parts.within hT) h _
    have hs2 : Keeps T s0 s2 := State.stoker_keeps (Parts.within hT) hs1 _
    split
    · exact State.refuse_keeps h _
    · exact State.logUpdate_keeps (Parts.within hT) (State.setF_keeps_reg .SEC_BOOT (Parts.within hT) hs2 _) _ _ _

theorem Fuses.growsTo_svn (f : Fuses) (n : Nat) : f.growsTo { f with svn := max f.svn n } :=
  ⟨rfl, rfl, rfl, le_max_left _ _, List.prefix_refl _, fun _ => rfl⟩

theorem State.confirm_keeps (hT : Parts.le (Parts.of (logParts ++ ([.fuses, .burn, .reg .SEC_BOOT] : List Part))) T)
    (h : Keeps T s0 s) : Keeps T s0 s.confirm.1 := by
  unfold State.confirm
  split
  · exact h
  · exact State.logUpdate_keeps (Parts.within hT) (State.setFs_keeps_regs [.SEC_BOOT] (Parts.within hT)
      (State.fuses_keeps (Parts.within hT) (State.putHdr_keeps (Parts.within hT) h _) (Fuses.growsTo_svn _ _))) _ _ _

theorem execUpdateBegin_keeps (hT : Parts.le (Parts.of logParts) T) (h : Keeps T s0 s) (k : SvcHdr) (len : Nat) :
    KeepsOut T s0 (execUpdateBegin k len s) :=
  State.service_keeps hT h _ _ _ _ (fun _ hs => State.updateBegin_keeps hT hs _)

theorem execUpdateData_keeps (hT : Parts.le (Parts.of logParts) T) (h : Keeps T s0 s) (k : SvcHdr) (offset : Nat)
    (data : List Byte) : KeepsOut T s0 (execUpdateData k offset data s) :=
  State.service_keeps hT h _ _ _ _ (fun _ hs => State.updateData_keeps hT hs _ _)

theorem execUpdateEnd_keeps (hT : Parts.le (Parts.of (logParts ++ ([.reg .SEC_BOOT] : List Part))) T)
    (h : Keeps T s0 s) (k : SvcHdr) : KeepsOut T s0 (execUpdateEnd k s) :=
  State.service_keeps (Parts.within hT) h _ _ _ _ (fun _ hs => State.updateEnd_keeps hT hs)

theorem execConfirm_keeps (hT : Parts.le (Parts.of (logParts ++ ([.burn, .fuses, .reg .SEC_BOOT] : List Part))) T)
    (h : Keeps T s0 s) (k : SvcHdr) : KeepsOut T s0 (execConfirm k s) :=
  State.service_keeps (Parts.within hT) h _ _ _ _ (fun _ hs => State.confirm_keeps hT hs)

theorem State.configDone_keeps (hT : Parts.le (Parts.of [.nvm]) T) (h : Keeps T s0 s) (m : List Byte) :
    Keeps T s0 (s.configDone m).1 := by
  unfold State.configDone
  extract_lets x
  split
  · exact State.refuse_keeps h _
  · exact State.putHdr_keeps hT (State.putConfig_keeps hT h _ _) _

theorem State.configPiece_keeps (hT : Parts.le (Parts.of logParts) T) (h : Keeps T s0 s) (total offset : Nat)
    (data : List Byte) : Keeps T s0 (s.configPiece total offset data).1 := by
  unfold State.configPiece
  split
  · exact State.refuse_keeps h _
  · extract_lets fresh old spans bytes src s1
    have hs1 : Keeps T s0 s1 := State.stoker_keeps (Parts.within hT) h _
    split
    · exact State.configDone_keeps (Parts.within hT) hs1 _
    · exact State.stoker_keeps (Parts.within hT) h _

theorem execConfigWrite_keeps (hT : Parts.le (Parts.of logParts) T) (h : Keeps T s0 s) (k : SvcHdr)
    (total offset : Nat) (data : List Byte) : KeepsOut T s0 (execConfigWrite k total offset data s) :=
  State.service_keeps hT h _ _ _ _ (fun _ hs => State.configPiece_keeps hT hs _ _ _)

theorem execAttest_keeps (hT : Parts.le (Parts.of (logParts ++ ([.fuses, .reg .SEC_IDENT] : List Part))) T)
    (h : Keeps T s0 s) (k : SvcHdr) (nonce : List Byte) : KeepsOut T s0 (execAttest k nonce s) :=
  State.service_keeps (Parts.within hT) h _ _ _ _ (fun _ hs => State.attest_keeps hT hs _)

theorem execGetCert_keeps (hT : Parts.le (Parts.of logParts) T) (h : Keeps T s0 s) (k : SvcHdr) :
    KeepsOut T s0 (execGetCert k s) :=
  State.service_keeps hT h _ _ _ _ (fun _ hs => State.getCert_keeps hs)

theorem execReadEvents_keeps (hT : Parts.le (Parts.of logParts) T) (h : Keeps T s0 s) (k : SvcHdr) (seq : Nat) :
    KeepsOut T s0 (execReadEvents k seq s) :=
  State.service_keeps hT h _ _ _ _ (fun _ hs => State.events_keeps hs _ _)

theorem State.clearRetire_keeps (hT : Parts.le (Parts.of logParts) T) (h : Keeps T s0 s) (k : SvcHdr) (hearth : Nat) :
    Keeps T s0 (s.clearRetire k hearth).1 := by
  unfold State.clearRetire
  split
  · exact State.refuse_keeps h _
  · split
    · exact State.refuse_keeps h _
    · split
      · exact State.refuse_keeps h _
      · exact State.stoker_keeps (Parts.within hT) (State.logEvent_keeps hT h _ _ _) _

theorem State.ownerService_keeps {act : State → Reply} (hT : Parts.le (Parts.of logParts) T) (h : Keeps T s0 s)
    (x : SvcHdr) (cmd : Nat) (body : List Byte) (hact : ∀ s, Keeps T s0 s → Keeps T s0 (act s).1) :
    KeepsOut T s0 (s.ownerService x cmd body act) := by
  unfold State.ownerService
  split
  · exact State.service_keeps hT h _ _ _ _ hact
  · exact State.service_keeps hT h _ _ _ _ fun _ hs => hs

theorem execClearRetire_keeps (hT : Parts.le (Parts.of logParts) T) (h : Keeps T s0 s) (k : SvcHdr) (hearth : Nat) :
    KeepsOut T s0 (execClearRetire k hearth s) :=
  State.ownerService_keeps hT h _ _ _ (fun _ hs => State.clearRetire_keeps hT hs _ _)

theorem Fuses.growsTo_owner {f : Fuses} (h : ¬ f.owner.isSome = true) (k : Nat) :
    f.growsTo { f with owner := some k } :=
  ⟨rfl, rfl, rfl, le_refl _, List.prefix_refl _, fun ho => absurd ho h⟩

theorem State.enroll_keeps (hT : Parts.le (Parts.of [.fuses, .burn, .reg .SEC_IDENT]) T) (h : Keeps T s0 s)
    (key : List Byte) : Keeps T s0 (s.enroll key).1 := by
  unfold State.enroll
  split
  · exact h
  · split
    · exact h
    · rename_i ho
      exact State.setF_keeps_reg .SEC_IDENT (Parts.within hT)
        (State.fuses_keeps (Parts.within hT) h (Fuses.growsTo_owner ho _)) _

theorem execEnroll_keeps (hT : Parts.le (Parts.of (logParts ++ ([.burn, .fuses, .reg .SEC_IDENT] : List Part))) T)
    (h : Keeps T s0 s) (k : SvcHdr) (key : List Byte) : KeepsOut T s0 (execEnroll k key s) :=
  State.service_keeps (Parts.within hT) h _ _ _ _ (fun _ hs => State.enroll_keeps (Parts.within hT) hs _)

theorem State.wrapPsk_keeps (h : Keeps T s0 s) (key : List Byte) : Keeps T s0 (s.wrapPsk key).1 := by
  unfold State.wrapPsk
  split
  · exact State.refuse_keeps h _
  · exact h

theorem execWrapPsk_keeps (hT : Parts.le (Parts.of logParts) T) (h : Keeps T s0 s) (k : SvcHdr) (key : List Byte) :
    KeepsOut T s0 (execWrapPsk k key s) :=
  State.service_keeps hT h _ _ _ _ (fun _ hs => State.wrapPsk_keeps hs _)

theorem State.submit_keeps (hT : Parts.le (Parts.of [.reg .STK_MBCTL, .reg .STK_MBSTAT]) T) (h : Keeps T s0 s)
    (cmd len : Nat) : Keeps T s0 (s.submit cmd len) :=
  State.setFs_keeps_regs [.STK_MBCTL, .STK_MBSTAT] hT h

theorem State.post_keeps (hT : Parts.le (Parts.of mailParts) T) {r : Reply} (h : Keeps T s0 r.1) :
    Keeps T s0 (State.post r) :=
  State.irq_keeps (Parts.within hT) (State.setFs_keeps_regs [.STK_MBSTAT, .STK_MBCTL] (Parts.within hT)
    (State.mbResp_keeps (Parts.within hT) h _ _)) _ _

theorem State.mailboxAct_keeps {act : State → Nat → Reply} (hT : Parts.le (Parts.of mailParts) T) (h : Keeps T s0 s)
    (hact : ∀ s n, Keeps T s0 s → Keeps T s0 (act s n).1) : Keeps T s0 (s.mailboxAct act) := by
  refine State.post_keeps hT ?_
  split
  · exact h
  · exact hact s _ h

theorem State.mailbox_keeps {act : State → Nat → Reply} (hT : Parts.le
    (Parts.of (mailParts ++ ([.reg .CXL_ERR] : List Part))) T) (h : Keeps T s0 s) (cmd len : Nat)
    (hact : ∀ s n, Keeps T s0 s → Keeps T s0 (act s n).1) : KeepsOut T s0 (s.mailbox cmd len act) := by
  unfold State.mailbox
  split
  · exact onlyIf_keeps h _ fun s hs => State.mailboxAct_keeps (Parts.within hT) hs hact
  · exact keepsOut_next (State.barWrite_keeps (Parts.within hT) h fun s hs =>
      State.mailboxAct_keeps (Parts.within hT) (State.submit_keeps (Parts.within hT) hs _ _) hact)

theorem execGetInfo_keeps (hT : Parts.le (Parts.of (mailParts ++ ([.reg .CXL_ERR] : List Part))) T) (h : Keeps T s0 s)
    (len : Nat) : KeepsOut T s0 (execGetInfo len s) :=
  State.mailbox_keeps hT h _ _ fun _ _ hs => hs

theorem execMailboxGetCert_keeps (hT : Parts.le (Parts.of (mailParts ++ ([.reg .CXL_ERR] : List Part))) T)
    (h : Keeps T s0 s) (len : Nat) : KeepsOut T s0 (execMailboxGetCert len s) :=
  State.mailbox_keeps hT h _ _ fun _ _ hs => State.getCert_keeps hs

theorem execMailboxAttest_keeps (hT : Parts.le (Parts.of (logParts ++ mailParts ++
    ([.fuses, .reg .CXL_ERR, .reg .SEC_IDENT] : List Part))) T) (h : Keeps T s0 s) (len : Nat) :
    KeepsOut T s0 (execMailboxAttest len s) := by
  refine State.mailbox_keeps (Parts.within hT) h _ _ fun s n hs => ?_
  split
  · exact State.attest_keeps (Parts.within hT) hs _
  · exact hs

theorem execMailboxReadEvents_keeps (hT : Parts.le (Parts.of (mailParts ++ ([.reg .CXL_ERR] : List Part))) T)
    (h : Keeps T s0 s) (len : Nat) : KeepsOut T s0 (execMailboxReadEvents len s) := by
  refine State.mailbox_keeps hT h _ _ fun s n hs => ?_
  dsimp only
  split
  · exact hs
  · exact State.events_keeps hs _ _

theorem State.copyEvent_keeps (hT : Parts.le (Parts.of logParts) T) (h : Keeps T s0 s) (r : EvRec) :
    Keeps T s0 (s.copyEvent r) :=
  State.stoker_keeps (Parts.within hT) (State.nwrite_keeps (Parts.within hT) h _ _) _

theorem State.reclaim_keeps (hT : Parts.le (Parts.of logParts) T) (h : Keeps T s0 s) (b : Nat) :
    Keeps T s0 (s.reclaim b) :=
  State.nerase_keeps (Parts.within hT) (keeps_foldl _ h fun _ _ hs => State.copyEvent_keeps hT hs _) _ _

theorem execEventLogReclaim_keeps (hT : Parts.le (Parts.of logParts) T) (h : Keeps T s0 s) :
    KeepsOut T s0 (execEventLogReclaim s) := by
  unfold execEventLogReclaim
  split
  · exact onlyIf_keeps h _ (fun _ hs => State.reclaim_keeps hT hs _)
  · exact keepsOut_next h

/-! ### Register writes -/

theorem State.pf0Write_keeps {f : State → State} (hT : Parts.le (Parts.of [.reg .CXL_ERR]) T) (h : Keeps T s0 s)
    (off : Nat) (hf : ∀ s, Keeps T s0 s → Keeps T s0 (f s)) : Keeps T s0 (s.pf0Write off f) :=
  State.barWrite_keeps hT h fun s hs => ite_keeps hs (hf s hs)

theorem State.hostWrite_keeps {f : State → State} (hT : Parts.le (Parts.of [.reg .CXL_ERR]) T) (h : Keeps T s0 s)
    (a : Accessor) (off : Nat) (own : Nat → Bool) (hf : ∀ s, Keeps T s0 s → Keeps T s0 (f s)) :
    Keeps T s0 (s.hostWrite a off own f) := by
  cases a with
  | pf0 => exact State.pf0Write_keeps hT h _ hf
  | vf c => exact State.pf0Write_keeps hT h _ fun s hs => ite_keeps (hf s hs) hs
  | i3c => exact h

theorem State.writeField_keeps {d : RDesc} (hT : Parts.le (Parts.of [.reg d.reg]) T) (h : Keeps T s0 s) (i j : Nat)
    (f : RField) (value : Nat) : Keeps T s0 (s.writeField d i j f value) := by
  unfold State.writeField
  extract_lets c v
  have hset : ∀ x, Keeps T s0 (s.setF c x) := fun x => State.setF_keeps hT h x
  split
  · exact h
  · split
    · exact hset v
    · exact ite_keeps h (hset v)
    · exact ite_keeps (hset 0) h
    · exact h

theorem State.writePlain_keeps {d : RDesc} (hT : Parts.le (Parts.of [.reg d.reg]) T) (h : Keeps T s0 s)
    (i j value : Nat) : Keeps T s0 (s.writePlain d i j value) :=
  keeps_foldl _ h fun _ _ hs => State.writeField_keeps hT hs _ _ _ _

theorem State.enableQueue_keeps (hT : Parts.le (Parts.of watchParts) T) (h : Keeps T s0 s) (q : Nat) :
    Keeps T s0 (s.enableQueue q) :=
  State.readWatch_keeps hT (State.setQState_keeps (Parts.within hT)
    (State.setFs_keeps_regs [.QUE_STAT, .QUE_CTL] (Parts.within hT) (State.setQueue_keeps (Parts.within hT) h _ _)) _
    _) _

theorem State.disableQueue_keeps (hT : Parts.le (Parts.of [.queues, .reg .QUE_CTL, .reg .QUE_STAT]) T)
    (h : Keeps T s0 s) (q : Nat) : Keeps T s0 (s.disableQueue q) :=
  State.setQState_keeps (Parts.within hT) (State.setF_keeps_reg .QUE_CTL (Parts.within hT)
    (State.setQueue_keeps (Parts.within hT) h _ _) _) _ _

theorem State.queueConfig_keeps (hT : Parts.le (Parts.of (watchParts ++ ([.reg .QUE_CFG] : List Part))) T)
    (h : Keeps T s0 s) (q value : Nat) : Keeps T s0 (s.queueConfig q value) := by
  unfold State.queueConfig
  extract_lets was st on d bound s1
  have hd : d.reg = .QUE_CFG := by decide +kernel
  have hs1 : Keeps T s0 s1 := State.writePlain_keeps (hd ▸ Parts.within hT) h _ _ _
  exact ite_keeps h (ite_keeps (State.enableQueue_keeps (Parts.within hT) hs1 _)
    (ite_keeps (State.disableQueue_keeps (Parts.within hT) hs1 _) hs1))

theorem execQueueEnable_keeps (hT : Parts.le (Parts.of (watchParts ++ ([.reg .QUE_CFG] : List Part))) T)
    (h : Keeps T s0 s) (q : Fin 64) (value : BitVec 32) : KeepsOut T s0 (execQueueEnable q value s) :=
  keepsOut_next (State.pf0Write_keeps (Parts.within hT) h _ (fun _ hs => State.queueConfig_keeps hT hs _ _))

theorem State.queueResume_keeps (hT : Parts.le (Parts.of watchParts) T) (h : Keeps T s0 s) (q : Nat) :
    Keeps T s0 (s.queueResume q) :=
  ite_keeps (State.issueUnreadable_keeps (Parts.within hT) (State.readWatch_keeps hT
    (State.settle_keeps (Parts.within hT) (State.setFs_keeps_regs [.QUE_CTL, .QUE_STAT] (Parts.within hT)
    (State.setQueue_keeps (Parts.within hT) h _ _)) _) _) _) h

theorem execQueueResume_keeps (hT : Parts.le (Parts.of watchParts) T) (h : Keeps T s0 s) (a : Accessor) (q : Fin 64) :
    KeepsOut T s0 (execQueueResume a q s) :=
  keepsOut_next (State.hostWrite_keeps (Parts.within hT) h _ _ _ (fun _ hs => State.queueResume_keeps hT hs _))

theorem execSyncObjectWrite_keeps (hT : Parts.le (Parts.of [.reg .CXL_ERR, .reg .SYNC]) T) (h : Keeps T s0 s)
    (a : Accessor) (n : Fin 8192) (value : BitVec 64) : KeepsOut T s0 (execSyncObjectWrite a n value s) :=
  keepsOut_next (State.hostWrite_keeps (Parts.within hT) h _ _ _ (fun _ hs => State.setF_keeps_reg .SYNC
    (Parts.within hT) hs _))

theorem State.setPtb_keeps (hT : Parts.le (Parts.of [.reg .CTX_PTB, .tlb]) T) (h : Keeps T s0 s) (c value : Nat) :
    Keeps T s0 (s.setPtb c value) :=
  State.setF_keeps_reg .CTX_PTB (Parts.within hT) (State.tlbFilter_keeps (Parts.within hT) h _) _

theorem execPageTableBaseWrite_keeps (hT : Parts.le (Parts.of [.reg .CTX_PTB, .reg .CXL_ERR, .tlb]) T)
    (h : Keeps T s0 s) (c : Fin 16) (value : BitVec 64) : KeepsOut T s0 (execPageTableBaseWrite c value s) :=
  keepsOut_next (State.pf0Write_keeps (Parts.within hT) h _ (fun _ hs => State.setPtb_keeps (Parts.within hT) hs _ _))

theorem State.setSyncRange_keeps (hT : Parts.le (Parts.of [.reg .CTX_SYNC]) T) (h : Keeps T s0 s) (c value : Nat) :
    Keeps T s0 (s.setSyncRange c value) :=
  ite_keeps (State.setF_keeps_reg .CTX_SYNC hT h _) (State.setFs_keeps_regs [.CTX_SYNC] hT
    (State.setF_keeps_reg .CTX_SYNC hT h _))

theorem State.setWindow_keeps (hT : Parts.le (Parts.of [.reg .CTX_NWIN]) T) (h : Keeps T s0 s) (c value : Nat) :
    Keeps T s0 (s.setWindow c value) :=
  ite_keeps h (State.setFs_keeps_regs [.CTX_NWIN] hT h)

theorem execRecover_keeps (hT : Parts.le (Parts.of (causeParts ++ ([.reg .CXL_ERR] : List Part))) T)
    (h : Keeps T s0 s) : KeepsOut T s0 (execRecover s) :=
  keepsOut_next (State.pf0Write_keeps (Parts.within hT) h _ (fun _ hs => State.recover_keeps (Parts.within hT) hs))

theorem execRetrain_keeps (hT : Parts.le (Parts.of (traceParts ++
    ([.ports, .reg .CXL_ERR, .reg .FLU_PCTL, .reg .FLU_PORT] : List Part))) T) (h : Keeps T s0 s) (p : Fin 6) :
    KeepsOut T s0 (execRetrain p s) :=
  keepsOut_next (State.pf0Write_keeps (Parts.within hT) h _ (fun _ hs => State.retrainFull_keeps (Parts.within hT) hs
    _))

theorem execSweep_keeps (hT : Parts.le (Parts.of [.hearths, .reg .CXL_ERR, .reg .HTH_CONECTL]) T) (h : Keeps T s0 s) :
    KeepsOut T s0 (execSweep s) :=
  keepsOut_next (State.pf0Write_keeps (Parts.within hT) h _ (fun _ hs => State.sweep_keeps (Parts.within hT) hs))

theorem execRearm_keeps (hT : Parts.le (Parts.of [.reg .CXL_ERR, .reg .OBS_TRSTAT, .trace]) T) (h : Keeps T s0 s) :
    KeepsOut T s0 (execRearm s) :=
  keepsOut_next (State.pf0Write_keeps (Parts.within hT) h _ (fun _ hs => State.rearm_keeps (Parts.within hT) hs))

theorem execFire_keeps (hT : Parts.le (Parts.of (triggerParts ++ ([.reg .CXL_ERR] : List Part))) T)
    (h : Keeps T s0 s) : KeepsOut T s0 (execFire s) :=
  keepsOut_next (State.pf0Write_keeps (Parts.within hT) h _ (fun _ hs => State.fire_keeps (Parts.within hT) hs))

theorem State.setSelectors_keeps (hT : Parts.le (Parts.of [.reg .OBS_SEL]) T) (h : Keeps T s0 s) (c i value : Nat) :
    Keeps T s0 (s.setSelectors c i value) :=
  State.setF_keeps_reg .OBS_SEL hT h _

theorem State.setSnap_keeps (hT : Parts.le (Parts.of [.reg .OBS_QSNAP]) T) (h : Keeps T s0 s) (own : Nat → Bool)
    (value : Nat) : Keeps T s0 (s.setSnap own value) :=
  keeps_foldl _ h fun _ _ hs => ite_keeps (State.setBit_keeps_reg .OBS_QSNAP hT hs _ _) hs

theorem State.setMailbox_keeps (hT : Parts.le (Parts.of mailParts) T) (h : Keeps T s0 s) (value : Nat) :
    Keeps T s0 (s.setMailbox value) := by
  unfold State.setMailbox
  split
  · exact h
  · extract_lets cmd s1 s2
    have hs1 : Keeps T s0 s1 := State.setFs_keeps_regs [.STK_MBCTL] (Parts.within hT) h
    have hs2 : Keeps T s0 s2 := State.setF_keeps_reg .STK_MBSTAT (Parts.within hT) hs1 _
    exact ite_keeps hs1 (ite_keeps hs2 (State.post_keeps hT hs2))

theorem State.freshWake_keeps (hT : Parts.le (Parts.of [.free]) T) (h : Keeps T s0 s) : Keeps T s0 s.freshWake.2 :=
  State.fresh_keeps hT h

theorem State.setTarget_keeps (hT : Parts.le (Parts.of (wakeParts ++ sleepParts)) T) (h : Keeps T s0 s) (t : Nat) :
    Keeps T s0 (s.setTarget t) :=
  ite_keeps (State.requestSleep_keeps (Parts.within hT) h _) (ite_keeps
    (ite_keeps (State.requestWake_keeps (Parts.within hT) (State.freshWake_keeps (Parts.within hT) h) _)
    (State.requestWake_keeps (Parts.within hT) h _)) h)

theorem State.setTrctl_keeps (hT : Parts.le (Parts.of triggerParts) T) (h : Keeps T s0 s) (value : Nat) :
    Keeps T s0 (s.setTrctl value) :=
  ite_keeps (State.fire_keeps hT (ite_keeps (State.rearm_keeps (Parts.within hT) h) h))
    (ite_keeps (State.rearm_keeps (Parts.within hT) h) h)

theorem State.writeReg_keeps (hT : Parts.le (Parts.of (regParts ++ causeParts)) T) (h : Keeps T s0 s) (d : RDesc)
    (i j value : Nat) : Keeps T s0 (s.writeReg d i j value) := by
  have hR : Parts.le (Parts.of regParts) T := Parts.within hT
  have hp : ∀ fs, Keeps T s0 (s.writePlain { d with fields := fs } i j value) := fun _ =>
    State.writePlain_keeps (Parts.sub hR (Parts.reg_le _)) h _ _ _
  unfold State.writeReg
  dsimp only
  refine ite_keeps (State.queueConfig_keeps (Parts.within hT) h _ _) ?_
  refine ite_keeps (ite_keeps (State.queueResume_keeps (Parts.within hT) (hp _) _) (hp _)) ?_
  refine ite_keeps (State.setSyncRange_keeps (Parts.within hT) h _ _) ?_
  refine ite_keeps (State.setPtb_keeps (Parts.within hT) h _ _) ?_
  refine ite_keeps (State.setWindow_keeps (Parts.within hT) h _ _) ?_
  refine ite_keeps (State.setTarget_keeps (Parts.within hT) h _) ?_
  refine ite_keeps (ite_keeps (State.recover_keeps (Parts.within hT) h) h) ?_
  refine ite_keeps (ite_keeps (State.retrainFull_keeps (Parts.within hT) h _) h) ?_
  refine ite_keeps (ite_keeps (State.sweep_keeps (Parts.within hT) h) h) ?_
  refine ite_keeps (State.setTrctl_keeps (Parts.within hT) h _) ?_
  refine ite_keeps (State.setSelectors_keeps (Parts.within hT) h _ _ _) ?_
  refine ite_keeps (State.setSnap_keeps (Parts.within hT) h _ _) ?_
  refine ite_keeps (State.setF_keeps_reg .OBS_TRCFG (Parts.within hT) (hp _) _) ?_
  refine ite_keeps (State.setMailbox_keeps (Parts.within hT) h _) ?_
  exact ite_keeps (State.syncPins_keeps (Parts.within hT) (hp _)) (hp _)

theorem State.sendPending_keeps (hT : Parts.le (Parts.of irqParts) T) (h : Keeps T s0 s) (fn : Nat) :
    Keeps T s0 (s.sendPending fn) :=
  keeps_foldl _ h fun _ _ hs => ite_keeps (State.irq_keeps hT (State.pba_keeps (Parts.within hT) hs _) _ _) hs

theorem State.msixWrite_keeps (hT : Parts.le (Parts.of (irqParts ++ ([.link] : List Part))) T) (h : Keeps T s0 s)
    (fn off bytes value : Nat) : Keeps T s0 (s.msixWrite fn off bytes value) :=
  ite_keeps h (ite_keeps (State.sendPending_keeps (Parts.within hT) (State.link_keeps (Parts.within hT) h _ (by rfl))
    _) (ite_keeps (State.sendPending_keeps (Parts.within hT) (State.link_keeps (Parts.within hT)
    (State.link_keeps (Parts.within hT) h _ (by rfl)) _ (by rfl)) _) h))

theorem State.pf0Bar_keeps (hT : Parts.le (Parts.of (regParts ++ causeParts)) T) (h : Keeps T s0 s)
    (off bytes value : Nat) : Keeps T s0 (s.pf0Bar off bytes value) := by
  unfold State.pf0Bar
  refine ite_keeps (State.msixWrite_keeps (Parts.within hT) h ..) ?_
  refine ite_keeps (State.mbReq_keeps (Parts.within hT) h _ _) ?_
  split
  · exact ite_keeps h (State.writeReg_keeps hT h ..)
  · exact h

theorem State.vfBar_keeps (hT : Parts.le (Parts.of (regParts ++ causeParts)) T) (h : Keeps T s0 s)
    (c off bytes value : Nat) : Keeps T s0 (s.vfBar c off bytes value) := by
  unfold State.vfBar
  refine ite_keeps (State.msixWrite_keeps (Parts.within hT) h ..) ?_
  refine ite_keeps (State.setSnap_keeps (Parts.within hT) h _ _) ?_
  split
  · exact State.writeReg_keeps hT h ..
  · exact h

theorem State.i3cWrite_keeps (hT : Parts.le (Parts.of (regParts ++ causeParts)) T) (h : Keeps T s0 s)
    (off bytes value : Nat) : Keeps T s0 (s.i3cWrite off bytes value) :=
  ite_keeps (State.alwaysWrite_keeps (Parts.within hT) h _ (fun _ hs => State.pf0Bar_keeps hT hs _ _ _)) h

theorem State.setVfs_keeps (hT : Parts.le (Parts.of (triggerParts ++
    ([.coll, .flights, .link, .queues, .recov, .reg .FLU_RED, .reg .OBS_CNT, .reg .QUE_CFG, .reg .QUE_CTL,
    .reg .QUE_STAT, .reg .VF_FAULT0] : List Part))) T) (h : Keeps T s0 s) (n : Nat) (on : Bool) :
    Keeps T s0 (s.setVfs n on) :=
  State.link_keeps (Parts.within hT) (keeps_foldl _ h fun _ _ hs => State.flr_keeps hT hs _) _ (by rfl)

theorem execRegisterWrite_keeps (hT : Parts.le (Parts.of (regParts ++ causeParts)) T) (h : Keeps T s0 s)
    (t : WriteTarget) (bytes value : Nat) : KeepsOut T s0 (execRegisterWrite t bytes value s) := by
  unfold execRegisterWrite
  refine keepsOut_next ?_
  split
  · exact State.pf0Write_keeps (Parts.within hT) h _ (fun _ hs => State.pf0Bar_keeps hT hs _ _ _)
  · exact State.hostWrite_keeps (Parts.within hT) h _ _ _ (fun _ hs => State.vfBar_keeps hT hs ..)
  · exact State.i3cWrite_keeps hT h _ _ _
  · exact ite_keeps (State.setVfs_keeps (Parts.within hT) h _ _) h
  · exact ite_keeps (State.sendPending_keeps (Parts.within hT) (State.link_keeps (Parts.within hT) h _ (by rfl)) _) h
  · exact ite_keeps (State.link_keeps (Parts.within hT) h _ (by rfl)) h

/-! ### The commands -/

/-- The parts that a command may change: those of its frame, and of the end of a cone test the Hearth's repair records
too, which a failed test writes (R102, R105). -/
def execParts (c : Instr) : List Part :=
  match c with
  | .coneTestEnd _ _ => (frameOf c).2 ++ repairParts
  | _ => (frameOf c).2

/-- A command that is an opcode row issues the head of its queue. -/
theorem exec_opcodeRow {c : Instr} {q : Fin 64} {p : Nat → Bool} (hr : opcodeRow c = some (q, p)) (s : State) :
    exec c s = .next (s.issue q p) := by
  cases c <;> cases hr <;> rfl

theorem execParts_opcodeRow {c : Instr} {r : Fin 64 × (Nat → Bool)} (hr : opcodeRow c = some r) :
    execParts c = issueParts := by
  cases c <;> cases hr <;> rfl

theorem exec_keeps_opcodeRow {c : Instr} {r : Fin 64 × (Nat → Bool)} (hr : opcodeRow c = some r)
    (hT : Parts.le (Parts.of (execParts c)) T) (h : Keeps T s0 s) : KeepsOut T s0 (exec c s) := by
  rw [execParts_opcodeRow hr] at hT
  rw [exec_opcodeRow hr]
  exact keepsOut_next (State.issue_keeps hT h _ _)

theorem exec_keeps_queue {c : Instr} (hc : (frameOf c).1 = .queue) (hT : Parts.le (Parts.of (execParts c)) T)
    (h : Keeps T s0 s) : KeepsOut T s0 (exec c s) := by
  cases hr : opcodeRow c with
  | some r => exact exec_keeps_opcodeRow hr hT h
  | none =>
    revert hT
    cases c <;> dsimp only [frameOf] at hc <;> try contradiction
    all_goals
      dsimp only [execParts, frameOf]
      intro hT
    case watchLinePoll => exact execWatchLinePoll_keeps (Parts.within hT) h _
    case tilePlace => exact execTilePlace_keeps (Parts.within hT) h _
    case tileComplete => exact execTileComplete_keeps (Parts.within hT) h _ _ _
    case tileFail => exact execTileFail_keeps (Parts.within hT) h _ _ _ _
    case glazeEncode => exact execGlazeEncode_keeps (Parts.within hT) h _ _ _
    case escalationPass => exact execEscalationPass_keeps (Parts.within hT) h _ _
    case narrowEmission => exact execNarrowEmission_keeps (Parts.within hT) h _ _
    case commandComplete => exact execCommandComplete_keeps (Parts.within hT) h _
    case waitTimeout => exact execWaitTimeout_keeps (Parts.within hT) h _
    case dispatchTimeout => exact execDispatchTimeout_keeps (Parts.within hT) h _
    case stepBarrier => exact execStepBarrier_keeps (Parts.within hT) h _
    case decisionStepEnd => exact execDecisionStepEnd_keeps (Parts.within hT) h _
    case interludeClose => exact execInterludeClose_keeps (Parts.within hT) h _

theorem exec_keeps_host {c : Instr} (hc : (frameOf c).1 = .host) (hT : Parts.le (Parts.of (execParts c)) T)
    (h : Keeps T s0 s) : KeepsOut T s0 (exec c s) := by
  revert hT
  cases c <;> dsimp only [frameOf] at hc <;> try contradiction
  all_goals
    dsimp only [execParts, frameOf]
    intro hT
  case queueEnable => exact execQueueEnable_keeps (Parts.within hT) h _ _
  case queueResume => exact execQueueResume_keeps (Parts.within hT) h _ _
  case syncObjectWrite => exact execSyncObjectWrite_keeps (Parts.within hT) h _ _ _
  case pageTableBaseWrite => exact execPageTableBaseWrite_keeps (Parts.within hT) h _ _
  case recover => exact execRecover_keeps (Parts.within hT) h
  case retrain => exact execRetrain_keeps (Parts.within hT) h _
  case sweep => exact execSweep_keeps (Parts.within hT) h
  case rearm => exact execRearm_keeps (Parts.within hT) h
  case fire => exact execFire_keeps (Parts.within hT) h
  case bankedRequest => exact execBankedRequest_keeps (Parts.within hT) h _
  case emberRequest => exact execEmberRequest_keeps (Parts.within hT) h _
  case wakeRequest => exact execWakeRequest_keeps (Parts.within hT) h _ _
  case registerWrite => exact execRegisterWrite_keeps (Parts.within hT) h _ _ _
  case getInfo => exact execGetInfo_keeps (Parts.within hT) h _
  case mailboxGetCert => exact execMailboxGetCert_keeps (Parts.within hT) h _
  case mailboxAttest => exact execMailboxAttest_keeps (Parts.within hT) h _
  case mailboxReadEvents => exact execMailboxReadEvents_keeps (Parts.within hT) h _
  case updateBegin => exact execUpdateBegin_keeps (Parts.within hT) h _ _
  case updateData => exact execUpdateData_keeps (Parts.within hT) h _ _ _
  case updateEnd => exact execUpdateEnd_keeps (Parts.within hT) h _
  case confirm => exact execConfirm_keeps (Parts.within hT) h _
  case configWrite => exact execConfigWrite_keeps (Parts.within hT) h _ _ _ _
  case attest => exact execAttest_keeps (Parts.within hT) h _ _
  case getCert => exact execGetCert_keeps (Parts.within hT) h _
  case readEvents => exact execReadEvents_keeps (Parts.within hT) h _ _
  case clearRetire => exact execClearRetire_keeps (Parts.within hT) h _ _
  case enroll => exact execEnroll_keeps (Parts.within hT) h _ _
  case wrapPsk => exact execWrapPsk_keeps (Parts.within hT) h _ _
  case hostMemRead => exact execHostMemRead_keeps (Parts.within hT) h _
  case hostMemWrite => exact execHostMemWrite_keeps (Parts.within hT) h _ _
  case snoopInvalidation => exact execSnoopInvalidation_keeps (Parts.within hT) h _ _
  case atsInvalidation => exact execAtsInvalidation_keeps (Parts.within hT) h _ _ _
  case hdmCommit => exact execHdmCommit_keeps (Parts.within hT) h _ _ _
  case ideKeyProgram => exact execIdeKeyProgram_keeps (Parts.within hT) h _
  case flr => exact execFlr_keeps (Parts.within hT) h _
  case cxlLinkDown => exact execCxlLinkDown_keeps (Parts.within hT) h
  case flrTimeout => exact execFlrTimeout_keeps (Parts.within hT) h _

theorem exec_keeps_fabric {c : Instr} (hc : (frameOf c).1 = .fabric) (hT : Parts.le (Parts.of (execParts c)) T)
    (h : Keeps T s0 s) : KeepsOut T s0 (exec c s) := by
  revert hT
  cases c <;> dsimp only [frameOf] at hc <;> try contradiction
  all_goals
    dsimp only [execParts, frameOf]
    intro hT
  case frameReceive => exact execFrameReceive_keeps (Parts.within hT) h _ _
  case skipFrameReceive => exact execSkipFrameReceive_keeps (Parts.within hT) h _ _
  case skipFrameSend => exact execSkipFrameSend_keeps (Parts.within hT) h _
  case replayTimeout => exact execReplayTimeout_keeps (Parts.within hT) h _
  case nak => exact execNak_keeps (Parts.within hT) h _
  case credit => exact execCredit_keeps (Parts.within hT) h _
  case creditReport => exact execCreditReport_keeps (Parts.within hT) h _
  case retrainEntry => exact execRetrainEntry_keeps (Parts.within hT) h _ _
  case retrainDone => exact execRetrainDone_keeps (Parts.within hT) h _ _
  case retrainTimeout => exact execRetrainTimeout_keeps (Parts.within hT) h _
  case failedPortRetry => exact execFailedPortRetry_keeps (Parts.within hT) h _
  case writePacket => exact execWritePacket_keeps (Parts.within hT) h _
  case readReq => exact execReadReq_keeps (Parts.within hT) h _
  case readRsp => exact execReadRsp_keeps (Parts.within hT) h _
  case writeAck => exact execWriteAck_keeps (Parts.within hT) h _
  case signalPacket => exact execSignalPacket_keeps (Parts.within hT) h _
  case signalAck => exact execSignalAck_keeps (Parts.within hT) h _
  case collData => exact execCollData_keeps (Parts.within hT) h _
  case collReady => exact execCollReady_keeps (Parts.within hT) h _
  case collAbort => exact execCollAbort_keeps (Parts.within hT) h _
  case collAck => exact execCollAck_keeps (Parts.within hT) h _
  case unreach => exact execUnreach_keeps (Parts.within hT) h _
  case linkstate => exact execLinkstate_keeps (Parts.within hT) h _
  case endpoint => exact execEndpoint_keeps (Parts.within hT) h _
  case idle => exact execIdle_keeps (Parts.within hT) h _
  case transitPacket => exact execTransitPacket_keeps (Parts.within hT) h _
  case outputGrant => exact execOutputGrant_keeps (Parts.within hT) h _ _
  case creditWaitTimeout => exact execCreditWaitTimeout_keeps (Parts.within hT) h _ _
  case routingTableSwap => exact execRoutingTableSwap_keeps (Parts.within hT) h
  case stackPortGrant => exact execStackPortGrant_keeps (Parts.within hT) h _ _ _
  case readBeatReturn => exact execReadBeatReturn_keeps (Parts.within hT) h _ _ _
  case refreshBlackout => exact execRefreshBlackout_keeps (Parts.within hT) h _ _
  case refreshWindowChange => exact execRefreshWindowChange_keeps (Parts.within hT) h _ _ _
  case patrolScrub => exact execPatrolScrub_keeps (Parts.within hT) h _ _
  case correctiveWrite => exact execCorrectiveWrite_keeps (Parts.within hT) h _
  case rowSpare => exact execRowSpare_keeps (Parts.within hT) h _ _

theorem exec_keeps_board {c : Instr} (hc : (frameOf c).1 = .board) (hT : Parts.le (Parts.of (execParts c)) T)
    (h : Keeps T s0 s) : KeepsOut T s0 (exec c s) := by
  revert hT
  cases c <;> dsimp only [frameOf] at hc <;> try contradiction
  all_goals
    dsimp only [execParts, frameOf]
    intro hT
  case d2dUncorr => exact execD2dUncorr_keeps (Parts.within hT) h _ _ _
  case sensorSample => exact execSensorSample_keeps (Parts.within hT) h _
  case sensorFailure => exact execSensorFailure_keeps (Parts.within hT) h _
  case budgetPeriod => exact execBudgetPeriod_keeps (Parts.within hT) h _
  case fastLimiter => exact execFastLimiter_keeps (Parts.within hT) h _
  case fallback => exact execFallback_keeps (Parts.within hT) h
  case thermWarn => exact execThermWarn_keeps (Parts.within hT) h
  case thermWarnRelease => exact execThermWarnRelease_keeps (Parts.within hT) h
  case thermTrip => exact execThermTrip_keeps (Parts.within hT) h
  case tripRelease => exact execTripRelease_keeps (Parts.within hT) h
  case tripHoldTimeout => exact execTripHoldTimeout_keeps (Parts.within hT) h
  case hearthGate => exact execHearthGate_keeps (Parts.within hT) h _
  case coneTestDue => exact execConeTestDue_keeps (Parts.within hT) h _
  case coneTestStart => exact execConeTestStart_keeps (Parts.within hT) h _
  case coneTestOverdue => exact execConeTestOverdue_keeps (Parts.within hT) h _
  case coneTestEnd => exact execConeTestEnd_keeps (Parts.within hT) h _ _
  case busyTimeSave => exact execBusyTimeSave_keeps (Parts.within hT) h
  case eventLogReclaim => exact execEventLogReclaim_keeps (Parts.within hT) h
  case stokerSramScrub => exact execStokerSramScrub_keeps h
  case stokerEcc => exact execStokerEcc_keeps (Parts.within hT) h
  case stokerWdt => exact execStokerWdt_keeps (Parts.within hT) h
  case regulator => exact execRegulator_keeps (Parts.within hT) h
  case pllLockLoss => exact execPllLockLoss_keeps (Parts.within hT) h
  case quiesceTimeout => exact execQuiesceTimeout_keeps (Parts.within hT) h _ _
  case sequencerWatchdog => exact execSequencerWatchdog_keeps (Parts.within hT) h
  case powerEntry => exact execPowerEntry_keeps (Parts.within hT) h
  case entryTimeout => exact execEntryTimeout_keeps (Parts.within hT) h
  case wakeTimeout => exact execWakeTimeout_keeps (Parts.within hT) h _
  case powerOnReset => exact execPowerOnReset_keeps (Parts.within hT) h _
  case bootTimeout => exact execBootTimeout_keeps (Parts.within hT) h
  case powerDown => exact execPowerDown_keeps (Parts.within hT) h
  case modRstAssert => exact execModRstAssert_keeps (Parts.within hT) h
  case perstAssert => exact execPerstAssert_keeps (Parts.within hT) h _
  case perstRelease => exact execPerstRelease_keeps (Parts.within hT) h
  case undervoltageLockout => exact execUndervoltageLockout_keeps (Parts.within hT) h
  case overvoltageShutdown => exact execOvervoltageShutdown_keeps (Parts.within hT) h
  case traceFreeze => exact execTraceFreeze_keeps (Parts.within hT) h
  case traceFull => exact execTraceFull_keeps (Parts.within hT) h
  case inputReturn => exact execInputReturn_keeps (Parts.within hT) h _
  case pwrEnHoldEnd => exact execPwrEnHoldEnd_keeps (Parts.within hT) h _
  case thermalReadyTimeout => exact execThermalReadyTimeout_keeps (Parts.within hT) h
/-- A command changes its parts only, keeps the queue of waiting commands and the form of every store, and only burns
fuses. -/
theorem exec_keeps {c : Instr} (hT : Parts.le (Parts.of (execParts c)) T) (h : Keeps T s0 s) :
    KeepsOut T s0 (exec c s) := by
  cases hc : (frameOf c).1 with
  | queue => exact exec_keeps_queue hc hT h
  | host => exact exec_keeps_host hc hT h
  | fabric => exact exec_keeps_fabric hc hT h
  | board => exact exec_keeps_board hc hT h

/-- The fuses after a step are those before it, grown. -/
theorem step_fuses_growsTo {s t : State} (h : step s = .next t) : s.fuses.growsTo t.fuses := by
  unfold step at h
  split at h
  · cases h
    exact (State.tick_keeps (Parts.le_refl _) (keeps_refl s)).fuses
  · rename_i c rest _
    exact (exec_keeps (Parts.le_refl _) (keeps_refl { s with pending := rest }) t h).fuses

/-- Settles O5: a step is a tick or a command, and every operation of both keeps the fuses or burns them. -/
theorem stepOnlyBurnsFuses : Obligations.StepOnlyBurnsFuses := by
  intro s t h
  exact step_fuses_growsTo h

end Sys2Proof.Machine

/-! The reset state. -/

namespace Sys2Proof.Machine

open Sys2Proof

/-- Settles O3: after reset every store is empty, so that each field, each byte and each record reads as its default. -/
theorem resetStateCanonical : Obligations.ResetStateCanonical :=
  ⟨by decide, by decide, fun _ => rfl, fun _ => rfl, fun _ => rfl, rfl, rfl⟩

end Sys2Proof.Machine

/-! Two fields of different registers, or of one register from different bits, lie in different cells. -/

namespace Sys2Proof.Machine

open Sys2Proof

theorem Fld.key_ne_of_lo {f g : Fld} (h : g.lo % 64 ≠ f.lo % 64) : g.key ≠ f.key := by
  simp only [Fld.key, cellKey]
  omega

theorem State.getF_setF_lo (s : State) {f g : Fld} (v : Nat) (h : (g.lo % 64 == f.lo % 64) = false) :
    (s.setF f v).getF g = s.getF g :=
  s.getF_setF_ne v (Fld.key_ne_of_lo (beq_eq_false_iff_ne.1 h))

theorem State.getF_setF_num (s : State) {f g : Fld} (v : Nat) (h : (g.reg.num == f.reg.num) = false) :
    (s.setF f v).getF g = s.getF g :=
  s.getF_setF_reg v fun e => beq_eq_false_iff_ne.1 h (congrArg Reg.num e)

end Sys2Proof.Machine

/-! The start of a head command that fails its start checks, or that cannot be read (R17, R246, R284, R583). -/

namespace Sys2Proof.Machine

open Sys2Proof

/-! ### What an operation leaves of a queue's head and of the sync objects -/

@[simp] theorem State.headIdx_setQState (s : State) (q v : Nat) : (s.setQState q v).headIdx q = s.headIdx q :=
  s.getF_setF_lo v rfl

theorem Keeps.headIdx {T : Nat} {s t : State} (h : Keeps T s t)
    (hT : T.testBit (Part.num (.reg .QUE_STAT)) = false) (q : Nat) : t.headIdx q = s.headIdx q :=
  h.same _ hT (QUE_STAT_HEAD q) rfl

theorem Keeps.sync {T : Nat} {s t : State} (h : Keeps T s t) (hT : T.testBit (Part.num (.reg .SYNC)) = false)
    (n : Nat) : t.sync n = s.sync n :=
  h.same _ hT (SYNC_VALUE n) rfl

/-! ### A launch -/

/-- A flight as its launch puts it in flight: with the step, the window and the latches of its start (R258, R489). -/
def State.launched (s : State) (f : Flight) : Flight :=
  let sel := s.selected (s.ctxOf f.q)
  let st := s.startPoint f.q f.n f.words
  { f with stepAt := st.1, winAt := st.2, tStart := s.now, snapSel := sel, snapStart := s.latches (s.ctxOf f.q) sel }

theorem State.headIdx_launch (s : State) (f : Flight) : (s.launch f).headIdx f.q = (f.n + 1) % 2 ^ 48 := by
  unfold State.launch
  extract_lets c sel st g s1 s2 s3 s4
  have hT := Parts.le_refl traceParts
  have hk : Keeps (Parts.of traceParts) s3 ((s4.putSlot g).putQHeader g.q (s4.doneIdx g.q)) :=
    State.putQHeader_keeps (Parts.within hT) (State.putSlot_keeps (Parts.within hT)
      (State.traceRec_keeps hT (keeps_refl s3) ..) _) _ _
  calc ((s4.putSlot g).putQHeader g.q (s4.doneIdx g.q)).headIdx f.q
    _ = s3.headIdx f.q := hk.headIdx (by decide) f.q
    _ = (s2.setF (QUE_STAT_HEAD f.q) (f.n + 1)).headIdx f.q := State.headIdx_setQState ..
    _ = (f.n + 1) % 2 ^ 48 := State.getF_setF ..

theorem State.flights_launch (s : State) (f : Flight) : (s.launch f).flights = s.flights ++ [s.launched f] := by
  unfold State.launch
  extract_lets c sel st g s1 s2 s3 s4
  have hT := Parts.le_refl (traceParts ++ [.queues, .reg .QUE_STAT])
  have hk : Keeps _ s1 ((s4.putSlot g).putQHeader g.q (s4.doneIdx g.q)) :=
    State.putQHeader_keeps (Parts.within hT) (State.putSlot_keeps (Parts.within hT)
      (State.traceRec_keeps (Parts.within hT) (State.setQState_keeps (Parts.within hT)
      (State.setF_keeps_reg .QUE_STAT (Parts.within hT) (State.noteStart_keeps (Parts.within hT)
      (keeps_refl s1) g) _) _ _) ..) _) _ _
  exact hk.same .flights (by decide)

theorem State.sync_launch (s : State) (f : Flight) (n : Nat) : (s.launch f).sync n = s.sync n :=
  (State.launch_keeps (Parts.le_refl _) (keeps_refl s) f).sync (by decide) n

/-! ### A command that ends as it starts -/

/-- A start that fails is a launch, and perhaps the report of an uncorrectable line. -/
theorem State.startRejected_keeps_launch (s : State) (q : Nat) (ws : List Byte) (e : Status × Option Nat) :
    let total := commandTiles (s.env q ws) ws
    Keeps (Parts.of readParts) (s.launch
      { Flight.fresh q (s.headIdx q) (s.cmdAddr q (s.headIdx q)) ws .control total [e.1] with nextTile := total })
      (s.startRejected q ws e) := by
  obtain ⟨st, _ | pa⟩ := e
  · exact keeps_refl _
  · exact State.memFault_keeps (Parts.le_refl _) (keeps_refl _) _ _ _

theorem State.startUnreadable_keeps_launch (s : State) (q : Nat) (e : Status × Option Nat) :
    Keeps (Parts.of readParts) (s.launch
      (Flight.fresh q (s.headIdx q) (s.cmdAddr q (s.headIdx q)) (List.replicate 64 0) .control 0 [e.1]))
      (s.startUnreadable q e) := by
  obtain ⟨st, _ | pa⟩ := e
  · exact keeps_refl _
  · exact State.memFault_keeps (Parts.le_refl _) (keeps_refl _) _ _ _

/-- What a launch followed by the report of a line leaves: the head moved on, the sync objects as they were, and the
flight at the end of those in flight. -/
theorem launch_reported {s u : State} {f : Flight} (h : Keeps (Parts.of readParts) (s.launch f) u) :
    u.headIdx f.q = (f.n + 1) % 2 ^ 48 ∧ (∀ n, u.sync n = s.sync n) ∧ u.flights = s.flights ++ [s.launched f] := by
  refine ⟨?_, fun n => ?_, ?_⟩
  · rw [h.headIdx (by decide), State.headIdx_launch]
  · rw [h.sync (by decide), State.sync_launch]
  · rw [← State.flights_launch]
    exact h.same .flights (by decide)

/-! ### The rows -/

theorem State.fetchCmd_error {s : State} {q n : Nat} {e : Status × Option Nat} (h : s.fetchCmd q n = .error e) :
    e.1 = .accessFault ∨ e.1 = .memoryUncorrectable := by
  unfold State.fetchCmd at h
  dsimp only at h
  split at h
  · cases h
    exact .inr rfl
  · split at h
    · cases h
      exact .inl rfl
    · split at h
      · cases h
        exact .inr rfl
      · cases h

theorem succ_mod_ne (n : Nat) : (n + 1) % 2 ^ 48 ≠ n := by omega

/-- A row whose start moves the head on goes on with what the command does as soon as it has started. -/
theorem State.issue_of_startRow {s u : State} {q : Nat} {p : Nat → Bool} (hu : s.startRow q p = u)
    (hh : u.headIdx q = (s.headIdx q + 1) % 2 ^ 48) : s.issue q p = u.started q (s.headIdx q) := by
  subst hu
  exact if_neg (hh ▸ succ_mod_ne _)

theorem State.startRow_unreadable {s : State} {q : Nat} {e : Status × Option Nat} (p : Nat → Bool)
    (hd : s.due q = true) (he : s.fetchCmd q (s.headIdx q) = .error e) : s.startRow q p = s.startUnreadable q e := by
  simp [State.startRow, hd, he]

theorem State.startRow_read {s : State} {q : Nat} {p : Nat → Bool} {ws : List Byte} (hd : s.due q = true)
    (hw : s.fetchCmd q (s.headIdx q) = .ok ws) (hp : p (cOpc ws) = true) : s.startRow q p = s.startHead q ws := by
  simp [State.startRow, hd, hw, hp]

theorem State.startHead_rejected {s : State} {q : Nat} {ws : List Byte} {e : Status × Option Nat}
    (hb : isBarrier (cOpc ws) = true → s.flightsOf q = []) (hw : s.waitHolds q ws = false)
    (he : s.startCheck q ws = .error e) :
    s.startHead q ws = (if s.xlateRefused q ws e.1 then s.addSat CXL_ERR_XLATE 1 else s).startRejected q ws e := by
  have hb' : (isBarrier (cOpc ws) && !(s.flightsOf q).isEmpty) = false := by
    cases h : isBarrier (cOpc ws) with
    | false => rfl
    | true => simp [hb h]
  simp [State.startHead, hb', hw, he]

/-- Settles O14: the start is a launch and perhaps a fault record, which leave the head past the command, its flight
last, and the sync objects alone. -/
theorem opcodeRowEndsHeadAtOnce : Obligations.OpcodeRowEndsHeadAtOnce := by
  refine ⟨fun c q p s ws e hr hd hf hp hb hw he => ?_, fun c q p s e hr hd hf => ?_⟩
  · intro v u
    have hv : Keeps (Parts.of [.reg .CXL_ERR]) s v :=
      ite_keeps (State.addSat_keeps_reg .CXL_ERR (Parts.le_refl _) (keeps_refl s) 1) (keeps_refl s)
    obtain ⟨hh, hs, hfl⟩ := launch_reported (v.startRejected_keeps_launch q ws e)
    have hn : v.headIdx q = s.headIdx q := hv.headIdx (by decide) q
    have hu : u.headIdx q = (s.headIdx q + 1) % 2 ^ 48 := hh.trans (by rw [← hn]; rfl)
    have hrow : s.startRow q p = u :=
      (State.startRow_read hd hf hp).trans (State.startHead_rejected hb hw he)
    rw [show v.flights = s.flights from hv.same .flights (by decide)] at hfl
    refine ⟨?_, hu, fun n => (hs n).trans (hv.sync (by decide) n), _, hfl, rfl, hn, rfl, rfl, rfl, rfl⟩
    rw [exec_opcodeRow hr, State.issue_of_startRow hrow hu]
  · intro u
    obtain ⟨hh, hs, hfl⟩ := launch_reported (s.startUnreadable_keeps_launch q e)
    have hrow : s.startRow q p = u := State.startRow_unreadable p hd hf
    refine ⟨?_, State.fetchCmd_error hf, hh, hs, _, hfl, rfl, rfl, rfl, rfl, rfl, rfl⟩
    rw [exec_opcodeRow hr, State.issue_of_startRow hrow hh]

end Sys2Proof.Machine

/-! REGISTER_WRITE: the register that a write reaches, and what each field takes (R11, R12, R508, R509). -/

namespace Sys2Proof.Machine

open Sys2Proof

/-! ### The register that a write reaches -/

theorem State.pf0Open_iff {s : State} {off : Nat} : s.pf0Open off = true ↔
    s.linkServes = true ∧ s.ideOk = true ∧ s.shut = false ∧ (s.asleep && !powered off) = false := by
  cases h : powered off <;> simp [State.pf0Open, h, and_assoc]

theorem State.pf0Write_open {s : State} {off : Nat} (h : s.pf0Open off = true) (f : State → State) :
    s.pf0Write off f = f s := by
  obtain ⟨hl, hi, hs, hp⟩ := State.pf0Open_iff.1 h
  simp [State.pf0Write, State.barWrite, hl, hi, hs, hp]

/-- A module that takes a write of a register without power of its own is awake, and takes every other. -/
theorem State.pf0Open_of_unpowered {s : State} {off : Nat} (h : s.pf0Open off = true) (hp : powered off = false)
    (x : Nat) : s.pf0Open x = true := by
  obtain ⟨hl, hi, hs, ha⟩ := State.pf0Open_iff.1 h
  rw [hp, Bool.not_false, Bool.and_true] at ha
  exact State.pf0Open_iff.2 ⟨hl, hi, hs, by rw [ha]; rfl⟩

/-- A write depends on its offset only by the power of the register there. -/
theorem State.pf0Write_congr (s : State) {a b : Nat} (h : powered a = powered b) (f : State → State) :
    s.pf0Write a f = s.pf0Write b f := by
  simp only [State.pf0Write, h]

theorem State.pf0Write_powered (s : State) {off : Nat} (h : powered off = true) (f : State → State) :
    s.pf0Write off f = s.barWrite f := by
  simp [State.pf0Write, h]

theorem regAtWrite_some {off bytes : Nat} {d : RDesc} {i j : Nat} (h : regAtWrite off bytes = some (d, i, j)) :
    d ∈ regTable ∧ d.offset i j = off := by
  obtain ⟨hf, hp⟩ := Option.filter_eq_some_iff.1 h
  obtain ⟨e, he, hx⟩ := List.exists_of_findSome?_eq_some hf
  obtain ⟨p, -, hq⟩ := Option.map_eq_some_iff.1 hx
  cases hq
  simp only [Bool.and_eq_true, beq_iff_eq] at hp
  exact ⟨he, hp.1⟩

/-- Below the request buffer a write is one of a register, or of nothing. -/
theorem State.pf0Bar_reg {s : State} {off bytes : Nat} {d : RDesc} {i j : Nat} (ho : off < 0x801000)
    (hr : regAtWrite off bytes = some (d, i, j)) (value : Nat) : s.pf0Bar off bytes value = s.writeReg d i j value := by
  have hb : ¬ 0x4000000 ≤ d.base := by
    have := (regAtWrite_some hr).2
    simp only [RDesc.offset] at this
    omega
  have hm : ¬ 0x900000 ≤ off := by omega
  have hq : ¬ 0x801000 ≤ off := by omega
  simp [State.pf0Bar, hm, hq, hr, hb]

theorem State.pf0Bar_none {s : State} {off bytes : Nat} (ho : off < 0x801000) (hr : regAtWrite off bytes = none)
    (value : Nat) : s.pf0Bar off bytes value = s := by
  have hm : ¬ 0x900000 ≤ off := by omega
  have hq : ¬ 0x801000 ≤ off := by omega
  simp [State.pf0Bar, hm, hq, hr]

/-- A PF0 write below the request buffer goes by the power of its own offset. -/
theorem exec_registerWrite_pf0 {off : Nat} (ho : off < 0x801000) (bytes value : Nat) (s : State) :
    exec (.registerWrite (.bar .pf0 off) bytes value) s
      = .next (s.pf0Write off fun s => s.pf0Bar off bytes value) := by
  have hm : ¬ 0x900000 ≤ off := by omega
  simp only [exec, execRegisterWrite, hm, if_false]

theorem exec_registerWrite_reg {off bytes : Nat} {d : RDesc} {i j : Nat} (ho : off < 0x801000)
    (hr : regAtWrite off bytes = some (d, i, j)) (value : Nat) (s : State) :
    exec (.registerWrite (.bar .pf0 off) bytes value) s
      = .next (s.pf0Write off fun s => s.writeReg d i j value) := by
  simp only [exec_registerWrite_pf0 ho, State.pf0Bar_reg ho hr]

theorem exec_registerWrite_open {off bytes : Nat} {d : RDesc} {i j : Nat} {s : State} (ho : off < 0x801000)
    (hr : regAtWrite off bytes = some (d, i, j)) (h : s.pf0Open off = true) (value : Nat) :
    exec (.registerWrite (.bar .pf0 off) bytes value) s = .next (s.writeReg d i j value) := by
  rw [exec_registerWrite_reg ho hr, State.pf0Write_open h]

/-- The offsets that the board controller may write (R569). -/
theorem i3cOffset_iff {off : Nat} : off ∈ [0x300800, 0x300804, 0x1904] ↔
    off = 0x300800 ∨ off = 0x300804 ∨ off = 0x1904 := by
  simp

theorem exec_registerWrite_i3c {off bytes : Nat} {d : RDesc} {i j : Nat} {s : State}
    (ho : off ∈ [0x300800, 0x300804, 0x1904]) (hr : regAtWrite off bytes = some (d, i, j)) (h : s.i3cUp = true)
    (value : Nat) : exec (.registerWrite (.bar .i3c off) bytes value) s = .next (s.writeReg d i j value) := by
  have ho' := i3cOffset_iff.1 ho
  have hlt : off < 0x801000 := by omega
  have hw : s.i3cWrite off bytes value = s.pf0Bar off bytes value := by
    simp [State.i3cWrite, State.alwaysWrite, or_assoc, ho', h]
  exact congrArg _ (hw.trans (State.pf0Bar_reg hlt hr value))

theorem exec_registerWrite_i3c_other {off : Nat} (ho : off ∉ [0x300800, 0x300804, 0x1904]) (bytes value : Nat)
    (s : State) : exec (.registerWrite (.bar .i3c off) bytes value) s = .next s := by
  rw [i3cOffset_iff] at ho
  have hw : s.i3cWrite off bytes value = s := by simp [State.i3cWrite, or_assoc, ho]
  exact congrArg _ hw

/-- A VF's register is no word of its MSI-X table, and not its snapshot register. -/
theorem State.vfOffset_some {s : State} {c x off : Nat} (h : s.vfOffset c x = some off) :
    ¬ (0x2000 ≤ x ∧ x < 0x2000 + 16 * 65) ∧ x ≠ 0x4220 := by
  simp only [State.vfOffset, Bool.and_eq_true, decide_eq_true_eq] at h
  split at h
  · omega
  · split at h
    · omega
    · split at h
      · omega
      · split at h
        · omega
        · cases h

theorem exec_registerWrite_vf {off bytes x : Nat} {c : Fin 16} {d : RDesc} {i j : Nat} {s : State}
    (hp : s.pf0Open (s.vfPower c x) = true) (hv : s.vfOn c = true) (hx : s.vfOffset c x = some off)
    (hr : regAtWrite off bytes = some (d, i, j)) (value : Nat) :
    exec (.registerWrite (.bar (.vf c) x) bytes value) s = .next (s.writeReg d i j value) := by
  obtain ⟨hm, hq⟩ := State.vfOffset_some hx
  have hb : s.vfBar c x bytes value = s.writeReg d i j value := by
    simp [State.vfBar, hm, hq, hx, hr]
  simp only [exec, execRegisterWrite, State.hostWrite, State.pf0Write_open hp, hv, Bool.and_true, if_true, hb]

theorem exec_registerWrite_vf_off {off : Nat} {c : Fin 16} {s : State} (hp : s.pf0Open (s.vfPower c off) = true)
    (hv : s.vfOn c = false) (bytes value : Nat) :
    exec (.registerWrite (.bar (.vf c) off) bytes value) s = .next s := by
  simp [exec, execRegisterWrite, State.hostWrite, State.pf0Write_open hp, hv]

end Sys2Proof.Machine

/-! A register without a rule of its own: each field takes its bits as its access code says (R11, R12, R14). -/

namespace Sys2Proof.Machine

open Sys2Proof

variable {s t : State} {d : RDesc}

/-! ### The cells of a register -/

/-- The fields of a register of the map start at different bits. -/
theorem regTable_lo_nodup : ∀ d ∈ regTable, (d.fields.map fun f => f.lo % 64).Nodup := by decide +kernel

theorem RDesc.fld_key_nodup (hd : d ∈ regTable) (i j : Nat) : (d.fields.map fun f => (d.fld i j f).key).Nodup := by
  have h := (regTable_lo_nodup d hd).map
    (f := fun n => ((d.reg.num * 2 ^ 13 + i % 2 ^ 13) * 2 ^ 6 + j % 2 ^ 6) * 2 ^ 6 + n) fun a b => Nat.add_left_cancel
  rwa [List.map_map] at h

/-- `SEC_BOOT` holds the lock, and none of its fields heeds it. -/
theorem regTable_boot_no_rwb : ∀ d ∈ regTable, d.reg = .SEC_BOOT → ∀ f ∈ d.fields, f.access ≠ .rwb := by
  decide +kernel

/-! ### A change of one register -/

/-- `t` is `s` but for cells of register `r`. -/
def RegOnly (r : Reg) (s t : State) : Prop :=
  t = { s with regs := t.regs } ∧ ∀ g : Fld, g.reg ≠ r → t.getF g = s.getF g

theorem RegOnly.refl (r : Reg) (s : State) : RegOnly r s s := ⟨rfl, fun _ _ => rfl⟩

theorem RegOnly.setF (h : RegOnly d.reg s t) (i j : Nat) (f : RField) (v : Nat) :
    RegOnly d.reg s (t.setF (d.fld i j f) v) := by
  obtain ⟨hs, hg⟩ := h
  refine ⟨?_, fun g hr => (t.getF_setF_reg v hr).trans (hg g hr)⟩
  rw [hs]
  rfl

/-- Which encodings are reserved depends on no field of a register that goes by its access codes. -/
theorem RegOnly.accepts (h : RegOnly d.reg s t) (hr : d.reg ∉ ownRule) (i j lo v : Nat) :
    t.accepts d.reg i j lo v = s.accepts d.reg i j lo v := by
  obtain ⟨hs, hg⟩ := h
  have hv : t.seval = s.seval := by rw [hs]
  have hq : d.reg ≠ .QUE_CTL := fun e => hr (by rw [e]; decide)
  unfold State.accepts
  rw [hv]
  by_cases ho : d.reg = .OBS_RING
  · have hb : t.ringBytes = s.ringBytes := congrArg (· * 2 ^ 21) (hg MEM_SAGGAR_TAP (by rw [ho]; decide))
    simp only [if_neg hq, hb]
  · simp only [if_neg hq, if_neg ho]

/-- A field's new value looks at the field itself, at the boot lock and at what is reserved. -/
theorem RegOnly.fieldAfter_eq (h : RegOnly d.reg s t) (hd : d ∈ regTable) (hr : d.reg ∉ ownRule) {i j : Nat}
    {f : RField} (hf : f ∈ d.fields) (hc : t.getF (d.fld i j f) = s.getF (d.fld i j f)) (value : Nat) :
    fieldAfter t d i j f value = fieldAfter s d i j f value := by
  simp only [fieldAfter, h.accepts hr, hc]
  cases ha : f.access with
  | rwb =>
    have hl : t.flag SEC_BOOT_LOCK = s.flag SEC_BOOT_LOCK :=
      congrArg (· != 0) (h.2 SEC_BOOT_LOCK fun e => regTable_boot_no_rwb d hd e.symm f hf ha)
    rw [hl]
  | _ => rfl

/-! ### A written field -/

/-- A field is left, or set. -/
theorem State.writeField_cases (t : State) (d : RDesc) (i j : Nat) (f : RField) (value : Nat) :
    t.writeField d i j f value = t ∨ ∃ v, t.writeField d i j f value = t.setF (d.fld i j f) v := by
  unfold State.writeField
  dsimp only
  split
  · exact .inl rfl
  · split
    · exact .inr ⟨_, rfl⟩
    · split
      · exact .inl rfl
      · exact .inr ⟨_, rfl⟩
    · split
      · exact .inr ⟨_, rfl⟩
      · exact .inl rfl
    · exact .inl rfl

theorem RegOnly.writeField (h : RegOnly d.reg s t) (i j : Nat) (f : RField) (value : Nat) :
    RegOnly d.reg s (t.writeField d i j f value) := by
  rcases t.writeField_cases d i j f value with e | ⟨v, e⟩
  · rw [e]
    exact h
  · rw [e]
    exact h.setF i j f v

theorem State.getF_writeField_ne {i j : Nat} {f : RField} {g : Fld} (hg : g.key ≠ (d.fld i j f).key) (value : Nat) :
    (t.writeField d i j f value).getF g = t.getF g := by
  rcases t.writeField_cases d i j f value with e | ⟨v, e⟩
  · rw [e]
  · rw [e, t.getF_setF_ne v hg]

theorem State.getF_writeField (t : State) (d : RDesc) (i j : Nat) (f : RField) (value : Nat) :
    (t.writeField d i j f value).getF (d.fld i j f) = fieldAfter t d i j f value := by
  have hset : ∀ v, (t.setF (d.fld i j f) v).getF (d.fld i j f) = v % 2 ^ f.width := t.getF_setF _
  unfold State.writeField fieldAfter
  dsimp only
  cases t.accepts d.reg i j f.lo (value / 2 ^ f.lo % 2 ^ f.width) with
  | false => rfl
  | true =>
    cases f.access with
    | rw => simp [hset]
    | rwb => cases t.flag SEC_BOOT_LOCK <;> simp [hset]
    | rw1c => by_cases hv : value / 2 ^ f.lo % 2 ^ f.width = 1 <;> simp [hset, hv]
    | _ => rfl

/-! ### A written register -/

theorem RegOnly.writeFields (h : RegOnly d.reg s t) (i j value : Nat) (fs : List RField) :
    RegOnly d.reg s (fs.foldl (fun s f => s.writeField d i j f value) t) :=
  List.foldlRecOn fs _ (motive := RegOnly d.reg s) h fun _ hs f _ => hs.writeField i j f value

theorem State.getF_writeFields_ne {i j value : Nat} {g : Fld} (fs : List RField)
    (hg : ∀ f ∈ fs, g.key ≠ (d.fld i j f).key) :
    (fs.foldl (fun s f => s.writeField d i j f value) t).getF g = t.getF g :=
  List.foldlRecOn fs _ (motive := fun u : State => u.getF g = t.getF g) rfl fun _ hs f hf =>
    (State.getF_writeField_ne (hg f hf) value).trans hs

/-- Each of a list of fields takes its bits, whatever fields of the register were written before. -/
theorem RegOnly.getF_writeFields (hd : d ∈ regTable) (hr : d.reg ∉ ownRule) (i j value : Nat) (fs : List RField)
    (hfs : ∀ f ∈ fs, f ∈ d.fields) (hn : (fs.map fun f => (d.fld i j f).key).Nodup) (h : RegOnly d.reg s t)
    (hold : ∀ f ∈ fs, t.getF (d.fld i j f) = s.getF (d.fld i j f)) :
    ∀ f ∈ fs, (fs.foldl (fun s f => s.writeField d i j f value) t).getF (d.fld i j f) = fieldAfter s d i j f value := by
  induction fs generalizing t with
  | nil => simp
  | cons f fs ih =>
    simp only [List.map_cons, List.nodup_cons, List.mem_map, not_exists, not_and] at hn
    simp only [List.forall_mem_cons] at hfs hold ⊢
    obtain ⟨hnf, hn⟩ := hn
    refine ⟨?_, ih hfs.2 hn (h.writeField i j f value) fun g hg => ?_⟩
    · calc _ = (t.writeField d i j f value).getF (d.fld i j f) :=
            State.getF_writeFields_ne fs fun g hg e => hnf g hg e.symm
        _ = fieldAfter t d i j f value := State.getF_writeField ..
        _ = fieldAfter s d i j f value := h.fieldAfter_eq hd hr hfs.1 hold.1 value
    · rw [State.getF_writeField_ne (fun e => hnf g hg e), hold.2 g hg]

theorem State.getF_writePlain (s : State) (hd : d ∈ regTable) (hr : d.reg ∉ ownRule) (i j value : Nat) :
    ∀ f ∈ d.fields, (s.writePlain d i j value).getF (d.fld i j f) = fieldAfter s d i j f value :=
  (RegOnly.refl d.reg s).getF_writeFields hd hr i j value d.fields (fun _ h => h) (RDesc.fld_key_nodup hd i j)
    fun _ _ => rfl

theorem State.writeReg_plain (s : State) (hr : d.reg ∉ ownRule) (i j value : Nat) :
    s.writeReg d i j value = s.writePlain d i j value := by
  simp only [ownRule, List.mem_cons, not_or, List.not_mem_nil, not_false_eq_true, and_true] at hr
  simp [State.writeReg, hr]

end Sys2Proof.Machine

/-! Registers whose write follows a rule of its own: those that a command of its own writes, and `CTX_SYNC` and
`CTX_NWIN` (R289, R398). -/

namespace Sys2Proof.Machine

open Sys2Proof

variable {s : State}

/-! ### Where the registers lie -/

theorem regAtWrite_QUE_CFG : ∀ q : Fin 64, regAtWrite (0x10000 + 0x100 * q) 4 = some (regOf .QUE_CFG, q.val, 0) := by
  decide +kernel

theorem regAtWrite_CTX_PTB : ∀ c : Fin 16, regAtWrite (0x20060 + 0x100 * c) 8 = some (regOf .CTX_PTB, c.val, 0) := by
  decide +kernel

theorem regAtWrite_CTX_SYNC : ∀ c : Fin 16, regAtWrite (0x20004 + 0x100 * c) 4 = some (regOf .CTX_SYNC, c.val, 0) := by
  decide +kernel

theorem regAtWrite_CTX_NWIN : ∀ c : Fin 16, regAtWrite (0x20068 + 0x100 * c) 8 = some (regOf .CTX_NWIN, c.val, 0) := by
  decide +kernel

theorem regAtWrite_OBS_SEL : ∀ (c : Fin 16) (i : Fin 2),
    regAtWrite (0x602000 + 0x20 * c + 8 * i) 8 = some (regOf .OBS_SEL, c.val, i.val) := by
  decide +kernel

theorem regAtWrite_FLU_PCTL : ∀ p : Fin 6, regAtWrite (0x401004 + 0x40 * p) 4 = some (regOf .FLU_PCTL, p.val, 0) := by
  decide +kernel

/-- The registers of one element that a command of their own writes, or that have a rule of their own. -/
theorem regAtWrite_single : ∀ x ∈ [(0x700004, 4, Reg.RST_CTL), (0x3C80, 4, .HTH_CONECTL), (0x604004, 4, .OBS_TRCTL),
    (0x300800, 4, .PWR_CTL), (0x603000, 8, .OBS_QSNAP), (0x800000, 8, .STK_MBCTL)],
    regAtWrite x.1 x.2.1 = some (regOf x.2.2, 0, 0) := by
  decide +kernel

theorem regOf_reg : ∀ r ∈ ownRule, (regOf r).reg = r := by decide +kernel

/-! ### A write that a command of its own makes -/

/-- A write of a register is the command whose effect on the register is the same, and which asks for the power of a
register in the same block. -/
theorem exec_registerWrite_eq {off bytes i j value a : Nat} {r : Reg} {f : State → State} (ho : off < 0x801000)
    (hr : regAtWrite off bytes = some (regOf r, i, j)) (hp : powered off = powered a)
    (hf : ∀ s, s.writeReg (regOf r) i j value = f s) (s : State) :
    exec (.registerWrite (.bar .pf0 off) bytes value) s = .next (s.pf0Write a f) := by
  rw [exec_registerWrite_reg ho hr, s.pf0Write_congr hp]
  simp only [hf]

theorem exec_registerWrite_QUE_CFG (q : Fin 64) (v : BitVec 32) (s : State) :
    exec (.registerWrite (.bar .pf0 (0x10000 + 0x100 * q)) 4 v.toNat) s = exec (.queueEnable q v) s :=
  exec_registerWrite_eq (by omega) (regAtWrite_QUE_CFG q) (by revert q; decide)
    (fun s => by simp [State.writeReg, regOf_reg .QUE_CFG (by decide)]) s

theorem exec_registerWrite_CTX_PTB (c : Fin 16) (w : BitVec 64) (s : State) :
    exec (.registerWrite (.bar .pf0 (0x20060 + 0x100 * c)) 8 w.toNat) s = exec (.pageTableBaseWrite c w) s :=
  exec_registerWrite_eq (by omega) (regAtWrite_CTX_PTB c) (by revert c; decide)
    (fun s => by simp [State.writeReg, regOf_reg .CTX_PTB (by decide)]) s

theorem exec_registerWrite_FLU_PCTL (p : Fin 6) (s : State) :
    exec (.registerWrite (.bar .pf0 (0x401004 + 0x40 * p)) 4 (2 ^ 31)) s = exec (.retrain p) s :=
  exec_registerWrite_eq (by omega) (regAtWrite_FLU_PCTL p) (by revert p; decide)
    (fun s => by simp [State.writeReg, regOf_reg .FLU_PCTL (by decide), bitOf]) s

theorem exec_registerWrite_RST_CTL (s : State) :
    exec (.registerWrite (.bar .pf0 0x700004) 4 (2 ^ 31)) s = exec .recover s :=
  exec_registerWrite_eq (by omega) (regAtWrite_single (_, _, .RST_CTL) (by decide)) rfl
    (fun s => by simp [State.writeReg, regOf_reg .RST_CTL (by decide), bitOf]) s

theorem exec_registerWrite_HTH_CONECTL (s : State) :
    exec (.registerWrite (.bar .pf0 0x3C80) 4 (2 ^ 31)) s = exec .sweep s :=
  exec_registerWrite_eq (by omega) (regAtWrite_single (_, _, .HTH_CONECTL) (by decide)) rfl
    (fun s => by simp [State.writeReg, regOf_reg .HTH_CONECTL (by decide), bitOf]) s

theorem exec_registerWrite_REARM (s : State) :
    exec (.registerWrite (.bar .pf0 0x604004) 4 (2 ^ 31)) s = exec .rearm s :=
  exec_registerWrite_eq (by omega) (regAtWrite_single (_, _, .OBS_TRCTL) (by decide)) rfl
    (fun s => by simp [State.writeReg, regOf_reg .OBS_TRCTL (by decide), State.setTrctl, bitOf]) s

theorem exec_registerWrite_FIRE (s : State) :
    exec (.registerWrite (.bar .pf0 0x604004) 4 (2 ^ 30)) s = exec .fire s :=
  exec_registerWrite_eq (by omega) (regAtWrite_single (_, _, .OBS_TRCTL) (by decide)) rfl
    (fun s => by simp [State.writeReg, regOf_reg .OBS_TRCTL (by decide), State.setTrctl, bitOf]) s

/-- `PWR_CTL` keeps its power, so that its write reaches it as a request does. -/
theorem exec_registerWrite_PWR_CTL {value : Nat} (h : value = 1 ∨ value = 2) (s : State) :
    exec (.registerWrite (.bar .pf0 0x300800) 4 value) s = .next (s.barWrite fun s => s.requestSleep value) := by
  rw [exec_registerWrite_eq (f := fun s => s.requestSleep value) (by omega)
    (regAtWrite_single (_, _, .PWR_CTL) (by decide)) rfl, s.pf0Write_powered (by decide)]
  intro s
  rcases h with rfl | rfl <;> simp [State.writeReg, regOf_reg .PWR_CTL (by decide), State.setTarget]

/-! ### `CTX_SYNC` and `CTX_NWIN` (R289, R398) -/

theorem bitOf_eq_bitsOf (w i : Nat) : bitOf w i = (bitsOf w i i == 1) := by
  simp [bitOf, bitsOf]

theorem bitsOf_lt (w hi lo : Nat) : bitsOf w hi lo < 2 ^ (hi + 1 - lo) := Nat.mod_lt _ (Nat.two_pow_pos _)

theorem b2n_bitOf (w i : Nat) : b2n (bitOf w i) = bitsOf w i i := by
  have := bitsOf_lt w i i
  rw [Nat.add_sub_cancel_left] at this
  rw [bitOf_eq_bitsOf, b2n]
  split <;> simp_all
  omega

theorem State.getF_setSyncRange_remoteOk (s : State) (c value : Nat) :
    (s.setSyncRange c value).getF (CTX_SYNC_REMOTE_OK c) = bitsOf value 31 31 := by
  simp only [State.setSyncRange]
  split
  · exact s.getF_setF ..
  · exact (State.getF_setF_lo _ _ rfl).trans ((State.getF_setF_lo _ _ rfl).trans (s.getF_setF ..))

theorem State.getF_setSyncRange_range {c value : Nat}
    (h : 256 ≤ bitsOf value 28 16 ∧ bitsOf value 28 16 + bitsOf value 13 0 ≤ 8192) :
    (s.setSyncRange c value).getF (CTX_SYNC_BASE c) = bitsOf value 28 16
      ∧ (s.setSyncRange c value).getF (CTX_SYNC_COUNT c) = bitsOf value 13 0 := by
  have hc : ¬ (bitsOf value 28 16 < 256 ∨ 8192 < bitsOf value 28 16 + bitsOf value 13 0) := by omega
  simp only [State.setSyncRange, Bool.or_eq_true, decide_eq_true_eq, if_neg hc]
  constructor
  · exact (State.getF_setF_lo _ _ rfl).trans ((State.getF_setF ..).trans (Nat.mod_eq_of_lt (bitsOf_lt value 28 16)))
  · exact (State.getF_setF ..).trans (Nat.mod_eq_of_lt (bitsOf_lt value 13 0))

theorem State.getF_setSyncRange_bad {c value : Nat}
    (h : ¬ (256 ≤ bitsOf value 28 16 ∧ bitsOf value 28 16 + bitsOf value 13 0 ≤ 8192)) :
    (s.setSyncRange c value).getF (CTX_SYNC_BASE c) = s.getF (CTX_SYNC_BASE c)
      ∧ (s.setSyncRange c value).getF (CTX_SYNC_COUNT c) = s.getF (CTX_SYNC_COUNT c) := by
  have hc : bitsOf value 28 16 < 256 ∨ 8192 < bitsOf value 28 16 + bitsOf value 13 0 := by omega
  simp only [State.setSyncRange, Bool.or_eq_true, decide_eq_true_eq, if_pos hc]
  exact ⟨State.getF_setF_lo _ _ rfl, State.getF_setF_lo _ _ rfl⟩

theorem State.setWindow_bad {c value : Nat}
    (h : ¬ ((bitsOf value 39 21 + bitsOf value 58 40) * 2 ^ 21 ≤ s.saggar
      ∧ ¬ (bitsOf value 63 63 = 1 ∧ bitsOf value 58 40 = 0))) : s.setWindow c value = s := by
  have hc : s.saggar < (bitsOf value 39 21 + bitsOf value 58 40) * 2 ^ 21
      ∨ bitsOf value 63 63 = 1 ∧ bitsOf value 58 40 = 0 := by omega
  simp only [State.setWindow, bitOf_eq_bitsOf, Bool.or_eq_true, Bool.and_eq_true, decide_eq_true_eq, beq_iff_eq,
    if_pos hc]

theorem State.getF_setWindow {c value : Nat}
    (h : (bitsOf value 39 21 + bitsOf value 58 40) * 2 ^ 21 ≤ s.saggar
      ∧ ¬ (bitsOf value 63 63 = 1 ∧ bitsOf value 58 40 = 0)) :
    (s.setWindow c value).getF (CTX_NWIN_EN c) = bitsOf value 63 63
      ∧ (s.setWindow c value).getF (CTX_NWIN_LEN c) = bitsOf value 58 40
      ∧ (s.setWindow c value).getF (CTX_NWIN_BASE c) = bitsOf value 39 21 := by
  have hc : ¬ (s.saggar < (bitsOf value 39 21 + bitsOf value 58 40) * 2 ^ 21
      ∨ bitsOf value 63 63 = 1 ∧ bitsOf value 58 40 = 0) := by omega
  have hen := b2n_bitOf value 63
  rw [bitOf_eq_bitsOf] at hen
  simp only [State.setWindow, bitOf_eq_bitsOf, hen, Bool.or_eq_true, Bool.and_eq_true, decide_eq_true_eq, beq_iff_eq,
    if_neg hc]
  refine ⟨?_, ?_, ?_⟩
  · exact (State.getF_setF_lo _ _ rfl).trans ((State.getF_setF_lo _ _ rfl).trans
      ((State.getF_setF ..).trans (Nat.mod_eq_of_lt (bitsOf_lt value 63 63))))
  · exact (State.getF_setF_lo _ _ rfl).trans ((State.getF_setF ..).trans (Nat.mod_eq_of_lt (bitsOf_lt value 58 40)))
  · exact (State.getF_setF ..).trans (Nat.mod_eq_of_lt (bitsOf_lt value 39 21))

end Sys2Proof.Machine

/-! `OBS_SEL`, `OBS_QSNAP` and the mailbox, MSI-X, the request buffer and the enables (R488, R502, R505, R511, R517,
R547), and REGISTER_WRITE as a whole. -/

namespace Sys2Proof.Machine

open Sys2Proof

variable {s : State}

/-! ### `OBS_SEL`: eight selectors in one register (R488) -/

/-- A number whose digit `j` to the base 256 is `x j`, for `j` below `n`. -/
def ofBytes (x : Nat → Nat) (n : Nat) : Nat := ((List.range n).map fun j => x j * 2 ^ (8 * j)).sum

theorem ofBytes_succ (x : Nat → Nat) (n : Nat) : ofBytes x (n + 1) = ofBytes x n + x n * 2 ^ (8 * n) := by
  simp [ofBytes, List.range_succ]

theorem ofBytes_lt {x : Nat → Nat} (hx : ∀ j, x j < 256) (n : Nat) : ofBytes x n < 2 ^ (8 * n) := by
  induction n with
  | zero => simp [ofBytes]
  | succ n ih =>
    have hm : x n * 2 ^ (8 * n) ≤ 255 * 2 ^ (8 * n) := Nat.mul_le_mul_right _ (by have := hx n; omega)
    rw [ofBytes_succ, show 2 ^ (8 * (n + 1)) = 256 * 2 ^ (8 * n) by rw [Nat.mul_succ, Nat.pow_add]; omega]
    omega

theorem byte_ofBytes {x : Nat → Nat} (hx : ∀ j, x j < 256) {n k : Nat} (hk : k < n) :
    ofBytes x n / 2 ^ (8 * k) % 256 = x k := by
  induction n with
  | zero => omega
  | succ n ih =>
    rw [ofBytes_succ]
    rcases Nat.lt_succ_iff_lt_or_eq.1 hk with hk | rfl
    · obtain ⟨m, rfl⟩ : ∃ m, n = k + 1 + m := ⟨n - k - 1, by omega⟩
      have he : x (k + 1 + m) * 2 ^ (8 * (k + 1 + m)) = 2 ^ (8 * k) * (256 * (x (k + 1 + m) * 2 ^ (8 * m))) := by
        rw [show 8 * (k + 1 + m) = 8 * k + (8 + 8 * m) by omega, Nat.pow_add, Nat.pow_add]
        ring
      rw [he, Nat.add_mul_div_left _ _ (Nat.two_pow_pos _), Nat.add_mul_mod_self_left, ih hk]
    · rw [Nat.add_mul_div_right _ _ (Nat.two_pow_pos _), Nat.div_eq_of_lt (ofBytes_lt hx k), Nat.zero_add,
        Nat.mod_eq_of_lt (hx k)]

/-- The selector that a write leaves in byte `j` of `OBS_SELc_i`. -/
def State.selByte (s : State) (c i value j : Nat) : Nat :=
  if ctxEvent (value / 2 ^ (8 * j) % 256) then value / 2 ^ (8 * j) % 256
  else s.getF (OBS_SEL_SEL c i) / 2 ^ (8 * j) % 256

theorem State.selByte_lt (s : State) (c i value j : Nat) : s.selByte c i value j < 256 := by
  unfold State.selByte
  split <;> exact Nat.mod_lt _ (by decide)

theorem State.getF_setSelectors (s : State) (c i value : Nat) {k : Nat} (hk : k < 8) :
    (s.setSelectors c i value).getF (OBS_SEL_SEL c i) / 2 ^ (8 * k) % 256 = s.selByte c i value k := by
  have hg : (s.setSelectors c i value).getF (OBS_SEL_SEL c i) = ofBytes (s.selByte c i value) 8 :=
    (s.getF_setF ..).trans (Nat.mod_eq_of_lt (ofBytes_lt (s.selByte_lt c i value) 8))
  rw [hg, byte_ofBytes (s.selByte_lt c i value) hk]

/-! ### `OBS_QSNAP`: one bit for each queue (R502) -/

theorem bitOf_eq_testBit (w i : Nat) : bitOf w i = w.testBit i := by
  rw [bitOf, Nat.testBit_eq_decide_div_mod_eq]
  rfl

/-- The bits of a number that is written as those above bit `i`, bit `i`, and those below. -/
theorem testBit_parts {i l : Nat} (hl : l < 2 ^ i) (m : Nat) (b : Bool) (k : Nat) :
    (2 ^ i * (2 * m + b2n b) + l).testBit k
      = if k = i then b else if k < i then l.testBit k else m.testBit (k - i - 1) := by
  rw [Nat.testBit_two_pow_mul_add _ hl]
  rcases Nat.lt_trichotomy k i with hk | rfl | hk
  · rw [if_pos hk, if_neg (by omega), if_pos hk]
  · rw [if_neg (by omega), if_pos rfl, Nat.sub_self]
    cases b <;> simp [b2n, Nat.testBit_zero]
  · obtain ⟨e, rfl⟩ : ∃ e, k = i + 1 + e := ⟨k - i - 1, by omega⟩
    rw [if_neg (by omega), if_neg (by omega), if_neg (by omega), show i + 1 + e - i = e + 1 by omega,
      show e + 1 - 1 = e by omega, Nat.testBit_succ]
    have hd : (2 * m + b2n b) / 2 = m := by
      have hb : b2n b ≤ 1 := by cases b <;> decide
      omega
    rw [hd]

/-- The number with bit `i` set to `b`, as `State.setBit` computes it. -/
def withBit (v i : Nat) (b : Bool) : Nat :=
  if b then (if bitOf v i then v else v + 2 ^ i) else (if bitOf v i then v - 2 ^ i else v)

theorem withBit_parts {i l : Nat} (hl : l < 2 ^ i) (m : Nat) (o b : Bool) :
    withBit (2 ^ i * (2 * m + b2n o) + l) i b = 2 ^ i * (2 * m + b2n b) + l := by
  have ho : bitOf (2 ^ i * (2 * m + b2n o) + l) i = o := by
    rw [bitOf_eq_testBit, testBit_parts hl, if_pos rfl]
  rw [withBit, ho]
  cases o <;> cases b <;> simp [b2n, Nat.mul_add] <;> omega

theorem exists_parts (v i : Nat) : ∃ m l o, l < 2 ^ i ∧ v = 2 ^ i * (2 * m + b2n o) + l := by
  refine ⟨v / 2 ^ i / 2, v % 2 ^ i, v / 2 ^ i % 2 == 1, Nat.mod_lt _ (Nat.two_pow_pos i), ?_⟩
  have hb : b2n (v / 2 ^ i % 2 == 1) = v / 2 ^ i % 2 := by
    rcases Nat.mod_two_eq_zero_or_one (v / 2 ^ i) with h | h <;> rw [h] <;> rfl
  rw [hb, Nat.div_add_mod, Nat.div_add_mod]

theorem testBit_withBit (v i : Nat) (b : Bool) (k : Nat) :
    (withBit v i b).testBit k = if k = i then b else v.testBit k := by
  obtain ⟨m, l, o, hl, rfl⟩ := exists_parts v i
  rw [withBit_parts hl, testBit_parts hl, testBit_parts hl]
  split <;> rfl

theorem State.bitOf_setBit (s : State) (f : Fld) (i : Nat) (b : Bool) {k : Nat} (hk : k < f.width) :
    bitOf ((s.setBit f i b).getF f) k = if k = i then b else bitOf (s.getF f) k := by
  have hg : (s.setBit f i b).getF f = withBit (s.getF f) i b % 2 ^ f.width := s.getF_setF ..
  simp only [hg, bitOf_eq_testBit, Nat.testBit_mod_two_pow, testBit_withBit, hk, decide_true, Bool.true_and]

/-- The bits below `n` are those of the written value. -/
theorem State.bitOf_snapFold (s : State) (value n : Nat) {q : Nat} (hq : q < 64) :
    bitOf (((List.range n).foldl (fun s i => s.setBit OBS_QSNAP_SNAP i (bitOf value i)) s).getF OBS_QSNAP_SNAP) q
      = if q < n then bitOf value q else bitOf (s.getF OBS_QSNAP_SNAP) q := by
  induction n with
  | zero => simp
  | succ n ih =>
    rw [List.range_succ, List.foldl_append, List.foldl_cons, List.foldl_nil, State.bitOf_setBit _ _ _ _ hq, ih]
    rcases Nat.lt_trichotomy q n with h | rfl | h
    · rw [if_neg (by omega), if_pos h, if_pos (by omega)]
    · rw [if_pos rfl, if_pos (by omega)]
    · rw [if_neg (by omega), if_neg (by omega), if_neg (by omega)]

theorem State.bitOf_setSnap (s : State) (value : Nat) {q : Nat} (hq : q < 64) :
    bitOf ((s.setSnap (fun _ => true) value).getF OBS_QSNAP_SNAP) q = bitOf value q :=
  (s.bitOf_snapFold value 64 hq).trans (if_pos hq)

/-! ### The mailbox (R547) -/

theorem State.setMailbox_busy {s : State} (h : s.flag STK_MBSTAT_BUSY = true) (value : Nat) :
    s.setMailbox value = s := by
  simp [State.setMailbox, h]

/-- The state with the mailbox's control register as a write gives it. -/
def State.mailWritten (s : State) (value : Nat) : State :=
  s.setFs [(STK_MBCTL_GO, value / 2 ^ 63), (STK_MBCTL_CMD, bitsOf value 47 32), (STK_MBCTL_LEN, value)]

theorem State.getF_mailWritten (s : State) (value : Nat) :
    (s.mailWritten value).getF STK_MBCTL_GO = bitsOf value 63 63
      ∧ (s.mailWritten value).getF STK_MBCTL_CMD = bitsOf value 47 32
      ∧ (s.mailWritten value).getF STK_MBCTL_LEN = bitsOf value 31 0
      ∧ ∀ f : Fld, f.reg = .STK_MBSTAT → (s.mailWritten value).getF f = s.getF f := by
  refine ⟨?_, ?_, ?_, fun f hf => ?_⟩
  · exact (State.getF_setF_lo _ _ rfl).trans ((State.getF_setF_lo _ _ rfl).trans (State.getF_setF ..))
  · exact (State.getF_setF_lo _ _ rfl).trans
      ((State.getF_setF ..).trans (Nat.mod_eq_of_lt (bitsOf_lt value 47 32)))
  · exact (State.getF_setF ..).trans (by simp [bitsOf, STK_MBCTL_LEN])
  · have hr : ∀ g : Fld, g.reg = .STK_MBCTL → f.reg ≠ g.reg := fun g hg => by rw [hf, hg]; decide
    exact (State.getF_setF_reg _ _ (hr _ rfl)).trans
      ((State.getF_setF_reg _ _ (hr _ rfl)).trans (State.getF_setF_reg _ _ (hr _ rfl)))

/-- The Stoker's answer ends the request and leaves what was asked. -/
theorem State.getF_post (r : Reply) :
    (State.post r).getF STK_MBCTL_GO = 0 ∧ (State.post r).getF STK_MBSTAT_BUSY = 0
      ∧ (State.post r).getF STK_MBCTL_CMD = r.1.getF STK_MBCTL_CMD
      ∧ (State.post r).getF STK_MBCTL_LEN = r.1.getF STK_MBCTL_LEN := by
  unfold State.post
  extract_lets r1 s1
  have hk := State.irq_keeps (Parts.le_refl _) (keeps_refl (s1.setFs [(STK_MBSTAT_RESULT, r.2.1),
    (STK_MBSTAT_RLEN, min r.2.2.length 65536), (STK_MBSTAT_BUSY, 0), (STK_MBCTL_GO, 0)])) 0 67
  have hc : ∀ f : Fld, f.reg = .STK_MBCTL → _ := hk.same (.reg .STK_MBCTL) (by decide)
  have hs : ∀ f : Fld, f.reg = .STK_MBSTAT → _ := hk.same (.reg .STK_MBSTAT) (by decide)
  refine ⟨(hc _ rfl).trans ?_, (hs _ rfl).trans ?_, (hc _ rfl).trans ?_, (hc _ rfl).trans ?_⟩
  · exact State.getF_setF ..
  · exact (State.getF_setF_num _ _ rfl).trans (State.getF_setF ..)
  · exact (State.getF_setF_lo _ _ rfl).trans ((State.getF_setF_num _ _ rfl).trans
      ((State.getF_setF_num _ _ rfl).trans (State.getF_setF_num _ _ rfl)))
  · exact (State.getF_setF_lo _ _ rfl).trans ((State.getF_setF_num _ _ rfl).trans
      ((State.getF_setF_num _ _ rfl).trans (State.getF_setF_num _ _ rfl)))

theorem State.setMailbox_free {s : State} (h : s.flag STK_MBSTAT_BUSY = false) (value : Nat) :
    s.setMailbox value = if bitOf value 63 = true then
        if within 1 4 (bitsOf value 47 32) = true then (s.mailWritten value).setF STK_MBSTAT_BUSY 1
        else State.post (((s.mailWritten value).setF STK_MBSTAT_BUSY 1).refuse svcBad)
      else s.mailWritten value := by
  cases hb : bitOf value 63 <;> simp [State.setMailbox, State.mailWritten, h, hb]

theorem State.getF_of_flag_false {s : State} {f : Fld} (h : s.flag f = false) : s.getF f = 0 := by
  simpa [State.flag] using h

/-- What a write of a free mailbox's control register leaves: the request, and `GO` and `BUSY` of one that is served. -/
theorem State.getF_setMailbox {s : State} (h : s.flag STK_MBSTAT_BUSY = false) (value : Nat) :
    (s.setMailbox value).getF STK_MBCTL_CMD = bitsOf value 47 32
      ∧ (s.setMailbox value).getF STK_MBCTL_LEN = bitsOf value 31 0
      ∧ (if bitOf value 63 = true ∧ within 1 4 (bitsOf value 47 32) = true then
          (s.setMailbox value).getF STK_MBCTL_GO = 1 ∧ (s.setMailbox value).getF STK_MBSTAT_BUSY = 1
        else (s.setMailbox value).getF STK_MBCTL_GO = 0
          ∧ (s.setMailbox value).getF STK_MBSTAT_BUSY = s.getF STK_MBSTAT_BUSY) := by
  obtain ⟨hgo, hcmd, hlen, hstat⟩ := s.getF_mailWritten value
  have hctl : ∀ f : Fld, f.reg = .STK_MBCTL →
      ((s.mailWritten value).setF STK_MBSTAT_BUSY 1).getF f = (s.mailWritten value).getF f := fun f hf =>
    State.getF_setF_reg _ _ (by rw [hf]; decide)
  rw [State.setMailbox_free h]
  have hbit := bitOf_eq_bitsOf value 63
  by_cases hb : bitOf value 63 = true
  · rw [if_pos hb]
    rw [hb] at hbit
    by_cases hw : within 1 4 (bitsOf value 47 32) = true
    · rw [if_pos hw, if_pos ⟨hb, hw⟩, hctl _ rfl, hctl _ rfl, hctl _ rfl]
      exact ⟨hcmd, hlen, hgo.trans (beq_iff_eq.1 hbit.symm), State.getF_setF ..⟩
    · obtain ⟨pgo, pbusy, pcmd, plen⟩ := State.getF_post (((s.mailWritten value).setF STK_MBSTAT_BUSY 1).refuse svcBad)
      rw [if_neg hw, if_neg fun h => hw h.2, State.getF_of_flag_false h]
      exact ⟨pcmd.trans ((hctl _ rfl).trans hcmd), plen.trans ((hctl _ rfl).trans hlen), pgo, pbusy⟩
  · rw [if_neg hb, if_neg fun h => hb h.1]
    refine ⟨hcmd, hlen, hgo.trans ?_, hstat _ rfl⟩
    have hlt := bitsOf_lt value 63 63
    have hne : bitsOf value 63 63 ≠ 1 := fun e => hb (by rw [hbit, e]; rfl)
    omega

/-! ### MSI-X tables, the request buffer and the enables (R505, R511, R517, R547) -/

/-- Sending what is pending leaves the tables and the enables. -/
theorem State.sendPending_msix (s : State) (fn : Nat) :
    (s.sendPending fn).host.msix = s.host.msix ∧ (s.sendPending fn).host.msixOn = s.host.msixOn := by
  have hk := State.sendPending_keeps (Parts.le_refl _) (keeps_refl s) fn
  have hl : (s.sendPending fn).host = _ := hk.same .link (by decide)
  rw [hl]
  exact ⟨rfl, rfl⟩

/-- A written word of PF0's table, and every other word. -/
theorem State.msixWord_msixWrite (s : State) {off : Nat} (h4 : off % 4 = 0) (value v : Nat) {w : Nat} (hw : w < 4) :
    (s.msixWrite 0 off 4 value).msixWord 0 v w
      = if off / 4 = 4 * v + w then (if w = 3 then value % 2 else value % 2 ^ 32) else s.msixWord 0 v w := by
  have hk : off / 4 = 4 * v + w ↔ (0 * 128 + v) * 4 + w = 0 * 512 + off / 4 := by omega
  simp only [State.msixWrite, h4, bne_self_eq_false, Bool.false_eq_true, if_false, if_true, State.msixWord,
    (State.sendPending_msix _ 0).1]
  by_cases he : off / 4 = 4 * v + w
  · have hm : off / 4 % 4 = w := by omega
    rw [if_pos he, hk.1 he, hm, Store.get_set_same]
    split
    · omega
    · rfl
  · rw [if_neg he, Store.get_set_ne' _ _ _ _ fun e => he (hk.2 e)]

theorem exec_registerWrite_msix {off : Nat} (h : s.pf0Open 0x1800 = true) (ho : off < 16 * 70) (value : Nat) :
    exec (.registerWrite (.bar .pf0 (0x900000 + off)) 4 value) s = .next (s.msixWrite 0 off 4 value) := by
  have hlo : 0x900000 ≤ 0x900000 + off := Nat.le_add_right ..
  have hhi : 0x900000 + off < 0x900000 + 16 * 70 := by omega
  simp only [exec, execRegisterWrite, hlo, if_true, State.pf0Write_open h, State.pf0Bar, hhi, decide_true,
    Bool.and_true, Nat.add_sub_cancel_left]

theorem length_leBytes (n w : Nat) : (leBytes n w).length = n := by
  induction n generalizing w with
  | zero => rfl
  | succ n ih => simp [leBytes, ih]

theorem powered_mbReq {off : Nat} (ho : off ≤ 65536) : powered (0x801000 + off) = powered 0x801000 := by
  have h1 : 0x800000 ≤ 0x801000 + off := by omega
  have h2 : 0x801000 + off < 0x900000 := by omega
  have hp : powered (0x801000 + off) = true := by simp [powered, h1, h2]
  exact hp.trans (by decide)

theorem exec_registerWrite_mbReq {off bytes : Nat} (h : s.pf0Open 0x801000 = true) (ho : off + bytes ≤ 65536)
    (value : Nat) : exec (.registerWrite (.bar .pf0 (0x801000 + off)) bytes value) s
      = .next { s with mbReq := Mem.write memBlank s.mbReq off (leBytes bytes value) } := by
  have hm : ¬ 0x900000 ≤ 0x801000 + off := by omega
  have hlo : 0x801000 ≤ 0x801000 + off := Nat.le_add_right ..
  have hhi : 0x801000 + off + bytes ≤ 0x811000 := by omega
  have hq : powered (0x801000 + off) = powered 0x801000 := powered_mbReq (by omega)
  simp only [exec, execRegisterWrite, hm, if_false, s.pf0Write_congr hq, State.pf0Write_open h, State.pf0Bar,
    decide_false, Bool.false_and, Bool.false_eq_true, hlo, hhi, decide_true, Bool.and_true, if_true, Nat.add_sub_cancel_left]

theorem mem_toggle {l : List Nat} {fn x : Nat} {on : Bool} :
    x ∈ toggle l fn on ↔ if x = fn then on = true else x ∈ l := by
  unfold toggle
  cases on <;> by_cases h : x = fn <;> simp [h]

theorem exec_registerWrite_numVfs (h : s.linkServes = true) (n : Fin 17) (on : Bool) (bytes value : Nat) :
    exec (.registerWrite (.numVfs n on) bytes value) s = .next (s.setVfs n on) := by
  simp only [exec, execRegisterWrite, h, if_true]

theorem exec_registerWrite_msixEnable (h : s.linkServes = true) (fn : Fin 17) (on : Bool) (bytes value : Nat) :
    exec (.registerWrite (.msixEnable fn on) bytes value) s
      = .next (State.sendPending { s with host := { s.host with msixOn := toggle s.host.msixOn fn on } } fn) := by
  simp only [exec, execRegisterWrite, h, if_true]

theorem exec_registerWrite_atsEnable (h : s.linkServes = true) (fn : Fin 17) (on : Bool) (bytes value : Nat) :
    exec (.registerWrite (.atsEnable fn on) bytes value) s
      = .next { s with host := { s.host with atsOn := toggle s.host.atsOn fn on } } := by
  simp only [exec, execRegisterWrite, h, if_true]

/-! ### Registers with a rule of their own, written while the module is awake -/

theorem exec_registerWrite_awake {off bytes i j : Nat} {r : Reg} (h : s.pf0Open 0x20000 = true) (ho : off < 0x801000)
    (hr : regAtWrite off bytes = some (regOf r, i, j)) (value : Nat) :
    exec (.registerWrite (.bar .pf0 off) bytes value) s = .next (s.writeReg (regOf r) i j value) :=
  exec_registerWrite_open ho hr (State.pf0Open_of_unpowered h (by decide) off) value

theorem exec_registerWrite_CTX_SYNC (h : s.pf0Open 0x20000 = true) (c : Fin 16) (value : Nat) :
    exec (.registerWrite (.bar .pf0 (0x20004 + 0x100 * c)) 4 value) s = .next (s.setSyncRange c value) := by
  rw [exec_registerWrite_awake h (by omega) (regAtWrite_CTX_SYNC c)]
  simp [State.writeReg, regOf_reg .CTX_SYNC (by decide)]

theorem exec_registerWrite_CTX_NWIN (h : s.pf0Open 0x20000 = true) (c : Fin 16) (value : Nat) :
    exec (.registerWrite (.bar .pf0 (0x20068 + 0x100 * c)) 8 value) s = .next (s.setWindow c value) := by
  rw [exec_registerWrite_awake h (by omega) (regAtWrite_CTX_NWIN c)]
  simp [State.writeReg, regOf_reg .CTX_NWIN (by decide)]

theorem exec_registerWrite_OBS_SEL (h : s.pf0Open 0x20000 = true) (c : Fin 16) (i : Fin 2) (value : Nat) :
    exec (.registerWrite (.bar .pf0 (0x602000 + 0x20 * c + 8 * i)) 8 value) s = .next (s.setSelectors c i value) := by
  rw [exec_registerWrite_awake h (by omega) (regAtWrite_OBS_SEL c i)]
  simp [State.writeReg, regOf_reg .OBS_SEL (by decide)]

theorem exec_registerWrite_OBS_QSNAP (h : s.pf0Open 0x20000 = true) (value : Nat) :
    exec (.registerWrite (.bar .pf0 0x603000) 8 value) s = .next (s.setSnap (fun _ => true) value) := by
  rw [exec_registerWrite_awake h (by omega) (regAtWrite_single (_, _, .OBS_QSNAP) (by decide))]
  simp [State.writeReg, regOf_reg .OBS_QSNAP (by decide)]

theorem exec_registerWrite_STK_MBCTL (h : s.pf0Open 0x20000 = true) (value : Nat) :
    exec (.registerWrite (.bar .pf0 0x800000) 8 value) s = .next (s.setMailbox value) := by
  rw [exec_registerWrite_awake h (by omega) (regAtWrite_single (_, _, .STK_MBCTL) (by decide))]
  simp [State.writeReg, regOf_reg .STK_MBCTL (by decide)]

/-! ### The statement -/

/-- A register without a rule of its own: only its cells change, and each field takes its bits. -/
theorem State.writeReg_accessCodes (s : State) {d : RDesc} (hd : d ∈ regTable) (hr : d.reg ∉ ownRule)
    (i j value : Nat) :
    let t := s.writeReg d i j value
    t = { s with regs := t.regs } ∧ (∀ f ∈ d.fields, t.getF (d.fld i j f) = fieldAfter s d i j f value)
      ∧ ∀ g : Fld, (∀ f ∈ d.fields, g.key ≠ (d.fld i j f).key) → t.getF g = s.getF g := by
  rw [State.writeReg_plain s hr]
  exact ⟨((RegOnly.refl d.reg s).writeFields i j value d.fields).1, s.getF_writePlain hd hr i j value,
    fun g hg => State.getF_writeFields_ne d.fields hg⟩

/-- Settles O27: the offset names the register, and each register takes the write by its rule or its access codes. -/
theorem registerWriteFollowsAccessCodes : Obligations.RegisterWriteFollowsAccessCodes := by
  refine ⟨fun off bytes value i j d s hr => ⟨?_, ?_, ?_, ?_⟩, fun off bytes value s => ⟨?_, ?_, ?_⟩,
    fun q c p v w s => ⟨?_, ?_, ?_, ?_, ?_, ?_, ?_, ?_, ?_⟩, fun c i value s hp => ⟨?_, ?_, ?_, ?_, ?_, ?_⟩,
    fun off bytes value s => ⟨?_, ?_, fun hl => ⟨?_, fun fn on => ⟨?_, ?_⟩⟩⟩⟩
  · exact fun hp ho => exec_registerWrite_open ho hr hp value
  · exact fun ho hu => exec_registerWrite_i3c ho hr hu value
  · exact fun c x hp hv hx => exec_registerWrite_vf hp hv hx hr value
  · exact fun hn => s.writeReg_accessCodes (regAtWrite_some hr).1 hn i j value
  · intro hp ho hr
    rw [exec_registerWrite_pf0 ho, State.pf0Write_open hp, State.pf0Bar_none ho hr]
  · exact fun ho => exec_registerWrite_i3c_other ho bytes value s
  · exact fun c hp hv => exec_registerWrite_vf_off hp hv bytes value
  · exact exec_registerWrite_QUE_CFG q v s
  · exact exec_registerWrite_CTX_PTB c w s
  · exact exec_registerWrite_FLU_PCTL p s
  · exact exec_registerWrite_RST_CTL s
  · exact exec_registerWrite_HTH_CONECTL s
  · exact exec_registerWrite_REARM s
  · exact exec_registerWrite_FIRE s
  · exact exec_registerWrite_PWR_CTL (.inl rfl) s
  · exact exec_registerWrite_PWR_CTL (.inr rfl) s
  · refine ⟨_, exec_registerWrite_CTX_SYNC hp c value, s.getF_setSyncRange_remoteOk c value, ?_⟩
    dsimp only
    split
    · exact State.getF_setSyncRange_range ‹_›
    · exact State.getF_setSyncRange_bad ‹_›
  · refine ⟨_, exec_registerWrite_CTX_NWIN hp c value, ?_⟩
    dsimp only
    split
    · exact State.getF_setWindow ‹_›
    · exact State.setWindow_bad ‹_›
  · exact ⟨_, exec_registerWrite_OBS_SEL hp c i value, fun k hk => s.getF_setSelectors c i value hk⟩
  · exact ⟨_, exec_registerWrite_OBS_QSNAP hp value, fun q => s.bitOf_setSnap value q.isLt⟩
  · intro hb
    rw [exec_registerWrite_STK_MBCTL hp, State.setMailbox_busy hb]
  · exact fun hb => ⟨_, exec_registerWrite_STK_MBCTL hp value, State.getF_setMailbox hb value⟩
  · exact fun hp h4 ho => ⟨_, exec_registerWrite_msix hp ho value, fun v w hw => s.msixWord_msixWrite h4 value v hw⟩
  · refine fun hp ho => ⟨_, exec_registerWrite_mbReq hp ho value, fun x => ?_⟩
    have hw := Mem.read_write memBlank s.mbReq off (leBytes bytes value) x
    rwa [length_leBytes] at hw
  · exact fun n on => ⟨_, exec_registerWrite_numVfs hl n on bytes value, rfl, rfl⟩
  · refine ⟨_, exec_registerWrite_msixEnable hl fn on bytes value, fun x => ?_⟩
    rw [(State.sendPending_msix _ fn).2]
    exact mem_toggle
  · exact ⟨_, exec_registerWrite_atsEnable hl fn on bytes value, fun x => mem_toggle⟩

end Sys2Proof.Machine

/-! Glaze's encoding of a unit, the escalation passes and the narrow emission (R87, R139, R173–R183, R305). -/

namespace Sys2Proof.Machine

open Sys2Proof

/-! ### The flight of a command -/

theorem Keeps.flight? {T : Nat} {s t : State} (h : Keeps T s t) (hT : T.testBit (Part.num .flights) = false)
    (q n : Nat) : t.flight? q n = s.flight? q n :=
  congrArg (List.find? _) (h.same .flights hT)

theorem State.flight?_key {s : State} {q n : Nat} {f : Flight} (h : s.flight? q n = some f) : f.q = q ∧ f.n = n := by
  simpa using List.find?_some h

/-- A command in flight is found as it was last replaced. -/
theorem State.flight?_setFlight {s : State} {f g : Flight} (h : s.flight? g.q g.n = some f) :
    (s.setFlight g).flight? g.q g.n = some g := by
  have hkey : ((fun x : Flight => x.q == g.q && x.n == g.n) ∘ fun x : Flight => if x.q == g.q && x.n == g.n then g else x)
      = fun x => x.q == g.q && x.n == g.n := by
    funext x
    simp only [Function.comp_apply]
    split
    · simp [*]
    · rfl
  have hf := State.flight?_key h
  unfold State.flight? at h ⊢
  rw [State.setFlight, List.find?_map, hkey, h]
  simp [hf]

theorem State.flight?_putFlight {s : State} {f g : Flight} (h : s.flight? g.q g.n = some f) :
    (s.putFlight g).flight? g.q g.n = some g := by
  have hk : Keeps (Parts.of lineParts) (s.setFlight g) (s.putFlight g) :=
    State.putAcc_keeps (Parts.le_refl _) (State.putSlot_keeps (Parts.le_refl _) (keeps_refl _) g) g
  rw [hk.flight? (by decide), State.flight?_setFlight h]

/-! ### GLAZE_ENCODE -/

theorem exec_glazeEncode_idle {q : Fin 64} {n unit : Nat} {s : State} (h : s.encoding q n unit = none) :
    exec (.glazeEncode q n unit) s = .next s := by
  simp [exec, execGlazeEncode, h]

theorem exec_glazeEncode {q : Fin 64} {n unit : Nat} {s : State} {f : Flight} (h : s.encoding q n unit = some f) :
    exec (.glazeEncode q n unit) s = .next ((s.encodeUnit f unit false).decideEsc q n) := by
  simp [exec, execGlazeEncode, h]

/-- A unit that may be encoded is not encoded yet. -/
theorem State.encoding_fresh {s : State} {q n unit : Nat} {f : Flight} (h : s.encoding q n unit = some f) :
    f.encoded unit = false := by
  unfold State.encoding at h
  split at h
  · have hm := (Option.filter_eq_some_iff.1 h).2
    simp only [Flight.mayEncode, Bool.and_eq_true, Bool.not_eq_true'] at hm
    tauto
  · cases h

section
variable {s : State} {f : Flight} {u pi lu : Nat} {o : BbfOut} (hu : f.plan.unitAt u = some (pi, o, lu))
include hu

theorem State.encodeUnit_uncorrectable (wide : Bool) {pa : Nat}
    (hb : s.badOf (s.ctxOf f.q) (f.plan.unitReads (s.vbyte (s.ctxOf f.q)) pi o lu (s.gathers f) f.parts) = some pa) :
    s.encodeUnit f u wide = s.failMemory f (f.plan.unitTileIdx u) pa := by
  simp [State.encodeUnit, hu, hb]

theorem State.encodeUnit_narrow {vals : UnitVals}
    (hb : s.badOf (s.ctxOf f.q) (f.plan.unitReads (s.vbyte (s.ctxOf f.q)) pi o lu (s.gathers f) f.parts) = none)
    (hv : f.plan.unitVals (s.vbyte (s.ctxOf f.q)) pi o lu = some vals) :
    s.encodeUnit f u false = s.writeUnit f o lu u (f.plan.emit (s.vbyte (s.ctxOf f.q)) o lu vals) false := by
  simp [State.encodeUnit, hu, hb, hv]

end

/-! ### ESCALATION_PASS -/

/-- Every tile of the command is done or has failed. -/
def Flight.settled (f : Flight) : Prop := ∀ k, k < f.total → k ∈ f.done ∨ ∃ x ∈ f.failed, x.1 = k

/-- The tiles that the end of the passes marks: those neither done nor failed (R183). -/
def Flight.unsettled (f : Flight) : List Nat :=
  (List.range f.total).filter fun t => !f.done.contains t && !(f.failed.any fun p => p.1 == t)

/-- The flight as the end of the passes leaves it. -/
def Flight.passed (f : Flight) (e : EscState) : Flight :=
  { f with done := f.done ++ f.unsettled, again := [], esc := some { e with passed := true } }

theorem Flight.passed_settled (f : Flight) (e : EscState) : (f.passed e).settled := by
  intro k hk
  change k ∈ f.done ++ f.unsettled ∨ ∃ x ∈ f.failed, x.1 = k
  by_cases hx : ∃ x ∈ f.failed, x.1 = k
  · exact .inr hx
  · by_cases hm : k ∈ f.done
    · exact .inl (List.mem_append_left _ hm)
    · refine .inl (List.mem_append_right _ (List.mem_filter.2 ⟨List.mem_range.2 hk, ?_⟩))
      simpa [hm] using fun a b ha he => hx ⟨(a, b), ha, he⟩

theorem State.escalate_settled (s : State) (f : Flight) (e : EscState) (fails : List (Nat × Nat × FailCause)) {g : Flight}
    (h : (s.escalate f e fails).flight? f.q f.n = some g) : g.settled := by
  unfold State.escalate at h
  extract_lets s1 s2 s3 at h
  split at h
  next hn => exact nomatch hn.symm.trans h
  next r hr =>
    extract_lets new s4 s5 at h
    obtain ⟨hq, hn⟩ := State.flight?_key hr
    have hk4 : s4.flight? f.q f.n = some r :=
      ((State.count_keeps (Parts.le_refl _) (keeps_refl s3) _ _ _).flight? (by decide) _ _).trans hr
    have hk5 : s5.flight? f.q f.n = some (r.passed e) := by
      rw [← hq, ← hn] at hk4 ⊢
      exact State.flight?_putFlight (g := r.passed e) hk4
    have hk := (State.logRing_keeps (Parts.le_refl _) (keeps_refl s5) (s5.ctxOf f.q) f.q (f.escRecord e)).flight?
      (by decide) f.q f.n
    obtain rfl := Option.some.inj (h.symm.trans (hk.trans hk5))
    exact r.passed_settled e

theorem State.escIdle_flight? {s : State} {q n : Nat} {f : Flight} (h : s.escIdle q n = some f) :
    s.flight? q n = some f := by
  unfold State.escIdle at h
  split at h
  · exact (Option.filter_eq_some_iff.1 h).1
  · cases h

theorem exec_escalationPass {q : Fin 64} {n : Nat} {s : State} {f : Flight} {e : EscState}
    (h : s.escIdle q n = some f) (he : f.esc = some e) (fails : List (Nat × Nat × FailCause)) :
    exec (.escalationPass q ⟨n, fails⟩) s = .next (s.escalate f e fails) := by
  simp [exec, execEscalationPass, h, he]

/-! ### NARROW_EMISSION -/

/-- With no failed update tile the emission has no panel to fail. -/
theorem State.beginEmission_clean {s : State} {f : Flight} {op : UpdOp} {o : BbfOut}
    (h : (f.failed.filter fun p => decide (p.1 < op.tiles)) = []) :
    s.beginEmission f op o = s.putFlight { f with phase := if f.esc.isSome then 2 else 3 } := by
  simp [State.beginEmission, h]

/-- Settles O18: a unit is encoded by its case, the passes mark every tile that is left, and an update without failed tiles
begins its emission. -/
theorem glazeAndEscalation : Obligations.GlazeAndEscalation := by
  refine ⟨fun q n u s => ⟨exec_glazeEncode_idle, fun f pi lu o h hu => ?_⟩, fun q n s f e h he fails => ?_,
    fun q n s f op o h hf => ?_⟩
  · refine ⟨State.encoding_fresh h, fun pa hb => ?_, fun vals hb hv => ?_⟩
    · rw [exec_glazeEncode h, State.encodeUnit_uncorrectable hu false hb]
    · rw [exec_glazeEncode h, State.encodeUnit_narrow hu hb hv]
  · obtain ⟨hq, hn⟩ := State.flight?_key (State.escIdle_flight? h)
    exact ⟨_, exec_escalationPass h he fails, fun g hg => State.escalate_settled s f e fails (by rwa [hq, hn])⟩
  · rw [← State.beginEmission_clean (o := o) hf]
    simp [exec, execNarrowEmission, h]

end Sys2Proof.Machine

/-! The Hearths' records and states: what they read as after a write (R104, R105), and how a cone test comes to run
(R101, R416, R417, R452). -/

namespace Sys2Proof.Machine

open Sys2Proof

variable {s t : State}

/-! ### A Hearth's record and its state -/

theorem Keeps.hearth {T : Nat} (h : Keeps T s t) (hT : T.testBit (Part.num .hearths) = false) (x : Nat) :
    t.hearth x = s.hearth x :=
  congrArg (Store.get HearthRt.init · x) (h.same .hearths hT)

theorem Keeps.hState {T : Nat} (h : Keeps T s t) (hT : T.testBit (Part.num (.reg .HTH_STATE)) = false) (x : Nat) :
    t.hState x = s.hState x :=
  h.same _ hT (HTH_STATE_STATE x) rfl

@[simp] theorem State.hearth_setHearth (s : State) (h : Nat) (r : HearthRt) : (s.setHearth h r).hearth h = r :=
  Store.get_set_same ..

theorem State.hearth_setHearth_ne (s : State) {h x : Nat} (r : HearthRt) (hx : x ≠ h) :
    (s.setHearth h r).hearth x = s.hearth x :=
  Store.get_set_ne _ _ _ hx

@[simp] theorem State.hearth_setF (s : State) (f : Fld) (v x : Nat) : (s.setF f v).hearth x = s.hearth x := rfl

/-- Fields of two elements of a register array lie in different cells. -/
theorem Fld.key_ne_of_i {f g : Fld} (h : g.i % 2 ^ 13 ≠ f.i % 2 ^ 13) : g.key ≠ f.key := by
  simp only [Fld.key, cellKey]
  omega

/-- What a Hearth's change of state may change beside the state itself (R5, R24, R532). -/
def noteParts : List Part := alertParts ++ irqParts ++ logParts ++ [.reg .ID_HEARTHS, .reg .ID_HMAP]

theorem State.setHearthState_keeps_setF (s : State) (h st : Nat) :
    Keeps (Parts.of noteParts) (s.setF (HTH_STATE_STATE h) st) (s.setHearthState h st) := by
  have hk := keeps_refl (T := Parts.of noteParts) (s.setF (HTH_STATE_STATE h) st)
  have hT := Parts.le_refl noteParts
  exact State.syncHearths_keeps (Parts.within hT) (ite_keeps (State.recordHearth_keeps (Parts.within hT) hk _ _)
    (State.stoker_keeps (Parts.within hT) hk _))

@[simp] theorem State.hearth_setHearthState (s : State) (h st x : Nat) :
    (s.setHearthState h st).hearth x = s.hearth x :=
  (s.setHearthState_keeps_setF h st).hearth (by decide) x

theorem State.hState_setHearthState (s : State) (h : Nat) {st : Nat} (hst : st < 8) :
    (s.setHearthState h st).hState h = st :=
  ((s.setHearthState_keeps_setF h st).hState (by decide) h).trans
    ((s.getF_setF (HTH_STATE_STATE h) st).trans (Nat.mod_eq_of_lt hst))

theorem State.hState_setHearthState_ne (s : State) {h x : Nat} (st : Nat) (hh : h < 288) (hx : x < 288) (hne : x ≠ h) :
    (s.setHearthState h st).hState x = s.hState x :=
  ((s.setHearthState_keeps_setF h st).hState (by decide) x).trans
    (s.getF_setF_ne st (Fld.key_ne_of_i (by simp only [HTH_STATE_STATE]; omega)))

/-! ### `DUE` and `SWEEP` (R452, R460) -/

@[simp] theorem State.hearth_syncCone (s : State) (x : Nat) : s.syncCone.hearth x = s.hearth x := rfl

@[simp] theorem State.hState_syncCone (s : State) (x : Nat) : s.syncCone.hState x = s.hState x :=
  (State.syncCone_keeps (Parts.le_refl _) (keeps_refl s)).hState (by decide) x

theorem State.getF_syncCone_DUE (s : State) :
    s.syncCone.getF HTH_CONECTL_DUE = ((List.range 288).filter fun x => (s.hearth x).due).length := by
  have hle := List.length_filter_le (fun x => (s.hearth x).due) (List.range 288)
  rw [List.length_range] at hle
  exact (State.getF_setF_lo _ _ rfl).trans ((State.getF_setF s HTH_CONECTL_DUE _).trans
    (Nat.mod_eq_of_lt (Nat.lt_of_le_of_lt hle (show 288 < 2 ^ HTH_CONECTL_DUE.width by decide))))

theorem State.getF_syncCone_SWEEP (s : State) {h : Nat} (hh : h < 288) (hs : (s.hearth h).sweep = true) :
    s.syncCone.getF HTH_CONECTL_SWEEP = 1 := by
  have hany : ((List.range 288).any fun x => (s.hearth x).sweep) = true :=
    List.any_eq_true.2 ⟨h, List.mem_range.2 hh, hs⟩
  refine (State.getF_setF ..).trans ?_
  rw [hany]
  rfl

/-! ### Busy times (R416) -/

theorem State.evSeq_logEvent (s : State) (ty persist : Nat) (body : List Byte) :
    (s.logEvent ty persist body).stoker.evSeq = (s.stoker.evSeq + 1) % 2 ^ 32 := rfl

/-- A run of event-log records counts one for each. -/
theorem State.evSeq_logEvents (ty persist : Nat) (body : State → Nat → List Byte) (s : State) {n : Nat} (hn : 0 < n) :
    ((List.range n).foldl (fun s i => s.logEvent ty persist (body s i)) s).stoker.evSeq
      = (s.stoker.evSeq + n) % 2 ^ 32 := by
  induction n, hn using Nat.le_induction with
  | base => rfl
  | succ n hn ih =>
    rw [List.range_succ, List.foldl_append, List.foldl_cons, List.foldl_nil, State.evSeq_logEvent, ih]
    omega

theorem State.busySaved_logEvents (ty persist : Nat) (body : State → Nat → List Byte) (s : State) (l : List Nat) :
    (l.foldl (fun s i => s.logEvent ty persist (body s i)) s).stoker.busySaved = s.stoker.busySaved := by
  induction l generalizing s with
  | nil => rfl
  | cons i l ih => exact ih _

theorem State.evSeq_saveBusy (s : State) : s.saveBusy.stoker.evSeq = (s.stoker.evSeq + 29) % 2 ^ 32 := by
  unfold State.saveBusy
  exact State.evSeq_logEvents 0x0013 1 _ _ (by decide)

theorem State.busySaved_saveBusy (s : State) {x : Nat} (hx : x < 288) :
    s.saveBusy.stoker.busySaved.getD x 0 = (s.hearth x).busy := by
  have h : s.saveBusy.stoker.busySaved = (List.range 288).map fun h => (s.hearth h).busy :=
    State.busySaved_logEvents _ _ _ _ _
  simp [h, hx]

/-! ### SWEEP (R452) -/

/-- A Hearth's record once a sweep has made its test overdue. -/
def HearthRt.swept (r : HearthRt) : HearthRt := { r with due := true, overdue := true, sweep := true }

/-- What a sweep does to one Hearth. -/
def State.sweepHearth (s : State) (h : Nat) : State :=
  if s.hState h = hEnabled then s.setHearth h (s.hearth h).swept else s

theorem State.sweep_eq (s : State) : s.sweep = ((List.range 288).foldl State.sweepHearth s).syncCone := rfl

@[simp] theorem State.hState_sweepHearth (s : State) (h x : Nat) : (s.sweepHearth h).hState x = s.hState x := by
  unfold State.sweepHearth
  split <;> rfl

theorem State.hState_sweepHearths (s : State) (l : List Nat) (x : Nat) :
    (l.foldl State.sweepHearth s).hState x = s.hState x := by
  induction l generalizing s with
  | nil => rfl
  | cons h l ih => rw [List.foldl_cons, ih, State.hState_sweepHearth]

/-- The first `n` Hearths are swept where they are ENABLED. -/
theorem State.hearth_sweepHearths (s : State) (n x : Nat) :
    ((List.range n).foldl State.sweepHearth s).hearth x
      = if x < n ∧ s.hState x = hEnabled then (s.hearth x).swept else s.hearth x := by
  induction n with
  | zero => simp
  | succ n ih =>
    rw [List.range_succ, List.foldl_append, List.foldl_cons, List.foldl_nil]
    generalize hu : (List.range n).foldl State.sweepHearth s = u at ih
    have hst : u.hState n = s.hState n := hu ▸ s.hState_sweepHearths _ n
    rw [State.sweepHearth, hst]
    by_cases hx : x = n
    · subst hx
      by_cases he : s.hState x = hEnabled <;> simp [he, ih]
    · have hlt : x < n + 1 ↔ x < n := by omega
      by_cases he : s.hState n = hEnabled <;> simp [he, hlt, ih, State.hearth_setHearth_ne _ _ hx]

theorem State.hearth_sweep (s : State) (h : Fin 288) :
    s.sweep.hearth h = if s.hState h = hEnabled then (s.hearth h).swept else s.hearth h := by
  rw [State.sweep_eq, State.hearth_syncCone, State.hearth_sweepHearths]
  simp [h.isLt]

/-! ### The statement -/

theorem exec_hearthGate {h : Fin 288} (hg : s.mayGate h = true) :
    exec (.hearthGate h) s = .next (s.setHearth h { s.hearth h with gated := true }) := by
  simp [exec, execHearthGate, onlyIf, hg]

theorem exec_coneTestDue {h : Fin 288} (ha : s.active = true) (hs : s.schedulable h = true)
    (hd : (s.hearth h).due = false) (ht : (s.hearth h).testing = false) :
    exec (.coneTestDue h) s = .next (s.setHearth h { s.hearth h with due := true }).syncCone := by
  simp [exec, execConeTestDue, onlyIf, ha, hs, hd, ht]

theorem exec_coneTestStart {h : Fin 288} (hm : s.mayTest h = true) :
    exec (.coneTestStart h) s = .next (s.setHearth h { s.hearth h with testing := true, gated := false }) := by
  simp [exec, execConeTestStart, onlyIf, hm]

theorem exec_coneTestOverdue {h : Fin 288} (ha : s.active = true) (hd : (s.hearth h).due = true)
    (he : s.hState h = hEnabled) (ht : (s.hearth h).testing = false) :
    exec (.coneTestOverdue h) s = .next (s.drain h) := by
  simp [exec, execConeTestOverdue, onlyIf, ha, hd, he, ht]

theorem exec_busyTimeSave (ha : s.active = true) : exec .busyTimeSave s = .next s.saveBusy := by
  simp [exec, execBusyTimeSave, onlyIf, ha]

theorem exec_sweep (h : s.pf0Open 0x3C80 = true) : exec .sweep s = .next s.sweep := by
  rw [← State.pf0Write_open h State.sweep]
  simp [exec, execSweep, bConeCtl]

/-- A Hearth under test is not free. -/
theorem State.instFree_testing {h : Nat} (ht : (s.hearth h).testing = true) : s.instFree 1 h = false := by
  simp [State.instFree, ht]

/-- Settles O53: each row acts under its condition, and a sweep reaches exactly the ENABLED Hearths. -/
theorem coneTestsScheduled : Obligations.ConeTestsScheduled := by
  refine ⟨fun h s => ⟨fun hg => ⟨_, exec_hearthGate hg, ?_⟩, fun ha hs hd ht => ⟨_, exec_coneTestDue ha hs hd ht, ?_⟩,
      fun hm => ⟨_, exec_coneTestStart hm, ?_⟩, fun ha hd he ht => ⟨_, exec_coneTestOverdue ha hd he ht, ?_⟩,
      fun ha => ⟨_, exec_busyTimeSave ha, s.evSeq_saveBusy, fun x => s.busySaved_saveBusy x.isLt⟩⟩,
    fun s ho => ⟨_, exec_sweep ho, fun h he => ?_, fun h he => ?_, fun ⟨h, he⟩ => ?_⟩⟩
  · rw [State.hearth_setHearth]
  · exact ⟨by rw [State.hearth_syncCone, State.hearth_setHearth], State.getF_syncCone_DUE _⟩
  · have hr := s.hearth_setHearth h { s.hearth h with testing := true, gated := false }
    exact ⟨congrArg _ hr, congrArg _ hr, State.instFree_testing (congrArg _ hr)⟩
  · refine ⟨State.hState_setHearthState _ _ (by decide), ?_⟩
    rw [State.drain, State.hearth_setHearthState, State.hearth_setHearth]
  · rw [State.hearth_sweep, if_pos he]
    exact ⟨rfl, rfl, rfl⟩
  · rw [State.hearth_sweep, if_neg he]
  · rw [State.sweep_eq]
    refine State.getF_syncCone_SWEEP _ h.isLt ?_
    rw [State.hearth_sweepHearths, if_pos ⟨h.isLt, he⟩]
    rfl

end Sys2Proof.Machine

/-! The repair records that located cells take: they cover the cells, and no smaller choice does (R102, R107). -/

namespace Sys2Proof.Machine

open Sys2Proof

/-! ### Sub-lists of a size -/

theorem mem_choose {k : Nat} {l x : List Nat} : x ∈ choose k l ↔ x.Sublist l ∧ x.length = k := by
  induction l generalizing k x with
  | nil => cases k <;> simp +contextual [choose, List.sublist_nil]
  | cons a l ih =>
    cases k with
    | zero => simp +contextual [choose, List.length_eq_zero_iff]
    | succ k =>
      rw [choose, List.mem_append, List.mem_map, ih, List.sublist_cons_iff]
      constructor
      · rintro (⟨y, hy, rfl⟩ | ⟨hs, hl⟩)
        · exact ⟨.inr ⟨y, rfl, (ih.1 hy).1⟩, by simp [(ih.1 hy).2]⟩
        · exact ⟨.inl hs, hl⟩
      · rintro ⟨hs | ⟨y, rfl, hs⟩, hl⟩
        · exact .inr ⟨hs, hl⟩
        · exact .inl ⟨y, ih.2 ⟨hs, by simpa using hl⟩, rfl⟩

/-! ### Covers -/

theorem coversCells_iff {cells : List (Nat × Nat)} {rows cols : List Nat} :
    coversCells cells rows cols = true ↔ ∀ c ∈ cells, c.1 ∈ rows ∨ c.2 ∈ cols := by
  simp [coversCells]

/-- The rows, or the columns, of some positions, each once and rising. -/
def positions (l : List Nat) : List Nat := l.dedup.mergeSort fun a b => decide (a ≤ b)

theorem mem_positions {l : List Nat} {x : Nat} : x ∈ positions l ↔ x ∈ l := by
  simp [positions]

theorem positions_nodup (l : List Nat) : (positions l).Nodup :=
  (List.mergeSort_perm ..).nodup_iff.2 l.nodup_dedup

/-- Those of the positions that a list names. -/
def namedIn (l named : List Nat) : List Nat := (positions l).filter fun x => named.contains x

theorem mem_namedIn {l named : List Nat} {x : Nat} : x ∈ namedIn l named ↔ x ∈ l ∧ x ∈ named := by
  simp [namedIn, mem_positions]

theorem length_namedIn_le (l named : List Nat) : (namedIn l named).length ≤ named.length :=
  (((positions_nodup l).filter _).subperm fun _ hx => (mem_namedIn.1 hx).2).length_le

/-- A cover stays one when it is cut to the rows and columns of the cells. -/
theorem coversCells_namedIn {cells : List (Nat × Nat)} {rows cols : List Nat}
    (h : coversCells cells rows cols = true) :
    coversCells cells (namedIn (cells.map (·.1)) rows) (namedIn (cells.map (·.2)) cols) = true := by
  rw [coversCells_iff] at h ⊢
  intro c hc
  exact (h c hc).imp (fun hr => mem_namedIn.2 ⟨List.mem_map_of_mem hc, hr⟩)
    fun hr => mem_namedIn.2 ⟨List.mem_map_of_mem hc, hr⟩

/-! ### The order of preference -/

/-- Fewer records are preferred, and of as many those with more columns (R107). -/
def prefers (z w : Nat × Nat) : Prop := z.1 + z.2 < w.1 + w.2 ∨ z.1 + z.2 = w.1 + w.2 ∧ w.2 ≤ z.2

theorem recordSizes_prefers : recordSizes.Pairwise prefers := by
  simp [recordSizes, prefers]

theorem mem_recordSizes {a b : Nat} (ha : a ≤ 2) (hb : b ≤ 2) (h : a + b ≠ 0) : (a, b) ∈ recordSizes := by
  interval_cases a <;> interval_cases b <;> simp_all [recordSizes]

/-- What a search in an order finds is at a place that no place with a result comes before. -/
theorem findSome?_first {α β : Type} {r : α → α → Prop} {l : List α} {f : α → Option β} {y : β} (hl : l.Pairwise r)
    (h : l.findSome? f = some y) : ∃ x ∈ l, f x = some y ∧ ∀ w ∈ l, f w ≠ none → w = x ∨ r x w := by
  obtain ⟨l₁, x, l₂, rfl, hx, hn⟩ := List.findSome?_eq_some_iff.1 h
  refine ⟨x, by simp, hx, fun w hw hf => ?_⟩
  rcases List.mem_append.1 hw with hw | hw
  · exact absurd (hn w hw) hf
  · exact (List.mem_cons.1 hw).imp id ((List.pairwise_cons.1 (List.pairwise_append.1 hl).2.1).1 w)

/-! ### The choice -/

/-- The first cover with as many rows and columns as `z` says, among those of the cells. -/
def coverOf (cells : List (Nat × Nat)) (z : Nat × Nat) : Option (List Nat × List Nat) :=
  (choose z.1 (positions (cells.map (·.1)))).findSome? fun r =>
    ((choose z.2 (positions (cells.map (·.2)))).find? fun c => coversCells cells r c).map fun c => (r, c)

theorem chooseRecords_some {rf cf : Nat} {cells : List (Nat × Nat)} {p : List Nat × List Nat}
    (h : chooseRecords rf cf cells = some p) :
    (recordSizes.filter fun z => decide (z.1 ≤ rf) && decide (z.2 ≤ cf)).findSome? (coverOf cells) = some p := by
  unfold chooseRecords at h
  dsimp only at h
  split at h
  · cases h
  · exact h

theorem coverOf_some {cells : List (Nat × Nat)} {z : Nat × Nat} {rows cols : List Nat}
    (h : coverOf cells z = some (rows, cols)) :
    coversCells cells rows cols = true ∧ rows ∈ choose z.1 (positions (cells.map (·.1)))
      ∧ cols ∈ choose z.2 (positions (cells.map (·.2))) := by
  obtain ⟨r, hr, h⟩ := List.exists_of_findSome?_eq_some h
  obtain ⟨c, hc, h⟩ := Option.map_eq_some_iff.1 h
  cases h
  exact ⟨List.find?_some hc, hr, List.mem_of_find?_eq_some hc⟩

/-- A cover by rows and columns of the cells is found at its size. -/
theorem coverOf_ne_none {cells : List (Nat × Nat)} {rows cols : List Nat}
    (hr : rows.Sublist (positions (cells.map (·.1)))) (hc : cols.Sublist (positions (cells.map (·.2))))
    (h : coversCells cells rows cols = true) : coverOf cells (rows.length, cols.length) ≠ none := by
  intro hn
  have hn := List.findSome?_eq_none_iff.1 hn rows (mem_choose.2 ⟨hr, rfl⟩)
  exact List.find?_eq_none.1 (Option.map_eq_none_iff.1 hn) cols (mem_choose.2 ⟨hc, rfl⟩) h

/-- A fault without a located cell takes no record. -/
theorem coverOf_nil {z : Nat × Nat} (hz : z ∈ recordSizes) : coverOf [] z = none := by
  have hp : positions [] = [] := by simp [positions]
  simp only [recordSizes, List.mem_cons, List.not_mem_nil, or_false] at hz
  rcases hz with rfl | rfl | rfl | rfl | rfl | rfl | rfl | rfl <;> simp [coverOf, hp, choose]

/-- The chosen records cover the cells within the spares, and are preferred to every other cover of at most two rows and
two columns (R107). -/
theorem chooseRecords_best {rf cf : Nat} {cells : List (Nat × Nat)} {rows cols : List Nat}
    (h : chooseRecords rf cf cells = some (rows, cols)) :
    coversCells cells rows cols = true ∧ rows.length ≤ rf ∧ cols.length ≤ cf
      ∧ ∀ rows' cols' : List Nat, rows'.length ≤ min rf 2 → cols'.length ≤ min cf 2 →
          coversCells cells rows' cols' = true → prefers (rows.length, cols.length) (rows'.length, cols'.length) := by
  obtain ⟨z, hz, hf, hbest⟩ := findSome?_first (recordSizes_prefers.filter _) (chooseRecords_some h)
  obtain ⟨hcov, hr, hc⟩ := coverOf_some hf
  replace hr := (mem_choose.1 hr).2
  replace hc := (mem_choose.1 hc).2
  simp only [List.mem_filter, Bool.and_eq_true, decide_eq_true_eq] at hz hbest
  obtain ⟨hz, hrf, hcf⟩ := hz
  refine ⟨hcov, hr ▸ hrf, hc ▸ hcf, fun rows' cols' hr' hc' h' => ?_⟩
  have hcut := coversCells_namedIn h'
  have hlr := length_namedIn_le (cells.map (·.1)) rows'
  have hlc := length_namedIn_le (cells.map (·.2)) cols'
  have hsome : coverOf cells
      ((namedIn (cells.map (·.1)) rows').length, (namedIn (cells.map (·.2)) cols').length) ≠ none :=
    coverOf_ne_none List.filter_sublist List.filter_sublist hcut
  generalize namedIn (cells.map (·.1)) rows' = R at *
  generalize namedIn (cells.map (·.2)) cols' = C at *
  have hpos : R.length + C.length ≠ 0 := by
    intro h0
    obtain ⟨rfl, rfl⟩ : R = [] ∧ C = [] := by simpa using h0
    have hnil : cells = [] := List.eq_nil_iff_forall_not_mem.2 fun c hm => by simpa using coversCells_iff.1 hcut c hm
    subst hnil
    exact nomatch (coverOf_nil hz).symm.trans hf
  rw [hr, hc]
  rcases hbest (R.length, C.length) ⟨mem_recordSizes (by omega) (by omega) hpos, by omega, by omega⟩ hsome with rfl | hp
  · simp only [prefers]
    omega
  · simp only [prefers] at hp ⊢
    omega

end Sys2Proof.Machine

/-! What a cone test's verdict does to its Hearth, and what a Glaze failure does to the Hearths of its Bay (R105–R107,
R110, R448–R451). -/

namespace Sys2Proof.Machine

open Sys2Proof

variable {s t u : State}

/-! ### No operation of a verdict begins a test -/

/-- No test begins from `s` to `t`, and what is due or overdue stays so. -/
def NoTestBegins (s t : State) : Prop := ∀ x, (t.hearth x).due = (s.hearth x).due
  ∧ (t.hearth x).overdue = (s.hearth x).overdue ∧ ((s.hearth x).testing = false → (t.hearth x).testing = false)

theorem NoTestBegins.refl (s : State) : NoTestBegins s s := fun _ => ⟨rfl, rfl, id⟩

theorem NoTestBegins.trans (h : NoTestBegins s t) (g : NoTestBegins t u) : NoTestBegins s u := fun x =>
  ⟨(g x).1.trans (h x).1, (g x).2.1.trans (h x).2.1, fun hx => (g x).2.2 ((h x).2.2 hx)⟩

theorem NoTestBegins.of_hearths (h : ∀ x, t.hearth x = s.hearth x) : NoTestBegins s t := fun x => by simp [h x]

theorem NoTestBegins.foldl {α : Type} {f : State → α → State} (h : ∀ s x, NoTestBegins s (f s x)) (l : List α)
    (s : State) : NoTestBegins s (l.foldl f s) := by
  induction l generalizing s with
  | nil => exact .refl s
  | cons x l ih => exact (h s x).trans (ih _)

/-- A Hearth's record is replaced by one without a test that it did not have. -/
theorem NoTestBegins.setHearth (s : State) (h : Nat) {r : HearthRt} (hd : r.due = (s.hearth h).due)
    (ho : r.overdue = (s.hearth h).overdue) (ht : (s.hearth h).testing = false → r.testing = false) :
    NoTestBegins s (s.setHearth h r) := fun x => by
  by_cases hx : x = h
  · subst hx
    rw [State.hearth_setHearth]
    exact ⟨hd, ho, ht⟩
  · rw [State.hearth_setHearth_ne _ _ hx]
    exact ⟨rfl, rfl, id⟩

theorem NoTestBegins.ite {c : Prop} [Decidable c] (h : NoTestBegins s t) (g : NoTestBegins s u) :
    NoTestBegins s (if c then t else u) := by
  split
  · exact h
  · exact g

/-- A Hearth's busy time grows. -/
theorem NoTestBegins.addBusy (ht : ∀ x, t.hearth x = s.hearth x) (h n : Nat) :
    NoTestBegins s (t.setHearth h { s.hearth h with busy := (s.hearth h).busy + n }) :=
  (NoTestBegins.of_hearths ht).trans (.setHearth t h (by rw [ht]) (by rw [ht]) fun hn => ht h ▸ hn)

theorem State.hearth_count (s : State) (c e n x : Nat) : (s.count c e n).hearth x = s.hearth x :=
  (State.count_keeps (Parts.le_refl _) (keeps_refl s) c e n).hearth (by decide) x

theorem State.countBusy_noTest (s : State) (f : Flight) (t : Nat) : NoTestBegins s (s.countBusy f t) := by
  unfold State.countBusy
  extract_lets e c
  split
  rename_i n u hu
  obtain ⟨-, rfl⟩ := Prod.mk.inj hu
  have hc (e n : Nat) : ∀ x, (s.fresh.2.count c e n).hearth x = s.hearth x := s.fresh.2.hearth_count c e n
  split
  · exact .of_hearths fun _ => rfl
  · exact .ite (.addBusy (hc 3 n) _ n) (.ite (.of_hearths (hc 4 n)) (.of_hearths fun _ => rfl))

theorem State.runCut_noTest (s : State) (f : Flight) (t : Nat) : NoTestBegins s (s.runCut f t) := by
  unfold State.runCut
  extract_lets c rd whole s1
  have hT := Parts.le_refl (triggerParts ++ ([.free, .reg .OBS_CNT] : List Part))
  have hk : Keeps (Parts.of (triggerParts ++ [.free, .reg .OBS_CNT])) (s.countBusy f t) s1 :=
    keeps_foldl _ (keeps_refl _) fun _ _ hs => State.count_keeps (Parts.within hT)
      (State.fresh_keeps (Parts.within hT) hs) _ _ _
  have hcut (e n : Nat) : NoTestBegins s (s1.fresh.2.count c e n) :=
    (s.countBusy_noTest f t).trans (.of_hearths ((State.count_keeps (Parts.within hT)
      (State.fresh_keeps (Parts.within hT) hk) c e n).hearth (by decide)))
  exact .ite (.ite (hcut _ _) (hcut _ _)) (.refl s)

theorem State.abandonOn_noTest (s : State) (h : Nat) : NoTestBegins s (s.abandonOn h) :=
  NoTestBegins.foldl (fun s f => NoTestBegins.foldl (fun s t => s.runCut_noTest f t) _ s) s.flights s

/-! ### Quarantine (R106, R447, R448) -/

/-- A Hearth that quarantine takes: ENABLED or DRAINED. -/
abbrev State.serving (s : State) (h : Nat) : Prop := s.hState h = hEnabled ∨ s.hState h = hDrained

/-- A Hearth enters QUARANTINED, with the quarantines counted against it, before its tiles are abandoned. -/
def State.enterQuarantine (s : State) (h : Nat) (keep : List Nat) : State :=
  ((s.setHearth h { s.hearth h with quar := keep, testing := false }).setF (HTH_CONE_QUAR h)
    (min keep.length 3)).setHearthState h hQuarantined

theorem State.quarantine_of_serving {h : Nat} (hs : s.serving h) :
    ∃ keep, s.quarantine h = (s.enterQuarantine h keep).abandonOn h :=
  ⟨_, if_pos (by simpa [State.serving] using hs)⟩

theorem State.quarantine_of_not_serving {h : Nat} (hs : ¬ s.serving h) : s.quarantine h = s :=
  if_neg (by simpa [State.serving] using hs)

theorem State.enterQuarantine_noTest (s : State) (h : Nat) (keep : List Nat) :
    NoTestBegins s (s.enterQuarantine h keep) :=
  (NoTestBegins.setHearth s h (r := { s.hearth h with quar := keep, testing := false }) rfl rfl fun _ => rfl).trans
    (.of_hearths fun _ => State.hearth_setHearthState ..)

theorem State.quarantine_noTest (s : State) (h : Nat) : NoTestBegins s (s.quarantine h) := by
  by_cases hs : s.serving h
  · obtain ⟨keep, hk⟩ := State.quarantine_of_serving hs
    rw [hk]
    exact (s.enterQuarantine_noTest h keep).trans (State.abandonOn_noTest _ h)
  · rw [State.quarantine_of_not_serving hs]
    exact .refl s

/-- A quarantine takes its own Hearth and leaves the state of every other. -/
theorem State.hState_quarantine (s : State) {h x : Nat} (hh : h < 288) (hx : x < 288) :
    (s.quarantine h).hState x = if x = h ∧ s.serving h then hQuarantined else s.hState x := by
  by_cases hs : s.serving h
  · obtain ⟨keep, hk⟩ := State.quarantine_of_serving hs
    have ha : ((s.enterQuarantine h keep).abandonOn h).hState x = (s.enterQuarantine h keep).hState x :=
      (State.abandonOn_keeps (Parts.le_refl _) (keeps_refl _) h).hState (by decide) x
    rw [hk, ha]
    by_cases hxh : x = h
    · subst hxh
      rw [if_pos ⟨rfl, hs⟩]
      exact State.hState_setHearthState _ _ (by decide)
    · rw [if_neg fun c => hxh c.1]
      exact (State.hState_setHearthState_ne _ _ hh hx hxh).trans (State.getF_setF_num _ _ rfl)
  · rw [State.quarantine_of_not_serving hs, if_neg fun c => hs c.2]

theorem State.getF_quarantine_LAST (s : State) (h : Nat) :
    (s.quarantine h).getF (HTH_CONE_LAST h) = s.getF (HTH_CONE_LAST h) := by
  by_cases hs : s.serving h
  · obtain ⟨keep, hk⟩ := State.quarantine_of_serving hs
    have ha := (State.abandonOn_keeps (Parts.le_refl _) (keeps_refl (s.enterQuarantine h keep)) h).same
      (.reg .HTH_CONE) (by decide) (HTH_CONE_LAST h) rfl
    have hq : (s.enterQuarantine h keep).getF (HTH_CONE_LAST h) = _ :=
      (State.setHearthState_keeps (Parts.le_refl _) (keeps_refl _) h hQuarantined).same
        (.reg .HTH_CONE) (by decide) (HTH_CONE_LAST h) rfl
    rw [hk, ha, hq]
    exact State.getF_setF_lo _ _ rfl
  · rw [State.quarantine_of_not_serving hs]

/-- A Hearth in quarantine stays there while others are taken. -/
theorem State.hState_quarantines_of_quarantined (s : State) {l : List Nat} (hl : ∀ h ∈ l, h < 288) {x : Nat}
    (hx : x < 288) (hq : s.hState x = hQuarantined) : (l.foldl State.quarantine s).hState x = hQuarantined := by
  induction l generalizing s with
  | nil => exact hq
  | cons h l ih =>
    refine ih _ (fun y hy => hl y (List.mem_cons_of_mem _ hy)) ?_
    rw [s.hState_quarantine (hl h List.mem_cons_self) hx, hq, ite_self]

/-- Several Hearths are quarantined in turn: each that serves and is named is taken. -/
theorem State.hState_quarantines (s : State) {l : List Nat} (hl : ∀ h ∈ l, h < 288) {x : Nat} (hx : x < 288)
    (hs : s.serving x) (hm : x ∈ l) : (l.foldl State.quarantine s).hState x = hQuarantined := by
  induction l generalizing s with
  | nil => cases hm
  | cons h l ih =>
    have hl' : ∀ y ∈ l, y < 288 := fun y hy => hl y (List.mem_cons_of_mem _ hy)
    have hst := s.hState_quarantine (hl h List.mem_cons_self) hx
    rw [List.foldl_cons]
    by_cases hxh : x = h
    · rw [if_pos ⟨hxh, hxh ▸ hs⟩] at hst
      exact State.hState_quarantines_of_quarantined _ hl' hx hst
    · rw [if_neg fun c => hxh c.1] at hst
      exact ih _ hl' (by rwa [State.serving, hst]) ((List.mem_cons.1 hm).resolve_left hxh)

/-! ### A Glaze failure (R449) -/

/-- The Hearths of a Bay. -/
def bayHearths (b : Nat) : List Nat := (List.range 18).map fun i => 18 * b + i

theorem mem_bayHearths {b x : Nat} : x ∈ bayHearths b ↔ hearthBay x = b := by
  simp only [bayHearths, List.mem_map, List.mem_range, hearthBay]
  exact ⟨fun ⟨i, hi, h⟩ => by omega, fun h => ⟨x % 18, by omega, by omega⟩⟩

/-- The state with the Bay's Glaze marked faulty, before its Hearths are quarantined. -/
def State.markGlaze (s : State) (b : Nat) : State :=
  let s := s.setBit HTH_GLZSTAT_GLAZEBAD b true
  { s with stoker := { s.stoker with glazeMark := s.getF HTH_GLZSTAT_GLAZEBAD } }

theorem State.glazeFault_eq (s : State) (b : Nat) :
    s.glazeFault b = (bayHearths b).foldl State.quarantine (s.markGlaze b) := by
  rw [bayHearths, List.foldl_map]
  rfl

theorem State.glazeFault_noTest (s : State) (b : Nat) : NoTestBegins s (s.glazeFault b) := by
  rw [State.glazeFault_eq]
  exact (NoTestBegins.of_hearths fun _ => rfl).trans (.foldl State.quarantine_noTest _ (s.markGlaze b))

theorem State.bitOf_glazeFault (s : State) {b : Nat} (hb : b < 16) :
    bitOf ((s.glazeFault b).getF HTH_GLZSTAT_GLAZEBAD) b = true := by
  have hk : Keeps _ (s.markGlaze b) ((bayHearths b).foldl State.quarantine (s.markGlaze b)) :=
    keeps_foldl _ (keeps_refl _) fun _ _ hs => State.quarantine_keeps (Parts.le_refl _) hs _
  rw [State.glazeFault_eq, hk.same (.reg .HTH_GLZSTAT) (by decide) HTH_GLZSTAT_GLAZEBAD rfl]
  exact (s.bitOf_setBit HTH_GLZSTAT_GLAZEBAD b true hb).trans (if_pos rfl)

theorem State.hState_glazeFault (s : State) {b x : Nat} (hx : x < 288) (hb : hearthBay x = b) (hs : s.serving x) :
    (s.glazeFault b).hState x = hQuarantined := by
  have hm (y : Nat) : (s.markGlaze b).hState y = s.hState y := State.getF_setF_num _ _ rfl
  have hl : ∀ h ∈ bayHearths b, h < 288 := fun h hh => by
    rw [mem_bayHearths] at hh
    simp only [hearthBay] at hh hb
    omega
  rw [State.glazeFault_eq]
  exact State.hState_quarantines _ hl hx (by rwa [State.serving, hm]) (mem_bayHearths.2 hb)

/-! ### The end of a test -/

/-- The Hearth is not under test, and its test is neither due nor overdue. -/
def State.testDone (s : State) (h : Nat) : Prop :=
  (s.hearth h).testing = false ∧ (s.hearth h).due = false ∧ (s.hearth h).overdue = false

theorem State.testDone.of_noTest {h : Nat} (hs : s.testDone h) (ht : NoTestBegins s t) : t.testDone h := by
  obtain ⟨h1, h2, h3⟩ := hs
  obtain ⟨d, o, n⟩ := ht h
  exact ⟨n h1, d.trans h2, o.trans h3⟩

theorem State.testDone.of_keeps {T h : Nat} (hs : s.testDone h) (ht : Keeps T s t)
    (hT : T.testBit (Part.num .hearths) = false) : t.testDone h :=
  hs.of_noTest (.of_hearths (ht.hearth hT))

theorem State.testOver_testDone (s : State) (h : Nat) : (s.testOver h).testDone h := by
  rw [State.testDone, State.testOver, State.hearth_syncCone, State.hearth_setHearth]
  exact ⟨rfl, rfl, rfl⟩

/-! ### A PASS (R105, R451) -/

/-- The state in which a PASS has cleared the Hearth's record, before it returns ENABLED. -/
def State.passNoted (s : State) (h : Nat) : State :=
  let s := s.testOver h
  let s := s.setHearth h { s.hearth h with lastPass := s.damper.periods }
  (s.setFs [(HTH_CONE_SUSPECT h, 0), (HTH_CONE_SINCE h, 0), (HTH_CONE_LAST h, 1)]).addSat (HTH_CONE_PASSES h) 1

theorem State.conePass_eq (s : State) (h : Nat) : s.conePass h =
    if (s.passNoted h).hState h = hEnabled then s.passNoted h else (s.passNoted h).setHearthState h hEnabled := rfl

theorem State.passNoted_testDone (s : State) (h : Nat) : (s.passNoted h).testDone h := by
  obtain ⟨h1, h2, h3⟩ := s.testOver_testDone h
  have hr : (s.passNoted h).hearth h = { (s.testOver h).hearth h with lastPass := (s.testOver h).damper.periods } := by
    simp only [State.passNoted, State.addSat, State.setFs, List.foldl, State.hearth_setF, State.hearth_setHearth]
  rw [State.testDone, hr]
  exact ⟨h1, h2, h3⟩

theorem State.getF_passNoted (s : State) (h : Nat) :
    (s.passNoted h).getF (HTH_CONE_SUSPECT h) = 0 ∧ (s.passNoted h).getF (HTH_CONE_LAST h) = 1 := by
  refine ⟨?_, ?_⟩
  · exact (State.getF_setF_lo _ _ rfl).trans ((State.getF_setF_lo _ _ rfl).trans ((State.getF_setF_lo _ _ rfl).trans
      (State.getF_setF ..)))
  · exact (State.getF_setF_lo _ _ rfl).trans (State.getF_setF ..)

theorem State.conePass_outcome (s : State) (h : Nat) : (s.conePass h).testDone h ∧ (s.conePass h).hState h = hEnabled
    ∧ (s.conePass h).getF (HTH_CONE_SUSPECT h) = 0 ∧ (s.conePass h).getF (HTH_CONE_LAST h) = 1 := by
  obtain ⟨h1, h2⟩ := s.getF_passNoted h
  rw [State.conePass_eq]
  split
  next he => exact ⟨s.passNoted_testDone h, he, h1, h2⟩
  next he =>
    have hk := State.setHearthState_keeps (Parts.le_refl _) (keeps_refl (s.passNoted h)) h hEnabled
    have hr := hk.same (.reg .HTH_CONE) (by decide)
    exact ⟨(s.passNoted_testDone h).of_keeps hk (by decide), State.hState_setHearthState _ _ (by decide),
      (hr _ rfl).trans h1, (hr _ rfl).trans h2⟩

/-! ### A FAIL (R105, R107, R110, R451) -/

/-- The state in which a FAIL is noted, before the Hearth's state follows. -/
def State.failNoted (s : State) (h : Nat) : State :=
  ((s.testOver h).setF (HTH_CONE_LAST h) 2).addSat (HTH_STATE_CONE_FAIL h) 1

theorem State.coneFail_eq (s : State) (h : Nat) (cells : Option (List (Nat × Nat))) : s.coneFail h cells =
    if (s.failNoted h).hState h = hQuarantined then (s.failNoted h).resolveFail h cells
    else (s.failNoted h).quarantine h := rfl

theorem State.failNoted_testDone (s : State) (h : Nat) : (s.failNoted h).testDone h := by
  simpa only [State.testDone, State.failNoted, State.addSat, State.hearth_setF] using s.testOver_testDone h

theorem State.getF_failNoted_LAST (s : State) (h : Nat) : (s.failNoted h).getF (HTH_CONE_LAST h) = 2 :=
  (State.getF_setF_num _ _ rfl).trans (State.getF_setF ..)

/-- Of `HTH_STATE` a FAIL itself moves only `CONE_FAIL`. -/
theorem State.getF_failNoted (s : State) (h : Nat) {f : Fld} (hr : f.reg = .HTH_STATE)
    (hf : (f.lo % 64 == (HTH_STATE_CONE_FAIL h).lo % 64) = false) : (s.failNoted h).getF f = s.getF f := by
  have hk := (State.testOver_keeps (Parts.le_refl _) (keeps_refl s) h).same (.reg .HTH_STATE) (by decide) f hr
  exact (State.getF_setF_lo _ _ hf).trans ((State.getF_setF_reg _ _ (by rw [hr]; exact Reg.noConfusion)).trans hk)

theorem State.hState_failNoted (s : State) (h : Nat) : (s.failNoted h).hState h = s.hState h :=
  s.getF_failNoted h rfl rfl

theorem State.seval_failNoted (s : State) (h : Nat) : (s.failNoted h).seval = s.seval :=
  (State.testOver_keeps (Parts.le_refl _) (keeps_refl s) h).same .seval (by decide)

theorem State.coneFail_serving {h : Nat} (hh : h < 288) (hs : s.serving h) (cells : Option (List (Nat × Nat))) :
    (s.coneFail h cells).testDone h ∧ (s.coneFail h cells).hState h = hQuarantined
      ∧ (s.coneFail h cells).getF (HTH_CONE_LAST h) = 2 := by
  have hn : (s.failNoted h).hState h ≠ hQuarantined := by
    rw [s.hState_failNoted h]
    rcases hs with hs | hs <;> rw [hs] <;> decide
  have hs' : (s.failNoted h).serving h := by rwa [State.serving, s.hState_failNoted h]
  rw [State.coneFail_eq, if_neg hn]
  refine ⟨(s.failNoted_testDone h).of_noTest (State.quarantine_noTest _ h), ?_, ?_⟩
  · rw [State.hState_quarantine _ hh hh, if_pos ⟨rfl, hs'⟩]
  · rw [State.getF_quarantine_LAST, s.getF_failNoted_LAST h]

/-- What a verdict leaves of a Hearth that it gives a state. -/
theorem State.setHearthState_outcome {u : State} {h st : Nat} (hst : st < 8) (hd : u.testDone h)
    (hl : u.getF (HTH_CONE_LAST h) = 2) : (u.setHearthState h st).testDone h ∧ (u.setHearthState h st).hState h = st
      ∧ (u.setHearthState h st).getF (HTH_CONE_LAST h) = 2 := by
  have hk := State.setHearthState_keeps (Parts.le_refl _) (keeps_refl u) h st
  exact ⟨hd.of_keeps hk (by decide), State.hState_setHearthState _ _ hst,
    (hk.same (.reg .HTH_CONE) (by decide) _ rfl).trans hl⟩

/-- The spares that the policy and what remains give a FAIL's located cells. -/
def State.repairs (s : State) (h : Nat) (cells : Option (List (Nat × Nat))) : Option (List Nat × List Nat) :=
  if s.seval.retire then none
  else cells.bind fun l => chooseRecords (s.getF (HTH_STATE_ROWS_FREE h)) (s.getF (HTH_STATE_COLS_FREE h)) l

theorem State.repairs_failNoted (s : State) (h : Nat) (cells : Option (List (Nat × Nat))) :
    (s.failNoted h).repairs h cells = s.repairs h cells := by
  simp only [State.repairs, s.seval_failNoted h, s.getF_failNoted h (f := HTH_STATE_ROWS_FREE h) rfl rfl,
    s.getF_failNoted h (f := HTH_STATE_COLS_FREE h) rfl rfl]

theorem State.resolveFail_eq (s : State) (h : Nat) (cells : Option (List (Nat × Nat))) : s.resolveFail h cells =
    (s.repairs h cells).elim (s.setHearthState h hRetired) fun r => (s.allocate h r).setHearthState h hSparePending := by
  unfold State.resolveFail
  extract_lets fix
  change _ = fix.elim _ _
  clear_value fix
  cases fix with
  | none => rw [Option.elim_none]
  | some r => rw [Option.elim_some]

theorem State.repairs_none (s : State) (h : Nat) : s.repairs h none = none := by
  simp [State.repairs]

theorem State.repairs_of_spare {h : Nat} {l : List (Nat × Nat)} {r : List Nat × List Nat} (hp : s.seval.retire = false)
    (hr : chooseRecords (s.getF (HTH_STATE_ROWS_FREE h)) (s.getF (HTH_STATE_COLS_FREE h)) l = some r) :
    s.repairs h (some l) = some r := by
  simp [State.repairs, hp, hr]

theorem State.repairs_of_no_spare {h : Nat} {l : List (Nat × Nat)} (hr : s.seval.retire = true ∨
    chooseRecords (s.getF (HTH_STATE_ROWS_FREE h)) (s.getF (HTH_STATE_COLS_FREE h)) l = none) :
    s.repairs h (some l) = none := by
  rcases hr with hr | hr <;> simp [State.repairs, hr]

/-- A FAIL in quarantine that spares answer leaves the Hearth waiting for them (R105, R107). -/
theorem State.coneFail_spared {h : Nat} {cells : Option (List (Nat × Nat))} {r : List Nat × List Nat}
    (hq : s.hState h = hQuarantined) (hr : s.repairs h cells = some r) :
    (s.coneFail h cells).testDone h ∧ (s.coneFail h cells).hState h = hSparePending
      ∧ (s.coneFail h cells).getF (HTH_CONE_LAST h) = 2 := by
  have he : s.coneFail h cells = ((s.failNoted h).allocate h r).setHearthState h hSparePending := by
    rw [State.coneFail_eq, if_pos ((s.hState_failNoted h).trans hq), State.resolveFail_eq, s.repairs_failNoted h, hr,
      Option.elim_some]
  have hk := State.allocate_keeps (Parts.le_refl _) (keeps_refl (s.failNoted h)) h r
  rw [he]
  exact State.setHearthState_outcome (by decide) ((s.failNoted_testDone h).of_keeps hk (by decide))
    ((hk.same (.reg .HTH_CONE) (by decide) _ rfl).trans (s.getF_failNoted_LAST h))

/-- The map and the count of Hearths leave the states that the NVM records. -/
theorem State.states_syncHearths (s : State) : s.syncHearths.stoker.states = s.stoker.states := by
  unfold State.syncHearths
  extract_lets on s1 s2 deg was s3 s4 s5
  have hT := Parts.le_refl ([.reg .ID_HMAP, .reg .ID_HEARTHS] : List Part)
  have hk1 : Keeps (Parts.of [.reg .ID_HMAP, .reg .ID_HEARTHS]) s s1 := keeps_foldl _ (keeps_refl s) fun _ _ hs =>
    State.setF_keeps_reg .ID_HMAP (Parts.within hT) hs _
  have hk3 : Keeps (Parts.of [.reg .ID_HMAP, .reg .ID_HEARTHS]) s s3 := State.setF_keeps_reg .ID_HEARTHS (Parts.within hT)
    (State.setF_keeps_reg .ID_HEARTHS (Parts.within hT) hk1 _) _
  have h3 : s3.stoker = s.stoker := hk3.same .stoker (by decide)
  have h4 : s4.stoker = s3.stoker := (State.alert_keeps (Parts.le_refl _) (keeps_refl s3)).same .stoker (by decide)
  have h5 : s5.stoker.states = s4.stoker.states := rfl
  have hirq (u : State) : (u.irq 0 69).stoker = u.stoker :=
    (State.irq_keeps (Parts.le_refl _) (keeps_refl u) 0 69).same .stoker (by decide)
  split
  · rw [hirq, h5, h4, h3]
  · split
    · rw [hirq, h3]
    · rw [h3]

/-- A retired Hearth is recorded as such in the NVM (R105, R532). -/
theorem State.states_setHearthState_retired (s : State) (h : Nat) :
    (s.setHearthState h hRetired).stoker.states.get 0 h = hRetired := by
  rw [State.setHearthState, State.states_syncHearths]
  simp [State.noteHearth, State.recordHearth, Store.get_set_same]

/-- A FAIL in quarantine that no spares answer retires the Hearth (R105, R110). -/
theorem State.coneFail_retired {h : Nat} {cells : Option (List (Nat × Nat))}
    (hq : s.hState h = hQuarantined) (hr : s.repairs h cells = none) :
    (s.coneFail h cells).testDone h ∧ (s.coneFail h cells).hState h = hRetired
      ∧ (s.coneFail h cells).stoker.states.get 0 h = hRetired ∧ (s.coneFail h cells).getF (HTH_CONE_LAST h) = 2 := by
  have he : s.coneFail h cells = (s.failNoted h).setHearthState h hRetired := by
    rw [State.coneFail_eq, if_pos ((s.hState_failNoted h).trans hq), State.resolveFail_eq, s.repairs_failNoted h, hr,
      Option.elim_none]
  obtain ⟨h1, h2, h3⟩ := State.setHearthState_outcome (st := hRetired) (by decide) (s.failNoted_testDone h)
    (s.getF_failNoted_LAST h)
  rw [he]
  exact ⟨h1, h2, State.states_setHearthState_retired _ h, h3⟩

/-! ### The verdict (R448, R451) -/

section
variable {h : Fin 288} {f : ConeFinding}

theorem exec_coneTestEnd (ha : s.active = true) (ht : (s.hearth h).testing = true) :
    exec (.coneTestEnd h f) s = .next (s.coneVerdict h f) := by
  simp [exec, execConeTestEnd, onlyIf, ha, ht]

theorem exec_coneTestEnd_idle (hn : s.active = false ∨ (s.hearth h).testing = false) :
    exec (.coneTestEnd h f) s = .next s := by
  rcases hn with hn | hn <;> simp [exec, execConeTestEnd, onlyIf, hn]

end

/-- The Hearth is in its third quarantine within 168 h (R448). -/
def State.thirdQuarantine (s : State) (h : Nat) : Prop := s.hState h = hQuarantined ∧ 3 ≤ (s.hearth h).quar.length

theorem State.coneVerdict_glaze (s : State) (h : Nat) : s.coneVerdict h .glaze =
    (s.setHearth h { s.hearth h with testing := false }).glazeFault (hearthBay h) :=
  if_pos rfl

theorem State.coneVerdict_third {h : Nat} {f : ConeFinding} (hn : s.thirdQuarantine h) (hf : f ≠ .glaze) :
    s.coneVerdict h f = s.coneFail h none :=
  (if_neg hf).trans (if_pos (by simpa [State.thirdQuarantine] using hn))

section
variable {h : Nat} (hn : ¬ s.thirdQuarantine h)
include hn

/-- The condition of the third quarantine as the verdict evaluates it. -/
theorem State.third_condition_fails :
    ¬ (decide (s.hState h = hQuarantined) && decide (3 ≤ (s.hearth h).quar.length)) = true := by
  simpa [State.thirdQuarantine] using hn

theorem State.coneVerdict_pass {f : ConeFinding} (hf : f = .pass ∨ f = .cells []) :
    s.coneVerdict h f = s.conePass h := by
  rcases hf with rfl | rfl
  · exact (if_neg ConeFinding.noConfusion).trans (if_neg (State.third_condition_fails hn))
  · exact (if_neg ConeFinding.noConfusion).trans (if_neg (State.third_condition_fails hn))

theorem State.coneVerdict_cells (c : Nat × Nat) (l : List (Nat × Nat)) :
    s.coneVerdict h (.cells (c :: l)) = s.coneFail h (some (c :: l)) :=
  (if_neg ConeFinding.noConfusion).trans (if_neg (State.third_condition_fails hn))

theorem State.coneVerdict_fixedPart : s.coneVerdict h .fixedPart = s.coneFail h none :=
  (if_neg ConeFinding.noConfusion).trans (if_neg (State.third_condition_fails hn))

end

/-- Settles O54: each verdict is a PASS, a FAIL or a Glaze failure, and the chosen records are the first cover in the order
of preference. -/
theorem coneTestVerdicts : Obligations.ConeTestVerdicts := by
  refine ⟨fun h s f ha ht => ?_, fun h s f hn => exec_coneTestEnd_idle hn, fun rf cf cells rows cols h => ?_⟩
  · intro quar third tested
    have htested {u : State} (he : s.coneVerdict h f = u) (hd : u.testDone h) : tested u :=
      ⟨he ▸ exec_coneTestEnd ha ht, hd⟩
    refine ⟨fun hn hf => ?_, fun hs hf => ?_, fun hq hn c l r hf hp hr => ?_, fun hq hf => ?_, fun hf => ?_⟩
    · obtain ⟨hd, hst, hsus, hl⟩ := s.conePass_outcome h
      exact ⟨_, htested (State.coneVerdict_pass hn hf) hd, hst, hsus, hl⟩
    · obtain ⟨cells, hv⟩ : ∃ cells, s.coneVerdict h f = s.coneFail h cells := by
        have hn : ¬ s.thirdQuarantine h := fun hq => by
          rcases hs with hs | hs <;> exact absurd (hs.symm.trans hq.1) (by decide)
        rcases hf with rfl | ⟨c, l, rfl⟩
        · exact ⟨_, State.coneVerdict_fixedPart hn⟩
        · exact ⟨_, State.coneVerdict_cells hn c l⟩
      obtain ⟨hd, hst, hl⟩ := State.coneFail_serving h.isLt hs cells
      exact ⟨_, htested hv hd, hst, hl⟩
    · subst hf
      obtain ⟨hd, hst, hl⟩ := State.coneFail_spared hq (State.repairs_of_spare hp hr)
      exact ⟨_, htested (State.coneVerdict_cells hn c l) hd, hst, hl⟩
    · obtain ⟨cells, hv, hr⟩ : ∃ cells, s.coneVerdict h f = s.coneFail h cells ∧ s.repairs h cells = none := by
        by_cases hn : s.thirdQuarantine h
        · refine ⟨none, State.coneVerdict_third hn ?_, s.repairs_none h⟩
          rintro rfl
          simp at hf
        · rcases hf with rfl | ⟨h3, -⟩ | ⟨c, l, rfl, hr⟩
          · exact ⟨none, State.coneVerdict_fixedPart hn, s.repairs_none h⟩
          · exact absurd h3 hn
          · exact ⟨_, State.coneVerdict_cells hn c l, State.repairs_of_no_spare hr⟩
      obtain ⟨hd, hst, hnvm, hl⟩ := State.coneFail_retired hq hr
      exact ⟨_, htested hv hd, hst, hnvm, hl⟩
    · subst hf
      refine ⟨_, (exec_coneTestEnd ha ht).trans (congrArg _ (s.coneVerdict_glaze h)), ?_, ?_, fun x hx hs => ?_⟩
      · refine ((State.glazeFault_noTest _ _) h).2.2 ?_
        rw [State.hearth_setHearth]
      · exact State.bitOf_glazeFault _ (by have := h.isLt; simp only [hearthBay]; omega)
      · exact State.hState_glazeFault _ x.isLt hx hs
  · obtain ⟨hcov, hr, hc, hb⟩ := chooseRecords_best h
    refine ⟨hcov, hr, hc, fun rows' cols' hr' hc' h' => ?_⟩
    have hp := hb rows' cols' hr' hc' h'
    simp only [prefers] at hp
    exact ⟨by omega, fun _ he => by omega⟩

end Sys2Proof.Machine

/-! The step barrier, the decision step's end and the interlude (R231, R239, R286, R287). -/

namespace Sys2Proof.Machine

open Sys2Proof

variable {s t : State}

/-! ### The queues of a context, and the marks that hold them -/

theorem Keeps.trainQs {T : Nat} (h : Keeps T s t) (hT : T.testBit (Part.num (.reg .QUE_CFG)) = false) (c : Nat) :
    t.trainQs c = s.trainQs c := by
  have hcfg := h.same (.reg .QUE_CFG) hT
  simp only [State.trainQs, State.flag, State.ctxOf, hcfg (QUE_CFG_EN _) rfl, hcfg (QUE_CFG_CTX _) rfl,
    hcfg (QUE_CFG_STEPPED _) rfl, hcfg (QUE_CFG_EVAL _) rfl]

theorem Keeps.evalQs {T : Nat} (h : Keeps T s t) (hT : T.testBit (Part.num (.reg .QUE_CFG)) = false) (c : Nat) :
    t.evalQs c = s.evalQs c := by
  have hcfg := h.same (.reg .QUE_CFG) hT
  simp only [State.evalQs, State.flag, State.ctxOf, hcfg (QUE_CFG_EN _) rfl, hcfg (QUE_CFG_CTX _) rfl,
    hcfg (QUE_CFG_EVAL _) rfl]

theorem Keeps.holding {T : Nat} (h : Keeps T s t) (hT : T.testBit (Part.num .queues) = false) (q : Nat) :
    t.holding q = s.holding q :=
  congrArg (fun m => (Store.get QueueRt.init m q).mark.isSome) (h.same .queues hT)

theorem State.holding_onMark (s : State) (g : Flight → Flight) (q x : Nat) : (s.onMark g q).holding x = s.holding x :=
  (State.onMark_keeps (Parts.le_refl _) (keeps_refl s) g q).holding (by decide) x

theorem State.holding_settle (s : State) (q x : Nat) : (s.settle q).holding x = s.holding x :=
  (State.settle_keeps (Parts.le_refl _) (keeps_refl s) q).holding (by decide) x

theorem State.holding_dropMark_same (s : State) (q : Nat) : (s.dropMark q).holding q = false :=
  congrArg (fun r : QueueRt => r.mark.isSome) (Store.get_set_same ..)

theorem State.holding_dropMark_ne (s : State) {q x : Nat} (hx : x ≠ q) : (s.dropMark q).holding x = s.holding x :=
  congrArg (fun r : QueueRt => r.mark.isSome) (Store.get_set_ne _ _ _ hx)

/-- Steps that each drop the mark of one queue of a list, and no other, leave no queue of the list held. -/
theorem holding_foldl_dropMark {f : State → Nat → State}
    (hsame : ∀ s q, (f s q).holding q = false) (hne : ∀ s q x, x ≠ q → (f s q).holding x = s.holding x)
    (l : List Nat) {x : Nat} (h : x ∈ l ∨ s.holding x = false) : (l.foldl f s).holding x = false := by
  induction l generalizing s with
  | nil => exact h.resolve_left List.not_mem_nil
  | cons q l ih =>
    refine ih ?_
    by_cases hx : x = q
    · exact .inr (hx ▸ hsame s q)
    · exact h.imp (fun hm => (List.mem_cons.1 hm).resolve_left hx) (hne s q x hx).trans

/-! ### The interlude (R287) -/

/-- What the opening and the closing of an interlude may change. -/
def interludeParts : List Part := lineParts ++ [.flights, .queues, .reg .CTX_CFG, .reg .QUE_STAT]

theorem State.getF_closeInterlude_INTERLUDE (s : State) (c : Nat) :
    (s.closeInterlude c).getF (CTX_CFG_INTERLUDE c) = 0 := by
  have hk : Keeps (Parts.of (lineParts ++ [.flights, .queues, .reg .QUE_STAT])) (s.setF (CTX_CFG_INTERLUDE c) 0)
      (s.closeInterlude c) :=
    keeps_foldl _ (keeps_refl _) fun _ _ hs => State.settle_keeps (Parts.within (Parts.le_refl _))
      (State.dropMark_keeps (Parts.within (Parts.le_refl _))
        (State.onMark_keeps (Parts.within (Parts.le_refl _)) hs _ _) _) _
  exact (hk.same (.reg .CTX_CFG) (by decide) _ rfl).trans (s.getF_setF _ 0)

theorem State.holding_closeInterlude (s : State) (c : Nat) {q : Nat} (hq : q ∈ s.trainQs c ++ s.evalQs c) :
    (s.closeInterlude c).holding q = false := by
  have hk : Keeps (Parts.of [.reg .CTX_CFG]) s (s.setF (CTX_CFG_INTERLUDE c) 0) :=
    State.setF_keeps_reg .CTX_CFG (Parts.le_refl _) (keeps_refl s) 0
  refine holding_foldl_dropMark (fun s q => ?_) (fun s q x hx => ?_) _ ?_
  · rw [State.holding_settle, State.holding_dropMark_same]
  · rw [State.holding_settle, State.holding_dropMark_ne _ hx, State.holding_onMark]
  · rw [hk.trainQs (by decide), hk.evalQs (by decide), List.mem_filter]
    cases hm : (s.setF (CTX_CFG_INTERLUDE c) 0).holding q with
    | true => exact .inl ⟨hq, rfl⟩
    | false => exact .inr rfl

/-- The interlude opens: `INTERLUDE` is set, and the training queues' marks have met their barrier. -/
def State.openInterlude (s : State) (c : Nat) : State :=
  ((s.setF (CTX_CFG_INTERLUDE c) 1).trainQs c).foldl (fun s q => s.onMark (fun f => { f with phase := 5 }) q)
    (s.setF (CTX_CFG_INTERLUDE c) 1)

theorem State.openInterlude_keeps_setF (s : State) (c : Nat) :
    Keeps (Parts.of (lineParts ++ [.flights])) (s.setF (CTX_CFG_INTERLUDE c) 1) (s.openInterlude c) :=
  keeps_foldl _ (keeps_refl _) fun _ _ hs => State.onMark_keeps (Parts.le_refl _) hs _ _

theorem State.getF_openInterlude_INTERLUDE (s : State) (c : Nat) :
    (s.openInterlude c).getF (CTX_CFG_INTERLUDE c) = 1 :=
  ((s.openInterlude_keeps_setF c).same (.reg .CTX_CFG) (by decide) _ rfl).trans (s.getF_setF _ 1)

theorem State.openInterlude_keeps (s : State) (c : Nat) :
    Keeps (Parts.of interludeParts) s (s.openInterlude c) :=
  keeps_foldl _ (State.setF_keeps_reg .CTX_CFG (Parts.within (Parts.le_refl _)) (keeps_refl s) 1) fun _ _ hs =>
    State.onMark_keeps (Parts.within (Parts.le_refl _)) hs _ _

/-! ### The counter and the window (R231, R239, R286) -/

/-- The counter moves, and a window may close. -/
def State.stepMoved (s : State) (c : Nat) : State :=
  if s.closesWindow c then (s.setF (CTX_STEP_STEP c) (s.nextStep c)).closeWindow c
  else s.setF (CTX_STEP_STEP c) (s.nextStep c)

/-- What the close of a window may change beside the window's number. -/
def windowParts : List Part :=
  traceParts ++ ringParts ++ lineErrorParts ++ [.decisions, .hostMem, .reg .CTX_GOVDONE, .reg .CTX_GOVSTAT]

theorem State.closeWindow_keeps_incF (s : State) (c : Nat) :
    Keeps (Parts.of windowParts) (s.incF (CTX_GOVWIN_WIN c) 1) (s.closeWindow c) := by
  have hk := keeps_refl (T := Parts.of windowParts) (s.incF (CTX_GOVWIN_WIN c) 1)
  have hT := Parts.le_refl windowParts
  have hd := State.decisions_keeps (Parts.within hT) hk
    ((s.incF (CTX_GOVWIN_WIN c) 1).decisions ++ [(c, s.getF (CTX_GOVWIN_WIN c))])
  exact ite_keeps (State.setF_keeps_reg .CTX_GOVDONE (Parts.within hT) hk _)
    (ite_keeps (State.runDecision_keeps (Parts.within hT) hd) hd)

theorem State.stepMoved_keeps (s : State) (c : Nat) : Keeps (Parts.of decisionParts) s (s.stepMoved c) := by
  have hT := Parts.le_refl decisionParts
  have hk := State.setF_keeps_reg (f := CTX_STEP_STEP c) .CTX_STEP (Parts.within hT) (keeps_refl s) (s.nextStep c)
  exact ite_keeps (State.closeWindow_keeps (Parts.within hT) hk c) hk

theorem State.getF_stepMoved_STEP (s : State) (c : Nat) :
    (s.stepMoved c).getF (CTX_STEP_STEP c) = s.nextStep c % 2 ^ 64 := by
  have hset := s.getF_setF (CTX_STEP_STEP c) (s.nextStep c)
  unfold State.stepMoved
  split
  · exact ((State.closeWindow_keeps_incF _ c).same (.reg .CTX_STEP) (by decide) _ rfl).trans
      ((State.getF_setF_num _ _ rfl).trans hset)
  · exact hset

theorem State.getF_stepMoved_WIN (s : State) (c : Nat) : (s.stepMoved c).getF (CTX_GOVWIN_WIN c)
    = if s.closesWindow c then (s.getF (CTX_GOVWIN_WIN c) + 1) % 2 ^ 32 else s.getF (CTX_GOVWIN_WIN c) := by
  have hwin : (s.setF (CTX_STEP_STEP c) (s.nextStep c)).getF (CTX_GOVWIN_WIN c) = s.getF (CTX_GOVWIN_WIN c) :=
    s.getF_setF_num _ rfl
  unfold State.stepMoved
  split
  · rw [(State.closeWindow_keeps_incF _ c).same (.reg .CTX_GOVWIN) (by decide) _ rfl, State.incF, State.getF_setF,
      hwin]
    rfl
  · exact hwin

/-! ### The barrier (R286) -/

theorem State.barrier_of_held {c : Nat} (hw : s.closesWindow c = true) (hd : s.deciding c = true)
    (hl : (s.loads c).length ≤ 1) : s.barrier c = s.setF (CTX_GOVSTAT_OVERRUN c) 1 := by
  simp [State.barrier, hw, hd, hl]

theorem State.barrier_of_free {c : Nat}
    (h : (s.closesWindow c = false ∨ s.deciding c = false) ∨ 1 < (s.loads c).length) :
    s.barrier c = s.actBarrier c := by
  rcases h with (h | h) | h <;> simp [State.barrier, h]

theorem State.actBarrier_of_disagreeing {c : Nat} (hl : 1 < (s.loads c).length) : s.actBarrier c =
    (s.trainQs c).foldl (fun s q => (s.onMark (fun f => { f with errs := [.decodeError] }) q).dropMark q) s :=
  if_pos hl

theorem State.actBarrier_of_agreeing {c : Nat} (hl : (s.loads c).length ≤ 1) : s.actBarrier c =
    if (s.evalQs c).isEmpty then ((s.stepMoved c).openInterlude c).closeInterlude c
    else (s.stepMoved c).openInterlude c := by
  have hq : ((s.stepMoved c).openInterlude c).evalQs c = s.evalQs c :=
    (((s.stepMoved c).openInterlude_keeps c).evalQs (by decide) c).trans ((s.stepMoved_keeps c).evalQs (by decide) c)
  rw [← hq]
  exact if_neg (Nat.not_lt.2 hl)

theorem State.actBarrier_keeps_stepMoved {c : Nat} (hl : (s.loads c).length ≤ 1) :
    Keeps (Parts.of interludeParts) (s.stepMoved c) (s.actBarrier c) := by
  have ho := (s.stepMoved c).openInterlude_keeps c
  rw [State.actBarrier_of_agreeing hl]
  exact ite_keeps (State.closeInterlude_keeps (Parts.le_refl _) ho c) ho

theorem State.getF_actBarrier_INTERLUDE {c : Nat} (hl : (s.loads c).length ≤ 1) :
    (s.actBarrier c).getF (CTX_CFG_INTERLUDE c) = if (s.evalQs c).isEmpty then 0 else 1 := by
  rw [State.actBarrier_of_agreeing hl]
  split
  · exact State.getF_closeInterlude_INTERLUDE _ c
  · exact State.getF_openInterlude_INTERLUDE _ c

theorem State.actBarrier_keeps_of_disagreeing {c : Nat} (hl : 1 < (s.loads c).length) :
    Keeps (Parts.of (lineParts ++ [.flights, .queues])) s (s.actBarrier c) := by
  rw [State.actBarrier_of_disagreeing hl]
  exact keeps_foldl _ (keeps_refl s) fun _ _ hs => State.dropMark_keeps (Parts.within (Parts.le_refl _))
    (State.onMark_keeps (Parts.within (Parts.le_refl _)) hs _ _) _

theorem State.holding_actBarrier_of_disagreeing {c q : Nat} (hl : 1 < (s.loads c).length) (hq : q ∈ s.trainQs c) :
    (s.actBarrier c).holding q = false := by
  rw [State.actBarrier_of_disagreeing hl]
  refine holding_foldl_dropMark (fun s q => State.holding_dropMark_same _ q) (fun s q x hx => ?_) _ (.inl hq)
  rw [State.holding_dropMark_ne _ hx, State.holding_onMark]

theorem exec_stepBarrier {c : Fin 16} (h : s.barrierMet c = true) : exec (.stepBarrier c) s = .next (s.barrier c) :=
  if_pos h

/-- Settles O21: the barrier moves the counter unless a decision step holds it or its marks disagree; a window's close
and the interlude touch neither the counter nor each other's registers. -/
theorem stepBarrierActsOnce : Obligations.StepBarrierActsOnce := by
  refine fun c s hm => ⟨fun hfree hl => ?_, fun hw hd hl => ?_, fun hl => ?_⟩
  · have hk := State.actBarrier_keeps_stepMoved hl
    refine ⟨s.actBarrier c, ?_, ?_, State.getF_actBarrier_INTERLUDE hl, ?_⟩
    · rw [exec_stepBarrier hm, State.barrier_of_free (.inl hfree)]
    · exact (hk.same (.reg .CTX_STEP) (by decide) _ rfl).trans (s.getF_stepMoved_STEP c)
    · exact (hk.same (.reg .CTX_GOVWIN) (by decide) _ rfl).trans (s.getF_stepMoved_WIN c)
  · rw [exec_stepBarrier hm, State.barrier_of_held hw hd hl]
  · have hk := State.actBarrier_keeps_of_disagreeing hl
    refine ⟨s.actBarrier c, ?_, hk.same (.reg .CTX_STEP) (by decide) _ rfl, hk.same (.reg .CTX_CFG) (by decide) _ rfl,
      fun q hq => State.holding_actBarrier_of_disagreeing hl hq⟩
    rw [exec_stepBarrier hm, State.barrier_of_free (.inr hl)]

/-! ### The end of a decision step and of an interlude (R231, R287) -/

/-- The state after the last decision step of all, with no barrier waiting. -/
def State.lastDecided (s : State) (c w : Nat) : State :=
  { s.setFs [(CTX_GOVDONE_DONE_WIN c, w), (CTX_GOVSTAT_BUSY c, 0)] with decisions := [] }

theorem State.endDecision_of_last {c w : Nat} (hd : s.decisions.tail = [])
    (hm : (s.lastDecided c w).barrierMet c = false) : s.endDecision c w = s.lastDecided c w := by
  have ht : (s.setFs [(CTX_GOVDONE_DONE_WIN c, w), (CTX_GOVSTAT_BUSY c, 0)]).decisions.tail = [] := hd
  unfold State.endDecision
  simp only [ht]
  exact if_neg (Bool.not_eq_true _ ▸ hm)

theorem State.getF_lastDecided_DONE_WIN (s : State) (c w : Nat) :
    (s.lastDecided c w).getF (CTX_GOVDONE_DONE_WIN c) = w % 2 ^ 32 :=
  ((s.setF (CTX_GOVDONE_DONE_WIN c) w).getF_setF_num (f := CTX_GOVSTAT_BUSY c) 0 rfl).trans (s.getF_setF _ w)

theorem State.getF_lastDecided_BUSY (s : State) (c w : Nat) : (s.lastDecided c w).getF (CTX_GOVSTAT_BUSY c) = 0 :=
  (s.setF (CTX_GOVDONE_DONE_WIN c) w).getF_setF (CTX_GOVSTAT_BUSY c) 0

theorem exec_decisionStepEnd {c : Fin 16} {w : Nat} {l : List (Nat × Nat)} (hr : s.running = true)
    (hd : s.decisions = (c.val, w) :: l) : exec (.decisionStepEnd c) s = .next (s.endDecision c w) := by
  change execDecisionStepEnd c s = _
  simp [execDecisionStepEnd, hd, onlyIf, hr]

theorem exec_interludeClose {c : Fin 16} (h : s.interludeDone c = true) :
    exec (.interludeClose c) s = .next (s.closeInterlude c) :=
  if_pos h

/-- Settles O22: the end of the last decision step writes `DONE_WIN` and `BUSY` alone, and the close of the interlude
drops the mark of every queue of the context. -/
theorem decisionAndInterludeEnd : Obligations.DecisionAndInterludeEnd := by
  refine ⟨fun c w s hr hd => ?_, fun c s hi => ⟨s.closeInterlude c, exec_interludeClose hi,
    s.getF_closeInterlude_INTERLUDE c, fun q hq => s.holding_closeInterlude c hq⟩⟩
  intro u hm
  have hend : s.endDecision c w = u := State.endDecision_of_last (by rw [hd]; rfl) hm
  exact ⟨hend ▸ exec_decisionStepEnd hr hd, s.getF_lastDecided_DONE_WIN c w, s.getF_lastDecided_BUSY c w⟩

end Sys2Proof.Machine

/-! The frame of the commands of the queues and their engines: every part that a command's frame does not list is as
before (R260). -/

namespace Sys2Proof.Machine

open Sys2Proof

/-- The parts that are no registers, in the order of their bits. -/
def plainParts : List Part :=
  [.dram, .badLines, .hostMem, .nvm, .mbReq, .mbResp, .tlb, .queues, .flights, .accNext, .arena, .decisions, .coll,
    .flue, .topology, .ports, .stackPorts, .bays, .damper, .hearths, .trace, .recov, .link, .filter, .pba, .watch,
    .atc, .seval, .fuses, .burn, .stoker, .power, .irqs, .reply, .free, .d2dCorr]

/-- A part by its bit. -/
def Part.ofNum (n : Nat) : Option Part := if n < 36 then plainParts[n]? else (Reg.ofNum (n - 36)).map Part.reg

theorem Part.ofNum_num (p : Part) : Part.ofNum p.num = some p := by
  cases p with
  | reg r =>
    have hr : ¬ 36 + r.num < 36 := by omega
    rw [Part.num, Part.ofNum, if_neg hr, Nat.add_sub_cancel_left, Reg.ofNum_num]
    rfl
  | _ => rfl

theorem Part.num_inj {p r : Part} (h : p.num = r.num) : p = r :=
  Option.some.inj ((Part.ofNum_num p).symm.trans ((congrArg Part.ofNum h).trans (Part.ofNum_num r)))

/-- A set of parts holds the bits of its own parts and no other. -/
theorem Parts.testBit_of_not_mem {l : List Part} {p : Part} (h : p ∉ l) : (Parts.of l).testBit p.num = false := by
  induction l with
  | nil => exact Nat.zero_testBit _
  | cons r l ih =>
    obtain ⟨hr, hl⟩ := not_or.1 (mt List.mem_cons.2 h)
    rw [Parts.of, Nat.testBit_or, ih hl, Nat.testBit_two_pow_of_ne fun e => hr (Part.num_inj e.symm), Bool.or_false]

/-- No command of the queues writes a part beside its frame. -/
theorem execParts_of_queue {c : Instr} (h : (frameOf c).1 = .queue) : execParts c = (frameOf c).2 := by
  unfold execParts
  split
  · cases h
  · rfl

/-- Settles O8: a command changes the parts of its frame alone. -/
theorem queueSideFrame : Obligations.QueueSideFrame := by
  intro c s t p hc he hp
  have hk := exec_keeps (Parts.le_refl _) (keeps_refl s) t he
  exact hk.same p (Parts.testBit_of_not_mem (execParts_of_queue hc ▸ hp))

end Sys2Proof.Machine

/-! The start of a head command: it takes its place in flight with its plan, or it holds (R248, R256, R258, R266,
R476). -/

namespace Sys2Proof.Machine

open Sys2Proof

variable {s : State} {q : Nat} {ws : List Byte}

/-! ### A start that is accepted -/

/-- What an accepted start may change before its launch: neither the queue's head nor the commands in flight. -/
def preparedParts : List Part :=
  traceParts ++ [.accNext, .atc, .coll, .flue, .hostMem, .queues, .reg .FLU_RED, .tlb]

/-- An accepted start prepares its segment, its entries and its mark, and then launches the command; a mark that holds
shows its queue STEP_HELD. -/
theorem State.startAccepted_launch (s : State) (q : Nat) (ws : List Byte) (plan : Plan) : ∃ (u : State) (f : Flight),
    Keeps (Parts.of preparedParts) s u
      ∧ (f.q = q ∧ f.n = s.headIdx q ∧ f.words = ws ∧ f.plan = plan ∧ f.errs = [])
      ∧ (s.startAccepted q ws plan = u.launch f ∨ s.startAccepted q ws plan = (u.launch f).setQState q qStepHeld) := by
  have hT := Parts.le_refl preparedParts
  unfold State.startAccepted
  extract_lets n c eval s1 f keys resume first acted holds f1 s2 s3 r s4 s5 r1 s6 s7
  have hs2 : Keeps _ s s2 :=
    State.accNext_keeps (Parts.within hT) (State.cachePages_keeps (Parts.within hT) (keeps_refl s) _ _) _
  have hs3 : Keeps _ s s3 := keeps_foldl _ hs2 fun _ _ hs => State.writeFolds_keeps (Parts.within hT) hs _ _ _
  have hs4 : Keeps _ s s4 := ite_keeps (State.setQueue_keeps (Parts.within hT) hs3 _ _) hs3
  have hs5 : Keeps (Parts.of preparedParts) s s5 := by
    unfold s5
    split
    · exact State.addSat_keeps_reg .FLU_RED (Parts.within hT) (State.coll_keeps (Parts.within hT)
        (State.newTag_keeps (Parts.within hT) hs4) _) _
    · exact hs4
  have hs6 : Keeps _ s s6 := ite_keeps (State.setQueue_keeps (Parts.within hT) hs5 _ _) hs5
  refine ⟨s6, f1, hs6, ⟨rfl, rfl, rfl, rfl, rfl⟩, ?_⟩
  split
  · exact .inr rfl
  · exact .inl rfl

theorem State.headIdx_startAccepted (s : State) (q : Nat) (ws : List Byte) (plan : Plan) :
    (s.startAccepted q ws plan).headIdx q = (s.headIdx q + 1) % 2 ^ 48 := by
  obtain ⟨u, f, -, ⟨rfl, hn, -⟩, h | h⟩ := s.startAccepted_launch q ws plan
  · rw [h, State.headIdx_launch, hn]
  · rw [h, State.headIdx_setQState, State.headIdx_launch, hn]

theorem State.flights_startAccepted (s : State) (q : Nat) (ws : List Byte) (plan : Plan) :
    ∃ f, (s.startAccepted q ws plan).flights = s.flights ++ [f] ∧ f.q = q ∧ f.n = s.headIdx q ∧ f.words = ws
      ∧ f.plan = plan ∧ f.errs = [] := by
  obtain ⟨u, f, hk, hf, h⟩ := s.startAccepted_launch q ws plan
  have hu : u.flights = s.flights := hk.same .flights (by decide)
  refine ⟨u.launched f, ?_, hf⟩
  rw [← hu, ← State.flights_launch]
  rcases h with h | h <;> rw [h]
  rfl

/-! ### The head of a queue that is due -/

/-- A barrier whose queue has no earlier command does not hold (R258). -/
theorem State.barrier_clear (h : isBarrier (cOpc ws) = true → s.flightsOf q = []) :
    (isBarrier (cOpc ws) && !(s.flightsOf q).isEmpty) = false := by
  cases hb : isBarrier (cOpc ws) with
  | false => rfl
  | true => simp [h hb]

theorem State.startHead_behind (hb : isBarrier (cOpc ws) = true) (hf : s.flightsOf q ≠ []) :
    s.startHead q ws = s := by
  simp [State.startHead, hb, hf]

theorem State.startHead_waits (hb : isBarrier (cOpc ws) = true → s.flightsOf q = []) (hw : s.waitHolds q ws = true) :
    s.startHead q ws = s.setQState q qWaiting := by
  simp [State.startHead, State.barrier_clear hb, hw]

theorem State.startHead_checked {plan : Plan} (hb : isBarrier (cOpc ws) = true → s.flightsOf q = [])
    (hw : s.waitHolds q ws = false) (hc : s.startCheck q ws = .ok plan) :
    s.startHead q ws = if s.accHolds q ws plan then s else s.startAccepted q ws plan := by
  simp [State.startHead, State.barrier_clear hb, hw, hc]

/-! ### The rows -/

theorem State.startRow_not_due (p : Nat → Bool) (h : s.due q = false) : s.startRow q p = s := by
  simp [State.startRow, h]

theorem State.startRow_other {p : Nat → Bool} (hd : s.due q = true) (hw : s.fetchCmd q (s.headIdx q) = .ok ws)
    (hp : p (cOpc ws) = false) : s.startRow q p = s := by
  simp [State.startRow, hd, hw, hp]

/-- A row that leaves the head where it is does nothing more. -/
theorem State.issue_of_held {u : State} {p : Nat → Bool} (hu : s.startRow q p = u)
    (hh : u.headIdx q = s.headIdx q) : s.issue q p = u := by
  subst hu
  exact if_pos hh

/-- Settles O12: the row's start is an accepted one, which launches the command with its plan. -/
theorem opcodeRowStartsHead : Obligations.OpcodeRowStartsHead := by
  intro c q p s ws plan hr hd hf hp hb hw hc ha u
  have hu : u.headIdx q = (s.headIdx q + 1) % 2 ^ 48 := s.headIdx_startAccepted q ws plan
  have hrow : s.startRow q p = u := by
    rw [State.startRow_read hd hf hp, State.startHead_checked hb hw hc, ha]
    rfl
  refine ⟨?_, hu, s.flights_startAccepted q ws plan⟩
  rw [exec_opcodeRow hr, State.issue_of_startRow hrow hu]

/-- Settles O13: in each case the row leaves the head where it is; a wait that holds shows the queue WAITING. That a
row of another opcode does nothing is the model's choice (log entry 9). -/
theorem opcodeRowHolds : Obligations.OpcodeRowHolds := by
  intro c q p s hr
  simp only [exec_opcodeRow hr]
  refine ⟨fun hd => ?_, fun ws hd hf =>
    ⟨fun hp => ?_, fun hp hb hfl => ?_, fun hp hb hw => ?_, fun plan hp hb hw hc ha => ?_⟩⟩
  · rw [State.issue_of_held (State.startRow_not_due p hd) rfl]
  · rw [State.issue_of_held (State.startRow_other hd hf hp) rfl]
  · rw [State.issue_of_held ((State.startRow_read hd hf hp).trans (State.startHead_behind hb hfl)) rfl]
  · rw [State.issue_of_held ((State.startRow_read hd hf hp).trans (State.startHead_waits hb hw))
      (State.headIdx_setQState ..)]
  · have hrow : s.startRow q p = s := by
      rw [State.startRow_read hd hf hp, State.startHead_checked hb hw hc, ha]
      rfl
    rw [State.issue_of_held hrow rfl]

end Sys2Proof.Machine

/-! The watch line: the tail that a parked queue takes, and the halt of a queue (R252, R285, R515). -/

namespace Sys2Proof.Machine

open Sys2Proof

variable {s : State} {q a : Nat}

/-! ### A queue that halts (R285) -/

/-- Before its registers say so, a halt adds to the queue's fault object. -/
theorem State.haltQueue_eq (s : State) (q : Nat) : ∃ u : State, Keeps (Parts.of (triggerParts ++ [.reg .SYNC])) s u
    ∧ s.haltQueue q = (u.setF (QUE_CTL_HALT q) 1).setQState q qHalted :=
  ⟨_, ite_keeps (State.syncAdd_keeps (Parts.le_refl _) (keeps_refl s) ..) (keeps_refl s), rfl⟩

@[simp] theorem State.getF_haltQueue_HALT (s : State) (q : Nat) : (s.haltQueue q).getF (QUE_CTL_HALT q) = 1 := by
  obtain ⟨u, -, h⟩ := s.haltQueue_eq q
  rw [h]
  exact (State.getF_setF_num _ _ rfl).trans (u.getF_setF _ 1)

@[simp] theorem State.getF_haltQueue_STATE (s : State) (q : Nat) :
    (s.haltQueue q).getF (QUE_STAT_STATE q) = qHalted := by
  obtain ⟨u, -, h⟩ := s.haltQueue_eq q
  rw [h]
  exact State.getF_setF _ (QUE_STAT_STATE q) qHalted

@[simp] theorem State.getF_haltQueue_LAST_STATUS (s : State) (q : Nat) :
    (s.haltQueue q).getF (QUE_STAT_LAST_STATUS q) = s.getF (QUE_STAT_LAST_STATUS q) := by
  obtain ⟨u, hk, h⟩ := s.haltQueue_eq q
  rw [h]
  calc ((u.setF (QUE_CTL_HALT q) 1).setQState q qHalted).getF (QUE_STAT_LAST_STATUS q)
    _ = (u.setF (QUE_CTL_HALT q) 1).getF (QUE_STAT_LAST_STATUS q) := State.getF_setF_lo _ _ rfl
    _ = u.getF (QUE_STAT_LAST_STATUS q) := State.getF_setF_num _ _ rfl
    _ = s.getF (QUE_STAT_LAST_STATUS q) := hk.same (.reg .QUE_STAT) (by decide) _ rfl

@[simp] theorem State.flights_haltQueue (s : State) (q : Nat) : (s.haltQueue q).flights = s.flights :=
  (State.haltQueue_keeps (Parts.le_refl _) (keeps_refl s) q).same .flights (by decide)

/-- An interrupt reaches no register of a queue. -/
theorem State.getF_queueIrq (s : State) (q : Nat) (f : Fld) : (s.queueIrq q).getF f = s.getF f :=
  (State.queueIrq_keeps (Parts.le_refl _) (keeps_refl s) q).same (.reg f.reg)
    (Parts.testBit_of_not_mem (by simp [irqParts])) f rfl

/-! ### A tail that breaks its rule -/

/-- The queue halts with DECODE_ERROR and nothing new in flight (R252). -/
theorem State.badTail_halts (s : State) (q : Nat) :
    (s.badTail q).getF (QUE_CTL_HALT q) = 1 ∧ (s.badTail q).getF (QUE_STAT_STATE q) = qHalted
      ∧ (s.badTail q).getF (QUE_STAT_LAST_STATUS q) = 0x20 ∧ (s.badTail q).flights = s.flights := by
  have hst : (s.setF (QUE_STAT_LAST_STATUS q) Status.decodeError.code).getF (QUE_STAT_LAST_STATUS q) = 0x20 :=
    s.getF_setF _ _
  refine ⟨?_, ?_, ?_, (State.badTail_keeps (Parts.le_refl _) (keeps_refl s) q).same .flights (by decide)⟩
  · rw [State.badTail, State.getF_queueIrq, State.getF_haltQueue_HALT]
  · rw [State.badTail, State.getF_queueIrq, State.getF_haltQueue_STATE]
  · rw [State.badTail, State.getF_queueIrq, State.getF_haltQueue_LAST_STATUS, hst]

theorem State.takeWatch_good {tail cqHead : Nat} (hlo : (s.queue q).tail ≤ tail) (hhi : tail ≤ s.headIdx q + 2 ^ 47) :
    s.takeWatch q tail cqHead
      = ((s.setQueue q { s.queue q with tail := tail, cqHead := cqHead }).settle q).issueUnreadable q := by
  refine if_neg fun h => ?_
  rw [Bool.or_eq_true, decide_eq_true_eq, decide_eq_true_eq] at h
  omega

theorem State.takeWatch_bad {tail cqHead : Nat} (h : tail < (s.queue q).tail ∨ s.headIdx q + 2 ^ 47 < tail) :
    s.takeWatch q tail cqHead = s.badTail q :=
  if_pos (by rwa [Bool.or_eq_true, decide_eq_true_eq, decide_eq_true_eq])

/-! ### The read of a watch line in device memory -/

theorem State.holdWatch_device (h : s.watchAt q = some (.device, a)) : s.holdWatch q = s := by
  simp [State.holdWatch, h]

section
variable (hl : s.live q = true) (hc : s.rangeCheck (s.ctxOf q) (s.watchVA q) 64 false = .ok)
include hl hc

theorem State.readWatch_uncorrectable {pa : Nat} (hb : s.rangeBad (s.ctxOf q) (s.watchVA q) 64 = some pa) :
    s.readWatch q = s.ueFound pa false (s.ctxOf q) := by
  simp [State.readWatch, hl, hc, hb]

variable (hw : s.watchAt q = some (.device, a)) (hb : s.rangeBad (s.ctxOf q) (s.watchVA q) 64 = none)
include hw hb

theorem State.readWatch_otherEpoch
    (he : rdNat (s.vbyte (s.ctxOf q)) (s.watchVA q + 6) 2 ≠ s.getF (QUE_PTR_EPOCH q 1)) : s.readWatch q = s := by
  simp [State.readWatch, hl, hc, hb, he, State.holdWatch_device hw]

theorem State.readWatch_epoch
    (he : rdNat (s.vbyte (s.ctxOf q)) (s.watchVA q + 6) 2 = s.getF (QUE_PTR_EPOCH q 1)) :
    s.readWatch q = s.takeWatch q (rdNat (s.vbyte (s.ctxOf q)) (s.watchVA q) 6)
      (rdNat (s.vbyte (s.ctxOf q)) (s.watchVA q + 8) 6) := by
  simp [State.readWatch, hl, hc, hb, he, State.holdWatch_device hw]

end

/-! ### WATCH_LINE_POLL -/

theorem exec_watchLinePoll {q : Fin 64} (hr : s.running = true) (hl : s.live q = true)
    (hp : s.getF (QUE_STAT_STATE q) = qParked) (hw : s.watchAt q = some (.device, a)) :
    exec (.watchLinePoll q) s = .next (s.readWatch q) := by
  change execWatchLinePoll q s = _
  simp [execWatchLinePoll, onlyIf, hr, hl, hp, hw]

/-- Settles O15: the poll reads the line; an epoch that is the queue's own has its tail taken, or the queue halts.
That an uncorrectable line is reported and not taken is the model's reading (log entry 15). -/
theorem watchLinePollTakesTail : Obligations.WatchLinePollTakesTail := by
  intro q s a hr hl hp hw hc
  rw [exec_watchLinePoll hr hl hp hw]
  refine ⟨fun pa hb => ?_, fun hb => ⟨fun he => ?_, fun he hlo hhi => ?_, fun he hbad => ?_⟩⟩
  · rw [State.readWatch_uncorrectable hl hc hb]
  · rw [State.readWatch_otherEpoch hl hc hw hb he]
  · rw [State.readWatch_epoch hl hc hw hb he, State.takeWatch_good hlo hhi]
  · exact ⟨s.badTail q, by rw [State.readWatch_epoch hl hc hw hb he, State.takeWatch_bad hbad], s.badTail_halts q⟩

end Sys2Proof.Machine

/-! The limit of a wait (R266): the head command that waits, and the mark that holds its queue. -/

namespace Sys2Proof.Machine

open Sys2Proof

variable {s : State} {q : Nat}

/-! ### The head command that waits -/

theorem exec_waitTimeout_head {q : Fin 64} {ws : List Byte} (h : s.waitingHead q = some ws) :
    exec (.waitTimeout q) s = .next (s.startRejected q ws (.timeout, none)) := by
  change execWaitTimeout q s = _
  simp [execWaitTimeout, h]

/-- A rejected start puts its command in flight with the status, and changes no sync object. -/
theorem State.startRejected_flight (s : State) (q : Nat) (ws : List Byte) (e : Status × Option Nat) :
    ∃ g, (s.startRejected q ws e).flights = s.flights ++ [g] ∧ g.q = q ∧ g.n = s.headIdx q ∧ g.errs = [e.1]
      ∧ g.plan = .control ∧ ∀ n, (s.startRejected q ws e).sync n = s.sync n := by
  obtain ⟨-, hsync, hfl⟩ := launch_reported (s.startRejected_keeps_launch q ws e)
  exact ⟨_, hfl, rfl, rfl, rfl, rfl, hsync⟩

/-! ### The mark that holds -/

/-- The mark that holds a queue is one of its commands in flight. -/
theorem State.heldMark_mem {f : Flight} (h : s.heldMark q = some f) : f ∈ s.flights ∧ f.q = q := by
  unfold State.heldMark at h
  split at h
  · simpa [State.flightsOf] using List.mem_of_find?_eq_some h
  · cases h

/-- A command in flight is found by its queue and number. -/
theorem State.flight?_of_mem {f : Flight} (h : f ∈ s.flights) : ∃ g, s.flight? f.q f.n = some g :=
  Option.isSome_iff_exists.1 (List.find?_isSome.2 ⟨f, h, by simp⟩)

/-- The queue of a mark whose wait has ended: the mark is gone, and its command ends TIMEOUT. -/
def State.markTimedOut (s : State) (q : Nat) (f : Flight) : State :=
  (s.setQueue q { s.queue q with mark := none }).putFlight { f with errs := [.timeout] }

theorem exec_waitTimeout_mark {q : Fin 64} {f : Flight} (hw : s.waitingHead q = none) (hm : s.heldMark q = some f) :
    exec (.waitTimeout q) s = .next (s.markTimedOut q f) := by
  change execWaitTimeout q s = _
  simp [execWaitTimeout, hw, hm, State.markTimedOut]

theorem State.mark_markTimedOut (s : State) (q : Nat) (f : Flight) : ((s.markTimedOut q f).queue q).mark = none := by
  have hk := State.putFlight_keeps (Parts.le_refl _) (keeps_refl (s.setQueue q { s.queue q with mark := none }))
    { f with errs := [.timeout] }
  have hq : (s.markTimedOut q f).queues = (s.setQueue q { s.queue q with mark := none }).queues :=
    hk.same .queues (by decide)
  rw [State.queue, hq, State.setQueue, Store.get_set_same]

theorem State.flight?_markTimedOut {f : Flight} (h : s.heldMark q = some f) :
    (s.markTimedOut q f).flight? q f.n = some { f with errs := [.timeout] } := by
  obtain ⟨hf, rfl⟩ := State.heldMark_mem h
  obtain ⟨g, hg⟩ := State.flight?_of_mem hf
  exact State.flight?_putFlight (g := { f with errs := [.timeout] }) hg

theorem exec_waitTimeout_none {q : Fin 64} (hw : s.waitingHead q = none) (hm : s.heldMark q = none) :
    exec (.waitTimeout q) s = .next s := by
  change execWaitTimeout q s = _
  simp [execWaitTimeout, hw, hm]

/-- Settles O20: a waiting head is rejected with TIMEOUT, and a mark that holds is dropped with it. The time that has
passed is the event's (log entry 38). -/
theorem waitTimeoutEndsWait : Obligations.WaitTimeoutEndsWait := by
  refine fun q s => ⟨fun ws hw => ?_, fun f hw hm => ?_, exec_waitTimeout_none⟩
  · obtain ⟨g, hg⟩ := s.startRejected_flight q ws (.timeout, none)
    exact ⟨_, g, exec_waitTimeout_head hw, hg⟩
  · exact ⟨_, _, exec_waitTimeout_mark hw hm, s.mark_markTimedOut q f, State.flight?_markTimedOut hm, rfl⟩

end Sys2Proof.Machine

/-! Sync objects, and the host's writes of them and of the page-table base (R261, R263, R378, R398, R509). -/

namespace Sys2Proof.Machine

open Sys2Proof

variable {s : State}

/-! ### Sync objects (R261) -/

theorem State.sync_setF_ne (s : State) {n m : Nat} (v : Nat) (h : m % 8192 ≠ n % 8192) :
    (s.setF (SYNC_VALUE n) v).sync m = s.sync m :=
  s.getF_setF_ne v (Fld.key_ne_of_i h)

/-- After its write of the object a signal leaves a trace record, and perhaps a trigger. -/
theorem State.signalObj_keeps_setF (s : State) (n inc sub c q : Nat) :
    Keeps (Parts.of triggerParts) (s.setF (SYNC_VALUE n) (s.sync n + inc)) (s.signalObj n inc sub c q) := by
  have hT := Parts.le_refl triggerParts
  have hk := State.traceRec_keeps (Parts.within hT) (keeps_refl (s.setF (SYNC_VALUE n) (s.sync n + inc))) 4 sub c q n
    ((s.setF (SYNC_VALUE n) (s.sync n + inc)).sync n)
  exact ite_keeps (State.trigger_keeps hT hk _ _) hk

theorem State.sync_signalObj {n inc : Nat} (h : s.sync n + inc < 2 ^ 64) (sub c q : Nat) :
    (s.signalObj n inc sub c q).sync n = s.sync n + inc :=
  ((s.signalObj_keeps_setF n inc sub c q).sync (by decide) n).trans ((s.getF_setF _ _).trans (Nat.mod_eq_of_lt h))

theorem State.sync_signalObj_ne (s : State) {n m : Nat} (h : m % 8192 ≠ n % 8192) (inc sub c q : Nat) :
    (s.signalObj n inc sub c q).sync m = s.sync m :=
  ((s.signalObj_keeps_setF n inc sub c q).sync (by decide) m).trans (s.sync_setF_ne _ h)

theorem State.syncAdd_of_fits {n inc : Nat} (h : s.sync n + inc < 2 ^ 64) (sub c q : Nat) :
    s.syncAdd n inc sub c q = s.signalObj n inc sub c q :=
  if_neg (by simpa [State.syncOver] using h)

theorem State.syncAdd_of_carries {n inc : Nat} (h : 2 ^ 64 ≤ s.sync n + inc) (sub c q : Nat) :
    s.syncAdd n inc sub c q = s :=
  if_pos (decide_eq_true h)

theorem State.sync_syncAdd_ne (s : State) {n m : Nat} (h : m % 8192 ≠ n % 8192) (inc sub c q : Nat) :
    (s.syncAdd n inc sub c q).sync m = s.sync m := by
  unfold State.syncAdd
  split
  · rfl
  · exact s.sync_signalObj_ne h inc sub c q

/-! ### The host's writes -/

theorem exec_syncObjectWrite_pf0 (h : s.pf0Open 0x100000 = true) (n : Fin 8192) (v : BitVec 64) :
    exec (.syncObjectWrite .pf0 n v) s = .next (s.setF (SYNC_VALUE n) v.toNat) :=
  congrArg Host.Outcome.next (State.pf0Write_open h _)

theorem exec_syncObjectWrite_vf (h : s.pf0Open 0x100000 = true) (c : Fin 16) (n : Fin 8192) (v : BitVec 64) :
    exec (.syncObjectWrite (.vf c) n v) s
      = .next (if s.vfOn c && s.vfSees c n then s.setF (SYNC_VALUE n) v.toNat else s) :=
  congrArg Host.Outcome.next (State.pf0Write_open h _)

theorem exec_pageTableBaseWrite (h : s.pf0Open 0x20060 = true) (c : Fin 16) (v : BitVec 64) :
    exec (.pageTableBaseWrite c v) s = .next (s.setPtb c v.toNat) :=
  congrArg Host.Outcome.next (State.pf0Write_open h _)

theorem State.getF_setPtb (s : State) (c value : Nat) :
    (s.setPtb c value).getF (CTX_PTB_BASE c) = value / 2 ^ 21 % 2 ^ 19 :=
  State.getF_setF _ (CTX_PTB_BASE c) _

theorem State.tlb_setPtb (s : State) (c value k : Nat) :
    (s.setPtb c value).tlb.find? k = if k / 2 ^ 27 = c then none else s.tlb.find? k := by
  calc (s.setPtb c value).tlb.find? k
    _ = if k / 2 ^ 27 != c then s.tlb.find? k else none := Store.find?_filter s.tlb (fun x => x / 2 ^ 27 != c) k
    _ = if k / 2 ^ 27 = c then none else s.tlb.find? k := by simp

/-- Settles O24: an addition is a signal or nothing, each write of an object is one of its field, and a write of the
base filters the cached translations. -/
theorem hostWritesOfSyncAndTables : Obligations.HostWritesOfSyncAndTables := by
  refine ⟨fun s n inc sub c q hn => ⟨fun h => ?_, fun h => State.syncAdd_of_carries h sub c q, fun m hm hne => ?_⟩,
    fun n v c s hp => ⟨exec_syncObjectWrite_pf0 hp n v, ?_, fun m hne => ?_, fun hon hsees => ?_, fun hsees => ?_⟩,
    fun c v s hp => ⟨_, exec_pageTableBaseWrite hp c v, s.getF_setPtb c _, s.tlb_setPtb c _⟩⟩
  · rw [State.syncAdd_of_fits h, State.sync_signalObj h]
  · exact s.sync_syncAdd_ne (by omega) inc sub c q
  · exact (s.getF_setF _ _).trans (Nat.mod_eq_of_lt v.isLt)
  · exact s.sync_setF_ne _ (by omega)
  · rw [exec_syncObjectWrite_vf hp, hon, hsees]
    rfl
  · rw [exec_syncObjectWrite_vf hp, hsees, Bool.and_false]
    rfl

end Sys2Proof.Machine

/-! Remote signals: what their destination does with them, and what the acknowledgement does at their source (R261,
R264, R356). -/

namespace Sys2Proof.Machine

open Sys2Proof

variable {s u : State} {pk : Packet}

/-! ### A packet is taken whether or not the endpoint accepts packets (R365) -/

theorem Keeps.accepting {T : Nat} {s t : State} (h : Keeps T s t) (hT : T.testBit (Part.num .flue) = false) :
    t.flue.accepting = s.flue.accepting := by
  have hf := h.same .flue hT
  dsimp only [Part.same] at hf
  rw [hf]

theorem State.accepting_setPort (s : State) (p : Nat) (r : PortRt) :
    (s.setPort p r).flue.accepting = s.flue.accepting := rfl

theorem State.accepting_putFrame (s : State) (p : Nat) (f : Nat × Nat × List (Packet × Nat)) :
    (s.putFrame p f).flue.accepting = s.flue.accepting := by
  unfold State.putFrame
  extract_lets s1
  change s1.flue.accepting = _
  unfold s1
  split <;> rfl

theorem State.accepting_countFlits (s : State) (code p frames : Nat) :
    (s.countFlits code p frames).flue.accepting = s.flue.accepting :=
  (State.gcount_keeps (Parts.le_refl _) (keeps_refl s) _ _).accepting (by decide)

theorem State.accepting_newFrame (s : State) (p : Nat) (l : List (Packet × Nat)) :
    (s.newFrame p l).flue.accepting = s.flue.accepting := by
  rw [State.newFrame, State.accepting_countFlits, State.accepting_putFrame, State.accepting_setPort]

theorem State.accepting_sendLocal (s : State) (p ty : Nat) (args : List Nat) :
    (s.sendLocal p ty args).flue.accepting = s.flue.accepting := by
  rw [State.sendLocal, State.fillFrame, State.accepting_newFrame, State.accepting_setPort, State.accepting_setPort]

theorem State.accepting_reportCredit (s : State) (p : Nat) : (s.reportCredit p).flue.accepting = s.flue.accepting := by
  rw [State.reportCredit, State.accepting_sendLocal, State.accepting_setPort]

theorem State.freeFlits_cases (s : State) (p : Nat) (pk : Packet) :
    s.freeFlits p pk = s ∨ ∃ r, s.freeFlits p pk = s.setPort p r
      ∨ s.freeFlits p pk = (s.setPort p r).reportCredit p := by
  unfold State.freeFlits
  split
  · exact .inl rfl
  · extract_lets r r' s1
    split
    · exact .inr ⟨r', .inr rfl⟩
    · exact .inr ⟨r', .inl rfl⟩

theorem State.accepting_freeFlits (s : State) (p : Nat) (pk : Packet) :
    (s.freeFlits p pk).flue.accepting = s.flue.accepting := by
  obtain h | ⟨r, h | h⟩ := s.freeFlits_cases p pk
  · rw [h]
  · rw [h, State.accepting_setPort]
  · rw [h, State.accepting_reportCredit, State.accepting_setPort]

theorem State.accepting_arrival {p ty : Nat} {kind : Packet → Bool} (h : s.arrival p ty kind = some (pk, u)) :
    u.flue.accepting = s.flue.accepting := by
  unfold State.arrival State.takeFront State.takeFirst at h
  extract_lets v r s1 at h
  split at h
  · obtain ⟨y, hy, hu⟩ := Option.map_eq_some_iff.1 h
    split at hy
    · split at hy
      · obtain ⟨x, -, rfl⟩ := Option.map_eq_some_iff.1 hy
        cases hu
        exact State.accepting_freeFlits ..
      · cases hy
    · cases hy
  · cases h

/-- What arrives at an endpoint that accepts packets is delivered. -/
theorem State.deliver_arrival {p ty : Nat} {kind : Packet → Bool} (ha : s.flue.accepting = true)
    (h : s.arrival p ty kind = some (pk, u)) (f : State → Packet → State) :
    s.deliver p ty kind f = .next (f u pk) := by
  have hu : u.flue.accepting = true := (State.accepting_arrival h).trans ha
  simp [State.deliver, h, hu]

/-! ### At the destination (R264) -/

/-- A signal is allowed when its context is enabled and allows it, its job is the context's, and the object lies in the
context's range. -/
theorem State.signalOk_iff : u.signalOk pk = true ↔ u.getF (CTX_CFG_EN pk.dctx) ≠ 0
    ∧ u.getF (CTX_SYNC_REMOTE_OK pk.dctx) ≠ 0 ∧ pk.job = u.getF (CTX_CFG_JOB pk.dctx)
    ∧ u.getF (CTX_SYNC_BASE pk.dctx) ≤ pk.args.getD 0 0
    ∧ pk.args.getD 0 0 < u.getF (CTX_SYNC_BASE pk.dctx) + u.getF (CTX_SYNC_COUNT pk.dctx) := by
  simp [State.signalOk, State.flag, State.syncIn, and_assoc]

theorem State.takeSignal_refused (h : u.signalOk pk = false) :
    u.takeSignal pk = u.inject (u.answer pk tySignalAck [sigRefused] []) := by
  simp [State.takeSignal, h]

theorem State.takeSignal_carries (h : u.signalOk pk = true)
    (hc : 2 ^ 64 ≤ u.sync (pk.args.getD 0 0) + pk.args.getD 1 0) :
    u.takeSignal pk = u.inject (u.answer pk tySignalAck [sigCarried] []) := by
  have ho : u.syncOver (pk.args.getD 0 0) (pk.args.getD 1 0) = true := decide_eq_true hc
  simp only [State.takeSignal, h, ho, Bool.not_true, Bool.false_eq_true, if_false, if_true]

theorem State.takeSignal_fits (h : u.signalOk pk = true) (hf : u.sync (pk.args.getD 0 0) + pk.args.getD 1 0 < 2 ^ 64) :
    let v := u.signalObj (pk.args.getD 0 0) (pk.args.getD 1 0) 2 pk.dctx 0
    u.takeSignal pk = v.inject (v.answer pk tySignalAck [sigAccepted] []) := by
  have ho : u.syncOver (pk.args.getD 0 0) (pk.args.getD 1 0) = false := decide_eq_false (Nat.not_le.2 hf)
  simp only [State.takeSignal, h, ho, Bool.not_true, Bool.false_eq_true, if_false]

/-! ### At the source (R264, R356) -/

theorem State.takeSignalAck_unowned (h : u.owner? pk.ptag = none) : u.takeSignalAck pk = u := by
  simp [State.takeSignalAck, h]

section
variable {f : Flight} {r : Remote} (h : u.owner? pk.ptag = some (f, r))
include h

theorem State.takeSignalAck_accepted (ha : pk.args.getD 0 0 = sigAccepted) :
    u.takeSignalAck pk = u.putFlight { f.without r.tag with ready := true } := by
  simp only [State.takeSignalAck, h, ha, if_true]

theorem State.takeSignalAck_refused (ha : pk.args.getD 0 0 = sigRefused) :
    u.takeSignalAck pk = u.endRemote f r .accessFault := by
  simp only [State.takeSignalAck, h, ha]
  rfl

theorem State.takeSignalAck_carried (ha : pk.args.getD 0 0 = sigCarried) :
    u.takeSignalAck pk = u.endRemote f r .syncRange := by
  simp only [State.takeSignalAck, h, ha]
  rfl

end

/-- A command that runs no tile ends with the status of its packet. -/
theorem State.endRemote_idle {f : Flight} (h : f.running = []) (r : Remote) (st : Status) :
    u.endRemote f r st = u.putFlight { f.without r.tag with errs := f.errs ++ [st] } := by
  simp [State.endRemote, h]

/-- Settles O43: a signal that arrives is taken by its case, and so is its acknowledgement. The codes of type fields are
the model's choice (log entry 12). -/
theorem remoteSignalApplied : Obligations.RemoteSignalApplied := by
  intro p s u pk hacc id inc c allowed
  have hok : allowed ↔ u.signalOk pk = true := State.signalOk_iff.symm
  refine ⟨fun ha => ?_, fun ha => ?_⟩
  · have hex : exec (.signalPacket p) s = .next (u.takeSignal pk) := State.deliver_arrival hacc ha State.takeSignal
    rw [hex]
    refine ⟨fun h hf => ⟨?_, State.sync_signalObj hf .., fun m hm => u.sync_signalObj_ne hm ..⟩,
      fun h hc => ?_, fun h => ?_⟩
    · rw [State.takeSignal_fits (hok.1 h) hf]
    · rw [State.takeSignal_carries (hok.1 h) hc]
    · rw [State.takeSignal_refused (Bool.not_eq_true _ ▸ mt hok.2 h)]
  · have hex : exec (.signalAck p) s = .next (u.takeSignalAck pk) := State.deliver_arrival hacc ha State.takeSignalAck
    rw [hex]
    refine ⟨fun f r ho => ⟨fun h => ?_, fun h => ?_, fun h => ?_, fun hr st => State.endRemote_idle hr r st⟩,
      fun ho => ?_⟩
    · rw [State.takeSignalAck_accepted ho h]
    · rw [State.takeSignalAck_refused ho h]
    · rw [State.takeSignalAck_carried ho h]
    · rw [State.takeSignalAck_unowned ho]

end Sys2Proof.Machine

/-! QUEUE_ENABLE and QUEUE_RESUME: a queue is created, kept, disabled, or goes on after a halt (R37, R249, R250, R252,
R285, R288, R480). -/

namespace Sys2Proof.Machine

open Sys2Proof

variable {s : State} {q : Nat}

/-! ### A field among the fields of a write -/

/-- A field whose new value depends on its old value alone takes that value, whatever other fields the write reaches. -/
theorem State.getF_writeFields_of_fieldAfter {d : RDesc} {i j value x : Nat} {f : RField} (fs : List RField)
    (hn : (fs.map fun g => (d.fld i j g).key).Nodup) (hf : f ∈ fs)
    (h : ∀ t : State, t.getF (d.fld i j f) = s.getF (d.fld i j f) → fieldAfter t d i j f value = x) :
    (fs.foldl (fun s g => s.writeField d i j g value) s).getF (d.fld i j f) = x := by
  induction fs generalizing s with
  | nil => cases hf
  | cons g fs ih =>
    simp only [List.map_cons, List.nodup_cons, List.mem_map, not_exists, not_and] at hn
    obtain ⟨hng, hn⟩ := hn
    rcases List.mem_cons.1 hf with rfl | hf
    · calc (fs.foldl (fun s g => s.writeField d i j g value) (s.writeField d i j f value)).getF (d.fld i j f)
        _ = (s.writeField d i j f value).getF (d.fld i j f) :=
            State.getF_writeFields_ne fs fun g hg e => hng g hg e.symm
        _ = fieldAfter s d i j f value := State.getF_writeField ..
        _ = x := h s rfl
    · exact ih hn hf fun t ht => h t (ht.trans (State.getF_writeField_ne (hng f hf) value))

/-! ### A write of `QUE_CFG` (R37, R249) -/

/-- The fields of `QUE_CFG` that a write reaches: of a queue that stays enabled, not the binding to its engine type and
context. -/
def queueFields (bound : Bool) : List RField :=
  (regOf .QUE_CFG).fields.filter fun f => !(bound && (f.lo == 28 || f.lo == 16))

/-- `QUE_CFG` as a write that reaches those fields sees it. -/
def queueDesc (bound : Bool) : RDesc := { regOf .QUE_CFG with fields := queueFields bound }

/-- The state in which a queue's fields have taken a written value. -/
def State.configured (s : State) (q value : Nat) (bound : Bool) : State := s.writePlain (queueDesc bound) q 0 value

theorem State.configured_keeps (s : State) (q value : Nat) (bound : Bool) :
    Keeps (Parts.of [.reg .QUE_CFG]) s (s.configured q value bound) :=
  State.writePlain_keeps (d := queueDesc bound) (Parts.le_refl _) (keeps_refl s) q 0 value

theorem queueFields_key_nodup (bound : Bool) (q : Nat) :
    ((queueFields bound).map fun f => ((queueDesc bound).fld q 0 f).key).Nodup :=
  (RDesc.fld_key_nodup (d := regOf .QUE_CFG) (by decide +kernel) q 0).sublist (List.filter_sublist.map _)

theorem State.getF_configured_EN (s : State) (q value : Nat) (bound : Bool) :
    (s.configured q value bound).getF (QUE_CFG_EN q) = value / 2 ^ 31 % 2 ^ 1 :=
  State.getF_writeFields_of_fieldAfter (d := queueDesc bound) (f := ⟨31, 1, .rw, .s⟩) _ (queueFields_key_nodup bound q)
    (by cases bound <;> decide +kernel) fun _ _ => rfl

theorem State.flag_configured_EN (s : State) (q value : Nat) (bound : Bool) :
    (s.configured q value bound).flag (QUE_CFG_EN q) = bitOf value 31 := by
  rw [State.flag, State.getF_configured_EN, bitOf]
  simp

theorem State.ctxOf_configured (s : State) (q value : Nat) :
    (s.configured q value false).ctxOf q = value / 2 ^ 16 % 16 :=
  State.getF_writeFields_of_fieldAfter (d := queueDesc false) (f := ⟨16, 4, .rw, .s⟩) _ (queueFields_key_nodup false q)
    (by decide +kernel) fun _ _ => rfl

/-- A reserved engine type is discarded (R11). -/
theorem State.engine_configured (s : State) (q value : Nat) : (s.configured q value false).engine q
    = if within 1 5 (value / 2 ^ 28 % 8) then value / 2 ^ 28 % 8 else s.engine q :=
  State.getF_writeFields_of_fieldAfter (d := queueDesc false) (f := ⟨28, 3, .rw, .s⟩) _ (queueFields_key_nodup false q)
    (by decide +kernel) fun t ht => by
      have ha : t.accepts (queueDesc false).reg q 0 28 (value / 2 ^ 28 % 2 ^ 3) = within 1 5 (value / 2 ^ 28 % 8) := rfl
      have ht' : t.getF ((queueDesc false).fld q 0 ⟨28, 3, .rw, .s⟩) = s.engine q := ht
      simp only [fieldAfter, ha, ht']
      cases within 1 5 (value / 2 ^ 28 % 8) <;> rfl

/-- A write that keeps a queue enabled leaves it bound to its engine type and context (R37). -/
theorem State.configured_bound (s : State) (q value : Nat) :
    (s.configured q value true).engine q = s.engine q ∧ (s.configured q value true).ctxOf q = s.ctxOf q := by
  have hlo : ∀ f ∈ queueFields true, f.lo % 64 ≠ 28 ∧ f.lo % 64 ≠ 16 := by decide +kernel
  exact ⟨State.getF_writeFields_ne _ fun f hf => Fld.key_ne_of_lo fun e => (hlo f hf).1 e.symm,
    State.getF_writeFields_ne _ fun f hf => Fld.key_ne_of_lo fun e => (hlo f hf).2 e.symm⟩

/-! ### A queue that begins, and one that ends (R249, R250, R288) -/

/-- A queue as it begins, before its watch line is read. -/
def State.enabled (s : State) (q : Nat) : State :=
  ((s.setQueue q QueueRt.init).setFs [(QUE_STAT_HEAD q, 0), (QUE_CTL_HALT q, 0)]).setQState q qParked

theorem State.enableQueue_eq (s : State) (q : Nat) : s.enableQueue q = (s.enabled q).readWatch q := rfl

theorem State.enabled_keeps (s : State) (q : Nat) :
    Keeps (Parts.of [.queues, .reg .QUE_STAT, .reg .QUE_CTL]) s (s.enabled q) :=
  State.setQState_keeps (Parts.within (Parts.le_refl _)) (State.setFs_keeps_regs [.QUE_STAT, .QUE_CTL]
    (Parts.within (Parts.le_refl _)) (State.setQueue_keeps (Parts.within (Parts.le_refl _)) (keeps_refl s) _ _)) _ _

@[simp] theorem State.queue_setQueue (s : State) (q : Nat) (r : QueueRt) : (s.setQueue q r).queue q = r :=
  Store.get_set_same ..

/-- A queue that begins is at command 0, parked, not halted, with no segments or marks. -/
theorem State.enabled_begins (s : State) (q : Nat) :
    (s.enabled q).headIdx q = 0 ∧ (s.enabled q).getF (QUE_CTL_HALT q) = 0
    ∧ (s.enabled q).getF (QUE_STAT_STATE q) = qParked ∧ (s.enabled q).queue q = QueueRt.init := by
  refine ⟨?_, ?_, State.getF_setF _ (QUE_STAT_STATE q) qParked, s.queue_setQueue q QueueRt.init⟩
  · calc (s.enabled q).headIdx q
      _ = ((s.setQueue q QueueRt.init).setFs [(QUE_STAT_HEAD q, 0), (QUE_CTL_HALT q, 0)]).headIdx q :=
          State.headIdx_setQState ..
      _ = ((s.setQueue q QueueRt.init).setF (QUE_STAT_HEAD q) 0).headIdx q := State.getF_setF_num _ _ rfl
      _ = 0 := State.getF_setF _ (QUE_STAT_HEAD q) 0
  · exact (State.getF_setF_num _ _ rfl).trans (State.getF_setF _ (QUE_CTL_HALT q) 0)

/-- A disabled queue is not halted and has no segments or marks; its registers of `QUE_CFG` stay. -/
theorem State.disableQueue_ends (s : State) (q : Nat) : (s.disableQueue q).flag (QUE_CFG_EN q) = s.flag (QUE_CFG_EN q)
    ∧ (s.disableQueue q).getF (QUE_STAT_STATE q) = qDisabled ∧ (s.disableQueue q).getF (QUE_CTL_HALT q) = 0
    ∧ (s.disableQueue q).queue q = QueueRt.init := by
  have hk := State.disableQueue_keeps (Parts.le_refl _) (keeps_refl s) q
  exact ⟨congrArg (· != 0) (hk.same (.reg .QUE_CFG) (by decide) (QUE_CFG_EN q) rfl),
    State.getF_setF _ (QUE_STAT_STATE q) qDisabled,
    (State.getF_setF_num _ _ rfl).trans (State.getF_setF _ (QUE_CTL_HALT q) 0), s.queue_setQueue q QueueRt.init⟩

/-! ### QUEUE_ENABLE -/

theorem exec_queueEnable {q : Fin 64} (h : s.pf0Open 0x10000 = true) (v : BitVec 32) :
    exec (.queueEnable q v) s = .next (s.queueConfig q v.toNat) :=
  congrArg Host.Outcome.next (State.pf0Write_open h _)

theorem State.queueConfig_creates {value : Nat} (he : s.flag (QUE_CFG_EN q) = false) (hv : bitOf value 31 = true) :
    s.queueConfig q value = (s.configured q value false).enableQueue q := by
  simp only [State.queueConfig, he, hv]
  rfl

theorem State.queueConfig_stays {value : Nat} (he : s.flag (QUE_CFG_EN q) = true) (hv : bitOf value 31 = true) :
    s.queueConfig q value = s.configured q value true := by
  simp only [State.queueConfig, he, hv]
  rfl

theorem State.queueConfig_disables {value : Nat} (he : s.flag (QUE_CFG_EN q) = true) (hv : bitOf value 31 = false)
    (hs : s.getF (QUE_STAT_STATE q) = qParked ∨ s.getF (QUE_STAT_STATE q) = qHalted) :
    s.queueConfig q value = (s.configured q value false).disableQueue q := by
  have hs' : (s.getF (QUE_STAT_STATE q) == qParked || s.getF (QUE_STAT_STATE q) == qHalted) = true := by simpa using hs
  simp only [State.queueConfig, he, hv, hs']
  rfl

theorem State.queueConfig_refused {value : Nat} (he : s.flag (QUE_CFG_EN q) = true) (hv : bitOf value 31 = false)
    (hp : s.getF (QUE_STAT_STATE q) ≠ qParked) (hh : s.getF (QUE_STAT_STATE q) ≠ qHalted) :
    s.queueConfig q value = s := by
  simp [State.queueConfig, he, hv, hp, hh]

/-! ### QUEUE_RESUME (R285, R480) -/

theorem exec_queueResume {q : Fin 64} (h : s.pf0Open 0x10028 = true) :
    exec (.queueResume .pf0 q) s = .next (s.queueResume q) :=
  congrArg Host.Outcome.next (State.pf0Write_open h _)

/-- A queue as it goes on after a halt, before its watch line is read. -/
def State.restarted (s : State) (q : Nat) : State :=
  let n := s.getF (QUE_CTL_RESTART q)
  ((s.setQueue q { s.queue q with segs := (s.queue q).segs.filter fun p => decide (p.1 ≤ n) }).setFs
    [(QUE_CTL_HALT q, 0), (QUE_STAT_HEAD q, n), (QUE_STAT_STATE q, qRunning)]).settle q

theorem State.queueResume_halted (hh : s.flag (QUE_CTL_HALT q) = true) (he : s.flag (QUE_CFG_EN q) = true) :
    s.queueResume q = ((s.restarted q).readWatch q).issueUnreadable q := by
  simp only [State.queueResume, hh, he]
  rfl

theorem State.headIdx_settle (s : State) (q : Nat) : (s.settle q).headIdx q = s.headIdx q := by
  unfold State.settle
  split
  · rfl
  · split
    · exact State.headIdx_setQState ..
    · split
      · exact State.headIdx_setQState ..
      · split
        · exact State.headIdx_setQState ..
        · rfl

theorem State.getF_restarted_HALT (s : State) (q : Nat) : (s.restarted q).getF (QUE_CTL_HALT q) = 0 := by
  have hk := fun u : State => State.settle_keeps (Parts.le_refl _) (keeps_refl u) q
  calc (s.restarted q).getF (QUE_CTL_HALT q)
    _ = _ := (hk _).same (.reg .QUE_CTL) (by decide) (QUE_CTL_HALT q) rfl
    _ = _ := State.getF_setF_num _ _ rfl
    _ = _ := State.getF_setF_num _ _ rfl
    _ = 0 := State.getF_setF _ (QUE_CTL_HALT q) 0

theorem State.headIdx_restarted (s : State) (q : Nat) :
    (s.restarted q).headIdx q = s.getF (QUE_CTL_RESTART q) % 2 ^ 48 := by
  calc (s.restarted q).headIdx q
    _ = _ := State.headIdx_settle ..
    _ = _ := State.getF_setF_lo _ _ rfl
    _ = s.getF (QUE_CTL_RESTART q) % 2 ^ 48 := State.getF_setF _ (QUE_STAT_HEAD q) _

theorem State.queue_restarted (s : State) (q : Nat) : (s.restarted q).queue q
    = { s.queue q with segs := (s.queue q).segs.filter fun p => decide (p.1 ≤ s.getF (QUE_CTL_RESTART q)) } := by
  have hk := fun u : State => State.settle_keeps (Parts.le_refl _) (keeps_refl u) q
  exact (congrArg (Store.get QueueRt.init · q) ((hk _).same .queues (by decide))).trans (State.queue_setQueue ..)

/-- Settles O25: a write of `QUE_CFG` creates the queue, keeps its binding, disables it or is discarded, and a resumed
queue goes on at `RESTART`. Corners of restart, disabling and a live queue's other fields are the model's reading (log
entries 26, 27, 60). -/
theorem queueControlWrites : Obligations.QueueControlWrites := by
  refine ⟨fun q v s hp he hv => ?_, fun q v s hp he hv => ?_, fun q v s hp he hv => ⟨fun hs => ?_, fun hpk hh => ?_⟩,
    fun q s hp => ⟨fun h => ?_, fun hh he => ?_⟩⟩
  · have hk := ((s.configured q v.toNat false).enabled_keeps q).same (.reg .QUE_CFG) (by decide)
    have hen : ((s.configured q v.toNat false).enabled q).flag (QUE_CFG_EN q) = true :=
      (congrArg (· != 0) (hk (QUE_CFG_EN q) rfl)).trans ((s.flag_configured_EN q v.toNat false).trans hv)
    have heng := (hk (QUE_CFG_ENGINE q) rfl).trans (s.engine_configured q v.toNat)
    obtain ⟨hhead, hhalt, hstate, hqueue⟩ := (s.configured q v.toNat false).enabled_begins q
    refine ⟨(s.configured q v.toNat false).enabled q, ?_, hen, ?_, hhead, hhalt, hstate, hqueue,
      fun hw => ?_, fun hw => ?_⟩
    · rw [exec_queueEnable hp, State.queueConfig_creates he hv, State.enableQueue_eq]
    · exact (hk (QUE_CFG_CTX q) rfl).trans (s.ctxOf_configured q v.toNat)
    · exact heng.trans (if_pos hw)
    · exact heng.trans (if_neg (Bool.eq_false_iff.1 hw))
  · have hk := s.configured_keeps q v.toNat true
    obtain ⟨heng, hctx⟩ := s.configured_bound q v.toNat
    refine ⟨s.configured q v.toNat true, ?_, heng, hctx, (s.flag_configured_EN q v.toNat true).trans hv,
      hk.headIdx (by decide) q, congrArg (Store.get QueueRt.init · q) (hk.same .queues (by decide))⟩
    rw [exec_queueEnable hp, State.queueConfig_stays he hv]
  · obtain ⟨hen, hend⟩ := (s.configured q v.toNat false).disableQueue_ends q
    refine ⟨(s.configured q v.toNat false).disableQueue q, ?_,
      hen.trans ((s.flag_configured_EN q v.toNat false).trans hv), hend⟩
    rw [exec_queueEnable hp, State.queueConfig_disables he hv hs]
  · rw [exec_queueEnable hp, State.queueConfig_refused he hv hpk hh]
  · rw [exec_queueResume hp, State.queueResume, if_neg (Bool.eq_false_iff.1 h)]
  · refine ⟨s.restarted q, ?_, s.getF_restarted_HALT q, s.headIdx_restarted q, ?_, ?_⟩
    · rw [exec_queueResume hp, State.queueResume_halted hh he]
    · rw [s.queue_restarted]
    · rw [s.queue_restarted]

end Sys2Proof.Machine

/-! COMMAND_COMPLETE: the oldest command completes, an error halts its queue, and the completion record is laid out
(R254, R260, R282, R285). -/

namespace Sys2Proof.Machine

open Sys2Proof

variable {s : State} {q : Nat} {f : Flight}

/-! ### A queue that is halted does nothing (R285) -/

theorem State.live_of_halted (h : s.getF (QUE_CTL_HALT q) = 1) : s.live q = false := by
  simp [State.live, State.flag, h]

theorem State.settle_of_not_live (h : s.live q = false) : s.settle q = s := by
  simp [State.settle, h]

theorem State.issueUnreadable_of_not_live (h : s.live q = false) : s.issueUnreadable q = s :=
  State.issue_of_held (State.startRow_not_due _ (by simp [State.due, h])) rfl

/-! ### The end of a command with an error (R260, R285) -/

/-- What the notices of a command's end may change: its snapshot, counters, trace record and entry (R491, R498). -/
def noticeParts : List Part := triggerParts ++ ringParts ++ [.coll, .flights, .reg .FLU_RED, .reg .OBS_CNT]

/-- The state before a command that ends with an error halts its queue: the status is shown and the command has left. -/
theorem State.finish_error (s : State) (f : Flight) {st : Status} (hst : st.isOk = false) : ∃ u : State,
    u.getF (QUE_STAT_LAST_STATUS f.q) = st.code % 2 ^ 8 ∧ (∀ g ∈ u.flights, ¬ (g.q = f.q ∧ g.n = f.n))
      ∧ s.finish f st = ((u.haltQueue f.q).queueIrq f.q).settle f.q := by
  unfold State.finish
  extract_lets q c
  split
  split
  extract_lets s1 ends s2 s3 s4 s5 s6 s7 s8 s9 s10 s11
  have hT := Parts.le_refl noticeParts
  have hs3 : Keeps (Parts.of noticeParts) s2 s3 :=
    ite_keeps (State.ring_keeps (Parts.within hT) (keeps_refl s2) _ _) (keeps_refl s2)
  have hs5 : Keeps _ s2 s5 :=
    State.traceRec_keeps (Parts.within hT) (State.countAll_keeps (Parts.within hT) hs3 _ _) ..
  have hs6 : Keeps _ s2 s6 := ite_keeps (State.trigger_keeps (Parts.within hT) hs5 _ _) hs5
  have hs7 : Keeps _ s2 s7 := State.freeEntry_keeps (Parts.within hT) hs6 _ _
  have hs8 : Keeps _ s2 s8 := State.flights_keeps (Parts.within hT) hs7 _
  have hs9 : Keeps _ s2 s9 :=
    State.putQHeader_keeps (Parts.within hT) (State.dwrite_keeps (Parts.within hT) hs8 _ _) _ _
  have hfl : s9.flights = s8.flights :=
    (State.putQHeader_keeps (Parts.le_refl _) (State.dwrite_keeps (Parts.le_refl _) (keeps_refl s8) _ _) _ _).same
      .flights (by decide)
  refine ⟨s9, ?_, fun g hg => ?_, ?_⟩
  · exact (hs9.same (.reg .QUE_STAT) (by decide) (QUE_STAT_LAST_STATUS f.q) rfl).trans (State.getF_setF ..)
  · rintro ⟨hq, hn⟩
    have hmem := (List.mem_filter.1 (hfl ▸ hg)).2
    simp [hq, hn, q] at hmem
  · have hs10 : s10 = s9.haltQueue f.q := if_neg (Bool.eq_false_iff.1 hst)
    have hs11 : s11 = s10.queueIrq f.q := if_pos (by rw [hst, Bool.not_false, Bool.or_true])
    rw [hs11, hs10]

/-- An error halts the queue: its status is shown, and the command has left. -/
theorem State.finish_halts (s : State) (f : Flight) {st : Status} (hst : st.isOk = false) :
    let t := s.finish f st
    t.getF (QUE_STAT_LAST_STATUS f.q) = st.code % 2 ^ 8 ∧ t.getF (QUE_CTL_HALT f.q) = 1
      ∧ t.getF (QUE_STAT_STATE f.q) = qHalted ∧ ∀ g ∈ t.flights, ¬ (g.q = f.q ∧ g.n = f.n) := by
  obtain ⟨u, hlast, hgone, ht⟩ := s.finish_error f hst
  have hhalt : ((u.haltQueue f.q).queueIrq f.q).getF (QUE_CTL_HALT f.q) = 1 := by
    rw [State.getF_queueIrq, State.getF_haltQueue_HALT]
  have hfl : ((u.haltQueue f.q).queueIrq f.q).flights = u.flights :=
    ((State.queueIrq_keeps (Parts.le_refl _) (keeps_refl _) _).same .flights (by decide)).trans (u.flights_haltQueue _)
  rw [State.settle_of_not_live (State.live_of_halted hhalt)] at ht
  rw [ht]
  refine ⟨?_, hhalt, ?_, fun g hg => hgone g (hfl ▸ hg)⟩
  · rw [State.getF_queueIrq, State.getF_haltQueue_LAST_STATUS, hlast]
  · rw [State.getF_queueIrq, State.getF_haltQueue_STATE]

/-- An error is not covered by an addition that would carry (R261, R284). -/
theorem State.signalStatus_of_error {st : Status} (h : st.isOk = false) (s : State) (f : Flight) :
    s.signalStatus f st = st := by
  simp [State.signalStatus, h]

/-- A command with an error of its start ends with that error. -/
theorem State.complete_error {e : Status} (he : f.errs = [e]) (hf : f.failed = []) (hok : e.isOk = false) :
    ∃ u : State, s.complete f = u.finish f e := by
  have hlate : s.lateErrors f = ([], none) := by simp [State.lateErrors, he]
  have hfl : ({ f with errs := f.errs ++ ([] : List Status) } : Flight) = f := by rw [List.append_nil]
  have hst : f.status = e := by simp [Flight.status, he, hf, firstStatus]
  unfold State.complete
  simp only [hlate, hfl, hst, State.signalStatus_of_error hok]
  exact ⟨_, rfl⟩

/-! ### COMMAND_COMPLETE -/

theorem State.completing_q (h : s.completing q = some f) : f.q = q := by
  unfold State.completing at h
  split at h
  · have hm := List.mem_of_mem_head? (Option.filter_eq_some_iff.1 h).1
    simpa using (List.mem_filter.1 hm).2
  · cases h

theorem exec_commandComplete {q : Fin 64} (h : s.completing q = some f) :
    exec (.commandComplete q) s = .next ((s.complete f).issueUnreadable q) := by
  change execCommandComplete q s = _
  simp [execCommandComplete, h]

theorem exec_commandComplete_none {q : Fin 64} (h : s.completing q = none) : exec (.commandComplete q) s = .next s := by
  change execCommandComplete q s = _
  simp [execCommandComplete, h]

/-! ### The completion record (R282) -/

theorem rdNat_eq_leNat (l : List Byte) (a n : Nat) :
    rdNat (fun i => l.getD i 0) a n = leNat ((l.drop a).take n) := by
  induction n generalizing a with
  | zero => simp [rdNat, leNat]
  | succ n ih =>
    rw [rdNat, ih (a + 1)]
    by_cases h : a < l.length
    · rw [List.drop_eq_getElem_cons h, List.take_succ_cons, leNat, List.getD_eq_getElem _ _ h]
    · rw [List.drop_of_length_le (by omega), List.drop_of_length_le (by omega), List.getD_eq_default _ _ (by omega)]
      simp [leNat]

theorem leNat_leBytes (n w : Nat) : leNat (leBytes n w) = w % 2 ^ (8 * n) := by
  induction n generalizing w with
  | zero => simp [leBytes, leNat, Nat.mod_one]
  | succ n ih =>
    rw [leBytes, leNat, ih, BitVec.toNat_ofNat, Nat.mul_succ, Nat.add_comm (8 * n), pow_add, Nat.mod_mul]
    rfl

/-- A field of a record reads as the number whose bytes stand there. -/
theorem rdNat_of_field {l : List Byte} {a n w : Nat} (h : (l.drop a).take n = leBytes n w) :
    rdNat (fun i => l.getD i 0) a n = w % 2 ^ (8 * n) := by
  rw [rdNat_eq_leNat, h, leNat_leBytes]

theorem Status.code_lt (st : Status) : st.code < 2 ^ 8 := by cases st <;> decide

/-- The record is 32 bytes; the phase bit alternates with each pass of the ring of 4,096 slots. -/
theorem Flight.record_layout (f : Flight) (st : Status) (bitmap cycles : Nat) :
    let r := f.record st bitmap cycles
    r.length = 32 ∧ rdNat (fun i => r.getD i 0) 0 1 = st.code
      ∧ rdNat (fun i => r.getD i 0) 1 1 = (if f.n / 4096 % 2 = 0 then 1 else 0)
      ∧ rdNat (fun i => r.getD i 0) 2 2 = cTag f.words % 2 ^ 16
      ∧ rdNat (fun i => r.getD i 0) 4 4 = f.total % 2 ^ 32
      ∧ (f.failed = [] → rdNat (fun i => r.getD i 0) 16 4 = 0xFFFFFFFF) := by
  have hphase : rdNat (fun i => (f.record st bitmap cycles).getD i 0) 1 1 = (1 - f.n / 4096 % 2) % 2 ^ (8 * 1) :=
    rdNat_of_field rfl
  refine ⟨by simp only [Flight.record, List.length_append, length_leBytes], ?_, ?_,
    rdNat_of_field rfl, rdNat_of_field rfl, fun hf => ?_⟩
  · exact (rdNat_of_field (w := st.code) rfl).trans (Nat.mod_eq_of_lt st.code_lt)
  · rw [hphase]
    split <;> omega
  · have hfirst : rdNat (fun i => (f.record st bitmap cycles).getD i 0) 16 4
        = f.failed.foldl (fun m p => min m p.1) 0xFFFFFFFF % 2 ^ (8 * 4) := rdNat_of_field rfl
    rw [hfirst, hf]
    rfl

/-- Settles O19: a completion with an error of the start is an end that halts, after which the queue starts nothing; the
record's fields stand at their bytes. -/
theorem completionRecordsAndHalts : Obligations.CompletionRecordsAndHalts := by
  refine ⟨fun q s => ⟨exec_commandComplete_none, fun f h => ⟨exec_commandComplete h, fun e he hf hok _ => ?_⟩⟩,
    Flight.record_layout⟩
  obtain ⟨u, hu⟩ := State.complete_error (s := s) he hf hok
  obtain ⟨hlast, hhalt, hstate, hgone⟩ := u.finish_halts f hok
  rw [State.completing_q h] at hlast hhalt hstate hgone
  refine ⟨u.finish f e, ?_, hlast.trans (Nat.mod_eq_of_lt e.code_lt), hhalt, hstate, hgone⟩
  rw [exec_commandComplete h, hu, State.issueUnreadable_of_not_live (State.live_of_halted hhalt)]

end Sys2Proof.Machine

/-! TILE_COMPLETE and TILE_FAIL: a vector tile lands, and a tile that fails a check of an on-die store is retried or
fails (R272, R279, R414, R476). -/

namespace Sys2Proof.Machine

open Sys2Proof

variable {s : State} {q : Fin 64} {n tile : Nat} {f : Flight}

/-! ### A tile that completes -/

theorem State.landing_flight? {q : Nat} (h : s.landing q n tile = some f) : s.flight? q n = some f := by
  unfold State.landing at h
  split at h
  · exact (Option.filter_eq_some_iff.1 h).1
  · cases h

theorem exec_tileComplete_none {e : TileEnd} (h : s.landing q n e.tile = none) :
    exec (.tileComplete q n e) s = .next s := by
  change execTileComplete q n e s = _
  simp [execTileComplete, h]

theorem exec_tileComplete {e : TileEnd} (h : s.landing q n e.tile = some f) :
    exec (.tileComplete q n e) s = .next ((s.countCorrected f e.tile e.reads e.links).tileEnds f e.tile) := by
  change execTileComplete q n e s = _
  simp [execTileComplete, h]

/-- What a vector tile computes is written and counted, and the tile lands (R272). -/
theorem State.tileEnds_vector {op : VecOp} (hp : f.plan = .vector op) (hl : s.hostLost f tile = false)
    (hb : s.badOf (s.ctxOf f.q) (f.plan.tileReads (s.vbyte (s.ctxOf f.q)) tile) = none) :
    let r := op.tile (s.vbyte (s.ctxOf f.q)) tile
    s.tileEnds f tile
      = ((s.applyWrites (s.ctxOf f.q) r.1).countAll (s.ctxOf f.q) [(0x23, r.2)]).landTiles f [tile] := by
  rw [hp] at hb
  simp [State.tileEnds, hl, Plan.bbfs, State.completeTile, State.landWrites, hp, hb]

/-! ### A tile that has landed (R414, R476) -/

/-- A flight with some tiles written: they are done, and their instances are free. -/
def Flight.landed (f : Flight) (ts : List Nat) : Flight :=
  { f with
    running := f.running.filter fun r => !ts.contains r.tile
    parts := f.parts.filter fun t => !ts.contains t
    done := f.done ++ ts.filter fun t => !f.done.contains t }

theorem Flight.mem_landed_done (f : Flight) (t : Nat) : t ∈ (f.landed [t]).done := by
  by_cases h : t ∈ f.done <;> simp [Flight.landed, h]

theorem Flight.landed_running (f : Flight) (t : Nat) : ∀ x ∈ (f.landed [t]).running, x.tile ≠ t := by
  intro x hx
  simpa using (List.mem_filter.1 hx).2

/-- The parts that the runs of landing tiles change before the flight itself is written. -/
def landingParts : List Part := triggerParts ++ [.free, .hearths, .reg .OBS_CNT]

theorem State.flight?_landTiles (h : s.flight? f.q f.n = some f) (ts : List Nat) :
    (s.landTiles f ts).flight? f.q f.n = some (f.landed ts).advance := by
  have hk : Keeps (Parts.of landingParts) s (ts.foldl (fun s t => s.runEnds f t) s) :=
    keeps_foldl _ (keeps_refl s) fun _ _ hs => State.runEnds_keeps (Parts.le_refl _) hs _ _
  have hc : Keeps (Parts.of landingParts) s ((ts.foldl (fun s t => s.runEnds f t) s).count
      ((ts.foldl (fun s t => s.runEnds f t) s).ctxOf f.q) 0x01 ts.length) :=
    State.count_keeps (Parts.within (Parts.le_refl _)) hk _ _ _
  exact State.flight?_putFlight (g := (f.landed ts).advance) ((hc.flight? (by decide) f.q f.n).trans h)

/-! ### A tile that goes back to the dispatcher (R279, R444) -/

theorem Flight.foldl_putBack_counts (f : Flight) (ts : List Nat) :
    (ts.foldl Flight.putBack f).retries = f.retries ∧ (ts.foldl Flight.putBack f).retryCnt = f.retryCnt := by
  induction ts generalizing f with
  | nil => exact ⟨rfl, rfl⟩
  | cons t ts ih => exact ih (f.putBack t)

theorem Flight.foldl_putBack_running (f : Flight) (ts : List Nat) :
    ∀ x ∈ (ts.foldl Flight.putBack f).running, x ∈ f.running ∧ x.tile ∉ ts := by
  induction ts generalizing f with
  | nil => simp
  | cons t ts ih =>
    intro x hx
    obtain ⟨hrun, hts⟩ := ih (f.putBack t) x hx
    have hm : x ∈ f.running ∧ x.tile ≠ t := by simpa [Flight.putBack, Flight.dropHeld] using hrun
    exact ⟨hm.1, by simp [hm.2, hts]⟩

theorem Flight.mem_putBack_again (f : Flight) (x t : Nat) : t ∈ (f.putBack x).again ↔ t = x ∨ t ∈ f.again := by
  by_cases hx : x ∈ f.again
  · simpa [Flight.putBack, Flight.dropHeld, hx] using fun h : t = x => h ▸ hx
  · simp [Flight.putBack, Flight.dropHeld, hx, or_comm]

theorem Flight.mem_foldl_putBack_again (f : Flight) (ts : List Nat) (t : Nat) :
    t ∈ (ts.foldl Flight.putBack f).again ↔ t ∈ ts ∨ t ∈ f.again := by
  induction ts generalizing f with
  | nil => simp
  | cons x ts ih =>
    rw [List.foldl_cons, ih, Flight.mem_putBack_again, List.mem_cons]
    tauto

theorem Flight.mem_backWith (f : Flight) (t : Nat) : t ∈ f.backWith t := List.mem_cons_self

/-- The entry that replaces those of its key is the one found. -/
theorem find?_replaced (l : List (Nat × Nat)) (t k : Nat) :
    ((l.filter fun p => p.1 != t) ++ [(t, k)]).find? (fun p => p.1 == t) = some (t, k) := by
  have hnone : (l.filter fun p => p.1 != t).find? (fun p => p.1 == t) = none := by simp
  rw [List.find?_append, hnone]
  simp

/-- A retry is counted for the command and for its tile, which waits to be placed again and runs nowhere. -/
theorem Flight.retried_counts (f : Flight) (t inst : Nat) (bayOut : Bool) :
    let g := f.retried (f.backWith t) t inst bayOut
    g.retries = f.retries + 1 ∧ g.tries t = f.tries t + 1 ∧ t ∈ g.again ∧ ∀ x ∈ g.running, x.tile ≠ t := by
  obtain ⟨hret, hcnt⟩ := f.foldl_putBack_counts (f.backWith t)
  refine ⟨congrArg (· + 1) hret, ?_, (f.mem_foldl_putBack_again _ t).2 (.inl (f.mem_backWith t)), fun x hx e => ?_⟩
  · have htries : ((f.backWith t).foldl Flight.putBack f).tries t = f.tries t := by
      rw [Flight.tries, hcnt, Flight.tries]
    rw [← htries]
    exact congrArg (fun p => (p.map (·.2)).getD 0) (find?_replaced _ t _)
  · exact (f.foldl_putBack_running _ x hx).2 (e ▸ f.mem_backWith t)

/-! ### A tile that fails a check of an on-die store -/

theorem State.runningAt_spec {q : Nat} {r : Running} (h : s.runningAt q n tile = some (f, r)) :
    s.flight? q n = some f ∧ r.tile = tile := by
  unfold State.runningAt at h
  split at h
  · obtain ⟨g, hg, h⟩ := Option.bind_eq_some_iff.1 h
    split at h
    · cases h
    · obtain ⟨x, hx, hfr⟩ := Option.map_eq_some_iff.1 h
      cases hfr
      exact ⟨hg, by simpa using List.find?_some hx⟩
  · cases h

/-- On the engines with on-die stores the tile is retried or fails (R445). -/
theorem exec_tileFail_sram {r : Running} (h : s.runningAt q n tile = some (f, r))
    (he : s.engine q = 1 ∨ s.engine q = 2 ∨ s.engine q = 5) :
    exec (.tileFail q n tile .sram) s = .next ((s.retryOrFail q n tile r.inst false).decideEsc q n) := by
  obtain ⟨hf, rfl⟩ := State.runningAt_spec h
  obtain ⟨hq, hn⟩ := State.flight?_key hf
  have hc : s.causeHolds f r.tile .sram = true := by simpa [State.causeHolds, causeFits, hq, or_assoc] using he
  have ht : s.tileFails f r .sram = s.retryOrFail q n r.tile r.inst false := by rw [← hq, ← hn]; rfl
  change execTileFail q n r.tile .sram s = _
  simp [execTileFail, h, hc, onlyIf, ht]

theorem State.retryOrFail_retries {q inst : Nat} {bayOut : Bool} (h : s.flight? q n = some f) (ht : f.tries tile < 2)
    (hr : s.retryPossible (f.retried (f.backWith tile) tile inst bayOut)
      (f.retried (f.backWith tile) tile inst bayOut).emits (f.backWith tile) = true) :
    s.retryOrFail q n tile inst bayOut
      = (((f.backWith tile).foldl (fun s t => s.runCut f t) s).count (s.ctxOf q) 0x02 1).putFlight
          (f.retried (f.backWith tile) tile inst bayOut) := by
  simp [State.retryOrFail, h, ht, hr]

theorem State.retryOrFail_fails {q inst : Nat} {bayOut : Bool} (h : s.flight? q n = some f) (ht : 2 ≤ f.tries tile) :
    s.retryOrFail q n tile inst bayOut
      = s.failTiles { f with mism := (f.retried (f.backWith tile) tile inst bayOut).mism } [tile] .partialTiles := by
  simp [State.retryOrFail, h, Nat.not_lt.2 ht]

/-- Settles O17: a tile that may complete ends as its plan says, a vector tile by landing, and a tile whose on-die
read is uncorrectable is retried while it has tries left. That a vector tile reads memory as it stands at its
completion is the model's choice (log entry 61). -/
theorem tilesLandOrRetry : Obligations.TilesLandOrRetry := by
  refine ⟨fun q n tile reads links s => ⟨fun h => exec_tileComplete_none h, fun f h => ?_⟩,
    fun q n tile s f r h he => ⟨fun ht hr => ⟨?_, f.retried_counts tile r.inst false⟩, fun ht => ?_⟩⟩
  · intro u
    refine ⟨exec_tileComplete h, fun op hp hl hb => ?_⟩
    intro r t
    have hf := State.landing_flight? h
    obtain ⟨hq, hn⟩ := State.flight?_key hf
    have hk : Keeps (Parts.of (triggerParts ++ [.d2dCorr, .hearths, .hostMem, .reg .OBS_CNT])) s
        ((u.applyWrites (u.ctxOf f.q) r.1).countAll (u.ctxOf f.q) [(0x23, r.2)]) :=
      State.countAll_keeps (Parts.within (Parts.le_refl _)) (State.applyWrites_keeps (Parts.within (Parts.le_refl _))
        (State.countCorrected_keeps (Parts.within (Parts.le_refl _)) (keeps_refl s) ..) ..) ..
    have hland : t.flight? q n = some (f.landed [tile]).advance := by
      rw [← hq, ← hn] at hf ⊢
      exact State.flight?_landTiles ((hk.flight? (by decide) f.q f.n).trans hf) [tile]
    refine ⟨?_, _, hland, f.mem_landed_done tile, f.landed_running tile⟩
    rw [exec_tileComplete h]
    exact congrArg Host.Outcome.next (State.tileEnds_vector hp hl hb)
  · rw [exec_tileFail_sram h he, State.retryOrFail_retries (State.runningAt_spec h).1 ht hr]
  · rw [exec_tileFail_sram h he, State.retryOrFail_fails (State.runningAt_spec h).1 ht]

end Sys2Proof.Machine

/-! Collective messages: what a member does with the data, READY, ABORT and acknowledgements of a key (R316, R320, R326,
R330, R331). -/

namespace Sys2Proof.Machine

open Sys2Proof

variable {s u : State} {pk : Packet} {e : CollEntry} {f : Flight} {op : RedOp}

/-! ### The entry of a command (R324) -/

theorem find?_map_replace {α : Type} {p : α → Bool} {x : α} (hx : p x = true) (l : List α) :
    (l.map fun y => if p y then x else y).find? p = (l.find? p).map fun _ => x := by
  induction l with
  | nil => rfl
  | cons y l ih => by_cases hy : p y = true <;> simp [hx, hy, ih]

theorem Keeps.entry? {T : Nat} {t : State} (h : Keeps T s t) (hT : T.testBit (Part.num .coll) = false) (q n : Nat) :
    t.entry? q n = s.entry? q n :=
  congrArg (List.find? _) (h.same .coll hT)

/-- An entry that stands in the table is found as it was last replaced. -/
theorem State.entry?_setEntry (h : (s.entry? e.q e.n).isSome) : (s.setEntry e).entry? e.q e.n = some e := by
  obtain ⟨d, hd⟩ := Option.isSome_iff_exists.1 h
  exact (find?_map_replace (p := fun d : CollEntry => d.q == e.q && d.n == e.n) (by simp) s.coll).trans
    (congrArg (Option.map fun _ => e) hd)

theorem State.entry?_freeEntry (s : State) (q n : Nat) : (s.freeEntry q n).entry? q n = none := by
  unfold State.freeEntry
  split
  · assumption
  · exact List.find?_eq_none.2 fun d hd => by
      simpa only [Bool.not_eq_true, Bool.not_eq_true'] using (List.mem_filter.1 hd).2

/-! ### The command of a key -/

/-- A key that is found names an entry of the table, its flight and the flight's reduction. -/
theorem State.keyOf_spec {seq : Nat} (h : s.keyOf pk seq = some (e, f, op)) :
    (s.entry? e.q e.n).isSome ∧ s.flight? e.q e.n = some f ∧ f.red = some op := by
  obtain ⟨d, hd, h⟩ := Option.bind_eq_some_iff.1 h
  obtain ⟨g, hg, h⟩ := Option.bind_eq_some_iff.1 h
  obtain ⟨o, ho, h⟩ := Option.map_eq_some_iff.1 h
  obtain ⟨rfl, rfl, rfl⟩ : d = e ∧ g = f ∧ o = op := by simpa using h
  exact ⟨List.find?_isSome.2 ⟨d, List.mem_of_find?_eq_some hd, by simp⟩, hg, ho⟩

theorem RedOp.agrees_iff {a : List Nat} : op.agrees a = true ↔
    a.getD 5 0 = op.gchk ∧ a.getD 6 0 = op.size ∧ a.getD 7 0 = op.mode ∧ a.getD 8 0 = op.owner := by
  simp [RedOp.agrees, and_assoc]

/-! ### Aborts (R331) -/

/-- An abort frees the entry and ends its command with the status. -/
theorem State.abortKey_ends (hf : s.flight? e.q e.n = some f) (hr : f.red = some op) (st : Option Status)
    (sender : Option Nat) : (s.abortKey e st sender).entry? e.q e.n = none
      ∧ (s.abortKey e st sender).flight? e.q e.n = some { f with errs := f.errs ++ st.toList } := by
  simp only [State.abortKey, hf, hr]
  generalize hs1 : List.foldl _ s _ = s1
  have hsent : Keeps (Parts.of [.ports]) s s1 :=
    hs1 ▸ keeps_foldl _ (keeps_refl s) fun _ _ hs => State.injectAll_keeps (Parts.le_refl _) hs _
  have hfree := s1.entry?_freeEntry e.q e.n
  have hlive : (s1.freeEntry e.q e.n).flight? e.q e.n = some f := by
    rw [(State.freeEntry_keeps (Parts.le_refl _) (keeps_refl s1) e.q e.n).flight? (by decide),
      hsent.flight? (by decide), hf]
  generalize s1.freeEntry e.q e.n = s2 at hfree hlive ⊢
  have hput : Keeps (Parts.of (lineParts ++ [.flights])) s2 (s2.putFlight { f with errs := f.errs ++ st.toList }) :=
    State.putFlight_keeps (Parts.le_refl _) (keeps_refl s2) _
  refine ⟨(hput.entry? (by decide) e.q e.n).trans hfree, ?_⟩
  obtain ⟨hq, hn⟩ := State.flight?_key hf
  rw [← hq, ← hn] at hlive ⊢
  exact State.flight?_putFlight (g := { f with errs := f.errs ++ st.toList }) hlive

/-! ### Data (R316, R320) -/

theorem State.takeData_stale (h : u.keyOf pk (pk.args.getD 0 0) = none) :
    u.takeData pk = u.addSat (FLU_RED_STALE pk.dctx) 1 := by
  simp only [State.takeData, h]

section
variable (h : u.keyOf pk (pk.args.getD 0 0) = some (e, f, op))
include h

theorem State.takeData_disagrees (ha : op.agrees pk.args = false) :
    u.takeData pk = (u.count e.ctx 0x0B pk.data.length).abortKey e (some .linkFailed) none := by
  simp only [State.takeData, h, ha, Bool.not_false, if_true]

theorem State.takeData_up (ha : op.agrees pk.args = true) (hd : pk.args.getD 3 0 = 0) :
    u.takeData pk = ((u.count e.ctx 0x0B pk.data.length).stageChunk e op (pk.args.getD 1 0) (pk.args.getD 2 0)
      (pk.args.getD 4 0) (pk.args.drop 9) pk.data).pump e.q e.n := by
  simp only [State.takeData, h, ha, hd, Bool.not_true, Bool.false_eq_true, if_false, if_true]

theorem State.takeData_down (ha : op.agrees pk.args = true) (hd : pk.args.getD 3 0 ≠ 0) :
    u.takeData pk = ((u.count e.ctx 0x0B pk.data.length).takeResult e op (pk.args.getD 1 0) (pk.args.getD 4 0)
      (pk.args.drop 9) pk.data).pump e.q e.n := by
  simp only [State.takeData, h, ha, hd, Bool.not_true, Bool.false_eq_true, if_false]

end

/-- An upward chunk of gradients waits in its entry. -/
theorem State.stageChunk_stages (he : (s.entry? e.q e.n).isSome) (hk : op.kind ≠ .digestCheck) (sl h k : Nat)
    (more : List Nat) (data : List Byte) :
    ∃ x, (s.stageChunk e op sl h k more data).entry? e.q e.n = some x ∧ ((sl, h, k), data) ∈ x.staged := by
  unfold State.stageChunk
  extract_lets first e'
  have hset : (s.setEntry e').entry? e.q e.n = some e' := State.entry?_setEntry (e := e') he
  refine ⟨e', ?_, ?_⟩
  · rw [← hset]
    exact (State.sendCtl_keeps (Parts.le_refl _) (keeps_refl _) ..).entry? (by decide) _ _
  · simp [e', hk]

/-! ### READY, ABORT and acknowledgements (R326, R330, R331) -/

theorem State.takeReady_keyed (h : u.keyOf pk (pk.args.getD 1 0) = some (e, f, op)) :
    u.takeReady pk
      = (u.setEntry { e with ready := e.ready ++ [(pk.args.getD 2 0, pk.args.getD 3 0)] }).pump e.q e.n := by
  simp only [State.takeReady, h]

theorem State.takeReady_early (h : u.keyOf pk (pk.args.getD 1 0) = none) :
    u.takeReady pk = { u with flue := { u.flue with
      early := u.flue.early ++ [(pk.job, pk.args.getD 1 0, pk.args.getD 2 0, pk.args.getD 3 0)] } } := by
  simp only [State.takeReady, h]

theorem State.takeAck_up (h : u.keyOf pk (pk.args.getD 1 0) = some (e, f, op)) (hd : pk.args.getD 4 0 = 0) :
    u.takeAck pk
      = (u.setEntry { e with ackedUp := e.ackedUp ++ [(pk.args.getD 2 0, pk.args.getD 5 0)] }).pump e.q e.n := by
  simp only [State.takeAck, h, hd, if_true]

theorem State.takeAck_down (h : u.keyOf pk (pk.args.getD 1 0) = some (e, f, op)) (hd : pk.args.getD 4 0 ≠ 0) :
    u.takeAck pk = (u.setEntry { e with
      ackedDown := e.ackedDown ++ [(pk.args.getD 2 0, pk.args.getD 3 0, pk.args.getD 5 0)] }).pump e.q e.n := by
  simp only [State.takeAck, h, hd, if_false]

theorem State.takeAck_stale (h : u.keyOf pk (pk.args.getD 1 0) = none) : u.takeAck pk = u := by
  simp only [State.takeAck, h]

section
variable {p : Fin 6} (hacc : s.flue.accepting = true)
  (ha : s.arrival p tyCollCtl (ctlKind ctlAbort) = some (pk, u))
include hacc ha

theorem exec_collAbort_keyed (h : u.keyOf pk (pk.args.getD 1 0) = some (e, f, op)) :
    exec (.collAbort p) s = .next (u.abortKey e (some .linkFailed) (some pk.src)) :=
  (State.deliver_arrival hacc ha _).trans (by simp only [h])

theorem exec_collAbort_stale (h : u.keyOf pk (pk.args.getD 1 0) = none) : exec (.collAbort p) s = .next u :=
  (State.deliver_arrival hacc ha _).trans (by simp only [h])

end

/-- Settles O44: each message that arrives is taken by its case; an abort frees the entry it found and leaves the
command with LINK_FAILED. The codes of type fields are the model's choice (log entry 12). -/
theorem collectiveMessagesAct : Obligations.CollectiveMessagesAct := by
  constructor
  case right =>
    intro s pk seq e f op sender h
    obtain ⟨-, hf, hr⟩ := State.keyOf_spec h
    obtain ⟨hfree, hend⟩ := State.abortKey_ends hf hr (some .linkFailed) sender
    exact ⟨hfree, _, hend, rfl⟩
  intro p s u pk hacc a
  refine ⟨fun ha => ?_, fun ha => ?_, fun ha => ?_, fun ha => ?_⟩
  · have hex : exec (.collData p) s = .next (u.takeData pk) := State.deliver_arrival hacc ha State.takeData
    rw [hex]
    refine ⟨fun h => by rw [State.takeData_stale h], fun e f op h => ?_⟩
    intro agrees v w
    have hag : agrees ↔ op.agrees a = true := RedOp.agrees_iff.symm
    refine ⟨fun hn => ?_, fun hy hd => ⟨?_, fun hk => ?_⟩, fun hy hd => ?_⟩
    · rw [State.takeData_disagrees h (Bool.not_eq_true _ ▸ mt hag.2 hn)]
    · rw [State.takeData_up h (hag.1 hy) hd]
    · have hcount := State.count_keeps (Parts.le_refl _) (keeps_refl u) e.ctx 0x0B pk.data.length
      refine State.stageChunk_stages ?_ hk ..
      rw [hcount.entry? (by decide)]
      exact (State.keyOf_spec h).1
    · rw [State.takeData_down h (hag.1 hy) hd]
  · have hex : exec (.collReady p) s = .next (u.takeReady pk) := State.deliver_arrival hacc ha State.takeReady
    rw [hex]
    exact ⟨fun e f op h => by rw [State.takeReady_keyed h], fun h => by rw [State.takeReady_early h]⟩
  · exact ⟨fun e f op h => exec_collAbort_keyed hacc ha h, exec_collAbort_stale hacc ha⟩
  · have hex : exec (.collAck p) s = .next (u.takeAck pk) := State.deliver_arrival hacc ha State.takeAck
    rw [hex]
    exact ⟨fun e f op h => ⟨fun hd => by rw [State.takeAck_up h hd], fun hd => by rw [State.takeAck_down h hd]⟩,
      fun h => by rw [State.takeAck_stale h]⟩

end Sys2Proof.Machine

/-! Floods and transit: what the switch does with a LINKSTATE, an ENDPOINT and a packet for another rank (R331, R358,
R361–R365). -/

namespace Sys2Proof.Machine

open Sys2Proof

variable {s u : State} {pk : Packet}

/-! ### The requesters of an output (R364) -/

theorem State.port_setPort (s : State) (p q : Nat) (r : PortRt) :
    (s.setPort p r).port q = if q = p then r else s.port q := by
  split
  case isTrue h => exact h ▸ Store.get_set_same ..
  case isFalse h => exact Store.get_set_ne _ _ _ h

@[simp] theorem State.length_outq_enqueue (s : State) (p req o : Nat) (pk : Packet) :
    ((s.enqueue p req pk).port o).outq.length = (s.port o).outq.length := by
  rw [State.enqueue, State.port_setPort]
  split
  case isTrue h => simp [h]
  case isFalse => rfl

theorem State.merge_enqueue (s : State) (p req o : Nat) (pk : Packet) :
    ((s.enqueue p req pk).port o).merge = (s.port o).merge := by
  rw [State.enqueue, State.port_setPort]
  split
  case isTrue h => simp [h]
  case isFalse => rfl

/-- A packet that joins a requester waits behind those of that requester; a requester that is not there takes none. -/
theorem State.outq_enqueue_same (s : State) (p req : Nat) (pk : Packet) :
    ((s.enqueue p req pk).port p).outq.getD req []
      = (s.port p).outq.getD req [] ++ if req < (s.port p).outq.length then [pk] else [] := by
  rw [State.enqueue, State.port_setPort, if_pos rfl]
  by_cases h : req < (s.port p).outq.length <;> simp [List.getD, h]

theorem State.outq_enqueue_ne (s : State) {p o : Nat} (h : o ≠ p) (req : Nat) (pk : Packet) :
    ((s.enqueue p req pk).port o).outq = (s.port o).outq := by
  rw [State.enqueue, State.port_setPort, if_neg h]

/-! ### A flood (R361, R365) -/

theorem State.length_outq_enqueues (g : State → Nat → Packet) (req o : Nat) (l : List Nat) (s : State) :
    ((l.foldl (fun s p => s.enqueue p req (g s p)) s).port o).outq.length = (s.port o).outq.length := by
  induction l generalizing s with
  | nil => rfl
  | cons p l ih => rw [List.foldl_cons, ih, State.length_outq_enqueue]

/-- Packets that join one requester of each output of a list: an output's requester grows by the times that the output
stands in the list. -/
theorem State.waiting_enqueues (g : State → Nat → Packet) {req o : Nat} (l : List Nat) (s : State)
    (h : req < (s.port o).outq.length) :
    (((l.foldl (fun s p => s.enqueue p req (g s p)) s).port o).outq.getD req []).length
      = ((s.port o).outq.getD req []).length + l.count o := by
  induction l generalizing s with
  | nil => rfl
  | cons p l ih =>
    rw [List.foldl_cons, ih _ (by simpa using h), List.count_cons]
    by_cases hp : o = p
    · subst hp
      rw [State.outq_enqueue_same, if_pos h]
      simp only [List.length_append, List.length_singleton, beq_self_eq_true, if_true]
      omega
    · rw [State.outq_enqueue_ne s hp]
      simp [Ne.symm hp]

theorem State.length_outq_flood (s : State) (ty : Nat) (args : List Nat) (except : Option Nat) (o : Nat) :
    ((s.flood ty args except).port o).outq.length = (s.port o).outq.length :=
  State.length_outq_enqueues ..

/-- A flood gives every ACTIVE port but the excepted one a packet of the switch's own requester, and no other port. -/
theorem State.waiting_flood (s : State) (ty : Nat) (args : List Nat) (p o : Fin 6) (h : (s.port o).outq.length = 8) :
    (((s.flood ty args (some p)).port o).outq.getD 7 []).length
      = ((s.port o).outq.getD 7 []).length + if s.portState o = portActive ∧ o ≠ p then 1 else 0 := by
  have hnd : ((List.range 6).filter fun i => s.portState i == portActive && some p.val != some i).Nodup :=
    List.nodup_range.filter _
  refine (State.waiting_enqueues _ _ s (by omega)).trans (congrArg _ ?_)
  rw [hnd.count]
  simp [Fin.ext_iff, eq_comm (a := p.val) (b := o.val)]

/-! ### What taking a packet leaves of the switch's state -/

/-- The switch's state of `t` is that of `s`, up to the record of the wire and the turns of local ejection. -/
def State.SameSwitch (s t : State) : Prop := t.flue = { s.flue with wire := t.flue.wire, eject := t.flue.eject }

theorem State.SameSwitch.of_flue {t : State} (h : t.flue = s.flue) : s.SameSwitch t := by
  rw [State.SameSwitch, h]

theorem State.SameSwitch.trans {t : State} (h : s.SameSwitch u) (h' : u.SameSwitch t) : s.SameSwitch t := by
  unfold State.SameSwitch at *
  rw [h', h]

theorem State.SameSwitch.noted (h : s.SameSwitch u) :
    u.flue.seen = s.flue.seen ∧ u.flue.epSeen = s.flue.epSeen ∧ u.flue.dims = s.flue.dims := by
  rw [State.SameSwitch] at h
  rw [h]
  exact ⟨rfl, rfl, rfl⟩

theorem Keeps.flue {T : Nat} {t : State} (h : Keeps T s t) (hf : T.testBit (Part.num .flue) = false)
    (ht : T.testBit (Part.num .topology) = false) : t.flue = s.flue := by
  have hflue := h.same .flue hf
  obtain ⟨hd, hr, he⟩ := h.same .topology ht
  dsimp only [Part.same] at hflue
  rw [hflue, hd, hr, he]

theorem State.sameSwitch_setPort (s : State) (p : Nat) (r : PortRt) : s.SameSwitch (s.setPort p r) := rfl

theorem State.sameSwitch_putFrame (s : State) (p : Nat) (f : Nat × Nat × List (Packet × Nat)) :
    s.SameSwitch (s.putFrame p f) := by
  unfold State.putFrame
  extract_lets s1
  have h1 : s.SameSwitch s1 := by
    unfold s1
    split <;> rfl
  exact h1.trans rfl

theorem State.sameSwitch_newFrame (s : State) (p : Nat) (l : List (Packet × Nat)) : s.SameSwitch (s.newFrame p l) :=
  have hcount := State.countFlits_keeps (Parts.le_refl _) (keeps_refl _) 0x60 p 1
  (s.sameSwitch_setPort p _).trans ((State.sameSwitch_putFrame _ p _).trans
    (.of_flue (hcount.flue (by decide) (by decide))))

theorem State.sameSwitch_reportCredit (s : State) (p : Nat) : s.SameSwitch (s.reportCredit p) := by
  rw [State.reportCredit, State.sendLocal, State.fillFrame]
  exact (s.sameSwitch_setPort p _).trans ((State.sameSwitch_setPort _ p _).trans
    ((State.sameSwitch_setPort _ p _).trans (State.sameSwitch_newFrame _ p _)))

theorem State.sameSwitch_freeFlits (s : State) (p : Nat) (pk : Packet) : s.SameSwitch (s.freeFlits p pk) := by
  obtain h | ⟨r, h | h⟩ := s.freeFlits_cases p pk
  · exact .of_flue (by rw [h])
  · exact h ▸ s.sameSwitch_setPort p r
  · exact h ▸ (s.sameSwitch_setPort p r).trans (State.sameSwitch_reportCredit _ p)

theorem State.sameSwitch_takeFront {p : Nat} {vc : Option Nat} {f : Packet → Bool} {x : Packet × State}
    (h : s.takeFront p vc f = some x) : s.SameSwitch x.2 := by
  unfold State.takeFront at h
  split at h
  · split at h
    · obtain ⟨y, -, rfl⟩ := Option.map_eq_some_iff.1 h
      exact (s.sameSwitch_setPort p _).trans (State.sameSwitch_freeFlits _ p y)
    · cases h
  · cases h

theorem State.sameSwitch_arrival {p ty : Nat} {kind : Packet → Bool} (h : s.arrival p ty kind = some (pk, u)) :
    s.SameSwitch u := by
  unfold State.arrival at h
  extract_lets v at h
  split at h
  · obtain ⟨x, hx, hu⟩ := Option.map_eq_some_iff.1 h
    cases hu
    exact (State.sameSwitch_takeFront hx).trans rfl
  · cases h

theorem State.flue_flood (s : State) (ty : Nat) (args : List Nat) (except : Option Nat) :
    (s.flood ty args except).flue = s.flue :=
  (State.flood_keeps (Parts.le_refl _) (keeps_refl s) ty args except).flue (by decide) (by decide)

theorem State.flue_abortRank (s : State) (rank : Nat) : (s.abortRank rank).flue = s.flue :=
  (State.abortRank_keeps (Parts.le_refl _) (keeps_refl s) rank).flue (by decide) (by decide)

/-! ### A flood that arrives -/

theorem State.deliverSwitch_arrival {p ty : Nat} (h : s.arrival p ty anyKind = some (pk, u))
    (f : State → Packet → State) : s.deliverSwitch p ty f = .next (f u pk) := by
  simp only [State.deliverSwitch, h]

theorem State.deliverSwitch_none {p ty : Nat} (h : s.arrival p ty anyKind = none) (f : State → Packet → State) :
    s.deliverSwitch p ty f = .next s := by
  simp only [State.deliverSwitch, h]

/-- What the switch notes of a flood does not touch the outputs: each port that was ACTIVE as the flood came in, but the
one it came by, has one more packet to send. -/
theorem State.waiting_flood_arrival {p : Fin 6} {ty : Nat} {kind : Packet → Bool}
    (h : s.arrival p ty kind = some (pk, u)) (noted : FlueRt) (args : List Nat) (o : Fin 6) :
    let t := ({ u with flue := noted } : State).flood ty args (some p)
    (t.port o).outq.length = 8 → ((t.port o).outq.getD 7 []).length
      = ((u.port o).outq.getD 7 []).length + if s.portState o = portActive ∧ o ≠ p then 1 else 0 := by
  intro t h8
  have hstate : u.portState o = s.portState o :=
    (State.arrival_keeps (Parts.le_refl _) (keeps_refl s) _ _ _ h).same (.reg .FLU_PORT) (by decide) _ rfl
  rw [← hstate]
  exact State.waiting_flood { u with flue := noted } ty args p o (State.length_outq_flood .. ▸ h8)

/-! ### LINKSTATE (R361) -/

/-- What a LINKSTATE is known by: rank, port and generation. -/
def linkstateKey (pk : Packet) : Nat × Nat × Nat := (pk.args.getD 0 0, pk.args.getD 1 0, pk.args.getD 2 0)

theorem State.takeLinkstate_seen (p : Nat) (h : u.flue.seen.contains (linkstateKey pk) = true) :
    u.takeLinkstate p pk = u := by
  rw [linkstateKey] at h
  simp only [State.takeLinkstate, h, if_true]

/-- The links that a module takes for failed after a LINKSTATE: without the link it names, or with it when it is down. -/
def State.failedAfter (u : State) (pk : Packet) : List (Nat × Nat) :=
  let link := (pk.args.getD 0 0, pk.args.getD 1 0)
  let others := u.flue.failed.filter fun l => linkKey u.flue.dims l != linkKey u.flue.dims link
  if pk.args.getD 3 0 = 0 then others ++ [link] else others

theorem State.takeLinkstate_new (p : Nat) (h : u.flue.seen.contains (linkstateKey pk) = false) :
    u.takeLinkstate p pk = ({ u with flue := { u.flue with
        seen := linkstateKey pk :: u.flue.seen
        failed := u.failedAfter pk } } : State).flood tyLinkstate pk.args (some p) := by
  rw [linkstateKey] at h
  simp only [State.takeLinkstate, h, Bool.false_eq_true, if_false]
  rfl

theorem State.mem_failedAfter_of_down (h : pk.args.getD 3 0 = 0) :
    (pk.args.getD 0 0, pk.args.getD 1 0) ∈ u.failedAfter pk := by
  simp [State.failedAfter, -List.getD_eq_getElem?_getD, h]

theorem State.failedAfter_of_up (h : pk.args.getD 3 0 ≠ 0) {l : Nat × Nat} (hl : l ∈ u.failedAfter pk) :
    linkKey u.flue.dims l ≠ linkKey u.flue.dims (pk.args.getD 0 0, pk.args.getD 1 0) := by
  rw [State.failedAfter, if_neg h] at hl
  simpa using (List.mem_filter.1 hl).2

/-! ### ENDPOINT (R331, R365) -/

/-- What an ENDPOINT is known by: rank and generation. -/
def endpointKey (pk : Packet) : Nat × Nat := (pk.args.getD 0 0, pk.args.getD 1 0)

theorem State.takeEndpoint_seen (p : Nat) (h : u.flue.epSeen.contains (endpointKey pk) = true) :
    u.takeEndpoint p pk = u := by
  rw [endpointKey] at h
  simp only [State.takeEndpoint, h, if_true]

/-- The ranks whose endpoints a module takes for recovering after an ENDPOINT: without the rank it names when that one is
READY, with it otherwise. -/
def State.recoveringAfter (u : State) (pk : Packet) : List Nat :=
  let others := u.flue.recovering.filter fun r => r != pk.args.getD 0 0
  if pk.args.getD 2 0 = 1 then others else pk.args.getD 0 0 :: others

/-- An ENDPOINT is noted and forwarded. -/
def State.forwardEndpoint (u : State) (p : Nat) (pk : Packet) : State :=
  ({ u with flue := { u.flue with
    epSeen := endpointKey pk :: u.flue.epSeen
    recovering := u.recoveringAfter pk } } : State).flood tyEndpoint pk.args (some p)

theorem State.takeEndpoint_new (p : Nat) (h : u.flue.epSeen.contains (endpointKey pk) = false) :
    u.takeEndpoint p pk = if pk.args.getD 2 0 = 1 then u.forwardEndpoint p pk
      else (u.forwardEndpoint p pk).abortRank (pk.args.getD 0 0) := by
  rw [endpointKey] at h
  simp only [State.takeEndpoint, h, Bool.false_eq_true, if_false, beq_iff_eq]
  rfl

theorem State.coll_forwardEndpoint (u : State) (p : Nat) (pk : Packet) : (u.forwardEndpoint p pk).coll = u.coll :=
  (State.flood_keeps (Parts.le_refl _) (keeps_refl _) tyEndpoint pk.args (some p)).same .coll (by decide)

theorem State.flue_takeEndpoint_new (p : Nat) (h : u.flue.epSeen.contains (endpointKey pk) = false) :
    (u.takeEndpoint p pk).flue = { u.flue with
      epSeen := endpointKey pk :: u.flue.epSeen, recovering := u.recoveringAfter pk } := by
  rw [State.takeEndpoint_new p h]
  split
  case isTrue => exact State.flue_flood ..
  case isFalse => exact (State.flue_abortRank ..).trans (State.flue_flood ..)

/-- Without collectives there is none to abort. -/
theorem State.abortRank_of_no_coll (h : s.coll = []) (rank : Nat) : s.abortRank rank = s := by
  simp [State.abortRank, h]

/-- An ENDPOINT that aborts nothing does no more than it forwards. -/
theorem State.takeEndpoint_forwards (p : Nat) (h : u.flue.epSeen.contains (endpointKey pk) = false)
    (hq : pk.args.getD 2 0 = 1 ∨ u.coll = []) : u.takeEndpoint p pk = u.forwardEndpoint p pk := by
  rw [State.takeEndpoint_new p h]
  split
  case isTrue => rfl
  case isFalse hr => exact State.abortRank_of_no_coll ((u.coll_forwardEndpoint p pk).trans (hq.resolve_left hr)) _

theorem State.not_mem_recoveringAfter (h : pk.args.getD 2 0 = 1) : pk.args.getD 0 0 ∉ u.recoveringAfter pk := by
  rw [State.recoveringAfter, if_pos h]
  simp

theorem State.mem_recoveringAfter (h : pk.args.getD 2 0 ≠ 1) : pk.args.getD 0 0 ∈ u.recoveringAfter pk := by
  rw [State.recoveringAfter, if_neg h]
  exact List.mem_cons_self

/-! ### Transit (R358, R362, R363) -/

theorem exec_transitPacket_none {p : Fin 6} (h : s.passes p = none) : exec (.transitPacket p) s = .next s := by
  change execTransitPacket p s = _
  simp only [execTransitPacket, h]

theorem exec_transitPacket {p : Fin 6} (h : s.passes p = some (pk, u)) :
    exec (.transitPacket p) s = .next (u.transit p pk) := by
  change execTransitPacket p s = _
  simp only [execTransitPacket, h]

theorem State.transit_discards (p : Nat) (h : 48 ≤ pk.hops ∨ 6 ≤ u.routeOut pk.dest) :
    u.transit p pk = u.discardPacket pk unreachRoute := by
  have ho : u.transitOut pk = none := by simp [State.transitOut, h]
  simp only [State.transit, ho]

/-- The input after `p` is served next in the merge of a VC's transit packets for an output. -/
def State.turnAfter (u : State) (o v p : Nat) : State :=
  u.setPort o { u.port o with merge := (u.port o).merge.set v ((p + 1) % 6) }

theorem State.transit_forwards (p : Nat) (hh : pk.hops < 48) (ho : u.routeOut pk.dest < 6) :
    let o := u.routeOut pk.dest
    u.transit p pk
      = (u.turnAfter o pk.vc p).enqueue o pk.vc { pk with dl := outDl u.flue.dims u.rank o (some (p / 2)) pk.dl } := by
  intro o
  have hout : u.transitOut pk = some o := by simp [State.transitOut, o, hh, ho]
  simp only [State.transit, hout]
  rfl

theorem State.port_turnAfter (u : State) (o v p : Nat) :
    (u.turnAfter o v p).port o = { u.port o with merge := (u.port o).merge.set v ((p + 1) % 6) } := by
  rw [State.turnAfter, State.port_setPort, if_pos rfl]

/-- Settles O45: a flood that is new is noted and then forwarded, and the state that is noted survives the forwarding and
the aborts; a packet for another rank is discarded, or joins the output of the table behind those of its VC. The codes
of type fields are the model's choice (log entry 12). -/
theorem floodsAndTransit : Obligations.FloodsAndTransit := by
  constructor
  case left =>
    intro p s u pk a flooded
    refine ⟨fun ha => ?_, fun ha => ?_, fun ha => State.deliverSwitch_none ha _,
      fun ha => State.deliverSwitch_none ha _⟩
    · intro k
      obtain ⟨hseen, -, hdims⟩ := (State.sameSwitch_arrival ha).noted
      have hex : exec (.linkstate p) s = .next (u.takeLinkstate p pk) := State.deliverSwitch_arrival ha _
      rw [hex, ← hseen, ← hdims]
      refine ⟨fun h => by rw [State.takeLinkstate_seen p h], fun h => ⟨_, rfl, ?_⟩⟩
      rw [State.takeLinkstate_new p h, State.flue_flood]
      exact ⟨rfl, fun hd => State.mem_failedAfter_of_down hd, fun hd l hl => State.failedAfter_of_up hd hl,
        State.waiting_flood_arrival ha _ _⟩
    · intro k
      obtain ⟨-, hseen, -⟩ := (State.sameSwitch_arrival ha).noted
      have hex : exec (.endpoint p) s = .next (u.takeEndpoint p pk) := State.deliverSwitch_arrival ha _
      have hcoll : u.coll = s.coll :=
        (State.arrival_keeps (Parts.le_refl _) (keeps_refl s) _ _ _ ha).same .coll (by decide)
      rw [hex, ← hseen, ← hcoll]
      refine ⟨fun h => by rw [State.takeEndpoint_seen p h], fun h => ⟨_, rfl, ?_⟩⟩
      rw [State.flue_takeEndpoint_new p h]
      refine ⟨rfl, fun hr => State.not_mem_recoveringAfter hr, fun hr => State.mem_recoveringAfter hr, fun hq => ?_⟩
      rw [State.takeEndpoint_forwards p h hq]
      exact State.waiting_flood_arrival ha _ _
  case right =>
    intro p s
    refine ⟨exec_transitPacket_none, fun pk u h => ?_⟩
    intro o
    rw [exec_transitPacket h]
    refine ⟨fun hd => by rw [State.transit_discards p hd], fun hh ho => ⟨_, rfl, ?_⟩⟩
    rw [State.transit_forwards p hh ho]
    constructor
    · rw [State.merge_enqueue, State.port_turnAfter]
    · rw [State.outq_enqueue_same, State.port_turnAfter]

end Sys2Proof.Machine

/-! The tick of the reference clock (R31, R367, R421), and the frame of the commands of the fabric and the stacks. -/

namespace Sys2Proof.Machine

open Sys2Proof

variable {s : State}

theorem State.now_setF_time (s : State) (n : Nat) : (s.setF FLU_TIME_NS n).now = n % 2 ^ 64 := s.getF_setF FLU_TIME_NS n

theorem State.tick_stands (h : s.power.life = .off ∨ s.power.life = .inReset ∨ s.stopped = true
    ∨ s.getF PWR_STAT_STATE = 2) : s.tick = s :=
  if_pos (by simpa [or_assoc] using h)

/-- The root's clock has no trim, so that its fraction stays below one step. -/
theorem State.now_tick_root (hoff : s.power.life ≠ .off) (hreset : s.power.life ≠ .inReset) (hstop : s.stopped = false)
    (hember : s.getF PWR_STAT_STATE ≠ 2) (hroot : s.rank = s.flue.root) (hfrac : s.flue.frac < 2 ^ 32) :
    s.tick.now = (s.now + 10) % 2 ^ 64 := by
  have hwhole : (s.flue.frac : Int) / 2 ^ 32 = 0 := by omega
  have hsum : (((s.now : Int) + 10) % 2 ^ 64).toNat = (s.now + 10) % 2 ^ 64 := by omega
  rw [State.tick, if_neg (by simp [hoff, hreset, hstop, hember]), State.now_setF_time]
  simp only [hroot, if_true, add_zero, hwhole, hsum, Nat.mod_mod]

/-- Settles O2: a step without a command is the tick, which stands or adds 10 ns. That an idle step is a tick is the
model's choice (log entry 11). -/
theorem idleStepIsClockTick : Obligations.IdleStepIsClockTick := by
  intro s hp
  refine ⟨?_, State.tick_stands, State.now_tick_root⟩
  rw [step, hp]

/-- No command of the fabric writes a part beside its frame. -/
theorem execParts_of_fabric {c : Instr} (h : (frameOf c).1 = .fabric) : execParts c = (frameOf c).2 := by
  unfold execParts
  split
  · cases h
  · rfl

/-- Settles O10: a command changes the parts of its frame alone. -/
theorem fabricSideFrame : Obligations.FabricSideFrame := by
  intro c s t p hc he hp
  have hk := exec_keeps (Parts.le_refl _) (keeps_refl s) t he
  exact hk.same p (Parts.testBit_of_not_mem (execParts_of_fabric hc ▸ hp))

end Sys2Proof.Machine

/-! The link layer: what the sending of a frame leaves of its port and what it puts on the wire (R346, R348, R349, R355,
R357). -/

namespace Sys2Proof.Machine

open Sys2Proof

variable {s t : State}

/-! ### What an operation keeps -/

theorem Keeps.getF {T : Nat} (h : Keeps T s t) {f : Fld} (hT : T.testBit (Part.num (.reg f.reg)) = false) :
    t.getF f = s.getF f :=
  h.same _ hT f rfl

theorem Keeps.port {T : Nat} (h : Keeps T s t) (hT : T.testBit (Part.num .ports) = false) (p : Nat) :
    t.port p = s.port p :=
  congrArg (Store.get PortRt.init · p) (h.same .ports hT)

@[simp] theorem State.port_setPort_same (s : State) (p : Nat) (r : PortRt) : (s.setPort p r).port p = r :=
  Store.get_set_same ..

@[simp] theorem State.port_onWire (s : State) (l : List Sent) (p : Nat) : (s.onWire l).port p = s.port p := rfl

@[simp] theorem State.wire_onWire (s : State) (l : List Sent) : (s.onWire l).flue.wire = l.reverse ++ s.flue.wire := rfl

@[simp] theorem State.wire_setPort (s : State) (p : Nat) (r : PortRt) : (s.setPort p r).flue.wire = s.flue.wire := rfl

theorem State.countFlits_keeps_self (s : State) (code p frames : Nat) :
    Keeps (Parts.of triggerParts) s (s.countFlits code p frames) :=
  State.countFlits_keeps (Parts.le_refl _) (keeps_refl s) code p frames

@[simp] theorem State.port_countFlits (s : State) (code p frames q : Nat) :
    (s.countFlits code p frames).port q = s.port q :=
  (s.countFlits_keeps_self code p frames).port (by decide) q

@[simp] theorem State.wire_countFlits (s : State) (code p frames : Nat) :
    (s.countFlits code p frames).flue.wire = s.flue.wire :=
  congrArg FlueRt.wire ((s.countFlits_keeps_self code p frames).flue (by decide) (by decide))

/-! ### A frame on the wire (R346) -/

theorem State.port_sendSkip (s : State) (p : Nat) :
    (s.sendSkip p).port p = { s.port p with framesSent := 0, skipTx := some s.now } :=
  State.port_setPort_same ..

/-- A SKIP frame that takes its turn first leaves its own time and clears the count of frames. -/
theorem State.port_putFrame (s : State) (p : Nat) (f : Nat × Nat × List (Packet × Nat)) : ∃ n k,
    (s.putFrame p f).port p = { s.port p with framesSent := n, skipTx := k } := by
  by_cases h : 4095 ≤ (s.port p).framesSent
  · exact ⟨1, some s.now, by
      rw [State.putFrame, if_pos h, State.port_onWire, State.port_setPort_same, State.port_sendSkip]⟩
  · exact ⟨(s.port p).framesSent + 1, (s.port p).skipTx, by
      rw [State.putFrame, if_neg h, State.port_onWire, State.port_setPort_same]⟩

theorem State.length_wire_putFrame (s : State) (p : Nat) (f : Nat × Nat × List (Packet × Nat)) :
    s.flue.wire.length + 1 ≤ (s.putFrame p f).flue.wire.length := by
  unfold State.putFrame
  extract_lets s1
  have h1 : s.flue.wire.length ≤ s1.flue.wire.length := by
    unfold s1
    split <;> simp [State.sendSkip]
  simpa using h1

/-- Until 4,095 frames have left, a frame leaves alone. -/
theorem State.putFrame_alone {p : Nat} (h : (s.port p).framesSent < 4095) (f : Nat × Nat × List (Packet × Nat)) :
    (s.putFrame p f).port p = { s.port p with framesSent := (s.port p).framesSent + 1 }
      ∧ (s.putFrame p f).flue.wire = s.sentFrame p f.1 f.2.2 :: s.flue.wire := by
  rw [State.putFrame, if_neg (Nat.not_le.2 h)]
  exact ⟨State.port_setPort_same .., rfl⟩

/-! ### A new frame (R348, R349) -/

/-- A port after some frames have left and wait in the retry buffer: `tx` is the next `SEQ`, and `n` and `k` are what is
left of the count of frames and of the time of the last SKIP frame. -/
def PortRt.sending (r : PortRt) (new : List (Nat × Nat × List (Packet × Nat))) (tx n : Nat) (k : Option Nat) : PortRt :=
  { r with txSeq := tx, unacked := r.unacked ++ new, framesSent := n, skipTx := k }

/-- A port after a frame of some flits has taken the next `SEQ` and left. -/
def PortRt.framed (r : PortRt) (l : List (Packet × Nat)) (n : Nat) (k : Option Nat) : PortRt :=
  r.sending [(r.txSeq, 0, l)] ((r.txSeq + 1) % 256) n k

theorem State.port_newFrame (s : State) (p : Nat) (l : List (Packet × Nat)) : ∃ n k,
    (s.newFrame p l).port p = (s.port p).framed l n k := by
  rw [State.newFrame, State.port_countFlits]
  obtain ⟨n, k, h⟩ := State.port_putFrame (s.setPort p _) p ((s.port p).txSeq, 0, l)
  exact ⟨n, k, by rw [h, State.port_setPort_same]; rfl⟩

theorem State.port_fillFrame (s : State) (p : Nat) : ∃ n k,
    (s.fillFrame p).port p = { s.port p with slots := [] }.framed (s.port p).slots n k := by
  obtain ⟨n, k, h⟩ := State.port_newFrame (s.setPort p { s.port p with slots := [] }) p (s.port p).slots
  exact ⟨n, k, by rw [State.fillFrame, h, State.port_setPort_same]⟩

theorem State.port_sendLocal (s : State) (p ty : Nat) (args : List Nat) : ∃ pk n k, (s.sendLocal p ty args).port p
    = { s.port p with slots := [] }.framed ((s.port p).slots ++ [(pk, 0)]) n k := by
  unfold State.sendLocal
  extract_lets r src pk
  obtain ⟨n, k, h⟩ := State.port_fillFrame (s.setPort p { r with slots := r.slots ++ [(pk, 0)] }) p
  exact ⟨pk, n, k, by rw [h, State.port_setPort_same]⟩

theorem State.port_reportCredit (s : State) (p : Nat) : ∃ pk n k, (s.reportCredit p).port p
    = { s.port p with reported := (s.port p).freed, slots := [] }.framed ((s.port p).slots ++ [(pk, 0)]) n k := by
  obtain ⟨pk, n, k, h⟩ := State.port_sendLocal (s.setPort p { s.port p with reported := (s.port p).freed }) p tyCredit
    (s.port p).freed
  exact ⟨pk, n, k, by rw [State.reportCredit, h, State.port_setPort_same]⟩

/-! ### What a port's receiver holds -/

/-- The receiving side of a port: the `SEQ` that it expects, whether a NAK is out, and the packets at its input. -/
def PortRt.receiver (r : PortRt) : Nat × Bool × List Packet := (r.rxSeq, r.nakSent, r.inbuf)

/-- Freed flits may send a CREDIT, which is no matter of the receiver. -/
theorem State.receiver_freeFlits (s : State) (p : Nat) (pk : Packet) :
    ((s.freeFlits p pk).port p).receiver = (s.port p).receiver := by
  unfold State.freeFlits
  split
  · rfl
  · extract_lets r r' s1
    have h1 : s1.port p = r' := State.port_setPort_same ..
    split
    · obtain ⟨_, n, k, h⟩ := s1.port_reportCredit p
      rw [h, h1]
      rfl
    · rw [h1]
      rfl

end Sys2Proof.Machine

/-! The output arbiter and the grant of an output: who is granted, and what the granted packet leaves at its port (R349,
R353, R355, R357, R362, R364, R388, R389). -/

namespace Sys2Proof.Machine

open Sys2Proof

variable {s : State}

/-! ### The arbiter (R388) -/

/-- The eight requesters in rotating order, from a pointer on. -/
def turns (ptr : Nat) : List Nat := (List.range 8).map fun i => (ptr + i) % 8

theorem mem_turns {ptr i : Nat} : i ∈ turns ptr ↔ i < 8 := by
  simp only [turns, List.mem_map, List.mem_range]
  exact ⟨fun ⟨j, _, hj⟩ => by omega, fun hi => ⟨(i + 8 - ptr % 8) % 8, by omega, by omega⟩⟩

section
variable (req : List Bool) (hp : Nat) (quota used : List Nat)

/-- A requester of the high-priority set requests within its quota. -/
def asksHigh (i : Nat) : Bool := req.getD i false && bitOf hp i && decide (used.getD i 0 < quota.getD i 0)

/-- A requester outside the high-priority set requests. -/
def asksLow (i : Nat) : Bool := req.getD i false && !bitOf hp i

end

section
variable {req : List Bool} {hp : Nat} {quota used : List Nat} {ptrH ptrL g : Nat}

theorem asksHigh_iff {i : Nat} : asksHigh req hp quota used i = true
    ↔ req.getD i false = true ∧ bitOf hp i = true ∧ used.getD i 0 < quota.getD i 0 := by
  simp [asksHigh, and_assoc]

theorem asksLow_iff {i : Nat} : asksLow req hp i = true ↔ req.getD i false = true ∧ bitOf hp i = false := by
  simp [asksLow]

theorem find?_turns_none {ptr : Nat} {f : Nat → Bool} (h : (turns ptr).find? f = none) {i : Nat} (hi : i < 8) :
    f i ≠ true :=
  List.find?_eq_none.1 h i (mem_turns.2 hi)

theorem find?_turns_some {ptr : Nat} {f : Nat → Bool} (h : (turns ptr).find? f = some g) : g < 8 ∧ f g = true :=
  ⟨mem_turns.1 (List.mem_of_find?_eq_some h), List.find?_some h⟩

theorem arbitrate_high (h : (turns ptrH).find? (asksHigh req hp quota used) = some g) :
    arbitrate req hp quota used ptrH ptrL = some (g, used.modify g (· + 1), (g + 1) % 8, ptrL) := by
  unfold turns asksHigh at h
  simp only [arbitrate, h]

theorem arbitrate_low (hh : (turns ptrH).find? (asksHigh req hp quota used) = none)
    (hl : (turns ptrL).find? (asksLow req hp) = some g) :
    arbitrate req hp quota used ptrH ptrL = some (g, used, ptrH, (g + 1) % 8) := by
  unfold turns asksHigh at hh
  unfold turns asksLow at hl
  simp only [arbitrate, hh, hl]

theorem arbitrate_none (hh : (turns ptrH).find? (asksHigh req hp quota used) = none)
    (hl : (turns ptrL).find? (asksLow req hp) = none) : arbitrate req hp quota used ptrH ptrL = none := by
  unfold turns asksHigh at hh
  unfold turns asksLow at hl
  simp only [arbitrate, hh, hl]

/-- The arbiter grants one of the high-priority set that is within its quota, or else one outside the set, or else
none. -/
theorem arbitrate_cases (req : List Bool) (hp : Nat) (quota used : List Nat) (ptrH ptrL : Nat) :
    (∃ g, (g < 8 ∧ asksHigh req hp quota used g = true)
        ∧ arbitrate req hp quota used ptrH ptrL = some (g, used.modify g (· + 1), (g + 1) % 8, ptrL))
    ∨ (∀ i, i < 8 → asksHigh req hp quota used i ≠ true) ∧
      ((∃ g, (g < 8 ∧ asksLow req hp g = true)
          ∧ arbitrate req hp quota used ptrH ptrL = some (g, used, ptrH, (g + 1) % 8))
        ∨ (∀ i, i < 8 → asksLow req hp i ≠ true) ∧ arbitrate req hp quota used ptrH ptrL = none) := by
  cases hh : (turns ptrH).find? (asksHigh req hp quota used) with
  | some g => exact .inl ⟨g, find?_turns_some hh, arbitrate_high hh⟩
  | none =>
    refine .inr ⟨fun i => find?_turns_none hh, ?_⟩
    cases hl : (turns ptrL).find? (asksLow req hp) with
    | some g => exact .inl ⟨g, find?_turns_some hl, arbitrate_low hh hl⟩
    | none => exact .inr ⟨fun i => find?_turns_none hl, arbitrate_none hh hl⟩

theorem getD_modify_succ (hg : g < used.length) : (used.modify g (· + 1)).getD g 0 = used.getD g 0 + 1 := by
  simp [List.getD, hg]

end

/-! ### The frames that a packet fills (R353) -/

/-- The first frames of five flits each. -/
def fullFrames (l : List (Packet × Nat)) (n : Nat) : List (List (Packet × Nat)) :=
  (List.range n).map fun i => (l.drop (5 * i)).take 5

theorem flatten_fullFrames (l : List (Packet × Nat)) (n : Nat) : (fullFrames l n).flatten = l.take (5 * n) := by
  induction n with
  | zero => rfl
  | succ n ih =>
    rw [fullFrames, List.range_succ, List.map_append, List.flatten_append, Nat.mul_succ, List.take_add]
    exact congrArg₂ _ ih (by simp)

theorem length_of_mem_fullFrames {l x : List (Packet × Nat)} {n : Nat} (hn : 5 * n ≤ l.length)
    (h : x ∈ fullFrames l n) : x.length = 5 := by
  obtain ⟨i, hi, rfl⟩ := List.mem_map.1 h
  have := List.mem_range.1 hi
  simp only [List.length_take, List.length_drop]
  omega

/-- Frames that leave one after the other join the retry buffer in that order. -/
theorem State.port_newFrames (p : Nat) (ls : List (List (Packet × Nat))) (s : State) : ∃ new tx n k,
    (ls.foldl (fun s l => s.newFrame p l) s).port p = (s.port p).sending new tx n k ∧ new.map (·.2.2) = ls := by
  induction ls generalizing s with
  | nil => exact ⟨[], _, _, _, by rw [PortRt.sending, List.append_nil]; rfl, rfl⟩
  | cons l ls ih =>
    obtain ⟨n, k, h⟩ := s.port_newFrame p l
    obtain ⟨new, tx, n', k', h', hmap⟩ := ih (s.newFrame p l)
    refine ⟨((s.port p).txSeq, 0, l) :: new, tx, n', k', ?_, by rw [List.map_cons, hmap]⟩
    rw [List.foldl_cons, h', h, PortRt.framed, PortRt.sending, PortRt.sending, List.append_assoc]
    rfl

/-- A packet's flits follow those of the frame at hand: full frames leave, and the rest stays at hand. -/
theorem State.port_placePacket (s : State) (p : Nat) (pk : Packet) :
    let r := s.port p
    let l := r.slots ++ packetFlits pk
    ∃ new tx n k, (s.placePacket p pk).port p = { r with slots := l.drop (5 * r.framesFor pk) }.sending new tx n k
      ∧ new.map (·.2.2) = fullFrames l (r.framesFor pk) := by
  intro r l
  obtain ⟨new, tx, n, k, h, hmap⟩ := State.port_newFrames p (fullFrames l (r.framesFor pk))
    (s.setPort p { r with slots := l.drop (5 * r.framesFor pk) })
  refine ⟨new, tx, n, k, ?_, hmap⟩
  rw [fullFrames, List.foldl_map, State.port_setPort_same] at h
  exact h

theorem getD_modify_tail {α : Type} (l : List (List α)) (g : Nat) :
    (l.modify g List.tail).getD g [] = (l.getD g []).tail := by
  cases h : l[g]? <;> simp [List.getD, h]

theorem length_packetFlits (pk : Packet) : (packetFlits pk).length = pk.flits := by
  simp [packetFlits]

/-! ### OUTPUT_GRANT -/

theorem exec_outputGrant {p : Fin 6} (h : s.linkUp p = true) (cycle : Nat) :
    exec (.outputGrant p cycle) s = .next (s.grantOutput p cycle) := by
  simp [exec, execOutputGrant, onlyIf, h]

/-- The choice of an output's arbiter at a cycle. -/
def State.outputChoice (s : State) (p cycle : Nat) : Option (Nat × List Nat × Nat × Nat) :=
  arbitrate (s.port p).requests s.seval.flHp s.seval.flQ
    (usedAt (s.port p).used (s.port p).win (cycle / s.seval.flWin)) (s.port p).ptrH (s.port p).ptrL

section
variable {p cycle : Nat}

theorem State.grantOutput_some {g h l : Nat} {v : List Nat} {pk : Packet}
    (hc : s.outputChoice p cycle = some (g, v, h, l)) (hpk : ((s.port p).outq.getD g []).head? = some pk) :
    s.grantOutput p cycle = (s.setPort p { s.port p with
      used := v, win := cycle / s.seval.flWin, ptrH := h, ptrL := l }).sendOut p g pk := by
  unfold State.outputChoice at hc
  simp only [State.grantOutput, hc, hpk]

theorem State.grantOutput_none (hc : s.outputChoice p cycle = none) : s.grantOutput p cycle =
    let u := s.setPort p { s.port p with
      used := usedAt (s.port p).used (s.port p).win (cycle / s.seval.flWin), win := cycle / s.seval.flWin }
    if (s.port p).room then u.fillFrame p else u := by
  unfold State.outputChoice at hc
  simp only [State.grantOutput, hc]

/-- What a packet that leaves through a requester makes of its port. -/
theorem State.port_sendOut (s : State) (p g : Nat) (pk : Packet) :
    let r := s.port p
    let l := r.slots ++ packetFlits { pk with hops := pk.hops + 1 }
    ∃ new tx n k, (s.sendOut p g pk).port p = { r with
        sent := r.sent.modify (bufClass pk) fun x => (x + pk.flits) % 2 ^ 16
        outq := r.outq.modify g List.tail
        slots := l.drop (5 * r.framesFor pk) }.sending new tx n k
      ∧ new.map (·.2.2) = fullFrames l (r.framesFor pk) := by
  intro r l
  have hplaced := State.port_placePacket (s.setPort p { r with
    sent := r.sent.modify (bufClass pk) fun x => (x + pk.flits) % 2 ^ 16
    outq := r.outq.modify g List.tail }) p { pk with hops := pk.hops + 1 }
  rw [State.port_setPort_same] at hplaced
  exact hplaced

end

/-- The frames that a granted packet fills join the retry buffer, and what they hold with what stays at hand are the
flits that were at hand and the packet's. -/
theorem State.grantOutput_sends {p cycle g h l : Nat} {v : List Nat} {pk : Packet}
    (hc : s.outputChoice p cycle = some (g, v, h, l)) (hpk : ((s.port p).outq.getD g []).head? = some pk) :
    let r := s.port p
    let u := (s.grantOutput p cycle).port p
    ∃ new, u.used = v ∧ u.ptrH = h ∧ u.ptrL = l ∧ u.outq.getD g [] = (r.outq.getD g []).tail
      ∧ u.unacked = r.unacked ++ new ∧ new.length = (r.slots.length + pk.flits) / 5 ∧ (∀ x ∈ new, x.2.2.length = 5)
      ∧ new.flatMap (·.2.2) ++ u.slots = r.slots ++ packetFlits { pk with hops := pk.hops + 1 }
      ∧ u.sent = r.sent.modify (bufClass pk) fun x => (x + pk.flits) % 2 ^ 16 := by
  intro r u
  obtain ⟨new, tx, n, k, hu, hnew⟩ := State.port_sendOut (s.setPort p { r with
    used := v, win := cycle / s.seval.flWin, ptrH := h, ptrL := l }) p g pk
  rw [← State.grantOutput_some hc hpk, State.port_setPort_same] at hu
  rw [State.port_setPort_same] at hnew
  have hu' : u = _ := hu
  rw [hu']
  refine ⟨new, rfl, rfl, rfl, getD_modify_tail .., rfl, ?_, fun x hx => ?_, ?_, rfl⟩
  · exact ((List.length_map ..).symm.trans (congrArg _ hnew)).trans (by simp [fullFrames, PortRt.framesFor, r])
  · refine length_of_mem_fullFrames ?_ (hnew ▸ List.mem_map_of_mem hx)
    simp only [List.length_append, length_packetFlits, PortRt.framesFor]
    omega
  · rw [List.flatMap_def, hnew, flatten_fullFrames]
    exact List.take_append_drop ..

/-- With nothing granted the frame at hand leaves when the retry buffer has room for it. -/
theorem State.grantOutput_fills {p cycle : Nat} (hc : s.outputChoice p cycle = none) :
    let r := s.port p
    let u := (s.grantOutput p cycle).port p
    (r.unacked.length < 128 → u.unacked = r.unacked ++ [(r.txSeq, 0, r.slots)] ∧ u.slots = [])
      ∧ (128 ≤ r.unacked.length → u.unacked = r.unacked ∧ u.slots = r.slots) := by
  intro r u
  have hu : u = _ := congrArg (fun t => t.port p) (State.grantOutput_none hc)
  dsimp only at hu
  refine ⟨fun hr => ?_, fun hr => ?_⟩
  · have hroom : (s.port p).room = true := decide_eq_true hr
    rw [if_pos hroom] at hu
    obtain ⟨n, k, hf⟩ := State.port_fillFrame (s.setPort p { r with
      used := usedAt r.used r.win (cycle / s.seval.flWin), win := cycle / s.seval.flWin }) p
    rw [hu, hf, State.port_setPort_same]
    exact ⟨rfl, rfl⟩
  · have hroom : ¬ (s.port p).room = true := by simp [PortRt.room]; exact hr
    rw [if_neg hroom, State.port_setPort_same] at hu
    rw [hu]
    exact ⟨rfl, rfl⟩

/-! ### CREDIT_WAIT_TIMEOUT (R362) -/

theorem exec_creditWaitTimeout_none {p : Fin 6} {r : Fin 8} (h : s.starved p r = none) :
    exec (.creditWaitTimeout p r) s = .next s := by
  simp [exec, execCreditWaitTimeout, h]

theorem State.starved_of_head {p r : Nat} {pk : Packet} (hpk : ((s.port p).outq.getD r []).head? = some pk)
    (hc : (s.port p).hasCredits pk = false) : s.starved p r = some pk := by
  simp only [State.starved, hpk, Option.filter, hc, Bool.not_false, if_true]

theorem exec_creditWaitTimeout_down {p : Fin 6} {r : Fin 8} (h : s.linkUp p = false) :
    exec (.creditWaitTimeout p r) s = .next s := by
  cases hp : s.starved p r <;> simp [exec, execCreditWaitTimeout, hp, onlyIf, h]

theorem exec_creditWaitTimeout {p : Fin 6} {r : Fin 8} {pk : Packet} (h : s.linkUp p = true)
    (hp : s.starved p r = some pk) : exec (.creditWaitTimeout p r) s = .next
      ((s.setPort p { s.port p with outq := (s.port p).outq.modify r List.tail }).discardPacket pk unreachRoute) := by
  simp [exec, execCreditWaitTimeout, hp, onlyIf, h]

/-- Settles O46: the arbiter's choice is one of three; a granted packet's flits fill frames, and with none granted the
frame at hand is filled. That packets lie contiguously across frames is the model's choice (log entry 13). -/
theorem outputArbitration : Obligations.OutputArbitration := by
  refine ⟨fun req hp quota used ptrH ptrL => ?_, fun p cycle s hup => ?_, fun p r s => ?_⟩
  · intro high low
    have hhigh (i : Nat) : high i ↔ i < 8 ∧ asksHigh req hp quota used i = true :=
      and_congr_right fun _ => asksHigh_iff.symm
    have hlow (i : Nat) : low i ↔ i < 8 ∧ asksLow req hp i = true := and_congr_right fun _ => asksLow_iff.symm
    simp only [hhigh, hlow, not_and]
    obtain ⟨g, hg, h⟩ | ⟨hnone, ⟨g, hg, h⟩ | ⟨hnone', h⟩⟩ := arbitrate_cases req hp quota used ptrH ptrL
    · rw [h]
      refine ⟨⟨nofun, fun hn => absurd hg.2 ((hn g).1 hg.1)⟩, ?_⟩
      rintro _ _ _ _ ⟨⟩
      exact .inl ⟨hg, rfl, rfl, getD_modify_succ⟩
    · rw [h]
      refine ⟨⟨nofun, fun hn => absurd hg.2 ((hn g).2 hg.1)⟩, ?_⟩
      rintro _ _ _ _ ⟨⟩
      exact .inr ⟨hg, hnone, rfl, rfl, rfl⟩
    · rw [h]
      exact ⟨⟨fun _ i => ⟨hnone i, hnone' i⟩, fun _ => rfl⟩, nofun⟩
  · intro r choice
    rw [exec_outputGrant hup]
    refine ⟨fun g v h l pk hc hpk => ?_, fun hc => ⟨_, rfl, State.grantOutput_fills hc⟩⟩
    obtain ⟨new, hsent⟩ := State.grantOutput_sends hc hpk
    exact ⟨_, new, rfl, hsent⟩
  · exact ⟨exec_creditWaitTimeout_none, fun pk hpk hc =>
      ⟨fun hup => exec_creditWaitTimeout hup (State.starved_of_head hpk hc), exec_creditWaitTimeout_down⟩⟩

end Sys2Proof.Machine

/-! Replay and the link-local packets: what is sent again, and what NAK, CREDIT, a credit report and IDLE do (R349,
R352, R355, R357). -/

namespace Sys2Proof.Machine

open Sys2Proof

variable {s u : State} {pk : Packet} {p : Nat}

/-! ### Frames sent again (R349) -/

/-- A frame in the retry buffer, replayed once more. -/
def replayed (f : Nat × Nat × List (Packet × Nat)) : Nat × Nat × List (Packet × Nat) := (f.1, f.2.1 + 1, f.2.2)

/-- Sending frames leaves the retry buffer alone, and each takes its place on the wire. -/
theorem State.putFrames (p : Nat) (l : List (Nat × Nat × List (Packet × Nat))) (s : State) :
    ((l.foldl (fun s f => s.putFrame p f) s).port p).unacked = (s.port p).unacked
      ∧ s.flue.wire.length + l.length ≤ (l.foldl (fun s f => s.putFrame p f) s).flue.wire.length := by
  induction l generalizing s with
  | nil => exact ⟨rfl, Nat.le_refl _⟩
  | cons f l ih =>
    obtain ⟨hunacked, hwire⟩ := ih (s.putFrame p f)
    obtain ⟨n, k, h⟩ := s.port_putFrame p f
    have hone := s.length_wire_putFrame p f
    rw [List.foldl_cons, List.length_cons, hunacked, h]
    exact ⟨rfl, by omega⟩

/-- As long as no SKIP frame is due, the frames alone are on the wire, newest first. -/
theorem State.putFrames_alone (p : Nat) (l : List (Nat × Nat × List (Packet × Nat))) (s : State)
    (h : (s.port p).framesSent + l.length ≤ 4095) : ∃ sent, (l.foldl (fun s f => s.putFrame p f) s).flue.wire
      = sent ++ s.flue.wire ∧ sent.map Sent.seq = (l.map (·.1)).reverse := by
  induction l generalizing s with
  | nil => exact ⟨[], rfl, rfl⟩
  | cons f l ih =>
    rw [List.length_cons] at h
    obtain ⟨hport, hwire⟩ := State.putFrame_alone (s := s) (p := p) (by omega) f
    have hcount : ((s.putFrame p f).port p).framesSent = (s.port p).framesSent + 1 := by rw [hport]
    obtain ⟨sent, hsent, hseq⟩ := ih (s.putFrame p f) (by omega)
    refine ⟨sent ++ [s.sentFrame p f.1 f.2.2], ?_, ?_⟩
    · rw [List.foldl_cons, hsent, hwire, List.append_assoc]
      rfl
    · simp [hseq, State.sentFrame]

/-! ### REPLAY_TIMEOUT (R349) -/

/-- The frames to replay wait with their counts raised, before the first of them leaves. -/
def State.recounted (s : State) (p : Nat) : State :=
  (s.setPort p { s.port p with unacked := (s.port p).unacked.map replayed }).addSat (FLU_PERR_REPLAY p)
    (s.port p).unacked.length

/-- A replay from the oldest frame is one of the whole retry buffer. -/
theorem State.replayAll_eq (h : (s.port p).unacked ≠ []) : s.replayAll p =
    (((s.port p).unacked.map replayed).foldl (fun s f => s.putFrame p f) (s.recounted p)).countFlits 0x60 p
      (s.port p).unacked.length := by
  obtain ⟨f, l, hfl⟩ := List.exists_cons_of_ne_nil h
  have hold : (s.port p).oldest = some f.1 := by simp [PortRt.oldest, hfl]
  have hfirst : (s.port p).unacked.findIdx (fun x => x.1 == f.1) = 0 := by simp [hfl, List.findIdx_cons]
  have hpos : 0 < (s.port p).unacked.length := List.length_pos_iff.2 h
  simp only [State.replayAll, hold, State.replay, State.replayFrom, hfirst, hpos, if_true, List.take_zero,
    List.drop_zero, List.nil_append, List.length_map, Nat.sub_zero]
  rfl

theorem State.port_recounted (s : State) (p : Nat) :
    (s.recounted p).port p = { s.port p with unacked := (s.port p).unacked.map replayed } :=
  State.port_setPort_same ..

theorem State.replayAll_sends (h : (s.port p).unacked ≠ []) :
    ((s.replayAll p).port p).unacked = (s.port p).unacked.map replayed
      ∧ s.flue.wire.length + (s.port p).unacked.length ≤ (s.replayAll p).flue.wire.length := by
  rw [State.replayAll_eq h, State.port_countFlits, State.wire_countFlits]
  obtain ⟨hunacked, hwire⟩ := State.putFrames p ((s.port p).unacked.map replayed) (s.recounted p)
  rw [List.length_map] at hwire
  exact ⟨hunacked.trans (by rw [State.port_recounted]), hwire⟩

theorem State.replayAll_alone (h : (s.port p).unacked ≠ [])
    (hn : (s.port p).framesSent + (s.port p).unacked.length ≤ 4095) :
    (s.replayAll p).flue.wire.length = s.flue.wire.length + (s.port p).unacked.length
      ∧ ((s.replayAll p).flue.wire.take (s.port p).unacked.length).map Sent.seq
        = ((s.port p).unacked.map (·.1)).reverse := by
  rw [State.replayAll_eq h, State.wire_countFlits]
  obtain ⟨sent, hwire, hseq⟩ := State.putFrames_alone p ((s.port p).unacked.map replayed) (s.recounted p)
    (by rw [State.port_recounted, List.length_map]; exact hn)
  have hwire0 : (s.recounted p).flue.wire = s.flue.wire := rfl
  rw [List.map_map] at hseq
  have hlen : sent.length = (s.port p).unacked.length := by simpa using congrArg List.length hseq
  rw [hwire, hwire0, List.take_left' hlen, hseq, List.length_append, hlen]
  exact ⟨Nat.add_comm .., rfl⟩

theorem exec_replayTimeout {p : Fin 6} (h : s.linkUp p = true) : exec (.replayTimeout p) s = .next (s.replayAll p) := by
  simp [exec, execReplayTimeout, onlyIf, h]

/-! ### The front of the link-local order (R355) -/

/-- What is taken from the front of an order is a packet that the taker admits, and it has left the input. -/
theorem State.takeFront_spec {vc : Option Nat} {f : Packet → Bool} (h : s.takeFront p vc f = some (pk, u)) :
    f pk = true ∧ (u.port p).inbuf.length + 1 = (s.port p).inbuf.length := by
  unfold State.takeFront State.front at h
  by_cases hstop : s.stopped = true
  · simp [hstop] at h
  rw [if_neg hstop] at h
  cases hfront : (s.port p).inbuf.find? fun x => typeVc x.ty == vc with
  | none => simp [hfront] at h
  | some x =>
    by_cases hfx : f x = true
    case neg => simp [hfront, hfx] at h
    simp only [hfront, hfx, if_true, State.takeFirst, Option.map_some, Option.some.injEq, Prod.mk.injEq] at h
    obtain ⟨rfl, rfl⟩ := h
    have hin := congrArg (fun r => r.2.2) (State.receiver_freeFlits
      (s.setPort p { s.port p with inbuf := (s.port p).inbuf.eraseP fun x => typeVc x.ty == vc }) p x)
    simp only [PortRt.receiver, State.port_setPort_same] at hin
    have hlen := List.length_eraseP_of_mem (List.mem_of_find?_eq_some hfront) (List.find?_some hfront)
    have hpos := List.length_pos_of_mem (List.mem_of_find?_eq_some hfront)
    rw [hin]
    exact ⟨hfx, by omega⟩

/-! ### NAK, CREDIT, CREDIT_REPORT and IDLE -/

section
variable {p : Fin 6}

theorem exec_nak (h : s.takeLocal p tyNak = some (pk, u)) : exec (.nak p) s
    = .next (if s.linkUp p then u.replay p (pk.args.getD 0 0) else s) := by
  change execNak p s = _
  simp only [execNak, h, onlyIf]
  split <;> rfl

theorem exec_credit (h : s.takeLocal p tyCredit = some (pk, u)) : exec (.credit p) s
    = .next (u.setPort p { u.port p with granted := (List.range 8).map fun c => pk.args.getD c 0 % 2 ^ 16 }) := by
  change execCredit p s = _
  simp only [execCredit, h]

theorem exec_creditReport (h : s.linkUp p = true) (hf : (s.port p).freed ≠ (s.port p).reported)
    (hr : (s.port p).unacked.length < 128) : exec (.creditReport p) s = .next (s.reportCredit p) := by
  simp [exec, execCreditReport, onlyIf, h, hf, PortRt.room, hr]

theorem exec_idle (h : s.takeLocal p tyIdle = some (pk, u)) : exec (.idle p) s = .next u := by
  change execIdle p s = _
  simp only [execIdle, h]

end

/-- Settles O38: the replay of the whole retry buffer is a run of frames on the wire, and each link-local packet is
taken from the front of its order. Corners of the link layer are the model's reading (log entries 13, 33). -/
theorem linkLocalPacketsAct : Obligations.LinkLocalPacketsAct := by
  intro p s
  refine ⟨fun hup hne => ?_, fun pk u h => ?_, fun pk u h => ⟨_, exec_credit h, ?_⟩, fun hup hf hr => ?_,
    fun pk u h => exec_idle h, fun pk u ty h => ?_⟩
  · obtain ⟨hunacked, hwire⟩ := State.replayAll_sends hne
    exact ⟨_, exec_replayTimeout hup, hunacked, hwire, State.replayAll_alone hne⟩
  · rw [exec_nak h]
    exact ⟨fun hup => by rw [if_pos hup], fun hup => by rw [if_neg (by simp [hup])]⟩
  · rw [State.port_setPort_same]
    exact ⟨fun c hc => by simp [List.getD, hc], rfl⟩
  · obtain ⟨_, n, k, h⟩ := s.port_reportCredit p
    refine ⟨_, exec_creditReport hup hf hr, ?_⟩
    rw [h, PortRt.framed]
    exact ⟨rfl, List.length_append⟩
  · obtain ⟨hty, hlen⟩ := State.takeFront_spec h
    exact ⟨by simpa using hty, hlen⟩

end Sys2Proof.Machine

/-! Received frames, SKIP exchanges and the timebase (R345, R346, R349, R351, R355, R367, R368). -/

namespace Sys2Proof.Machine

open Sys2Proof

variable {s t : State} {p : Nat}

/-! ### Codewords (R345) -/

@[simp] theorem State.getF_addSat (s : State) (f : Fld) (n : Nat) :
    (s.addSat f n).getF f = min (s.getF f + n) (2 ^ f.width - 1) := by
  have hpos := Nat.two_pow_pos f.width
  rw [State.addSat, State.getF_setF, Nat.mod_eq_of_lt (by omega)]

/-- Counting codewords touches nothing of a port but what retraining looks at. -/
theorem State.port_takeWords (s : State) (p : Nat) (w : Codewords) : ∃ b l,
    (s.takeWords p w).port p = { s.port p with lockBad := b, uncTimes := l } :=
  ⟨_, _, State.port_setPort_same ..⟩

theorem State.takeWords_keeps_self (s : State) (p : Nat) (w : Codewords) :
    Keeps (Parts.of [.ports, .reg .FLU_PERR]) s (s.takeWords p w) :=
  State.takeWords_keeps (Parts.le_refl _) (keeps_refl s) p w

theorem State.getF_takeWords (s : State) (p : Nat) (w : Codewords) :
    (s.takeWords p w).getF (FLU_PERR_CORR p)
      = min (s.getF (FLU_PERR_CORR p) + w.corrected) (2 ^ (FLU_PERR_CORR p).width - 1)
    ∧ (s.takeWords p w).getF (FLU_PERR_UNCORR p)
      = min (s.getF (FLU_PERR_UNCORR p) + (b2n w.bad1 + b2n w.bad2)) (2 ^ (FLU_PERR_UNCORR p).width - 1)
    ∧ (s.takeWords p w).getF (FLU_PERR_BADPKT p) = s.getF (FLU_PERR_BADPKT p) := by
  let n := b2n w.bad1 + b2n w.bad2
  let u := s.addSat (FLU_PERR_CORR p) w.corrected
  have hcorr : (u.addSat (FLU_PERR_UNCORR p) n).getF (FLU_PERR_CORR p) = u.getF (FLU_PERR_CORR p) :=
    State.getF_setF_lo _ _ rfl
  have huncorr : u.getF (FLU_PERR_UNCORR p) = s.getF (FLU_PERR_UNCORR p) := State.getF_setF_lo _ _ rfl
  have hbad : (u.addSat (FLU_PERR_UNCORR p) n).getF (FLU_PERR_BADPKT p) = s.getF (FLU_PERR_BADPKT p) :=
    (State.getF_setF_lo _ _ rfl).trans (State.getF_setF_lo _ _ rfl)
  refine ⟨hcorr.trans (s.getF_addSat ..), ?_, hbad⟩
  rw [← huncorr]
  exact u.getF_addSat ..

/-! ### A frame that is accepted (R349, R355) -/

theorem PortRt.receiver_acked (r : PortRt) (ack : Nat) : (r.acked ack).receiver = r.receiver := by
  unfold PortRt.acked
  split <;> rfl

theorem PortRt.unacked_acked (r : PortRt) (ack : Nat) : (r.acked ack).unacked
    = (r.unacked.findIdx? fun x => x.1 == ack).elim r.unacked fun i => r.unacked.drop (i + 1) := by
  unfold PortRt.acked
  split
  case h_1 i h => rw [h]; rfl
  case h_2 h => rw [h]; rfl

theorem State.receiver_freeAll (p : Nat) (l : List Packet) (s : State) :
    ((l.foldl (fun s pk => s.freeFlits p pk) s).port p).receiver = (s.port p).receiver := by
  induction l generalizing s with
  | nil => rfl
  | cons pk l ih => rw [List.foldl_cons, ih, State.receiver_freeFlits]

/-- The port after an accepted frame, before its malformed packets free their buffers. -/
def PortRt.accepted (r : PortRt) (f : FrameIn) : PortRt :=
  { r with
    rxSeq := (r.rxSeq + 1) % 256
    nakSent := false
    inbuf := r.inbuf ++ f.packets.filter fun pk => !badPacket pk }.acked f.ack

/-- The state in which the malformed packets of an accepted frame have freed their buffers. -/
def State.admitted (s : State) (p : Nat) (f : FrameIn) : State :=
  (f.packets.filter badPacket).foldl (fun s pk => s.freeFlits p pk) (s.setPort p ((s.port p).accepted f))

theorem State.acceptFrame_eq (s : State) (p : Nat) (f : FrameIn) : s.acceptFrame p f =
    ((s.admitted p f).addSat (FLU_PERR_BADPKT p) (f.packets.filter badPacket).length).countFlits 0x66 p 1 := rfl

theorem State.admitted_keeps (s : State) (p : Nat) (f : FrameIn) : Keeps (Parts.of portParts) s (s.admitted p f) :=
  keeps_foldl _ (State.setPort_keeps (Parts.within (Parts.le_refl _)) (keeps_refl s) _ _) fun _ _ hs =>
    State.freeFlits_keeps (Parts.le_refl _) hs _ _

theorem State.port_acceptFrame (s : State) (p : Nat) (f : FrameIn) :
    (s.acceptFrame p f).port p = (s.admitted p f).port p :=
  State.port_countFlits ..

theorem State.receiver_acceptFrame (s : State) (p : Nat) (f : FrameIn) : ((s.acceptFrame p f).port p).receiver
    = (((s.port p).rxSeq + 1) % 256, false, (s.port p).inbuf ++ f.packets.filter fun pk => !badPacket pk) := by
  rw [State.port_acceptFrame, State.admitted, State.receiver_freeAll, State.port_setPort_same, PortRt.accepted,
    PortRt.receiver_acked]
  rfl

theorem State.getF_acceptFrame (s : State) (p : Nat) (f : FrameIn) :
    (s.acceptFrame p f).getF (FLU_PERR_CORR p) = s.getF (FLU_PERR_CORR p)
    ∧ (s.acceptFrame p f).getF (FLU_PERR_UNCORR p) = s.getF (FLU_PERR_UNCORR p)
    ∧ (s.acceptFrame p f).getF (FLU_PERR_BADPKT p)
      = min (s.getF (FLU_PERR_BADPKT p) + (f.packets.filter badPacket).length) (2 ^ (FLU_PERR_BADPKT p).width - 1) := by
  have hadm (x : Fld) (hx : x.reg = .FLU_PERR) : (s.admitted p f).getF x = s.getF x :=
    (s.admitted_keeps p f).same (.reg .FLU_PERR) (by decide) x hx
  have hcount := fun u : State => (u.countFlits_keeps_self 0x66 p 1).same (.reg .FLU_PERR) (by decide)
  rw [State.acceptFrame_eq, hcount _ _ rfl, hcount _ _ rfl, hcount _ _ rfl, State.getF_addSat, hadm _ rfl]
  exact ⟨(State.getF_setF_lo _ _ rfl).trans (hadm _ rfl), (State.getF_setF_lo _ _ rfl).trans (hadm _ rfl), rfl⟩

/-! ### A frame that is refused (R349) -/

theorem State.refuseFrame_silent (h : (s.port p).nakSent = true) : s.refuseFrame p = s := by
  simp [State.refuseFrame, h]

theorem State.refuseFrame_full (h : (s.port p).room = false) : s.refuseFrame p = s := by
  simp [State.refuseFrame, h]

theorem State.refuseFrame_naks (hn : (s.port p).nakSent = false) (hr : (s.port p).room = true) :
    s.refuseFrame p = (s.setPort p { s.port p with nakSent := true }).sendLocal p tyNak [(s.port p).rxSeq] := by
  simp [State.refuseFrame, hn, hr]

theorem State.port_refuseFrame_naks (hn : (s.port p).nakSent = false) (hr : (s.port p).room = true) : ∃ l n k,
    (s.refuseFrame p).port p = { s.port p with nakSent := true, slots := [] }.framed l n k := by
  obtain ⟨_, n, k, h⟩ :=
    State.port_sendLocal (s.setPort p { s.port p with nakSent := true }) p tyNak [(s.port p).rxSeq]
  exact ⟨_, n, k, by rw [State.refuseFrame_naks hn hr, h, State.port_setPort_same]⟩

theorem State.input_refuseFrame (s : State) (p : Nat) : ((s.refuseFrame p).port p).rxSeq = (s.port p).rxSeq
    ∧ ((s.refuseFrame p).port p).inbuf = (s.port p).inbuf := by
  cases hn : (s.port p).nakSent with
  | true => rw [State.refuseFrame_silent hn]; exact ⟨rfl, rfl⟩
  | false =>
    cases hr : (s.port p).room with
    | false => rw [State.refuseFrame_full hr]; exact ⟨rfl, rfl⟩
    | true =>
      obtain ⟨_, n, k, h⟩ := State.port_refuseFrame_naks hn hr
      rw [h]
      exact ⟨rfl, rfl⟩

theorem State.getF_refuseFrame (s : State) (p : Nat) {f : Fld} (hf : f.reg = .FLU_PERR) :
    (s.refuseFrame p).getF f = s.getF f :=
  (State.refuseFrame_keeps (Parts.le_refl _) (keeps_refl s) p).same (.reg .FLU_PERR) (by decide) f hf

/-! ### FRAME_RECEIVE -/

theorem PortRt.accepts_iff {r : PortRt} {f : FrameIn} : r.accepts f = true
    ↔ wordsGood f.words = true ∧ frameCrcOk f = true ∧ f.seq.val = r.rxSeq := by
  simp [PortRt.accepts, and_assoc]

theorem PortRt.accepts_takeWords (s : State) (p : Nat) (f : FrameIn) :
    ((s.takeWords p f.words).port p).accepts f = (s.port p).accepts f := by
  obtain ⟨b, l, h⟩ := s.port_takeWords p f.words
  rw [h]
  rfl

section
variable {p : Fin 6} {f : FrameIn}

theorem exec_frameReceive_accepted (hup : s.linkUp p = true) (h : (s.port p).accepts f = true) :
    exec (.frameReceive p f) s = .next ((s.takeWords p f.words).acceptFrame p f) := by
  simp [exec, execFrameReceive, onlyIf, hup, State.takeFrame, PortRt.accepts_takeWords, h]

theorem exec_frameReceive_refused (hup : s.linkUp p = true) (h : (s.port p).accepts f = false) :
    exec (.frameReceive p f) s = .next ((s.takeWords p f.words).refuseFrame p) := by
  simp [exec, execFrameReceive, onlyIf, hup, State.takeFrame, PortRt.accepts_takeWords, h]

end

/-- A frame's codewords are counted, whatever becomes of the frame. -/
theorem exec_frameReceive_counts {p : Fin 6} (f : FrameIn) (hup : s.linkUp p = true) : ∃ t,
    exec (.frameReceive p f) s = .next t
    ∧ t.getF (FLU_PERR_CORR p) = min (s.getF (FLU_PERR_CORR p) + f.words.corrected) (2 ^ (FLU_PERR_CORR p).width - 1)
    ∧ t.getF (FLU_PERR_UNCORR p)
      = min (s.getF (FLU_PERR_UNCORR p) + (b2n f.words.bad1 + b2n f.words.bad2))
        (2 ^ (FLU_PERR_UNCORR p).width - 1) := by
  obtain ⟨hcorr, huncorr, -⟩ := s.getF_takeWords p f.words
  cases h : (s.port p).accepts f with
  | true =>
    obtain ⟨hc, hu, -⟩ := (s.takeWords p f.words).getF_acceptFrame p f
    exact ⟨_, exec_frameReceive_accepted hup h, hc.trans hcorr, hu.trans huncorr⟩
  | false =>
    exact ⟨_, exec_frameReceive_refused hup h, (State.getF_refuseFrame _ _ rfl).trans hcorr,
      (State.getF_refuseFrame _ _ rfl).trans huncorr⟩

/-- An accepted frame moves the receiver on, and without malformed packets its `ACK` alone touches the retry buffer. -/
theorem State.takeWords_acceptFrame (s : State) (p : Nat) (f : FrameIn) :
    let r := s.port p
    let t := (s.takeWords p f.words).acceptFrame p f
    (t.port p).receiver = ((r.rxSeq + 1) % 256, false, r.inbuf ++ f.packets.filter fun pk => !badPacket pk)
    ∧ t.getF (FLU_PERR_BADPKT p)
      = min (s.getF (FLU_PERR_BADPKT p) + (f.packets.filter badPacket).length) (2 ^ (FLU_PERR_BADPKT p).width - 1)
    ∧ (f.packets.filter badPacket = [] → (t.port p).unacked
      = (r.unacked.findIdx? fun x => x.1 == f.ack.val).elim r.unacked fun i => r.unacked.drop (i + 1)) := by
  intro r t
  obtain ⟨b, l, hwords⟩ := s.port_takeWords p f.words
  obtain ⟨-, -, hbad⟩ := (s.takeWords p f.words).getF_acceptFrame p f
  obtain ⟨-, -, hbad0⟩ := s.getF_takeWords p f.words
  refine ⟨?_, by rw [hbad, hbad0], fun hnone => ?_⟩
  · rw [State.receiver_acceptFrame, hwords]
  · rw [State.port_acceptFrame, State.admitted, hnone, List.foldl_nil, State.port_setPort_same, PortRt.accepted,
      PortRt.unacked_acked, hwords]

/-- A refused frame leaves the input alone, and a NAK goes out unless one is out. -/
theorem State.takeWords_refuseFrame (s : State) (p : Nat) (w : Codewords) :
    let r := s.port p
    let t := (s.takeWords p w).refuseFrame p
    (t.port p).rxSeq = r.rxSeq ∧ (t.port p).inbuf = r.inbuf ∧ (r.nakSent = true → t.flue.wire = s.flue.wire)
    ∧ (r.nakSent = false → r.unacked.length < 128 → (t.port p).nakSent = true
      ∧ (t.port p).unacked.length = r.unacked.length + 1) := by
  intro r t
  obtain ⟨b, l, hwords⟩ := s.port_takeWords p w
  obtain ⟨hseq, hin⟩ := (s.takeWords p w).input_refuseFrame p
  rw [hwords] at hseq hin
  refine ⟨hseq, hin, fun hn => ?_, fun hn hr => ?_⟩
  · exact congrArg (fun u => u.flue.wire) (State.refuseFrame_silent (by rw [hwords]; exact hn))
  · obtain ⟨_, n, k, h⟩ := State.port_refuseFrame_naks (s := s.takeWords p w) (p := p) (by rw [hwords]; exact hn)
      (by rw [hwords]; exact decide_eq_true hr)
    rw [h, hwords]
    exact ⟨rfl, List.length_append⟩

/-! ### The timebase (R367, R368) -/

theorem Keeps.now {T : Nat} (h : Keeps T s t) (hT : T.testBit (Part.num (.reg .FLU_TIME)) = false) : t.now = s.now :=
  h.same _ hT FLU_TIME_NS rfl

theorem Keeps.rootHops {T : Nat} (h : Keeps T s t) (hT : T.testBit (Part.num .topology) = false)
    (hP : T.testBit (Part.num (.reg .FLU_POS)) = false) : t.rootHops = s.rootHops := by
  obtain ⟨hdims, hroot, -⟩ := h.same .topology hT
  have hrank : t.rank = s.rank := h.same _ hP FLU_POS_RANK rfl
  simp only [State.rootHops, hdims, hroot, hrank]

/-- A step of the timebase above 1 µs, and none otherwise. -/
theorem State.now_correct (s : State) (o : Int) :
    (s.correct o).now = if 1000 < o.natAbs then (((s.now : Int) - o) % 2 ^ 64).toNat else s.now := by
  unfold State.correct
  split
  · rw [State.now_setF_time]
    omega
  · rfl

theorem State.takeOffset_shows (s : State) (o : Int) :
    (s.takeOffset o).getF FLU_TSTAT_OFFSET = offsetCode o % 2 ^ 16
    ∧ (s.takeOffset o).now = (if 1000 < o.natAbs then (((s.now : Int) - o) % 2 ^ 64).toNat else s.now)
    ∧ (s.takeOffset o).getF FLU_TSTAT_SYNCED = (if 1000 < o.natAbs ∨ o.natAbs ≤ 4 * s.rootHops then 1 else 0) := by
  let u := s.setF FLU_TSTAT_OFFSET (offsetCode o)
  have hcorrect := State.correct_keeps (Parts.le_refl _) (keeps_refl u) o
  have hu : Keeps (Parts.of [.reg .FLU_TSTAT]) s u :=
    State.setF_keeps_reg .FLU_TSTAT (Parts.le_refl _) (keeps_refl s) _
  have hhops : (u.correct o).rootHops = s.rootHops :=
    (hcorrect.rootHops (by decide) (by decide)).trans (hu.rootHops (by decide) (by decide))
  refine ⟨?_, ?_, ?_⟩
  · exact (State.getF_setF_lo _ _ rfl).trans
      ((hcorrect.same (.reg .FLU_TSTAT) (by decide) FLU_TSTAT_OFFSET rfl).trans (s.getF_setF ..))
  · refine (State.getF_setF_num _ _ rfl).trans ((u.now_correct o).trans ?_)
    rw [hu.now (by decide)]
  · refine (State.getF_setF ..).trans ?_
    rw [hhops, ← Bool.decide_or]
    split
    case isTrue h => rw [decide_eq_true h]; rfl
    case isFalse h => rw [decide_eq_false h]; rfl

/-! ### SKIP frames (R351, R368) -/

/-- A port after a SKIP frame has been received now, with the link delay that it gives. -/
def State.skipNoted (s : State) (p : Nat) (delay : Int) : State :=
  s.setPort p { s.port p with skipRx := s.now, delay := delay }

theorem State.takeSkip_unpaired (f : SkipIn) (h : (s.port p).skipTx = none) :
    s.takeSkip p f = s.skipNoted p (s.port p).delay := by
  have he : s.exchange p f = none := by simp [State.exchange, h]
  simp only [State.takeSkip, he]
  rfl

theorem State.takeSkip_paired (f : SkipIn) {t1 : Nat} (h : (s.port p).skipTx = some t1) :
    let x : Exchange := ⟨t1, f.rx, f.tx, s.now⟩
    s.takeSkip p f = if s.getF FLU_TSTAT_PARENT = p then (s.skipNoted p x.delay).takeOffset x.offset
      else s.skipNoted p x.delay := by
  intro x
  have he : s.exchange p f = some x := by simp [State.exchange, h, x]
  simp only [State.takeSkip, he]
  rfl

theorem State.takeSkip_other (f : SkipIn) {t1 : Nat} (h : (s.port p).skipTx = some t1)
    (hp : s.getF FLU_TSTAT_PARENT ≠ p) : s.takeSkip p f = s.skipNoted p (Exchange.delay ⟨t1, f.rx, f.tx, s.now⟩) :=
  (State.takeSkip_paired f h).trans (if_neg hp)

theorem State.takeSkip_parent (f : SkipIn) {t1 : Nat} (h : (s.port p).skipTx = some t1)
    (hp : s.getF FLU_TSTAT_PARENT = p) : s.takeSkip p f =
      (s.skipNoted p (Exchange.delay ⟨t1, f.rx, f.tx, s.now⟩)).takeOffset (Exchange.offset ⟨t1, f.rx, f.tx, s.now⟩) :=
  (State.takeSkip_paired f h).trans (if_pos hp)

theorem State.port_skipNoted (s : State) (p : Nat) (d : Int) :
    (s.skipNoted p d).port p = { s.port p with skipRx := s.now, delay := d } :=
  State.port_setPort_same ..

theorem State.port_takeOffset (s : State) (o : Int) (p : Nat) : (s.takeOffset o).port p = s.port p :=
  (State.takeOffset_keeps (Parts.le_refl _) (keeps_refl s) o).port (by decide) p

/-- Every SKIP frame notes its time; one that answers ours gives the link delay. -/
theorem State.port_takeSkip (s : State) (p : Nat) (f : SkipIn) : ((s.takeSkip p f).port p).skipRx = s.now
    ∧ ∀ t1, (s.port p).skipTx = some t1 →
      ((s.takeSkip p f).port p).delay = Exchange.delay ⟨t1, f.rx, f.tx, s.now⟩ := by
  cases h : (s.port p).skipTx with
  | none =>
    rw [State.takeSkip_unpaired f h, State.port_skipNoted]
    exact ⟨rfl, nofun⟩
  | some t1 =>
    have hport : (s.takeSkip p f).port p
        = { s.port p with skipRx := s.now, delay := Exchange.delay ⟨t1, f.rx, f.tx, s.now⟩ } := by
      by_cases hp : s.getF FLU_TSTAT_PARENT = p
      · rw [State.takeSkip_parent f h hp, State.port_takeOffset, State.port_skipNoted]
      · rw [State.takeSkip_other f h hp, State.port_skipNoted]
    rw [hport]
    exact ⟨rfl, fun _ ht => by cases ht; rfl⟩

/-- A SKIP frame of a neighbour that is not the parent, or that answers none of ours, corrects nothing. -/
theorem State.takeSkip_corrects_nothing (f : SkipIn) (h : s.getF FLU_TSTAT_PARENT ≠ p ∨ (s.port p).skipTx = none) :
    (s.takeSkip p f).now = s.now ∧ (s.takeSkip p f).getF FLU_TSTAT_OFFSET = s.getF FLU_TSTAT_OFFSET := by
  cases ht : (s.port p).skipTx with
  | none => rw [State.takeSkip_unpaired f ht]; exact ⟨rfl, rfl⟩
  | some t1 =>
    rw [State.takeSkip_other f ht (h.resolve_right (by simp [ht]))]
    exact ⟨rfl, rfl⟩

/-- A SKIP frame of the parent that answers ours shows the offset and corrects by it. -/
theorem State.takeSkip_corrects (f : SkipIn) {t1 : Nat} (hp : s.getF FLU_TSTAT_PARENT = p)
    (h : (s.port p).skipTx = some t1) :
    let o := Exchange.offset ⟨t1, f.rx, f.tx, s.now⟩
    (s.takeSkip p f).getF FLU_TSTAT_OFFSET = offsetCode o % 2 ^ 16
    ∧ (s.takeSkip p f).now = (if 1000 < o.natAbs then (((s.now : Int) - o) % 2 ^ 64).toNat else s.now)
    ∧ (s.takeSkip p f).getF FLU_TSTAT_SYNCED = (if 1000 < o.natAbs ∨ o.natAbs ≤ 4 * s.rootHops then 1 else 0) := by
  rw [State.takeSkip_parent f h hp]
  exact State.takeOffset_shows ..

theorem exec_skipFrameReceive {p : Fin 6} (f : SkipIn) (hup : s.linkUp p = true) : exec (.skipFrameReceive p f) s
    = .next (if skipCrcOk f then (s.takeWords p f.words).takeSkip p f else s.takeWords p f.words) := by
  simp [exec, execSkipFrameReceive, onlyIf, hup]

theorem exec_skipFrameSend {p : Fin 6} (hup : s.linkUp p = true) : exec (.skipFrameSend p) s
    = .next (if 4095 ≤ (s.port p).framesSent then s.sendSkip p else s) := by
  simp only [exec, execSkipFrameSend, onlyIf, hup, Bool.true_and, decide_eq_true_eq]
  split <;> rfl

/-- The SKIP frame that leaves carries our time and that of the last one received here. -/
theorem State.sendSkip_wire (s : State) (p : Nat) : ∃ x pk, (s.sendSkip p).flue.wire = x :: s.flue.wire
    ∧ x.port = p ∧ x.seq = 0xFF ∧ x.ack = 0xFF ∧ x.packets = [pk] ∧ pk.args = [s.now, (s.port p).skipRx] :=
  ⟨_, _, rfl, rfl, rfl, rfl, rfl, rfl⟩

/-- What a SKIP frame that passes its check does, its codewords counted first. -/
theorem State.takeWords_takeSkip (s : State) (p : Nat) (f : SkipIn) :
    let r := s.port p
    let t := (s.takeWords p f.words).takeSkip p f
    (t.port p).skipRx = s.now
    ∧ (∀ t1, r.skipTx = some t1 → (t.port p).delay = Exchange.delay ⟨t1, f.rx, f.tx, s.now⟩)
    ∧ ((s.getF FLU_TSTAT_PARENT ≠ p ∨ r.skipTx = none) → t.now = s.now
      ∧ t.getF FLU_TSTAT_OFFSET = s.getF FLU_TSTAT_OFFSET)
    ∧ (∀ t1, s.getF FLU_TSTAT_PARENT = p → r.skipTx = some t1 →
      let o := Exchange.offset ⟨t1, f.rx, f.tx, s.now⟩
      t.getF FLU_TSTAT_OFFSET = offsetCode o % 2 ^ 16
      ∧ t.now = (if 1000 < o.natAbs then (((s.now : Int) - o) % 2 ^ 64).toNat else s.now)
      ∧ t.getF FLU_TSTAT_SYNCED = (if 1000 < o.natAbs ∨ o.natAbs ≤ 4 * s.rootHops then 1 else 0)) := by
  intro r t
  have hk := s.takeWords_keeps_self p f.words
  obtain ⟨b, l, hwords⟩ := s.port_takeWords p f.words
  have hnow : (s.takeWords p f.words).now = s.now := hk.now (by decide)
  have hhops : (s.takeWords p f.words).rootHops = s.rootHops := hk.rootHops (by decide) (by decide)
  have hparent : (s.takeWords p f.words).getF FLU_TSTAT_PARENT = s.getF FLU_TSTAT_PARENT := hk.getF (by decide)
  have hoffset : (s.takeWords p f.words).getF FLU_TSTAT_OFFSET = s.getF FLU_TSTAT_OFFSET := hk.getF (by decide)
  have htx : ((s.takeWords p f.words).port p).skipTx = r.skipTx := by rw [hwords]
  rw [← hnow, ← hhops, ← hparent, ← hoffset, ← htx]
  obtain ⟨hrx, hdelay⟩ := (s.takeWords p f.words).port_takeSkip p f
  exact ⟨hrx, hdelay, State.takeSkip_corrects_nothing f, fun t1 hp h => State.takeSkip_corrects f hp h⟩

/-- Settles O37: a frame's codewords are counted, and then it is accepted or refused; a SKIP frame notes its times, and
one of the parent shows and corrects its offset. Corners of the link layer are the model's reading (log entries
13, 33). -/
theorem framesAndTimebase : Obligations.FramesAndTimebase := by
  refine ⟨fun p f s hup => ?_, fun p f s hup => ?_⟩
  · intro r good
    have hgood : good ↔ r.accepts f = true := PortRt.accepts_iff.symm
    refine ⟨exec_frameReceive_counts f hup, fun h => ?_, fun h => ?_⟩
    · obtain ⟨hrecv, hbad, hack⟩ := s.takeWords_acceptFrame p f
      simp only [PortRt.receiver, Prod.mk.injEq] at hrecv
      obtain ⟨hseq, hnak, hin⟩ := hrecv
      refine ⟨_, exec_frameReceive_accepted hup (hgood.1 h), hseq, hin, hnak, hbad, fun hnone => (hack hnone).trans ?_⟩
      cases r.unacked.findIdx? fun x => x.1 == f.ack.val <;> rfl
    · exact ⟨_, exec_frameReceive_refused hup (Bool.not_eq_true _ ▸ mt hgood.2 h), s.takeWords_refuseFrame p f.words⟩
  · intro r
    rw [exec_skipFrameReceive f hup, exec_skipFrameSend hup]
    refine ⟨fun h => by simp [h], fun h => ?_, fun h => ?_, fun h => by rw [if_neg (Nat.not_le.2 h)]⟩
    · obtain ⟨hrx, hdelay, hother, hparent⟩ := s.takeWords_takeSkip p f
      refine ⟨_, by rw [if_pos h], hrx, hdelay, hother, fun t1 hp htx => ?_⟩
      intro o
      obtain ⟨hoffset, htime, hsynced⟩ := hparent t1 hp htx
      refine ⟨hoffset, fun ho => ⟨?_, ?_⟩, fun ho => ⟨?_, ?_⟩⟩
      · exact hsynced.trans (if_pos (.inl ho))
      · exact htime.trans (if_pos ho)
      · exact htime.trans (if_neg (Nat.not_lt.2 ho))
      · exact hsynced.trans (if_congr (or_iff_right (Nat.not_lt.2 ho)) rfl rfl)
    · obtain ⟨x, pk, hwire⟩ := s.sendSkip_wire p
      have hport := s.port_sendSkip p
      exact ⟨_, x, pk, by rw [if_pos h], by rw [hport], by rw [hport], hwire⟩

end Sys2Proof.Machine

/-! Packets for the endpoint: a neighbour's WRITE and READ_REQ, and the answers that end a transfer (R356, R362, R365,
R381, R395). -/

namespace Sys2Proof.Machine

open Sys2Proof

variable {s u : State} {pk : Packet} {p : Fin 6}

/-! ### Delivery (R365) -/

theorem State.deliver_none {p ty : Nat} {kind : Packet → Bool} (h : s.arrival p ty kind = none)
    (f : State → Packet → State) : s.deliver p ty kind f = .next s := by
  simp only [State.deliver, h]

theorem State.deliver_recovering {p ty : Nat} {kind : Packet → Bool} (ha : s.flue.accepting = false)
    (h : s.arrival p ty kind = some (pk, u)) (f : State → Packet → State) :
    s.deliver p ty kind f = .next (u.discardPacket pk unreachRecovering) := by
  have hu : u.flue.accepting = false := (State.accepting_arrival h).trans ha
  simp [State.deliver, h, hu]

/-- The rows of the packets for the endpoint, with the type and the kind that each takes. -/
def endpointRows (p : Fin 6) : List (Instr × Nat × (Packet → Bool)) :=
  [(.writePacket p, tyWrite, anyKind), (.readReq p, tyReadReq, anyKind), (.readRsp p, tyReadRsp, anyKind),
    (.writeAck p, tyWriteAck, anyKind), (.signalPacket p, tySignal, anyKind), (.signalAck p, tySignalAck, anyKind),
    (.collData p, tyCollData, anyKind), (.unreach p, tyUnreach, anyKind), (.collReady p, tyCollCtl, ctlKind ctlReady),
    (.collAbort p, tyCollCtl, ctlKind ctlAbort), (.collAck p, tyCollCtl, ctlKind ctlAck)]

/-- Each of these rows delivers an arrival of its type and kind, and does nothing else. -/
theorem exec_endpointRow {i : Instr} {ty : Nat} {kind : Packet → Bool} (h : (i, ty, kind) ∈ endpointRows p) :
    ∃ f, ∀ s, exec i s = s.deliver p ty kind f := by
  simp only [endpointRows, List.mem_cons, List.not_mem_nil, or_false, Prod.mk.injEq] at h
  obtain h | h | h | h | h | h | h | h | h | h | h := h
  all_goals
    obtain ⟨rfl, rfl, rfl⟩ := h
    exact ⟨_, fun _ => rfl⟩

/-! ### A neighbour's WRITE (R356, R395) -/

theorem State.dbyte_dwrite (s : State) (pa : Nat) (bs : List Byte) (x : Nat) : (s.dwrite pa bs).dbyte x
    = if pa ≤ x ∧ x < pa + bs.length then bs.getD (x - pa) 0 else s.dbyte x :=
  Mem.read_write memBlank s.dram pa bs x

theorem State.takeWrite_exposed (h : u.windowOk pk pk.data.length = true) : u.takeWrite pk
    = ((u.dwrite (u.windowPa pk) pk.data).count pk.dctx 0x0B pk.data.length).inject (u.answer pk tyWriteAck [0] []) :=
  if_pos h

theorem State.takeWrite_refused (h : u.windowOk pk pk.data.length = false) :
    u.takeWrite pk = u.inject (u.answer pk tyWriteAck [1] []) :=
  if_neg (by simp [h])

theorem State.dram_inject (s : State) (pk : Packet) : (s.inject pk).dram = s.dram :=
  (State.inject_keeps (Parts.le_refl _) (keeps_refl s) pk).same .dram (by decide)

/-! ### A neighbour's READ_REQ (R356, R381, R395) -/

theorem State.takeRead_refused (h : u.windowOk pk (64 * pk.args.getD 1 0) = false) :
    u.takeRead pk = u.inject (u.answer pk tyReadRsp [1] []) :=
  if_neg (by simp only [h]; decide)

theorem State.takeRead_good (h : u.windowOk pk (64 * pk.args.getD 1 0) = true)
    (hb : u.badIn (u.windowPa pk) (64 * pk.args.getD 1 0) = none) :
    u.takeRead pk = (u.count pk.dctx 0x0A (64 * pk.args.getD 1 0)).inject
      (u.answer pk tyReadRsp [0] (bytesAt u.dbyte (u.windowPa pk) (64 * pk.args.getD 1 0))) := by
  simp only [State.takeRead, h, if_true, hb]

theorem State.takeRead_uncorrectable {bad : Nat} (h : u.windowOk pk (64 * pk.args.getD 1 0) = true)
    (hb : u.badIn (u.windowPa pk) (64 * pk.args.getD 1 0) = some bad) :
    u.takeRead pk = (u.ueFound bad false pk.dctx).inject (u.answer pk tyReadRsp [2] []) := by
  simp only [State.takeRead, h, if_true, hb]

/-- Settles O41: a row delivers its arrival, or answers it while the endpoint recovers; a WRITE and a READ_REQ are taken
by their case. The codes of type fields are the model's choice (log entry 12). -/
theorem neighbourAccess : Obligations.NeighbourAccess := by
  refine ⟨fun p s u pk ty kind i hrow => ?_, fun p s u pk hacc => ⟨fun ha hok => ?_, fun ha hok => ?_, fun ha => ?_⟩⟩
  · obtain ⟨f, hf⟩ := exec_endpointRow hrow
    rw [hf]
    exact ⟨fun ha hrec => State.deliver_recovering hrec ha f, fun ha => State.deliver_none ha f⟩
  · intro v
    have hex : exec (.writePacket p) s = .next (u.takeWrite pk) := State.deliver_arrival hacc ha State.takeWrite
    rw [hex, State.takeWrite_exposed hok]
    exact ⟨rfl, u.dbyte_dwrite (u.windowPa pk) pk.data⟩
  · have hex : exec (.writePacket p) s = .next (u.takeWrite pk) := State.deliver_arrival hacc ha State.takeWrite
    rw [hex, State.takeWrite_refused hok]
    exact ⟨_, rfl, rfl, State.dram_inject ..⟩
  · intro n pa
    have hex : exec (.readReq p) s = .next (u.takeRead pk) := State.deliver_arrival hacc ha State.takeRead
    rw [hex]
    refine ⟨fun hok => ?_, fun hok hb => ?_, fun bad hok hb => ?_⟩
    · rw [State.takeRead_refused hok]
    · rw [State.takeRead_good hok hb]
    · rw [State.takeRead_uncorrectable hok hb]

/-! ### The end of a transfer (R356, R395) -/

theorem Flight.not_mem_without (f : Flight) (tag : Nat) : ∀ x ∈ (f.without tag).remotes, x.tag ≠ tag := by
  simp [Flight.without]

section
variable {f : Flight} {r : Remote} (h : u.owner? pk.ptag = some (f, r))
include h

theorem State.takeWriteAck_good (ha : pk.args.getD 0 0 = 0) : u.takeWriteAck pk = u.putFlight (f.without r.tag) := by
  simp only [State.takeWriteAck, h, ha, if_true]

theorem State.takeWriteAck_refused (ha : pk.args.getD 0 0 ≠ 0) : u.takeWriteAck pk = u.endRemote f r .accessFault := by
  simp only [State.takeWriteAck, h, ha, if_false]

theorem State.takeReadRsp_good (ha : pk.args.getD 0 0 = 0) : u.takeReadRsp pk
    = ((u.count (u.ctxOf f.q) 0x0B pk.data.length).vwrite (u.ctxOf f.q) r.dst pk.data).putFlight (f.without r.tag) := by
  simp only [State.takeReadRsp, h, ha, if_true]

theorem State.takeReadRsp_refused (ha : pk.args.getD 0 0 = 1) : u.takeReadRsp pk = u.endRemote f r .accessFault := by
  simp only [State.takeReadRsp, h, ha]
  rfl

theorem State.takeReadRsp_uncorrectable (ha : pk.args.getD 0 0 = 2) : u.takeReadRsp pk = u.remoteBad f r pk := by
  simp only [State.takeReadRsp, h, ha]
  rfl

theorem State.takeUnreach_owned (ht : ownTag (pk.args.getD 1 0) = true) :
    u.takeUnreach pk = u.endRemote f r .linkFailed := by
  simp only [State.takeUnreach, h, ht, Bool.not_true, Bool.false_eq_true, if_false]

end

/-! ### An answer that nothing waits for -/

theorem State.takeWriteAck_unowned (h : u.owner? pk.ptag = none) : u.takeWriteAck pk = u := by
  simp only [State.takeWriteAck, h]

theorem State.takeReadRsp_unowned (h : u.owner? pk.ptag = none) : u.takeReadRsp pk = u := by
  simp only [State.takeReadRsp, h]

theorem State.takeUnreach_foreign (ht : ownTag (pk.args.getD 1 0) = false) : u.takeUnreach pk = u := by
  simp only [State.takeUnreach, ht, Bool.not_false, if_true]

section
variable (hacc : s.flue.accepting = true)
include hacc

theorem exec_writeAck (ha : s.arrival p tyWriteAck anyKind = some (pk, u)) :
    exec (.writeAck p) s = .next (u.takeWriteAck pk) :=
  State.deliver_arrival hacc ha State.takeWriteAck

theorem exec_readRsp (ha : s.arrival p tyReadRsp anyKind = some (pk, u)) :
    exec (.readRsp p) s = .next (u.takeReadRsp pk) :=
  State.deliver_arrival hacc ha State.takeReadRsp

theorem exec_unreach (ha : s.arrival p tyUnreach anyKind = some (pk, u)) :
    exec (.unreach p) s = .next (u.takeUnreach pk) :=
  State.deliver_arrival hacc ha State.takeUnreach

end

/-- Settles O42: an answer that arrives is taken by its case, and changes nothing when no transfer waits for it. The
codes of type fields are the model's choice (log entry 12). -/
theorem answersEndTransfers : Obligations.AnswersEndTransfers := by
  intro p s u pk hacc
  refine ⟨fun f r ho => ⟨fun ha => ?_, fun ha => ?_, fun ha ht => ?_, f.not_mem_without r.tag,
    fun hr st => State.endRemote_idle hr r st⟩, fun ho => ⟨fun ha => ?_, fun ha => ?_, fun ha ht => ?_⟩⟩
  · rw [exec_writeAck hacc ha]
    exact ⟨fun h => by rw [State.takeWriteAck_good ho h], fun h => by rw [State.takeWriteAck_refused ho h]⟩
  · rw [exec_readRsp hacc ha]
    exact ⟨fun h => by rw [State.takeReadRsp_good ho h], fun h => by rw [State.takeReadRsp_refused ho h],
      fun h => by rw [State.takeReadRsp_uncorrectable ho h]⟩
  · rw [exec_unreach hacc ha, State.takeUnreach_owned ho ht]
  · rw [exec_writeAck hacc ha, State.takeWriteAck_unowned ho]
  · rw [exec_readRsp hacc ha, State.takeReadRsp_unowned ho]
  · rw [exec_unreach hacc ha, State.takeUnreach_foreign ht]

end Sys2Proof.Machine

/-! ROUTING_TABLE_SWAP (R359–R361, R367, R369, R421). -/

namespace Sys2Proof.Machine

open Sys2Proof

variable {s : State}

/-! ### The entries (R359, R360) -/

/-- A rank's entry is loaded. -/
def State.loadRoute (bad : List (Nat × Nat)) (s : State) (r : Nat) : State :=
  s.setFs [(FLU_RTE_PORT r, (routeTo s.flue.dims bad s.rank r).1),
    (FLU_RTE_DETOUR r, b2n (routeTo s.flue.dims bad s.rank r).2)]

/-- The entries of the first ranks are loaded. -/
def State.loadRoutes (s : State) (bad : List (Nat × Nat)) (n : Nat) : State :=
  (List.range n).foldl (State.loadRoute bad) s

theorem State.loadRoutes_succ (s : State) (bad : List (Nat × Nat)) (n : Nat) :
    s.loadRoutes bad (n + 1) = (s.loadRoutes bad n).loadRoute bad n := by
  rw [State.loadRoutes, List.range_succ, List.foldl_append]
  rfl

theorem State.loadRoutes_keeps {T : Nat} {s0 : State} (hT : Parts.le (Parts.of [.reg .FLU_RTE]) T) (h : Keeps T s0 s)
    (bad : List (Nat × Nat)) (n : Nat) : Keeps T s0 (s.loadRoutes bad n) :=
  keeps_foldl _ h fun _ _ hs => State.setFs_keeps_regs [.FLU_RTE] hT hs

/-- The route of a rank does not change as entries are loaded. -/
theorem State.routeTo_loadRoutes (s : State) (bad : List (Nat × Nat)) (n r : Nat) :
    routeTo (s.loadRoutes bad n).flue.dims bad (s.loadRoutes bad n).rank r = routeTo s.flue.dims bad s.rank r := by
  have hk := State.loadRoutes_keeps (Parts.le_refl _) (keeps_refl s) bad n
  have hflue := hk.flue (by decide) (by decide)
  have hrank : (s.loadRoutes bad n).rank = s.rank := hk.same (.reg .FLU_POS) (by decide) FLU_POS_RANK rfl
  rw [hflue, hrank]

theorem State.getF_loadRoute_same (bad : List (Nat × Nat)) (s : State) (r : Nat) :
    (s.loadRoute bad r).getF (FLU_RTE_PORT r) = (routeTo s.flue.dims bad s.rank r).1 % 8
    ∧ (s.loadRoute bad r).getF (FLU_RTE_DETOUR r) = b2n (routeTo s.flue.dims bad s.rank r).2 := by
  refine ⟨(State.getF_setF_lo _ _ rfl).trans (s.getF_setF ..), (State.getF_setF ..).trans ?_⟩
  cases (routeTo s.flue.dims bad s.rank r).2 <;> rfl

theorem State.getF_loadRoute_ne (bad : List (Nat × Nat)) (s : State) {r : Nat} {f : Fld}
    (h : f.i % 2 ^ 13 ≠ r % 2 ^ 13) : (s.loadRoute bad r).getF f = s.getF f :=
  (State.getF_setF_ne _ _ (Fld.key_ne_of_i h)).trans (State.getF_setF_ne _ _ (Fld.key_ne_of_i h))

theorem State.getF_loadRoutes (s : State) (bad : List (Nat × Nat)) {n r : Nat} (hr : r < n) (hn : n ≤ 4096) :
    (s.loadRoutes bad n).getF (FLU_RTE_PORT r) = (routeTo s.flue.dims bad s.rank r).1 % 8
    ∧ (s.loadRoutes bad n).getF (FLU_RTE_DETOUR r) = b2n (routeTo s.flue.dims bad s.rank r).2 := by
  induction n with
  | zero => omega
  | succ n ih =>
    rw [State.loadRoutes_succ]
    by_cases h : r = n
    · subst h
      rw [← s.routeTo_loadRoutes bad r r]
      exact State.getF_loadRoute_same ..
    · have hne : r % 2 ^ 13 ≠ n % 2 ^ 13 := by omega
      rw [State.getF_loadRoute_ne bad _ (f := FLU_RTE_PORT r) hne,
        State.getF_loadRoute_ne bad _ (f := FLU_RTE_DETOUR r) hne]
      exact ih (by omega) (by omega)

/-! ### The generation and the parent (R361, R369) -/

/-- The table loaded, its failed count and its generation. -/
def State.tableSwapped (s : State) : State :=
  ((s.loadRoutes s.failedLinks 4096).setFs [(FLU_RTGEN_FAILED, s.failedLinks.length)]).incF FLU_RTGEN_GEN 1

/-- The port towards the root in the table. -/
def State.rootPort (s : State) : Nat := s.getF (FLU_RTE_PORT s.flue.root)

/-- The timebase's parent follows the table. -/
def State.parentSet (s : State) : State := s.tableSwapped.setF FLU_TSTAT_PARENT s.tableSwapped.rootPort

theorem State.tableSwapped_keeps (s : State) : Keeps (Parts.of [.reg .FLU_RTE, .reg .FLU_RTGEN]) s s.tableSwapped :=
  State.incF_keeps_reg .FLU_RTGEN (Parts.within (Parts.le_refl _)) (State.setFs_keeps_regs [.FLU_RTGEN]
    (Parts.within (Parts.le_refl _)) (State.loadRoutes_keeps (Parts.within (Parts.le_refl _)) (keeps_refl s) _ _)) _

theorem State.swapRoutes_eq (s : State) : s.swapRoutes =
    if s.tableSwapped.rootPort = 7 then s.parentSet.setF FLU_TSTAT_SYNCED 0
    else if s.tableSwapped.rootPort = 6 then s.parentSet.setF FLU_TSTAT_SYNCED 1 else s.parentSet := by
  unfold State.swapRoutes
  extract_lets bad s1 s2 s3 p s4
  have h1 : s1 = s.loadRoutes s.failedLinks 4096 := rfl
  have h3 : s3 = s.tableSwapped := by unfold s3 s2 State.tableSwapped; rw [h1]
  have hp : p = s.tableSwapped.rootPort := by unfold p; rw [h3, State.rootPort]
  have h4 : s4 = s.parentSet := by unfold s4 State.parentSet; rw [h3, hp]
  rw [hp, h4]

theorem State.getF_swapRoutes {f : Fld} (h : f.key ≠ FLU_TSTAT_SYNCED.key) :
    s.swapRoutes.getF f = s.parentSet.getF f := by
  rw [State.swapRoutes_eq]
  split
  · exact State.getF_setF_ne _ _ h
  · split
    · exact State.getF_setF_ne _ _ h
    · rfl

theorem State.getF_tableSwapped_route (s : State) {f : Fld} (h : f.reg = .FLU_RTE) :
    s.tableSwapped.getF f = (s.loadRoutes s.failedLinks 4096).getF f := by
  have hne : f.reg ≠ .FLU_RTGEN := by rw [h]; decide
  exact (State.getF_setF_reg _ _ hne).trans (State.getF_setF_reg _ _ hne)

theorem State.getF_swapRoutes_route (s : State) {f : Fld} (h : f.reg = .FLU_RTE) :
    s.swapRoutes.getF f = (s.loadRoutes s.failedLinks 4096).getF f := by
  have hne : f.reg ≠ .FLU_TSTAT := by rw [h]; decide
  exact (State.getF_swapRoutes (Fld.key_ne_of_reg hne)).trans ((State.getF_setF_reg _ _ hne).trans
    (s.getF_tableSwapped_route h))

theorem State.getF_swapRoutes_GEN (s : State) :
    s.swapRoutes.getF FLU_RTGEN_GEN = (s.getF FLU_RTGEN_GEN + 1) % 2 ^ 16 := by
  have hload : (s.loadRoutes s.failedLinks 4096).getF FLU_RTGEN_GEN = s.getF FLU_RTGEN_GEN :=
    (State.loadRoutes_keeps (Parts.le_refl _) (keeps_refl s) _ _).getF (by decide)
  have hfailed : ((s.loadRoutes s.failedLinks 4096).setFs [(FLU_RTGEN_FAILED, s.failedLinks.length)]).getF FLU_RTGEN_GEN
      = s.getF FLU_RTGEN_GEN := (State.getF_setF_lo _ _ rfl).trans hload
  calc s.swapRoutes.getF FLU_RTGEN_GEN
    _ = s.parentSet.getF FLU_RTGEN_GEN := State.getF_swapRoutes (Fld.key_ne_of_reg nofun)
    _ = s.tableSwapped.getF FLU_RTGEN_GEN := State.getF_setF_num _ _ rfl
    _ = (s.getF FLU_RTGEN_GEN + 1) % 2 ^ 16 := by rw [← hfailed]; exact State.getF_setF ..

/-- The parent is the port of the root's entry. -/
theorem State.getF_swapRoutes_PARENT (hroot : s.flue.root < 4096) :
    s.swapRoutes.getF FLU_TSTAT_PARENT = s.tableSwapped.rootPort
    ∧ s.swapRoutes.getF (FLU_RTE_PORT s.flue.root) = s.tableSwapped.rootPort := by
  have hflue : s.tableSwapped.flue = s.flue := s.tableSwapped_keeps.flue (by decide) (by decide)
  have hport : s.tableSwapped.rootPort = s.tableSwapped.getF (FLU_RTE_PORT s.flue.root) := by rw [State.rootPort, hflue]
  have hentry := (s.getF_loadRoutes s.failedLinks hroot (le_refl 4096)).1
  have hlt : s.tableSwapped.rootPort < 8 := by
    rw [hport, State.getF_tableSwapped_route s rfl, hentry]
    exact Nat.mod_lt _ (by decide)
  refine ⟨?_, ?_⟩
  · rw [State.getF_swapRoutes (Fld.key_ne_of_lo (by decide))]
    exact (State.getF_setF ..).trans (Nat.mod_eq_of_lt hlt)
  · rw [hport, State.getF_swapRoutes_route s rfl, State.getF_tableSwapped_route s rfl]

theorem State.getF_swapRoutes_SYNCED (h : s.tableSwapped.rootPort = 7) : s.swapRoutes.getF FLU_TSTAT_SYNCED = 0 := by
  rw [State.swapRoutes_eq, if_pos h, State.getF_setF]
  rfl

/-! ### ROUTING_TABLE_SWAP -/

/-- Aborted collectives (R331) leave the table as it was swapped. -/
theorem State.takeRoutes_keeps_swap (s : State) : Keeps (Parts.of (collParts ++ lineParts)) s.swapRoutes s.takeRoutes :=
  keeps_foldl _ (keeps_refl _) fun _ _ hs => State.abortRank_keeps (Parts.le_refl _) hs _

theorem exec_routingTableSwap (h : s.routes = true) : exec .routingTableSwap s = .next s.takeRoutes := by
  simp [exec, execRoutingTableSwap, onlyIf, h]

theorem exec_routingTableSwap_idle (h : s.routes = false) : exec .routingTableSwap s = .next s := by
  simp [exec, execRoutingTableSwap, onlyIf, h]

/-- Settles O40: every rank's entry is loaded, then the generation and the parent follow, and the aborts of collectives
leave them. -/
theorem routingSwapFollowsRoute : Obligations.RoutingSwapFollowsRoute := by
  intro s
  refine ⟨exec_routingTableSwap_idle, fun hs hroot => ⟨_, exec_routingTableSwap hs, ?_⟩⟩
  have hk := s.takeRoutes_keeps_swap
  have hroute (f : Fld) (h : f.reg = .FLU_RTE) : s.takeRoutes.getF f = s.swapRoutes.getF f :=
    hk.same (.reg .FLU_RTE) (by decide) f h
  have htstat (f : Fld) (h : f.reg = .FLU_TSTAT) : s.takeRoutes.getF f = s.swapRoutes.getF f :=
    hk.same (.reg .FLU_TSTAT) (by decide) f h
  have hgen : s.takeRoutes.getF FLU_RTGEN_GEN = s.swapRoutes.getF FLU_RTGEN_GEN := hk.getF (by decide)
  obtain ⟨hparent, hentry⟩ := State.getF_swapRoutes_PARENT hroot
  rw [htstat FLU_TSTAT_PARENT rfl, htstat FLU_TSTAT_SYNCED rfl, hroute (FLU_RTE_PORT s.flue.root) rfl, hgen]
  refine ⟨fun r hr => ?_, s.getF_swapRoutes_GEN, hparent.trans hentry.symm, fun h => ?_⟩
  · rw [hroute (FLU_RTE_PORT r) rfl, hroute (FLU_RTE_DETOUR r) rfl, State.getF_swapRoutes_route s rfl,
      State.getF_swapRoutes_route s rfl]
    exact s.getF_loadRoutes s.failedLinks hr (le_refl 4096)
  · exact State.getF_swapRoutes_SYNCED (hparent.symm.trans h)

end Sys2Proof.Machine

/-! The training of Flue ports: how a port retrains, ends training, fails and tries again, and the lane set that it
takes (R341, R347, R350, R352, R370). -/

namespace Sys2Proof.Machine

open Sys2Proof

variable {s : State}

/-! ### A port takes a state (R352) -/

theorem State.port_setFs (s : State) (l : List (Fld × Nat)) (q : Nat) : (s.setFs l).port q = s.port q := by
  induction l generalizing s with
  | nil => rfl
  | cons x l ih => exact ih (s.setF x.1 x.2)

theorem State.setPort'_keeps_setFs (s : State) (p st : Nat) (l : List (Fld × Nat)) :
    Keeps (Parts.of traceParts) (s.setFs ((FLU_PORT_STATE p, st) :: l)) (s.setPort' p st l) :=
  State.traceRec_keeps (Parts.le_refl _) (keeps_refl _) ..

theorem State.port_setPort' (s : State) (p st : Nat) (l : List (Fld × Nat)) (q : Nat) :
    (s.setPort' p st l).port q = s.port q :=
  ((s.setPort'_keeps_setFs p st l).port (by decide) q).trans (s.port_setFs ..)

theorem State.getF_setPort' (s : State) (p st : Nat) (l : List (Fld × Nat)) {f : Fld}
    (hf : f.reg = .FLU_PORT ∨ f.reg = .FLU_PCTL) :
    (s.setPort' p st l).getF f = (s.setFs ((FLU_PORT_STATE p, st) :: l)).getF f := by
  obtain hf | hf := hf
  · exact (s.setPort'_keeps_setFs p st l).same (.reg .FLU_PORT) (by decide) f hf
  · exact (s.setPort'_keeps_setFs p st l).same (.reg .FLU_PCTL) (by decide) f hf

/-! ### RETRAIN (R352, R370) -/

theorem exec_retrain {p : Fin 6} (h : s.pf0Open 0x401004 = true) : exec (.retrain p) s = .next (s.retrainFull p) := by
  rw [← State.pf0Write_open h fun s => s.retrainFull p]
  simp [exec, execRetrain, bPctl]

section
variable {p : Nat}

theorem State.retrainState_active (h : s.portState p = portActive ∨ s.portState p = portRetrain) :
    s.retrainState p = some portRetrain :=
  if_pos (by simpa using h)

theorem State.retrainState_training
    (h : s.portState p = portTraining ∨ s.portState p = portFailed ∧ (s.port p).miswired = false) :
    s.retrainState p = some portTraining := by
  obtain h | ⟨h, hm⟩ := h
  · simp [State.retrainState, h, portTraining, portActive, portRetrain]
  · simp [State.retrainState, h, hm, portTraining, portActive, portRetrain, portFailed]

theorem State.retrainFull_none (h : s.retrainState p = none) : s.retrainFull p = s := by
  simp only [State.retrainFull, h]

/-- A port that retrains takes its state with `RETRAIN` set and every lane allowed. -/
theorem State.retrainFull_some {st : Nat} (h : s.retrainState p = some st) (hst : st < 8) :
    (s.retrainFull p).portState p = st ∧ (s.retrainFull p).getF (FLU_PCTL_RETRAIN p) = 1
    ∧ ((s.retrainFull p).port p).cap = 20 := by
  have heq : s.retrainFull p
      = ((s.setPort p { s.port p with cap := 20 }).setF (FLU_PCTL_RETRAIN p) 1).setPort' p st [] := by
    simp only [State.retrainFull, h]
  rw [heq, State.portState, State.getF_setPort' _ _ _ _ (.inl rfl), State.getF_setPort' _ _ _ _ (.inr rfl),
    State.port_setPort']
  exact ⟨(State.getF_setF ..).trans (Nat.mod_eq_of_lt hst),
    (State.getF_setF_num _ _ rfl).trans (State.getF_setF ..), congrArg PortRt.cap (s.port_setPort_same p _)⟩

end

/-! ### RETRAIN_ENTRY (R350) -/

theorem exec_retrainEntry {p : Fin 6} {cause : Fin 8} (hup : s.linkUp p = true) (hd : s.retrainDue p cause = true) :
    exec (.retrainEntry p cause) s = .next (s.enterRetrain p cause) := by
  simp [exec, execRetrainEntry, onlyIf, hup, hd]

theorem State.enterRetrain_shows (s : State) (p : Nat) {cause : Nat} (hc : cause < 8) :
    (s.enterRetrain p cause).portState p = portRetrain ∧ (s.enterRetrain p cause).getF (FLU_PORT_CAUSE p) = cause := by
  rw [State.enterRetrain, State.portState, State.getF_setPort' _ _ _ _ (.inl rfl),
    State.getF_setPort' _ _ _ _ (.inl rfl)]
  exact ⟨(State.getF_setF_lo _ _ rfl).trans (State.getF_setF ..), (State.getF_setF ..).trans (Nat.mod_eq_of_lt hc)⟩

/-! ### A port that fails (R341, R347, R352) -/

/-- What goes back to its sender joins an output or waits at port F0's input: no port's wiring mark changes. -/
theorem State.miswired_enqueue (s : State) (p req q : Nat) (pk : Packet) :
    ((s.enqueue p req pk).port q).miswired = (s.port q).miswired := by
  rw [State.enqueue, State.port_setPort]
  split
  case isTrue h => rw [h]
  case isFalse => rfl

theorem State.miswired_loopback (s : State) (q : Nat) (pk : Packet) :
    ((s.loopback pk).port q).miswired = (s.port q).miswired := by
  rw [State.loopback, State.port_setPort]
  split
  case isTrue h => rw [h]
  case isFalse => rfl

theorem State.miswired_discardPacket (s : State) (q : Nat) (pk : Packet) (cause : Nat) :
    ((s.discardPacket pk cause).port q).miswired = (s.port q).miswired := by
  unfold State.discardPacket State.inject
  split
  · rfl
  · extract_lets p
    split
    · exact State.miswired_loopback ..
    · split
      · split
        · rfl
        · exact State.miswired_loopback ..
      · exact State.miswired_enqueue ..

theorem miswired_foldl {α : Type} {g : State → α → State} {q : Nat}
    (hg : ∀ s x, ((g s x).port q).miswired = (s.port q).miswired) (l : List α) (s : State) :
    ((l.foldl g s).port q).miswired = (s.port q).miswired := by
  induction l generalizing s with
  | nil => rfl
  | cons x l ih => rw [List.foldl_cons, ih, hg]

theorem State.miswired_floodLink (s : State) (p q : Nat) (up : Bool) :
    ((s.floodLink p up).port q).miswired = (s.port q).miswired :=
  miswired_foldl (fun _ _ => State.miswired_enqueue ..) _ _

theorem State.miswired_drainOutput (s : State) (p : Nat) :
    ((s.drainOutput p).port p).miswired = (s.port p).miswired := by
  refine (miswired_foldl (fun _ _ => State.miswired_discardPacket ..) _ _).trans ?_
  rw [State.port_setPort_same]

/-- A port as it has entered FAILED, before the flood that tells every module. -/
def State.failNotedPort (s : State) (p cause : Nat) (miswired : Bool) : State :=
  (s.setPort p { s.port p with miswired := miswired }).setPort' p portFailed
    [(FLU_PORT_CAUSE p, cause), (FLU_PORT_WIDTH p, 0), (FLU_PORT_HIGHSET p, 0), (FLU_PCTL_RETRAIN p, 0)]

theorem State.failPort_eq (s : State) (p cause : Nat) (miswired : Bool) :
    s.failPort p cause miswired = ((s.failNotedPort p cause miswired).floodLink p false).drainOutput p := rfl

theorem State.failPort_keeps_noted (s : State) (p cause : Nat) (miswired : Bool) :
    Keeps (Parts.of [.flue, .ports]) (s.failNotedPort p cause miswired) (s.failPort p cause miswired) :=
  State.drainOutput_keeps (Parts.within (Parts.le_refl _))
    (State.floodLink_keeps (Parts.le_refl _) (keeps_refl _) _ _) _

/-- A port that fails shows its cause and no lanes, and remembers whether it was miswired. -/
theorem State.failPort_shows (s : State) (p : Nat) {cause : Nat} (hc : cause < 8) (miswired : Bool) :
    (s.failPort p cause miswired).portState p = portFailed
    ∧ (s.failPort p cause miswired).getF (FLU_PORT_CAUSE p) = cause
    ∧ (s.failPort p cause miswired).getF (FLU_PORT_WIDTH p) = 0
    ∧ ((s.failPort p cause miswired).port p).miswired = miswired := by
  have hport (f : Fld) (hf : f.reg = .FLU_PORT) : (s.failPort p cause miswired).getF f
      = ((s.setPort p { s.port p with miswired := miswired }).setFs [(FLU_PORT_STATE p, portFailed),
        (FLU_PORT_CAUSE p, cause), (FLU_PORT_WIDTH p, 0), (FLU_PORT_HIGHSET p, 0), (FLU_PCTL_RETRAIN p, 0)]).getF f :=
    ((s.failPort_keeps_noted p cause miswired).same (.reg .FLU_PORT) (by decide) f hf).trans
      (State.getF_setPort' _ _ _ _ (.inl hf))
  rw [State.portState, hport _ rfl, hport _ rfl, hport _ rfl]
  refine ⟨?_, ?_, ?_, ?_⟩
  · exact (State.getF_setF_num _ _ rfl).trans ((State.getF_setF_lo _ _ rfl).trans ((State.getF_setF_lo _ _ rfl).trans
      ((State.getF_setF_lo _ _ rfl).trans (State.getF_setF ..))))
  · exact (State.getF_setF_num _ _ rfl).trans ((State.getF_setF_lo _ _ rfl).trans ((State.getF_setF_lo _ _ rfl).trans
      ((State.getF_setF ..).trans (Nat.mod_eq_of_lt hc))))
  · exact (State.getF_setF_num _ _ rfl).trans ((State.getF_setF_lo _ _ rfl).trans (State.getF_setF ..))
  · rw [State.failPort_eq, State.miswired_drainOutput, State.miswired_floodLink, State.failNotedPort,
      State.port_setPort', State.port_setPort_same]

/-! ### A port that becomes ACTIVE (R347, R350, R352) -/

/-- A port as it has entered ACTIVE on a lane set, before it replays what is unacknowledged. -/
def State.activeNotedPort (s : State) (p : Nat) (l : Nat × Nat × Nat) : State :=
  (s.setPort p { s.port p with lockBad := 0, uncTimes := [], nakSent := false, cap := l.1 }).setPort' p portActive
    [(FLU_PORT_WIDTH p, l.2.2), (FLU_PORT_HIGHSET p, b2n (l.2.1 != 0)), (FLU_PCTL_RETRAIN p, 0)]

theorem State.activatePort_keeps_noted (s : State) (p : Nat) (l : Nat × Nat × Nat) :
    Keeps (Parts.of (portParts ++ [.reg .FLU_PERR])) (s.activeNotedPort p l) (s.activatePort p l) := by
  have hreplay : Keeps (Parts.of (portParts ++ [.reg .FLU_PERR])) (s.activeNotedPort p l)
      ((s.activeNotedPort p l).replayAll p) :=
    State.replayAll_keeps (Parts.le_refl _) (keeps_refl _) p
  exact ite_keeps (State.floodLink_keeps (Parts.within (Parts.le_refl _)) hreplay p true) hreplay

theorem State.activatePort_shows (s : State) (p : Nat) (l : Nat × Nat × Nat) :
    (s.activatePort p l).portState p = portActive ∧ (s.activatePort p l).getF (FLU_PORT_WIDTH p) = l.2.2 % 4
    ∧ (s.activatePort p l).getF (FLU_PCTL_RETRAIN p) = 0 := by
  have hk := s.activatePort_keeps_noted p l
  have hport := hk.same (.reg .FLU_PORT) (by decide)
  rw [State.portState, hport _ rfl, hport _ rfl, hk.same (.reg .FLU_PCTL) (by decide) _ rfl, State.activeNotedPort,
    State.getF_setPort' _ _ _ _ (.inl rfl), State.getF_setPort' _ _ _ _ (.inl rfl),
    State.getF_setPort' _ _ _ _ (.inr rfl)]
  refine ⟨?_, ?_, State.getF_setF ..⟩
  · exact (State.getF_setF_num _ _ rfl).trans ((State.getF_setF_lo _ _ rfl).trans ((State.getF_setF_lo _ _ rfl).trans
      (State.getF_setF ..)))
  · exact (State.getF_setF_num _ _ rfl).trans ((State.getF_setF_lo _ _ rfl).trans (State.getF_setF ..))

/-! ### The end of training (R341, R347) -/

section
variable {p : Nat} {o : TrainOut}

theorem State.wiredRight_laneFail (s : State) (p : Nat) (o : TrainOut) :
    (s.setF (FLU_PORT_LANE_FAIL p) o.laneFail).wiredRight p o = s.wiredRight p o := by
  have hrank : (s.setF (FLU_PORT_LANE_FAIL p) o.laneFail).rank = s.rank := State.getF_setF_num _ _ rfl
  rw [State.wiredRight, hrank]
  rfl

theorem State.endTraining_miswired (h : s.wiredRight p o = false) :
    s.endTraining p o = (s.setF (FLU_PORT_LANE_FAIL p) o.laneFail).failPort p 5 true := by
  simp only [State.endTraining, State.wiredRight_laneFail, h, Bool.not_false, if_true]

theorem State.endTraining_no_lanes (h : s.wiredRight p o = true) (hl : chooseLanes (s.port p).cap o.laneFail = none) :
    s.endTraining p o = (s.setF (FLU_PORT_LANE_FAIL p) o.laneFail).failPort p 4 false := by
  have hl' : chooseLanes ((s.setF (FLU_PORT_LANE_FAIL p) o.laneFail).port p).cap o.laneFail = none := hl
  simp only [State.endTraining, State.wiredRight_laneFail, h, Bool.not_true, Bool.false_eq_true, if_false, hl']

theorem State.endTraining_lanes {l : Nat × Nat × Nat} (h : s.wiredRight p o = true)
    (hl : chooseLanes (s.port p).cap o.laneFail = some l) :
    s.endTraining p o = (s.setF (FLU_PORT_LANE_FAIL p) o.laneFail).activatePort p l := by
  have hl' : chooseLanes ((s.setF (FLU_PORT_LANE_FAIL p) o.laneFail).port p).cap o.laneFail = some l := hl
  simp only [State.endTraining, State.wiredRight_laneFail, h, Bool.not_true, Bool.false_eq_true, if_false, hl']

end

section
variable {p : Fin 6}

theorem exec_retrainDone {o : TrainOut} (ht : s.training p = true) (hs : s.stopped = false) (hd : o.done = true) :
    exec (.retrainDone p o) s = .next (s.endTraining p o) := by
  simp [exec, execRetrainDone, onlyIf, ht, hs, hd]

theorem exec_retrainTimeout (ht : s.training p = true) (hs : s.stopped = false) :
    exec (.retrainTimeout p) s = .next (s.failPort p 6 false) := by
  simp [exec, execRetrainTimeout, onlyIf, ht, hs]

theorem exec_failedPortRetry (hf : s.portState p = portFailed) (hm : (s.port p).miswired = false)
    (hs : s.stopped = false) : exec (.failedPortRetry p) s = .next (s.setPort' p portTraining []) := by
  simp [exec, execFailedPortRetry, onlyIf, hf, hm, hs]

theorem exec_failedPortRetry_miswired (hm : (s.port p).miswired = true) : exec (.failedPortRetry p) s = .next s := by
  simp [exec, execFailedPortRetry, onlyIf, hm]

end

theorem State.portState_setPort' (s : State) (p : Nat) {st : Nat} (h : st < 8) :
    (s.setPort' p st []).portState p = st := by
  rw [State.portState, State.getF_setPort' _ _ _ _ (.inl rfl)]
  exact (State.getF_setF ..).trans (Nat.mod_eq_of_lt h)

/-! ### The lane set (R347, R352) -/

/-- A lane set comes before another: it is wider, or as wide and starts at a lower lane. -/
def laneBefore (x y : Nat × Nat × Nat) : Prop := y.1 < x.1 ∨ y.1 = x.1 ∧ x.2.1 < y.2.1

theorem laneSets_ordered : laneSets.Pairwise laneBefore := by
  unfold laneSets laneBefore
  decide

/-- A lane set may be taken: it is no wider than the limit, and none of its lanes has failed. -/
def laneUsable (cap laneFail : Nat) (l : Nat × Nat × Nat) : Bool :=
  decide (l.1 ≤ cap) && (List.range l.1).all fun i => !bitOf laneFail (l.2.1 + i)

theorem laneUsable_iff {cap laneFail : Nat} {l : Nat × Nat × Nat} : laneUsable cap laneFail l = true
    ↔ l.1 ≤ cap ∧ ∀ i, i < l.1 → bitOf laneFail (l.2.1 + i) = false := by
  simp [laneUsable]

/-- What a search finds in an ordered list comes before every other that it could have found. -/
theorem find?_before {α : Type} {r : α → α → Prop} {l : List α} {f : α → Bool} {x y : α} (hl : l.Pairwise r)
    (hx : l.find? f = some x) (hy : y ∈ l) (hf : f y = true) : y = x ∨ r x y := by
  obtain ⟨-, before, after, rfl, hn⟩ := List.find?_eq_some_iff_append.1 hx
  rcases List.mem_append.1 hy with hy | hy
  · exact absurd hf (by simpa using hn y hy)
  · exact (List.mem_cons.1 hy).imp_right ((List.pairwise_cons.1 (List.pairwise_append.1 hl).2.1).1 y)

theorem chooseLanes_usable {cap laneFail : Nat} {l : Nat × Nat × Nat} (h : chooseLanes cap laneFail = some l) :
    l ∈ laneSets ∧ laneUsable cap laneFail l = true :=
  ⟨List.mem_of_find?_eq_some h, List.find?_some (p := laneUsable cap laneFail) h⟩

theorem chooseLanes_widest {cap laneFail : Nat} {l x : Nat × Nat × Nat} (h : chooseLanes cap laneFail = some l)
    (hx : x ∈ laneSets) (hu : laneUsable cap laneFail x = true) : x.1 ≤ l.1 ∧ (x.1 = l.1 → l.2.1 ≤ x.2.1) := by
  obtain rfl | hlx := find?_before (f := laneUsable cap laneFail) laneSets_ordered h hx hu
  · exact ⟨le_refl _, fun _ => le_refl _⟩
  · unfold laneBefore at hlx
    omega

/-- Settles O39: each row shows the state that its case gives the port, and the first usable lane set in order is the
widest. The theorem stands under `Flue`, since the model's `portTraining` is the code of the state TRAINING. -/
theorem Flue.portTraining : Obligations.PortTraining := by
  refine ⟨fun p s ho => ⟨fun h => ?_, fun h => ?_, fun h => ?_⟩, fun p s => ⟨fun cause hup hd => ?_,
    fun o ht hs hd hw => ?_, fun o ht hs hd hw => ?_, fun ht hs => ?_, fun hf hm hs => ?_,
    fun _ hm => exec_failedPortRetry_miswired hm⟩, fun cap laneFail l h => ?_⟩
  · exact ⟨_, exec_retrain ho, State.retrainFull_some (State.retrainState_active h) (by decide)⟩
  · exact ⟨_, exec_retrain ho, State.retrainFull_some (State.retrainState_training h) (by decide)⟩
  · rw [exec_retrain ho, State.retrainFull_none h]
  · exact ⟨_, exec_retrainEntry hup hd, s.enterRetrain_shows p cause.isLt⟩
  · refine ⟨fun l hl => ⟨_, exec_retrainDone ht hs hd, ?_⟩, fun hl => ⟨_, exec_retrainDone ht hs hd, ?_⟩⟩
    · rw [State.endTraining_lanes hw hl]
      exact State.activatePort_shows ..
    · obtain ⟨hstate, hcause, -, -⟩ :=
        (s.setF (FLU_PORT_LANE_FAIL p) o.laneFail).failPort_shows p (show 4 < 8 by decide) false
      rw [State.endTraining_no_lanes hw hl]
      exact ⟨hstate, hcause⟩
  · obtain ⟨hstate, hcause, -, hmis⟩ :=
      (s.setF (FLU_PORT_LANE_FAIL p) o.laneFail).failPort_shows p (show 5 < 8 by decide) true
    refine ⟨_, exec_retrainDone ht hs hd, ?_⟩
    rw [State.endTraining_miswired hw]
    exact ⟨hstate, hcause, hmis⟩
  · obtain ⟨hstate, hcause, hwidth, -⟩ := s.failPort_shows p (show 6 < 8 by decide) false
    exact ⟨_, exec_retrainTimeout ht hs, hstate, hcause, hwidth⟩
  · exact ⟨_, exec_failedPortRetry hf hm hs, s.portState_setPort' p (by decide)⟩
  · intro usable
    obtain ⟨hmem, hu⟩ := chooseLanes_usable h
    exact ⟨⟨hmem, laneUsable_iff.1 hu⟩, fun x ⟨hx, hux⟩ => chooseLanes_widest h hx (laneUsable_iff.2 hux)⟩

end Sys2Proof.Machine

/-! The canonical form of the state (R373). -/

namespace Sys2Proof.Machine

open Sys2Proof

/-- Settles O4: a step is a tick or a command, and every operation of both keeps the form of every store. -/
theorem stepKeepsCanonicalForm : Obligations.StepKeepsCanonicalForm := by
  intro s t hs h
  unfold step at h
  split at h
  · cases h
    exact (State.tick_keeps (Parts.le_refl _) (keeps_refl s)).canon hs
  · rename_i c rest _
    exact (exec_keeps (Parts.le_refl _) (keeps_refl { s with pending := rest }) t h).canon hs

end Sys2Proof.Machine

/-! What the operations of the stack ports leave of a port (R381, R385, R386, R388). -/

namespace Sys2Proof.Machine

open Sys2Proof

variable {s t : State} {b : Fin 16}

@[simp] theorem State.stackPort_setStackPort (s : State) (b : Nat) (r : StackRt) :
    (s.setStackPort b r).stackPort b = r :=
  Store.get_set_same ..

@[simp] theorem State.getF_setStackPort (s : State) (b : Nat) (r : StackRt) (f : Fld) :
    (s.setStackPort b r).getF f = s.getF f := rfl

@[simp] theorem State.dram_setStackPort (s : State) (b : Nat) (r : StackRt) : (s.setStackPort b r).dram = s.dram := rfl

theorem Keeps.stackPort {T : Nat} (h : Keeps T s t) (hT : T.testBit (Part.num .stackPorts) = false) (b : Nat) :
    t.stackPort b = s.stackPort b :=
  congrArg (Store.get StackRt.init · b) (h.same .stackPorts hT)

/-! ### Where the lines of a beat lie (R371, R387) -/

theorem Keeps.beatLines {T : Nat} (h : Keeps T s t) (hT : T.testBit (Part.num (.reg .MEM_BANDMAP)) = false) (b : Nat)
    (x : Beat) : t.beatLines b x = s.beatLines b x := by
  simp only [State.beatLines, State.paOf, h.getF (f := MEM_BANDMAP_LOCAL) hT]

/-- The lines of a block of 4 KiB follow one another. -/
theorem State.paOf_block (s : State) (b k : Nat) {i : Nat} (hi : i < 64) :
    s.paOf b (k * 4096 + 64 * i) = s.paOf b (k * 4096) + 64 * i := by
  have hj : (k * 4096 + 64 * i) / 2 ^ 30 = k * 4096 / 2 ^ 30 := by omega
  simp only [State.paOf, hj]
  split <;> omega

/-- No two lines of a beat overlap. -/
theorem State.beatLines_apart (s : State) (b : Nat) (x : Beat) :
    (s.beatLines b x).Pairwise fun p q => p + 64 ≤ q := by
  refine List.pairwise_map.2 ((List.pairwise_lt_range.filter _).imp_of_mem fun {i j} hi hj hij => ?_)
  have hi := List.mem_range.1 (List.mem_filter.1 hi).1
  have hj := List.mem_range.1 (List.mem_filter.1 hj).1
  rw [s.paOf_block b _ hi, s.paOf_block b _ hj]
  omega

/-! ### The data of a write beat (R387) -/

/-- The store of one line of a beat: the line's address and its place among the beat's lines. -/
def State.storeLine (data : List Byte) (s : State) (p : Nat × Nat) : State :=
  let d := (data.drop (64 * p.2)).take 64
  if d.length = 64 then s.dwrite p.1 d else s

theorem State.storeBeat_eq (s : State) (b : Nat) (x : Beat) :
    s.storeBeat b x = (s.beatLines b x).zipIdx.foldl (State.storeLine x.data) s := rfl

section
variable {data : List Byte} {p : Nat × Nat}

theorem State.dbyte_storeLine {i : Nat} (hd : 64 * p.2 + 64 ≤ data.length) (hi : i < 64) :
    (s.storeLine data p).dbyte (p.1 + i) = data.getD (64 * p.2 + i) 0 := by
  have hlen : ((data.drop (64 * p.2)).take 64).length = 64 := by simp; omega
  rw [State.storeLine, if_pos hlen, State.dbyte_dwrite, hlen, if_pos (by omega), Nat.add_sub_cancel_left]
  simp [List.getD, hi]

theorem State.dbyte_storeLine_outside {a : Nat} (ha : a < p.1 ∨ p.1 + 64 ≤ a) :
    (s.storeLine data p).dbyte a = s.dbyte a := by
  unfold State.storeLine
  extract_lets d
  split
  · rename_i hlen
    rw [State.dbyte_dwrite, hlen, if_neg (by omega)]
  · rfl

theorem State.dbyte_storeLines_outside {l : List (Nat × Nat)} {a : Nat} (ha : ∀ p ∈ l, a < p.1 ∨ p.1 + 64 ≤ a)
    (s : State) : (l.foldl (State.storeLine data) s).dbyte a = s.dbyte a := by
  induction l generalizing s with
  | nil => rfl
  | cons p l ih =>
    rw [List.foldl_cons, ih fun q hq => ha q (List.mem_cons_of_mem _ hq),
      State.dbyte_storeLine_outside (ha p List.mem_cons_self)]

/-- Of lines that do not overlap, each holds its own data once all are stored. -/
theorem State.dbyte_storeLines {l : List (Nat × Nat)} {i : Nat} (hl : l.Pairwise fun p q => p.1 + 64 ≤ q.1)
    (hp : p ∈ l) (hd : 64 * p.2 + 64 ≤ data.length) (hi : i < 64) (s : State) :
    (l.foldl (State.storeLine data) s).dbyte (p.1 + i) = data.getD (64 * p.2 + i) 0 := by
  obtain ⟨before, after, rfl⟩ := List.append_of_mem hp
  have hafter : ∀ q ∈ after, p.1 + i < q.1 ∨ q.1 + 64 ≤ p.1 + i := fun q hq => by
    have := (List.pairwise_cons.1 (List.pairwise_append.1 hl).2.1).1 q hq
    omega
  rw [List.foldl_append, List.foldl_cons, State.dbyte_storeLines_outside hafter, State.dbyte_storeLine hd hi]

end

/-- Each line of a write beat holds its own 64 bytes of the data. -/
theorem State.dbyte_storeBeat (s : State) (b : Nat) (x : Beat) {j pa i : Nat} (hj : (s.beatLines b x)[j]? = some pa)
    (hd : 64 * j + 64 ≤ x.data.length) (hi : i < 64) :
    (s.storeBeat b x).dbyte (pa + i) = x.data.getD (64 * j + i) 0 := by
  have hapart : (s.beatLines b x).zipIdx.Pairwise fun p q => p.1 + 64 ≤ q.1 := by
    rw [← List.pairwise_map (f := Prod.fst) (R := fun p q => p + 64 ≤ q), List.zipIdx_map_fst]
    exact s.beatLines_apart b x
  exact State.dbyte_storeLines (p := (pa, j)) hapart (List.mem_zipIdx_iff_getElem?.2 hj) hd hi s

/-! ### The beat that a grant transfers (R382, R387, R484) -/

/-- What the byte counters of a transfer may change. -/
def beatCountParts : List Part := triggerParts ++ [.reg .OBS_CNT]

/-- A transfer counts its bytes; then a write stores its lines and drops their corrective writes, and a read waits for
its data. -/
theorem State.transfer_counted (s : State) (b g : Nat) (x : Beat) : ∃ u, Keeps (Parts.of beatCountParts) s u
    ∧ s.transfer b g x = if x.write then (u.storeBeat b x).setStackPort b { u.stackPort b with
          corrective := (u.stackPort b).corrective.filter fun a => !(u.beatLines b x).contains a }
        else u.setStackPort b { u.stackPort b with outstanding := (u.stackPort b).outstanding ++ [(g, x)] } := by
  unfold State.transfer
  extract_lets n s1 s2 r lines
  refine ⟨s2, ?_, rfl⟩
  have hs1 : Keeps (Parts.of beatCountParts) s s1 :=
    State.gcount_keeps (Parts.within (Parts.le_refl _)) (keeps_refl s) _ _
  unfold s2
  split
  · exact State.count_keeps (Parts.within (Parts.le_refl _)) hs1 _ _ _
  · exact hs1

theorem State.stackPort_transfer_read (s : State) (b g : Nat) {x : Beat} (hx : x.write = false) :
    (s.transfer b g x).stackPort b
      = { s.stackPort b with outstanding := (s.stackPort b).outstanding ++ [(g, x)] } := by
  obtain ⟨u, hu, h⟩ := s.transfer_counted b g x
  rw [h, if_neg (by simp [hx]), State.stackPort_setStackPort, hu.stackPort (by decide)]

theorem State.stackPort_transfer_write (s : State) (b g : Nat) {x : Beat} (hx : x.write = true) :
    (s.transfer b g x).stackPort b = { s.stackPort b with
      corrective := (s.stackPort b).corrective.filter fun a => !(s.beatLines b x).contains a } := by
  obtain ⟨u, hu, h⟩ := s.transfer_counted b g x
  rw [h, if_pos hx, State.stackPort_setStackPort, hu.stackPort (by decide), hu.beatLines (by decide)]

theorem State.dbyte_transfer_write (s : State) (b g : Nat) {x : Beat} (hx : x.write = true) {j pa i : Nat}
    (hj : (s.beatLines b x)[j]? = some pa) (hd : 64 * j + 64 ≤ x.data.length) (hi : i < 64) :
    (s.transfer b g x).dbyte (pa + i) = x.data.getD (64 * j + i) 0 := by
  obtain ⟨u, hu, h⟩ := s.transfer_counted b g x
  rw [h, if_pos hx]
  exact u.dbyte_storeBeat b x ((hu.beatLines (by decide) b x).symm ▸ hj) hd hi

/-! ### STACK_PORT_GRANT (R388, R389) -/

theorem exec_stackPortGrant (h : s.running = true) (cycle : Nat) (reqs : List (Option Beat)) :
    exec (.stackPortGrant b cycle reqs) s = .next (s.grantStack b cycle reqs) := by
  simp [exec, execStackPortGrant, onlyIf, h]

theorem exec_correctiveWrite (h : s.running = true) : exec (.correctiveWrite b) s = .next
    (s.setStackPort b { s.stackPort b with corrective := (s.stackPort b).corrective.tail }) := by
  simp [exec, execCorrectiveWrite, onlyIf, h]

/-- The choice of a stack port's arbiter at a cycle. -/
def State.stackChoice (s : State) (b cycle : Nat) (reqs : List (Option Beat)) : Option (Nat × List Nat × Nat × Nat) :=
  arbitrate (reqs.map Option.isSome) (s.getF MEM_ARBCFG_HP) s.seval.spQ
    (usedAt (s.stackPort b).used (s.stackPort b).win (cycle / s.getF MEM_ARBCFG_WIN)) (s.stackPort b).ptrH
    (s.stackPort b).ptrL

section
variable {b cycle : Nat} {reqs : List (Option Beat)}

theorem State.grantStack_idle (h : s.portReady b cycle = false ∨ s.stackChoice b cycle reqs = none) :
    s.grantStack b cycle reqs = s.setStackPort b { s.stackPort b with
      used := usedAt (s.stackPort b).used (s.stackPort b).win (cycle / s.getF MEM_ARBCFG_WIN)
      win := cycle / s.getF MEM_ARBCFG_WIN } := by
  unfold State.stackChoice at h
  cases hr : s.portReady b cycle with
  | false => simp only [State.grantStack, hr, Bool.not_false, if_true]
  | true =>
    have hc := h.resolve_left (by simp [hr])
    simp [State.grantStack, hr, hc]

theorem State.grantStack_some {g h l : Nat} {v : List Nat} {x : Beat} (hr : s.portReady b cycle = true)
    (hc : s.stackChoice b cycle reqs = some (g, v, h, l)) (hx : reqs.getD g none = some x) :
    s.grantStack b cycle reqs = (s.setStackPort b { s.stackPort b with
      used := v, win := cycle / s.getF MEM_ARBCFG_WIN, ptrH := h, ptrL := l }).transfer b g x := by
  unfold State.stackChoice at hc
  simp only [State.grantStack, hr, hc, hx, Bool.not_true, Bool.false_eq_true, if_false]

end

/-- Settles O47: a grant without a choice moves the window alone, the choice's beat is transferred by its direction, and
the lines of a beat do not overlap. -/
theorem stackPortGrantTransfersBeat : Obligations.StackPortGrantTransfersBeat := by
  intro b cycle reqs s hrun choice
  refine ⟨fun hidle => ?_, fun g v h l x hready hc hx => ?_, _, exec_correctiveWrite hrun, by simp⟩
  · rw [exec_stackPortGrant hrun, State.grantStack_idle hidle]
    exact ⟨_, rfl, by simp⟩
  · rw [exec_stackPortGrant hrun, State.grantStack_some hready hc hx]
    refine ⟨_, rfl, ?_⟩
    cases hw : x.write with
    | false => simp [State.stackPort_transfer_read _ _ _ hw]
    | true =>
      rw [State.stackPort_transfer_write _ _ _ hw, State.stackPort_setStackPort]
      refine ⟨rfl, rfl, rfl, nofun, fun _ => ⟨rfl, fun y => ?_, fun j pa i hj hd hi => ?_⟩⟩
      · simp only [List.mem_filter, Bool.not_eq_true', List.contains_eq_mem, decide_eq_false_iff_not]
        rfl
      · exact State.dbyte_transfer_write _ _ _ hw hj hd hi

end Sys2Proof.Machine

/-! Read beats and refresh (R381, R386, R390). -/

namespace Sys2Proof.Machine

open Sys2Proof

variable {s : State} {b : Fin 16}

/-! ### The oldest beat of a requester (R390) -/

theorem StackRt.oldestOf_some {r : StackRt} {g : Nat} {x : Beat} {old later : List (Nat × Beat)}
    (h : r.outstanding = old ++ (g, x) :: later) (hold : ∀ y ∈ old, y.1 ≠ g) :
    r.oldestOf g = some (x, old ++ later) := by
  have hfind : old.find? (fun y => y.1 == g) = none := List.find?_eq_none.2 fun y hy => by simpa using hold y hy
  have hnot : (g, x) ∉ old := fun hm => hold _ hm rfl
  simp [StackRt.oldestOf, h, List.find?_append, hfind, List.erase_append_right _ hnot]

theorem StackRt.oldestOf_none {r : StackRt} {g : Nat} (h : ∀ y ∈ r.outstanding, y.1 ≠ g) : r.oldestOf g = none := by
  have hfind : r.outstanding.find? (fun y => y.1 == g) = none :=
    List.find?_eq_none.2 fun y hy => by simpa using h y hy
  rw [StackRt.oldestOf, hfind]
  rfl

/-! ### Clean lines (R381) -/

theorem State.checkLine_clean {pa : Nat} (h : s.badLines.get false (pa / 64) = false) (b g : Nat)
    (reader : Option (Nat × Nat × Nat)) (ctx : Nat) : s.checkLine b g pa .clean reader ctx = s := by
  simp [State.checkLine, State.checked, h]

theorem getD_clean {lines : List LineCheck} (h : ∀ l ∈ lines, l = .clean) (k : Nat) : lines.getD k .clean = .clean := by
  rw [List.getD_eq_getElem?_getD]
  cases hk : lines[k]? with
  | none => rfl
  | some l => exact h l (List.mem_of_getElem? hk)

/-- A beat whose lines are all clean only leaves the list of those outstanding. -/
theorem State.returnBeat_clean {b g : Nat} {x : Beat} {rest : List (Nat × Beat)} {lines : List LineCheck}
    (hl : ∀ l ∈ lines, l = .clean) (hb : ∀ pa ∈ s.beatLines b x, s.badLines.get false (pa / 64) = false)
    (reader : Option (Nat × Nat × Nat)) : s.returnBeat b g x rest lines reader
      = s.setStackPort b { s.stackPort b with outstanding := rest } := by
  unfold State.returnBeat
  extract_lets r u
  refine List.foldlRecOn _ _ (motive := (· = u)) rfl fun v hv p hp => ?_
  obtain ⟨pa, k⟩ := p
  have hpa : pa ∈ s.beatLines b x := List.mem_of_getElem? (List.mem_zipIdx_iff_getElem?.1 hp)
  have hgood : u.badLines.get false (pa / 64) = false := hb pa hpa
  rw [hv, getD_clean hl, State.checkLine_clean hgood]

theorem exec_readBeatReturn {r : BeatReturn} {x : Beat} {rest : List (Nat × Beat)} (hrun : s.running = true)
    (h : (s.stackPort b).oldestOf r.requester = some (x, rest)) (reader : Option (Fin 64 × Nat × Nat)) :
    exec (.readBeatReturn b r reader) s = .next (s.returnBeat b r.requester x rest r.lines
      (reader.map fun r => (r.1.val, r.2.1, r.2.2))) := by
  simp [exec, execReadBeatReturn, h, onlyIf, hrun]

theorem exec_readBeatReturn_none {r : BeatReturn} (h : (s.stackPort b).oldestOf r.requester = none)
    (reader : Option (Fin 64 × Nat × Nat)) : exec (.readBeatReturn b r reader) s = .next s := by
  simp [exec, execReadBeatReturn, h]

/-! ### Refresh (R386) -/

theorem exec_refreshBlackout {cycle : Nat} (hrun : s.running = true)
    (h : startsBlackout (s.flag (MEM_STK_REF2X b)) cycle = true) : exec (.refreshBlackout b cycle) s
      = .next (s.setStackPort b { s.stackPort b with blackout := cycle + 8 }) := by
  simp [exec, execRefreshBlackout, onlyIf, hrun, h]

theorem exec_refreshBlackout_none {cycle : Nat} (h : startsBlackout (s.flag (MEM_STK_REF2X b)) cycle = false) :
    exec (.refreshBlackout b cycle) s = .next s := by
  simp [exec, execRefreshBlackout, onlyIf, h]

theorem State.portReady_blackout {b cycle : Nat} (h : (s.stackPort b).blackout ≤ cycle + 8)
    (hc : cycle < (s.stackPort b).blackout) : s.portReady b cycle = false := by
  simp [State.portReady, h, hc]

theorem exec_refreshWindowChange_running {cycle : Nat} (heat : StackHeat) (hrun : s.running = true)
    (hc : cycle % 1024 = 0) : exec (.refreshWindowChange b cycle heat) s
      = .next (s.setF (MEM_STK_REF2X b) (s.refreshFor b (s.stackTemp b) heat.calm)) := by
  simp [exec, execRefreshWindowChange, onlyIf, hrun, hc]

theorem exec_refreshWindowChange_selfRefresh (cycle : Nat) (heat : StackHeat) (hrun : s.running = false)
    (hself : s.selfRefresh = true) : exec (.refreshWindowChange b cycle heat) s
      = .next (s.setF (MEM_STK_REF2X b) (s.refreshFor b heat.own heat.calm)) := by
  simp [exec, execRefreshWindowChange, onlyIf, hrun, hself]

theorem exec_refreshWindowChange_idle {cycle : Nat} (heat : StackHeat)
    (h : s.running = true ∧ cycle % 1024 ≠ 0 ∨ s.running = false ∧ s.selfRefresh = false) :
    exec (.refreshWindowChange b cycle heat) s = .next s := by
  rcases h with ⟨hrun, hc⟩ | ⟨hrun, hself⟩
  · simp [exec, execRefreshWindowChange, onlyIf, hrun, hc]
  · simp [exec, execRefreshWindowChange, onlyIf, hrun, hself]

/-- The window that a temperature calls for, as the register shows it. -/
theorem State.getF_refreshWindow (s : State) (b : Nat) (temp : Int) (calm : Bool) :
    let t := s.setF (MEM_STK_REF2X b) (s.refreshFor b temp calm)
    (1360 < temp → t.getF (MEM_STK_REF2X b) = 1)
      ∧ (temp ≤ 1328 → calm = true → t.getF (MEM_STK_REF2X b) = 0)
      ∧ (temp ≤ 1360 → ¬ (calm = true ∧ temp ≤ 1328) → t.getF (MEM_STK_REF2X b) = s.getF (MEM_STK_REF2X b) % 2) := by
  intro t
  have ht : t.getF (MEM_STK_REF2X b) = s.refreshFor b temp calm % 2 := s.getF_setF ..
  rw [ht, State.refreshFor]
  refine ⟨fun hhot => ?_, fun hcool hcalm => ?_, fun hwarm hkeep => ?_⟩
  · rw [if_pos hhot]
  · rw [if_neg (by omega), if_pos (by simp [hcalm, hcool])]
  · rw [if_neg (by omega), if_neg (by simpa using hkeep)]

/-- Settles O48: a returned beat is the requester's oldest, and clean lines change nothing; the port is not ready until
its blackout ends; the window follows the temperature that counts. -/
theorem readBeatsAndRefresh : Obligations.ReadBeatsAndRefresh := by
  refine ⟨fun b g lines reader s x old later hrun hout hold hlines hgood => ?_, fun b g lines reader s hnone => ?_,
    fun b cycle s hrun => ⟨fun hstart => ?_, exec_refreshBlackout_none⟩, fun b cycle calm own s =>
      ⟨fun temp htemp => ?_, exec_refreshWindowChange_idle _⟩⟩
  · rw [exec_readBeatReturn hrun (StackRt.oldestOf_some hout hold), State.returnBeat_clean hlines hgood]
  · exact exec_readBeatReturn_none (StackRt.oldestOf_none hnone) reader
  · refine ⟨_, exec_refreshBlackout hrun hstart, by simp, fun i hi => State.portReady_blackout ?_ ?_⟩
    · rw [State.stackPort_setStackPort]
      dsimp only
      omega
    · rw [State.stackPort_setStackPort]
      dsimp only
      omega
  · refine ⟨_, ?_, s.getF_refreshWindow b temp calm⟩
    obtain ⟨hrun, hc, rfl⟩ | ⟨hrun, hself, rfl⟩ := htemp
    · exact exec_refreshWindowChange_running _ hrun hc
    · exact exec_refreshWindowChange_selfRefresh _ _ hrun hself

end Sys2Proof.Machine

/-! Patrol scrub and row sparing (R383, R385). -/

namespace Sys2Proof.Machine

open Sys2Proof

variable {s : State} {b : Fin 16}

/-! ### PATROL_SCRUB (R383) -/

theorem exec_patrolScrub (h : s.active = true) (lines : List LineCheck) :
    exec (.patrolScrub b lines) s = .next (s.scrubBlock b lines) := by
  simp [exec, execPatrolScrub, onlyIf, h]

theorem exec_patrolScrub_idle (h : s.active = false) (lines : List LineCheck) :
    exec (.patrolScrub b lines) s = .next s := by
  simp [exec, execPatrolScrub, onlyIf, h]

/-- What reading a block may change. -/
def scrubParts : List Part := lineErrorParts ++ [.badLines]

/-- The scrubber moves to the next block. -/
def State.scrubMoved (s : State) (b : Nat) : State :=
  if s.getF (MEM_SCRUB_PTR b) + 1 = 2 ^ 24 then (s.incF (MEM_SCRUB_PTR b) 1).incF (MEM_SCRUB_PASSES b) 1
  else s.incF (MEM_SCRUB_PTR b) 1

/-- The reads of a block's lines leave the pointer to the move after them. -/
theorem State.scrubBlock_moves (s : State) (b : Nat) (lines : List LineCheck) :
    ∃ u, Keeps (Parts.of scrubParts) s u ∧ s.scrubBlock b lines = u.scrubMoved b := by
  unfold State.scrubBlock
  extract_lets ptr u v
  have hu : Keeps (Parts.of scrubParts) s u :=
    keeps_foldl _ (keeps_refl s) fun _ _ hs => State.scrubLine_keeps (Parts.le_refl _) hs _ _ _
  refine ⟨u, hu, ?_⟩
  rw [State.scrubMoved, hu.same (.reg .MEM_SCRUB) (by decide) (MEM_SCRUB_PTR b) rfl]

theorem State.getF_incF_PASSES_PTR (s : State) (b n : Nat) :
    (s.incF (MEM_SCRUB_PASSES b) n).getF (MEM_SCRUB_PTR b) = s.getF (MEM_SCRUB_PTR b) :=
  s.getF_setF_lo _ rfl

theorem State.getF_incF_PTR_PASSES (s : State) (b n : Nat) :
    (s.incF (MEM_SCRUB_PTR b) n).getF (MEM_SCRUB_PASSES b) = s.getF (MEM_SCRUB_PASSES b) :=
  s.getF_setF_lo _ rfl

theorem State.getF_scrubMoved_PTR (s : State) (b : Nat) :
    (s.scrubMoved b).getF (MEM_SCRUB_PTR b) = (s.getF (MEM_SCRUB_PTR b) + 1) % 2 ^ 24 := by
  unfold State.scrubMoved
  split
  · exact (State.getF_incF_PASSES_PTR ..).trans (s.getF_setF ..)
  · exact s.getF_setF ..

theorem State.getF_scrubMoved_PASSES (s : State) (b : Nat) : (s.scrubMoved b).getF (MEM_SCRUB_PASSES b)
    = if s.getF (MEM_SCRUB_PTR b) + 1 = 2 ^ 24 then (s.getF (MEM_SCRUB_PASSES b) + 1) % 2 ^ 24
      else s.getF (MEM_SCRUB_PASSES b) := by
  unfold State.scrubMoved
  split
  · rw [State.incF, State.getF_setF, State.getF_incF_PTR_PASSES]
    rfl
  · exact State.getF_incF_PTR_PASSES ..

theorem State.dram_scrubMoved (s : State) (b : Nat) : (s.scrubMoved b).dram = s.dram := by
  unfold State.scrubMoved
  split <;> rfl

/-! ### ROW_SPARE (R385) -/

theorem exec_rowSpare {row : Nat} (hrun : s.running = true) (h : row ∈ (s.stackPort b).due) :
    exec (.rowSpare b row) s = .next (s.spareRow b row) := by
  simp [exec, execRowSpare, onlyIf, hrun, h]

/-- The row is no longer due, and patrol's corrections of it are forgotten. -/
def State.rowDone (s : State) (b row : Nat) : State :=
  s.setStackPort b { s.stackPort b with
    due := (s.stackPort b).due.erase row, rows := (s.stackPort b).rows.filter fun x => x.1 != row }

/-- One spare row fewer is left, and one more is retired. -/
def State.spareTaken (s : State) (b : Nat) : State :=
  (s.setF (MEM_STK_SPARE b) (s.getF (MEM_STK_SPARE b) - 1)).addSat (MEM_ERR_RETIRED b) 1

theorem State.getF_spareTaken_SPARE (s : State) (b : Nat) (h : s.getF (MEM_STK_SPARE b) < 2 ^ 14) :
    (s.spareTaken b).getF (MEM_STK_SPARE b) = s.getF (MEM_STK_SPARE b) - 1 := by
  have hne : (MEM_STK_SPARE b).reg ≠ (MEM_ERR_RETIRED b).reg := nofun
  rw [State.spareTaken, State.addSat, State.getF_setF_reg _ _ hne, State.getF_setF]
  exact Nat.mod_eq_of_lt (Nat.lt_of_le_of_lt (Nat.sub_le ..) h)

theorem State.getF_spareTaken_RETIRED (s : State) (b : Nat) :
    (s.spareTaken b).getF (MEM_ERR_RETIRED b) = min (s.getF (MEM_ERR_RETIRED b) + 1) (2 ^ 12 - 1) := by
  have hne : (MEM_ERR_RETIRED b).reg ≠ (MEM_STK_SPARE b).reg := nofun
  rw [State.spareTaken, State.getF_addSat, State.getF_setF_reg _ _ hne]
  rfl

theorem State.spareRow_none {b : Nat} (h : s.getF (MEM_STK_SPARE b) = 0) (row : Nat) :
    s.spareRow b row = s.rowDone b row :=
  if_pos h

/-- A spare row is taken and the event logged. -/
theorem State.spareRow_some {b : Nat} (h : s.getF (MEM_STK_SPARE b) ≠ 0) (row : Nat) : s.spareRow b row
    = ((s.rowDone b row).spareTaken b).logEvent 0x0011 1
        (leBytes 4 b ++ leBytes 4 row ++ leBytes 4 (8192 - s.getF (MEM_STK_SPARE b))) :=
  if_neg h

theorem State.due_spareRow (s : State) (b row : Nat) :
    ((s.spareRow b row).stackPort b).due = (s.stackPort b).due.erase row := by
  have hdone : ((s.rowDone b row).stackPort b).due = (s.stackPort b).due.erase row :=
    congrArg StackRt.due (State.stackPort_setStackPort ..)
  by_cases h : s.getF (MEM_STK_SPARE b) = 0
  · rw [State.spareRow_none h, hdone]
  · rw [State.spareRow_some h]
    exact hdone

/-- Settles O49: the reads of a block leave the pointer to the move after them, and a spared row is done with whether or
not a spare row is left. -/
theorem scrubAndSpare : Obligations.ScrubAndSpare := by
  refine ⟨fun b lines s => ⟨fun hact => ?_, fun hidle => exec_patrolScrub_idle hidle lines⟩,
    fun b row s hrun hdue => ⟨_, exec_rowSpare hrun hdue, s.due_spareRow b row,
      (State.spareRow_keeps (Parts.le_refl _) (keeps_refl s) b row).same .dram (by decide),
      fun hleft hlt => ?_, fun hnone => ?_⟩⟩
  · obtain ⟨u, hu, hmove⟩ := s.scrubBlock_moves b lines
    refine ⟨_, exec_patrolScrub hact lines, ?_⟩
    have hreg := hu.same (.reg .MEM_SCRUB) (by decide)
    rw [hmove, State.getF_scrubMoved_PTR, State.getF_scrubMoved_PASSES, State.dram_scrubMoved,
      hreg (MEM_SCRUB_PTR b) rfl, hreg (MEM_SCRUB_PASSES b) rfl]
    exact ⟨rfl, rfl, hu.same .dram (by decide)⟩
  · rw [State.spareRow_some hleft]
    exact ⟨State.getF_spareTaken_SPARE (s.rowDone b row) b hlt, State.getF_spareTaken_RETIRED (s.rowDone b row) b,
      State.evSeq_logEvent ..⟩
  · rw [State.spareRow_none hnone]
    exact ⟨rfl, rfl⟩

end Sys2Proof.Machine

/-! TILE_PLACE: the first candidate that fits goes to the eligible Bay of most headroom (R413, R414). -/

namespace Sys2Proof.Machine

open Sys2Proof

variable {s : State} {f : Flight} {ts : List Nat} {b : Nat} {old : Bool}

/-- The Bays that may take a group, in rising order (R414). -/
def State.eligibleBays (s : State) (f : Flight) (ts : List Nat) (old : Bool) : List Nat :=
  (List.range 16).filter fun b =>
    decide (f.instCount ts ≤ (s.freeFor f ts b).length) && s.bayRuns b && (old || s.bayFits b (s.groupP f ts b))

theorem State.mem_eligibleBays : b ∈ s.eligibleBays f ts old ↔ b < 16 ∧ f.instCount ts ≤ (s.freeFor f ts b).length
    ∧ s.bayRuns b = true ∧ (old = true ∨ s.bayFits b (s.groupP f ts b) = true) := by
  simp [State.eligibleBays, and_assoc]

theorem State.eligibleBays_pairwise (s : State) (f : Flight) (ts : List Nat) (old : Bool) :
    (s.eligibleBays f ts old).Pairwise (· < ·) :=
  List.pairwise_lt_range.filter _

/-- The choice goes on to a later Bay only for more headroom, so it is the first Bay where the headroom is largest. -/
theorem State.chooseBay_eq_argmax (s : State) (f : Flight) (ts : List Nat) (old : Bool) :
    s.chooseBay f ts old = (s.eligibleBays f ts old).argmax fun b => s.headroom b (s.groupP f ts b) :=
  congrArg (fun k => (s.eligibleBays f ts old).foldl k none) (funext₂ fun best b => by cases best <;> rfl)

/-- In a rising list the elements that stand before are the lesser ones. -/
theorem le_of_idxOf_le {l : List Nat} (hl : l.Pairwise (· < ·)) {a b : Nat} (ha : a ∈ l) (hb : b ∈ l)
    (h : l.idxOf a ≤ l.idxOf b) : a ≤ b := by
  have hget := (hl.imp le_of_lt).rel_get_of_le (a := ⟨_, List.idxOf_lt_length_of_mem ha⟩)
    (b := ⟨_, List.idxOf_lt_length_of_mem hb⟩) h
  simpa using hget

theorem State.chooseBay_best (h : s.chooseBay f ts old = some b) : b ∈ s.eligibleBays f ts old
    ∧ ∀ x ∈ s.eligibleBays f ts old, s.headroom x (s.groupP f ts x) ≤ s.headroom b (s.groupP f ts b)
      ∧ (s.headroom x (s.groupP f ts x) = s.headroom b (s.groupP f ts b) → b ≤ x) := by
  obtain ⟨hmem, hmax, hfirst⟩ := List.argmax_eq_some_iff.1 (s.chooseBay_eq_argmax f ts old ▸ h)
  exact ⟨hmem, fun x hx => ⟨hmax x hx, fun he =>
    le_of_idxOf_le (s.eligibleBays_pairwise f ts old) hmem hx (hfirst x hx he.ge)⟩⟩

/-- A candidate that fits has a Bay. -/
theorem State.chooseBay_of_firstFit {aged : List Nat} (h : s.firstFit aged = some (f, ts, b, old)) :
    s.chooseBay f ts old = some b := by
  obtain ⟨c, -, hc⟩ := List.exists_of_findSome?_eq_some h
  obtain ⟨p, -, hp⟩ := Option.bind_eq_some_iff.1 hc
  obtain ⟨x, hx, he⟩ := Option.map_eq_some_iff.1 hp
  cases he
  exact hx

theorem exec_tilePlace (h : s.running = true) (aged : List (Fin 64)) :
    exec (.tilePlace aged) s = .next (s.placeCycle (aged.map (·.val))) :=
  if_pos h

/-- Settles O16: the cycle places what the first fit names, and its Bay is the first eligible one of most headroom. -/
theorem tilePlacedInBestBay : Obligations.TilePlacedInBestBay := by
  intro aged s hrun
  refine ⟨fun hnone => ?_, fun f ts b old hfit => ?_⟩
  · rw [exec_tilePlace hrun, State.placeCycle, hnone]
  · obtain ⟨hmem, hbest⟩ := State.chooseBay_best (State.chooseBay_of_firstFit hfit)
    refine ⟨?_, State.mem_eligibleBays.1 hmem, fun x hx => hbest x (State.mem_eligibleBays.2 hx)⟩
    rw [exec_tilePlace hrun, State.placeCycle, hfit]

end Sys2Proof.Machine

/-! What the Damper's operations leave in its registers: duties, limits and the measurements of a period (R404–R408). -/

namespace Sys2Proof.Machine

open Sys2Proof

variable {s : State} {b : Nat}

/-! ### Fields across a loop over the Bays -/

/-- A loop whose every turn leaves a field alone leaves it alone. -/
theorem State.getF_foldl {α : Type} {g : Fld} {F : State → α → State} (hF : ∀ s x, (F s x).getF g = s.getF g)
    (l : List α) (s : State) : (l.foldl F s).getF g = s.getF g :=
  List.foldlRecOn l F (motive := fun t => t.getF g = s.getF g) rfl fun t ht x _ => (hF t x).trans ht

/-- A loop that writes one field of each element of a register array. -/
theorem State.getF_foldl_setF_range {F : Nat → Fld} (hF : ∀ i, (F i).i = i) (v : Nat → Nat) (s : State) {n i : Nat}
    (hn : n ≤ 2 ^ 13) (hi : i < n) :
    ((List.range n).foldl (fun s i => s.setF (F i) (v i)) s).getF (F i) = v i % 2 ^ (F i).width := by
  induction n with
  | zero => omega
  | succ n ih =>
    rw [List.range_succ, List.foldl_append, List.foldl_cons, List.foldl_nil]
    rcases Nat.lt_succ_iff_lt_or_eq.1 hi with hlt | rfl
    · have hne : (F i).i % 2 ^ 13 ≠ (F n).i % 2 ^ 13 := by rw [hF, hF]; omega
      rw [State.getF_setF_ne _ _ (Fld.key_ne_of_i hne), ih (by omega) hlt]
    · exact State.getF_setF ..

theorem State.setFs_cons (s : State) (p : Fld × Nat) (l : List (Fld × Nat)) :
    s.setFs (p :: l) = (s.setF p.1 p.2).setFs l := rfl

/-- Writes to other registers, or to other bits, leave a field alone. -/
theorem State.getF_setFs_ne {g : Fld} {l : List (Fld × Nat)} (s : State)
    (hl : (l.all fun p => g.reg.num != p.1.reg.num || g.lo % 64 != p.1.lo % 64) = true := by rfl) :
    (s.setFs l).getF g = s.getF g := by
  refine List.foldlRecOn l _ (motive := fun t : State => t.getF g = s.getF g) rfl fun t ht p hp => ?_
  rw [← ht]
  rcases (Bool.or_eq_true ..).mp (List.all_eq_true.1 hl p hp) with hr | hlo
  · exact State.getF_setF_num _ _ (by simpa using hr)
  · exact State.getF_setF_lo _ _ (by simpa using hlo)

@[simp] theorem State.getF_withDamper (s : State) (d : DamperRt) (g : Fld) :
    State.getF { s with damper := d } g = s.getF g := rfl

@[simp] theorem State.flag_withDamper (s : State) (d : DamperRt) (g : Fld) :
    State.flag { s with damper := d } g = s.flag g := rfl

@[simp] theorem State.seval_withDamper (s : State) (d : DamperRt) : State.seval { s with damper := d } = s.seval := rfl

/-! ### Duties (R406) -/

/-- The duties are written, and what else their change does is trace records. -/
theorem State.setDuties_keeps_written (s : State) (d : List Nat) : Keeps (Parts.of traceParts)
    ((List.range 16).foldl (fun s b => s.setF (DMP_BAY_DUTY b) (d.getD b 0)) s) (s.setDuties d) :=
  keeps_foldl _ (keeps_refl _) fun _ _ hs => ite_keeps hs (State.traceRec_keeps (Parts.le_refl _) hs ..)

theorem State.setDuties_keeps_self (s : State) (d : List Nat) :
    Keeps (Parts.of (traceParts ++ [.reg .DMP_BAY])) s (s.setDuties d) :=
  State.setDuties_keeps (Parts.le_refl _) (keeps_refl s) d

theorem State.getF_setDuties_DUTY (s : State) (d : List Nat) (hb : b < 16) :
    (s.setDuties d).getF (DMP_BAY_DUTY b) = d.getD b 0 % 32 :=
  ((s.setDuties_keeps_written d).same (.reg .DMP_BAY) (by decide) (DMP_BAY_DUTY b) rfl).trans
    (State.getF_foldl_setF_range (fun _ => rfl) (fun b => d.getD b 0) s (by decide) hb)

theorem State.getF_fallDuties_DUTY (s : State) (hb : b < 16) :
    s.fallDuties.getF (DMP_BAY_DUTY b) = s.seval.fallback % 32 := by
  rw [State.fallDuties, State.getF_setDuties_DUTY _ _ hb, List.getD_replicate _ hb]

/-! ### `LIMIT` (R420) -/

/-- A bit of `LIMIT` in every Bay. -/
def State.markLimits (s : State) (i : Nat) : State :=
  (List.range 16).foldl (fun s b => s.setBit (DMP_BAY_LIMIT b) i true) s

theorem State.markLimits_keeps (s : State) (i : Nat) : Keeps (Parts.of [.reg .DMP_BAY]) s (s.markLimits i) :=
  keeps_foldl _ (keeps_refl s) fun _ _ hs => State.setBit_keeps_reg .DMP_BAY (Parts.le_refl _) hs _ _

theorem State.getF_markLimits_DUTY (s : State) (i b : Nat) :
    (s.markLimits i).getF (DMP_BAY_DUTY b) = s.getF (DMP_BAY_DUTY b) :=
  State.getF_foldl (fun s _ => State.getF_setF_lo s _ rfl) _ s

/-! ### The fast limiter (R406) -/

theorem exec_fastLimiter {avg : Nat} (hrun : s.running = true) (h : shortLimit s.damper.profile < avg) :
    exec (.fastLimiter avg) s = .next s.limitFast :=
  if_pos (by simp [hrun, h])

theorem exec_fastLimiter_within {avg : Nat} (h : avg ≤ shortLimit s.damper.profile) :
    exec (.fastLimiter avg) s = .next s :=
  if_neg (by simp [h])

/-- The state once every duty is 4 lower. -/
def State.dutiesCut (s : State) : State :=
  (s.markLimits 3).setDuties ((List.range 16).map fun b => (s.markLimits 3).getF (DMP_BAY_DUTY b) - 4)

theorem State.limitFast_eq (s : State) : s.limitFast
    = { s.dutiesCut with damper := { s.dutiesCut.damper with fastHit := true } }.setF DMP_STAT_FAST 1 := rfl

theorem State.getF_limitFast_FAST (s : State) : s.limitFast.getF DMP_STAT_FAST = 1 := State.getF_setF ..

theorem State.getF_limitFast_DUTY (s : State) (hb : b < 16) (h : s.getF (DMP_BAY_DUTY b) < 32) :
    s.limitFast.getF (DMP_BAY_DUTY b) = s.getF (DMP_BAY_DUTY b) - 4 := by
  have hget : ((List.range 16).map fun b => (s.markLimits 3).getF (DMP_BAY_DUTY b) - 4).getD b 0
      = s.getF (DMP_BAY_DUTY b) - 4 := by
    simp [List.getD, hb, State.getF_markLimits_DUTY]
  calc s.limitFast.getF (DMP_BAY_DUTY b)
    _ = s.dutiesCut.getF (DMP_BAY_DUTY b) := by
      rw [State.limitFast_eq, State.getF_setF_num _ _ rfl, State.getF_withDamper]
    _ = (s.getF (DMP_BAY_DUTY b) - 4) % 32 := by rw [State.dutiesCut, State.getF_setDuties_DUTY _ _ hb, hget]
    _ = s.getF (DMP_BAY_DUTY b) - 4 := Nat.mod_eq_of_lt (by omega)

/-! ### The fallback (R406) -/

theorem exec_fallback (hrun : s.running = true) : exec .fallback s = .next s.fallBack := if_pos hrun

/-- The state before the duties fall: the missed periods are counted and every `LIMIT` says so. -/
def State.missNoted (s : State) : State :=
  let t := (s.addSat DMP_STAT_LOOPMISS (if s.damper.missing then 1 else 10)).markLimits 5
  { t with damper := { t.damper with missing := true } }

theorem State.fallBack_eq (s : State) : s.fallBack
    = (if s.missNoted.flag DMP_STAT_TRIP then s.missNoted else s.missNoted.fallDuties).setF DMP_STAT_FALLBACK 1 := rfl

theorem State.seval_missNoted (s : State) : s.missNoted.seval = s.seval :=
  (State.damper_keeps (Parts.within (Parts.le_refl [.damper, .reg .DMP_BAY, .reg .DMP_STAT])) (s0 := s)
    (keeps_foldl _ (State.addSat_keeps_reg .DMP_STAT (Parts.within (Parts.le_refl _)) (keeps_refl s) _) fun _ _ hs =>
      State.setBit_keeps_reg .DMP_BAY (Parts.within (Parts.le_refl _)) hs _ _) _).same .seval (by decide)

theorem State.getF_missNoted_stat (s : State) {g : Fld} (hg : g.reg = .DMP_STAT) : s.missNoted.getF g
    = (s.addSat DMP_STAT_LOOPMISS (if s.damper.missing then 1 else 10)).getF g :=
  (State.markLimits_keeps _ 5).same (.reg .DMP_STAT) (by decide) g hg

theorem State.getF_missNoted_LOOPMISS (s : State) : s.missNoted.getF DMP_STAT_LOOPMISS
    = min (s.getF DMP_STAT_LOOPMISS + (if s.damper.missing then 1 else 10)) (2 ^ 16 - 1) :=
  (s.getF_missNoted_stat rfl).trans (s.getF_addSat ..)

theorem State.flag_missNoted_TRIP (s : State) : s.missNoted.flag DMP_STAT_TRIP = s.flag DMP_STAT_TRIP :=
  congrArg (· != 0) ((s.getF_missNoted_stat rfl).trans (State.getF_setF_lo s _ rfl))

theorem State.getF_missNoted_DUTY (s : State) (b : Nat) :
    s.missNoted.getF (DMP_BAY_DUTY b) = s.getF (DMP_BAY_DUTY b) :=
  (State.getF_markLimits_DUTY _ 5 b).trans (State.getF_setF_num s _ rfl)

theorem State.getF_fallBack_FALLBACK (s : State) : s.fallBack.getF DMP_STAT_FALLBACK = 1 := State.getF_setF ..

theorem State.getF_fallBack_LOOPMISS (s : State) : s.fallBack.getF DMP_STAT_LOOPMISS
    = min (s.getF DMP_STAT_LOOPMISS + (if s.damper.missing then 1 else 10)) (2 ^ 16 - 1) := by
  rw [State.fallBack_eq, State.getF_setF_lo _ _ rfl, ← State.getF_missNoted_LOOPMISS]
  split
  · rfl
  · exact (State.setDuties_keeps_self ..).same (.reg .DMP_STAT) (by decide) DMP_STAT_LOOPMISS rfl

theorem State.getF_fallBack_DUTY (s : State) (hb : b < 16) : s.fallBack.getF (DMP_BAY_DUTY b)
    = if s.flag DMP_STAT_TRIP then s.getF (DMP_BAY_DUTY b) else s.seval.fallback % 32 := by
  rw [State.fallBack_eq, State.getF_setF_num _ _ rfl, State.flag_missNoted_TRIP]
  split
  · exact s.getF_missNoted_DUTY b
  · rw [State.getF_fallDuties_DUTY _ hb]
    rw [State.seval_missNoted]

end Sys2Proof.Machine

/-! The budget loop: what a period measures, and the duty that a Bay takes (R404–R408). -/

namespace Sys2Proof.Machine

open Sys2Proof

variable {s : State} {b : Nat}

/-! ### The duty of a Bay (R406) -/

section

variable {d ceiling p issued : Nat} {a : Rat}

theorem nextDuty_above (h : a < p) : nextDuty d ceiling p a issued = d - (16 * (p - a) / a).ceil.toNat := if_pos h

theorem nextDuty_raised (h : p ≤ a) (hlow : 16 * p < 15 * a) (hi : issued = 2) :
    nextDuty d ceiling p a issued = min ceiling (d + 1) := by
  rw [nextDuty, if_neg (not_lt.2 h), if_pos (by simp [hlow, hi])]

theorem nextDuty_kept (h : p ≤ a) (hkeep : 15 * a ≤ 16 * p ∨ issued ≠ 2) : nextDuty d ceiling p a issued = d := by
  rw [nextDuty, if_neg (not_lt.2 h), if_neg]
  rcases hkeep with hnear | hi
  · simp [not_lt.2 hnear]
  · simp [hi]

theorem nextDuty_le_max {m : Nat} (hd : d ≤ m) (hc : ceiling ≤ m) : nextDuty d ceiling p a issued ≤ m := by
  unfold nextDuty
  split
  · exact (Nat.sub_le ..).trans hd
  · split
    · exact (min_le_left ..).trans hc
    · exact hd

/-- The steps that a Bay above its allowance goes down: its excess in sixteenths of the allowance, rounded up. -/
theorem ceil_excess_eq {k : Nat} (ha : 0 < a) (hlow : 16 * (p - a) ≤ k * a) (hhigh : k * a < 16 * (p - a) + a) :
    (16 * (p - a) / a).ceil.toNat = k := by
  have hle : (16 * (p - a) / a).ceil ≤ (k : Int) := by
    rw [Rat.ceil_le_iff, Int.cast_natCast, div_le_iff₀ ha]
    exact hlow
  have hlt : (k : Int) - 1 < (16 * (p - a) / a).ceil := by
    rw [Rat.lt_ceil_iff, Int.cast_sub, Int.cast_natCast, Int.cast_one, lt_div_iff₀ ha]
    linarith
  omega

theorem ceil_excess_pos (ha : 0 < a) (h : a < p) : 0 < (16 * (p - a) / a).ceil.toNat := by
  have hpos : (0 : Int) < (16 * (p - a) / a).ceil := by
    rw [Rat.lt_ceil_iff, Int.cast_zero]
    exact div_pos (mul_pos (by norm_num) (sub_pos.2 h)) ha
  omega

end

/-! ### The measurements of a period (R399) -/

/-- A Bay's measurements in their registers. -/
def State.showBay (s : State) (profile : Nat) (m : PeriodIn) (b : Nat) : State :=
  s.setFs [(DMP_BAY_POWER b, s.bayPower m b), (DMP_TDRM_SLOPE b, signedCode 12 (s.slopeS b)),
    (DMP_TDRM_TGT b, s.targetS profile)]

/-- A Bay's measurements, and the count of a period in which its stack was at its target or above. -/
def State.recordBay (s : State) (profile : Nat) (m : PeriodIn) (b : Nat) : State :=
  if 16 * ((s.showBay profile m b).targetS profile : Int) ≤ (s.showBay profile m b).stackTemp b then
    (s.showBay profile m b).gcount (0x80 + b) 1
  else s.showBay profile m b

/-- The Bays' measurements, before those of the whole module. -/
def State.recordBays (s : State) (profile : Nat) (m : PeriodIn) : State :=
  (List.range 16).foldl (fun s b => s.recordBay profile m b) s

theorem State.recordPeriod_eq (s : State) (profile : Nat) (m : PeriodIn) : ∃ uncore avg exc d,
    s.recordPeriod profile m = State.setFs { s.recordBays profile m with damper := d }
      [(DMP_PWR_PERIOD, s.periodPower m), (DMP_PWR_UNCORE, uncore), (DMP_PWR_AVG, avg), (DMP_STAT_EXC, exc)]
    ∧ d.periods = (s.recordBays profile m).damper.periods + 1 :=
  ⟨_, _, _, _, rfl, rfl⟩

theorem State.recordBays_keeps (s : State) (profile : Nat) (m : PeriodIn) :
    Keeps (Parts.of (triggerParts ++ ([.reg .DMP_BAY, .reg .DMP_TDRM] : List Part))) s (s.recordBays profile m) := by
  have hT := Parts.le_refl (triggerParts ++ ([.reg .DMP_BAY, .reg .DMP_TDRM] : List Part))
  refine keeps_foldl _ (keeps_refl s) fun t b ht => ?_
  have hshow := State.setFs_keeps_regs (l := [(DMP_BAY_POWER b, t.bayPower m b),
    (DMP_TDRM_SLOPE b, signedCode 12 (t.slopeS b)), (DMP_TDRM_TGT b, t.targetS profile)]) [.DMP_BAY, .DMP_TDRM]
    (Parts.within hT) ht
  exact ite_keeps (State.gcount_keeps (Parts.within hT) hshow _ _) hshow

theorem State.getF_showBay_DUTY (s : State) (profile : Nat) (m : PeriodIn) (x b : Nat) :
    (s.showBay profile m x).getF (DMP_BAY_DUTY b) = s.getF (DMP_BAY_DUTY b) :=
  State.getF_setFs_ne s

theorem State.getF_recordBay_DUTY (s : State) (profile : Nat) (m : PeriodIn) (x b : Nat) :
    (s.recordBay profile m x).getF (DMP_BAY_DUTY b) = s.getF (DMP_BAY_DUTY b) := by
  rw [← s.getF_showBay_DUTY profile m x b, State.recordBay]
  split
  · exact (State.gcount_keeps (Parts.le_refl _) (keeps_refl _) _ _).same (.reg .DMP_BAY) (by decide)
      (DMP_BAY_DUTY b) rfl
  · rfl

/-- A period's measurements leave the duties and `TRIP`, show its power, and count it. -/
theorem State.recordPeriod_spec (s : State) (profile : Nat) (m : PeriodIn) :
    (s.recordPeriod profile m).getF DMP_PWR_PERIOD = s.periodPower m % 2 ^ 16
    ∧ (s.recordPeriod profile m).damper.periods = s.damper.periods + 1
    ∧ (s.recordPeriod profile m).flag DMP_STAT_TRIP = s.flag DMP_STAT_TRIP
    ∧ ∀ b, (s.recordPeriod profile m).getF (DMP_BAY_DUTY b) = s.getF (DMP_BAY_DUTY b) := by
  have hbays := s.recordBays_keeps profile m
  obtain ⟨uncore, avg, exc, d, heq, hd⟩ := s.recordPeriod_eq profile m
  rw [heq, State.setFs_cons]
  refine ⟨?_, ?_, congrArg (· != 0) ?_, fun b => ?_⟩
  · exact (State.getF_setFs_ne _).trans (State.getF_setF ..)
  · exact hd.trans (congrArg (·.periods + 1) (hbays.same .damper (by decide)))
  · rw [State.getF_setFs_ne, State.getF_setF_num _ _ rfl, State.getF_withDamper]
    exact hbays.getF (by decide)
  · rw [State.getF_setFs_ne, State.getF_setF_num _ _ rfl, State.getF_withDamper]
    exact State.getF_foldl (fun t x => t.getF_recordBay_DUTY profile m x b) _ s

/-! ### The allowances and duties of the next period (R404–R406) -/

/-- The new duties are set over a state with new allowances, and the loop runs again. -/
theorem State.allot_eq (s : State) (profile pCap : Nat) (m : PeriodIn) : ∃ learnt allow duties,
    s.allot profile pCap m = (State.setDuties
        { learnt with damper := { learnt.damper with allow := allow, missing := false } } duties).setF DMP_STAT_FALLBACK 0
    ∧ Keeps (Parts.of [.bays, .reg .DMP_BAY, .reg .DMP_STAT]) s learnt := by
  refine ⟨_, _, _, rfl, ?_⟩
  have hT := Parts.le_refl [.bays, .reg .DMP_BAY, .reg .DMP_STAT]
  exact keeps_foldl _ (keeps_foldl _ (keeps_refl s) fun _ _ hs => State.learnBay_keeps (Parts.within hT) hs ..)
    fun _ _ hs => State.setFs_keeps_regs [.DMP_BAY, .DMP_STAT] (Parts.within hT) hs

theorem State.allot_spec (s : State) (profile pCap : Nat) (m : PeriodIn) :
    (s.allot profile pCap m).getF DMP_STAT_FALLBACK = 0
    ∧ (s.allot profile pCap m).damper.profile = s.damper.profile
    ∧ (s.allot profile pCap m).damper.pCap = s.damper.pCap
    ∧ (s.allot profile pCap m).damper.periods = s.damper.periods := by
  obtain ⟨learnt, allow, duties, heq, hk⟩ := s.allot_eq profile pCap m
  have hd : (s.allot profile pCap m).damper = { s.damper with allow := allow, missing := false } := by
    rw [heq, ← hk.same .damper (by decide)]
    exact (State.setDuties_keeps_self _ duties).same .damper (by decide)
  rw [hd, heq]
  exact ⟨State.getF_setF .., rfl, rfl, rfl⟩

/-! ### BUDGET_PERIOD -/

/-- The state once the period is measured and the settings have taken effect. -/
def State.measured (s : State) (m : PeriodIn) : State :=
  let t := s.recordPeriod (s.getF DMP_CFG_PROFILE) m
  { t with damper := { t.damper with profile := s.getF DMP_CFG_PROFILE, pCap := s.getF DMP_CFG_P_CAP } }

theorem State.measured_spec (s : State) (m : PeriodIn) :
    (s.measured m).getF DMP_PWR_PERIOD = s.periodPower m % 2 ^ 16
    ∧ (s.measured m).damper.periods = s.damper.periods + 1
    ∧ (s.measured m).flag DMP_STAT_TRIP = s.flag DMP_STAT_TRIP
    ∧ ∀ b, (s.measured m).getF (DMP_BAY_DUTY b) = s.getF (DMP_BAY_DUTY b) := by
  obtain ⟨hpower, hperiods, htrip, hduty⟩ := s.recordPeriod_spec (s.getF DMP_CFG_PROFILE) m
  simp only [State.measured, State.getF_withDamper, State.flag_withDamper]
  exact ⟨hpower, hperiods, htrip, hduty⟩

/-- The state with the next period's allowances and duties, which a trip holds. -/
def State.allotted (s : State) (m : PeriodIn) : State :=
  if s.flag DMP_STAT_TRIP then s else s.allot s.damper.profile s.damper.pCap m

/-- The period ends for the Bays' and the Hearths' clocks, and the fast limiter has not acted in the next one. -/
def State.periodClosed (s : State) : State :=
  let t := (List.range 288).foldl State.coneClock ((List.range 16).foldl State.periodEnds s)
  { t with damper := { t.damper with fastHit := false } }

theorem exec_budgetPeriod (hrun : s.running = true) (m : PeriodIn) :
    exec (.budgetPeriod m) s = .next ((s.measured m).allotted m).periodClosed :=
  if_pos hrun

theorem State.periodClosed_keeps (s : State) :
    Keeps (Parts.of [.bays, .damper, .reg .HTH_CONE]) s s.periodClosed := by
  have hT := Parts.le_refl [.bays, .damper, .reg .HTH_CONE]
  exact State.damper_keeps (Parts.within hT) (keeps_foldl _ (keeps_foldl _ (keeps_refl s) fun _ _ hs =>
    State.periodEnds_keeps (Parts.within hT) hs _) fun _ _ hs => State.coneClock_keeps (Parts.within hT) hs _) _

theorem State.damper_periodClosed (s : State) : s.periodClosed.damper = { s.damper with fastHit := false } := by
  have hT := Parts.le_refl [.bays, .reg .HTH_CONE]
  have hk : Keeps _ s ((List.range 288).foldl State.coneClock ((List.range 16).foldl State.periodEnds s)) :=
    keeps_foldl _ (keeps_foldl _ (keeps_refl s) fun _ _ hs => State.periodEnds_keeps (Parts.within hT) hs _)
      fun _ _ hs => State.coneClock_keeps (Parts.within hT) hs _
  rw [← hk.same .damper (by decide)]
  rfl

theorem State.allotted_spec (s : State) (m : PeriodIn) :
    (s.allotted m).getF DMP_PWR_PERIOD = s.getF DMP_PWR_PERIOD
    ∧ (s.allotted m).damper.profile = s.damper.profile ∧ (s.allotted m).damper.pCap = s.damper.pCap
    ∧ (s.allotted m).damper.periods = s.damper.periods
    ∧ (s.flag DMP_STAT_TRIP = true → ∀ b, (s.allotted m).getF (DMP_BAY_DUTY b) = s.getF (DMP_BAY_DUTY b))
    ∧ (s.flag DMP_STAT_TRIP = false → (s.allotted m).getF DMP_STAT_FALLBACK = 0) := by
  cases htrip : s.flag DMP_STAT_TRIP with
  | true => simp [State.allotted, htrip]
  | false =>
    obtain ⟨hfall, hprofile, hcap, hperiods⟩ := s.allot_spec s.damper.profile s.damper.pCap m
    have hk := State.allot_keeps (Parts.le_refl _) (keeps_refl s) s.damper.profile s.damper.pCap m
    have heq : s.allotted m = s.allot s.damper.profile s.damper.pCap m := if_neg (by simp [htrip])
    rw [heq]
    exact ⟨hk.getF (f := DMP_PWR_PERIOD) (by decide), hprofile, hcap, hperiods, nofun, fun _ => hfall⟩

/-- Settles O51: a period is measured, allotted unless a trip holds, and closed; the regulator goes by its three cases; the
limiter and the fallback set every duty. Rounding is the model's reading (log entry 16). -/
theorem dutiesFollowPower : Obligations.DutiesFollowPower := by
  refine ⟨fun m s hrun => ?_, fun d ceiling p issued a hd hc => ⟨nextDuty_le_max hd hc, fun hover => ?_,
    fun hover ha k hlow hhigh => ?_, nextDuty_raised, nextDuty_kept⟩, fun s hrun => ⟨fun avg hover => ?_, fun avg hwithin =>
    exec_fastLimiter_within hwithin, s.fallBack, exec_fallback hrun, s.getF_fallBack_FALLBACK, s.getF_fallBack_LOOPMISS,
    fun b htrip => ?_, fun b htrip => ?_⟩⟩
  · obtain ⟨hpower, hperiods, htrip, hduty⟩ := s.measured_spec m
    obtain ⟨hpower', hprofile', hcap', hperiods', hheld, hfall⟩ := (s.measured m).allotted_spec m
    have hclosed := ((s.measured m).allotted m).periodClosed_keeps
    refine ⟨_, exec_budgetPeriod hrun m, ?_⟩
    rw [hclosed.getF (f := DMP_PWR_PERIOD) (by decide), hclosed.getF (f := DMP_STAT_FALLBACK) (by decide),
      State.damper_periodClosed]
    exact ⟨hpower'.trans hpower, hperiods'.trans hperiods, hprofile', hcap', rfl, fun ht b =>
      (hclosed.same (.reg .DMP_BAY) (by decide) (DMP_BAY_DUTY b) rfl).trans ((hheld (htrip.trans ht) b).trans (hduty b)),
      fun ht => hfall (htrip.trans ht)⟩
  · rw [nextDuty_above hover]
    exact ⟨Nat.sub_le .., fun ha hpos => Nat.sub_lt hpos (ceil_excess_pos ha hover)⟩
  · rw [nextDuty_above hover, ceil_excess_eq ha hlow hhigh]
  · exact ⟨_, exec_fastLimiter hrun hover, s.getF_limitFast_FAST, fun b => s.getF_limitFast_DUTY b.isLt⟩
  · rw [s.getF_fallBack_DUTY b.isLt, htrip]
    rfl
  · rw [s.getF_fallBack_DUTY b.isLt, htrip]
    rfl

end Sys2Proof.Machine

/-! How a recovery goes on from its quiesce, and the always-on block's latch (R31, R467, R468, R482). -/

namespace Sys2Proof.Machine

open Sys2Proof

variable {s : State}

/-! ### Sideband outputs and the latch (R31, R555) -/

theorem State.outOn_setOut (s : State) (i : Nat) (b : Bool) {k : Nat} (hk : k < 7) :
    (s.setOut i b).outOn k = if k = i then b else s.outOn k :=
  s.bitOf_setBit SVC_SIDEBAND_OUT i b hk

theorem Keeps.outOn {T : Nat} {t : State} (h : Keeps T s t) (hT : T.testBit (Part.num (.reg .SVC_SIDEBAND)) = false)
    (k : Nat) : t.outOn k = s.outOn k :=
  congrArg (bitOf · k) (h.same (.reg .SVC_SIDEBAND) hT SVC_SIDEBAND_OUT rfl)

theorem State.outOn_syncPins_fault (h : s.power.failed = true) : s.syncPins.outOn outFault = true := by
  rw [State.syncPins, State.outOn_setOut _ _ _ (by decide), if_neg (by decide), State.outOn_setOut _ _ _ (by decide),
    if_pos rfl, h, Bool.or_true]

theorem State.outOn_syncPins_hotrst (s : State) : s.syncPins.outOn outHotrst = s.outOn outHotrst := by
  rw [State.syncPins, State.outOn_setOut _ _ _ (by decide), if_neg (by decide), State.outOn_setOut _ _ _ (by decide),
    if_neg (by decide)]

theorem State.power_latchFail (s : State) : s.latchFail.power = { s.power with failed := true, life := .latched } := rfl

theorem State.stopped_latchFail (s : State) : s.latchFail.stopped = true := by
  simp [State.stopped, State.power_latchFail]

theorem State.outOn_latchFail_fault (s : State) : s.latchFail.outOn outFault = true := State.outOn_syncPins_fault rfl

theorem State.outOn_latchFail_hotrst (s : State) : s.latchFail.outOn outHotrst = true := by
  rw [State.latchFail, State.outOn_syncPins_hotrst, State.outOn_setOut _ _ _ (by decide), if_pos rfl]

theorem State.latchFail_keeps_self (s : State) : Keeps (Parts.of [.power, .reg .SVC_SIDEBAND]) s s.latchFail :=
  State.latchFail_keeps (Parts.le_refl _) (keeps_refl s)

/-! ### `STEP` (R467) -/

theorem State.setRstStep_keeps_setF (s : State) (v : Nat) :
    Keeps (Parts.of traceParts) (s.setF RST_STAT_STEP v) (s.setRstStep v) :=
  State.traceRec_keeps (Parts.le_refl _) (keeps_refl _) ..

theorem State.getF_setRstStep_STEP (s : State) (v : Nat) : (s.setRstStep v).getF RST_STAT_STEP = v % 16 :=
  ((s.setRstStep_keeps_setF v).getF (f := RST_STAT_STEP) (by decide)).trans (s.getF_setF RST_STAT_STEP v)

theorem State.setRstStep_keeps_self (s : State) (v : Nat) :
    Keeps (Parts.of (traceParts ++ [.reg .RST_STAT])) s (s.setRstStep v) :=
  State.setRstStep_keeps (Parts.le_refl _) (keeps_refl s) v

/-! ### The three ends of a recovery (R467, R481, R482) -/

/-- The sequencer has latched the module for the board, in step 6. -/
def State.latchedEnd (t : State) : Prop :=
  t.power.life = .latched ∧ t.getF RST_STAT_STEP = 6 ∧ t.outOn outHotrst = true

/-- READY, with nothing in flight. -/
def State.readyEnd (t : State) : Prop :=
  t.recov = none ∧ t.flights = [] ∧ t.getF RST_STAT_STEP = 0 ∧ t.outOn outReady = true

theorem State.recoveryFails_ends (s : State) : (s.recoveryFails 6).latchedEnd :=
  ⟨rfl, ((s.setRstStep 6).latchFail_keeps_self.getF (f := RST_STAT_STEP) (by decide)).trans (s.getF_setRstStep_STEP 6),
    (s.setRstStep 6).outOn_latchFail_hotrst⟩

theorem State.enterReady_keeps_self (s : State) :
    Keeps (Parts.of [.flue, .ports, .reg .SVC_SIDEBAND]) s s.enterReady :=
  State.enterReady_keeps (Parts.le_refl _) (keeps_refl s)

theorem State.outOn_enterReady (s : State) : s.enterReady.outOn outReady = true := by
  have hflood := fun t : State => State.floodEndpoint_keeps (Parts.le_refl _) (keeps_refl t) true
  rw [State.enterReady, (hflood _).outOn (by decide), State.outOn_setOut _ _ _ (by decide), if_pos rfl]

/-- A state without recovery and flights comes to READY by clearing `STEP`. -/
theorem State.readyEnd_enterReady (hrecov : s.recov = none) (hflights : s.flights = []) :
    (s.setRstStep 0).enterReady.readyEnd := by
  have hstep := s.setRstStep_keeps_self 0
  have hready := (s.setRstStep 0).enterReady_keeps_self
  exact ⟨(hready.same .recov (by decide)).trans ((hstep.same .recov (by decide)).trans hrecov),
    (hready.same .flights (by decide)).trans ((hstep.same .flights (by decide)).trans hflights),
    (hready.getF (f := RST_STAT_STEP) (by decide)).trans (s.getF_setRstStep_STEP 0), State.outOn_enterReady _⟩

theorem Keeps.readyEnd {T : Nat} {t : State} (h : Keeps T s t) (hs : s.readyEnd)
    (hr : T.testBit (Part.num .recov) = false) (hf : T.testBit (Part.num .flights) = false)
    (hstep : T.testBit (Part.num (.reg .RST_STAT)) = false) (hout : T.testBit (Part.num (.reg .SVC_SIDEBAND)) = false) :
    t.readyEnd := by
  obtain ⟨hrecov, hflights, hst, hready⟩ := hs
  exact ⟨(h.same .recov hr).trans hrecov, (h.same .flights hf).trans hflights,
    (h.getF (f := RST_STAT_STEP) hstep).trans hst, (h.outOn hout _).trans hready⟩

theorem State.readyAfter_ends (s : State) (r : RecRt) : (s.readyAfter r).readyEnd := by
  have hT := Parts.le_refl (traceParts ++ ringParts ++ lineErrorParts ++ irqParts ++ logParts ++
    ([.hostMem, .reg .CTX_GOVSTAT] : List Part))
  have hnotes := fun t : State => State.irq_keeps (Parts.within hT) (State.rerunDecision_keeps (Parts.within hT)
    (State.logRecovery_keeps (Parts.within hT) (keeps_refl t))) 0 65
  exact (hnotes _).readyEnd (State.readyEnd_enterReady rfl rfl) (by decide) (by decide) (by decide) (by decide)

theorem State.flights_clearContexts (s : State) : s.clearContexts.flights = [] :=
  List.foldlRecOn _ _ (motive := fun t : State => t.flights = []) rfl fun _ ht _ _ => ht

theorem State.readyEnd_of_cleared (h : s.flights = []) :
    ((State.setF { s with recov := none } RST_CTL_RECOVER 0).setRstStep 0).enterReady.readyEnd :=
  State.readyEnd_enterReady rfl h

theorem State.readyWarm_ends (s : State) : s.readyWarm.readyEnd :=
  State.readyEnd_of_cleared (s := s.clearContexts) s.flights_clearContexts

/-- After step 8: a THERMAL recovery waits there while the trip holds, and any other reaches READY. -/
theorem State.afterRestore_ends {r : RecRt} (h : s.recov.isSome = true) :
    r.warm = false ∧ r.cause = 6 ∧ (s.afterRestore r).getF RST_STAT_STEP = 8 ∧ (s.afterRestore r).recov.isSome = true
    ∨ (s.afterRestore r).readyEnd := by
  unfold State.afterRestore
  split
  · exact .inr s.readyWarm_ends
  · next hwarm =>
    split
    · next hthermal =>
      obtain ⟨hcause, -⟩ := Bool.and_eq_true_iff.1 hthermal
      refine .inl ⟨by simpa using hwarm, by simpa using hcause, s.getF_setRstStep_STEP 8, ?_⟩
      rwa [(s.setRstStep_keeps_self 8).same .recov (by decide)]
    · exact .inr (s.readyAfter_ends r)

/-! ### Steps 3 to 8 (R467) -/

/-- Steps 3 to 5: the capture, the count of recoveries, and the reset of the main logic. -/
def State.throughReset (s : State) (r : RecRt) : State :=
  let t := (s.setRstStep 3).capture
  ((if r.warm then t else t.incF RST_STAT_COUNT 1).setRstStep 5).resetMain

/-- Steps 7 and 8: the link, the mailbox, and what is restored. -/
def State.throughRestore (s : State) (busy : Bool) : State :=
  (((if s.flag SVC_SIDEBAND_PERST_N then s.cxlTrain else s).mailboxBusy busy).setRstStep 8).restore

theorem State.afterQuiesce_fails {r : RecRt} (h : (s.throughReset r).reload = none) :
    s.afterQuiesce r = (s.throughReset r).recoveryFails 6 := by
  unfold State.throughReset at h
  unfold State.afterQuiesce
  simp only [h]
  rfl

theorem State.afterQuiesce_goes {r : RecRt} {t : State} (h : (s.throughReset r).reload = some t) :
    s.afterQuiesce r = (t.throughRestore (s.flag STK_MBSTAT_BUSY)).afterRestore r := by
  unfold State.throughReset at h
  unfold State.afterQuiesce
  simp only [h]
  rfl

theorem State.recov_throughReset (s : State) (r : RecRt) : (s.throughReset r).recov = s.recov := by
  have hT := Parts.le_refl (traceParts ++ clearedParts ++ ([.arena, .atc, .bays, .filter, .free, .hearths, .link, .mbReq,
    .mbResp, .pba, .queues, .stackPorts, .stoker, .tlb, .watch, .reg .RST_STAT] : List Part))
  have hcapture := State.capture_keeps (Parts.within hT)
    (State.setRstStep_keeps (Parts.within hT) (keeps_refl s) 3)
  exact (State.resetMain_keeps (Parts.within hT) (State.setRstStep_keeps (Parts.within hT)
    (ite_keeps hcapture (State.incF_keeps_reg .RST_STAT (Parts.within hT) hcapture 1)) 5)).same .recov (by decide)

theorem State.recov_throughRestore (s : State) (busy : Bool) : (s.throughRestore busy).recov = s.recov := by
  have hT := Parts.le_refl (traceParts ++ alertParts ++ irqParts ++ logParts ++ ([.bays, .damper, .free,
    .reg .CXL_LINK, .reg .DMP_BAY, .reg .DMP_STAT, .reg .HTH_CONECTL, .reg .HTH_STATE, .reg .ID_HEARTHS, .reg .ID_HMAP,
    .reg .RST_STAT, .reg .STK_MBSTAT] : List Part))
  exact (State.restore_keeps (Parts.within hT) (State.setRstStep_keeps (Parts.within hT) (State.mailboxBusy_keeps
    (Parts.within hT) (ite_keeps (State.cxlTrain_keeps (Parts.within hT) (keeps_refl s)) (keeps_refl s)) _) _)).same
    .recov (by decide)

/-- From quiesce a recovery goes on to one of its ends. -/
theorem State.afterQuiesce_ends {r : RecRt} (h : s.recov.isSome = true) : (s.afterQuiesce r).latchedEnd
    ∨ r.warm = false ∧ r.cause = 6 ∧ (s.afterQuiesce r).getF RST_STAT_STEP = 8 ∧ (s.afterQuiesce r).recov.isSome = true
    ∨ (s.afterQuiesce r).readyEnd := by
  cases hload : (s.throughReset r).reload with
  | none =>
    rw [State.afterQuiesce_fails hload]
    exact .inl (State.recoveryFails_ends _)
  | some t =>
    have hreload := State.reload_keeps (Parts.le_refl _) (keeps_refl _) hload
    rw [State.afterQuiesce_goes hload]
    have hrecov : t.recov = s.recov := (hreload.same .recov (by decide)).trans (s.recov_throughReset r)
    exact .inr (State.afterRestore_ends (by rw [State.recov_throughRestore, hrecov, h]))

end Sys2Proof.Machine

/-! The events inside a recovery, and the loss of a PLL's lock (R31, R408, R458, R468, R482). -/

namespace Sys2Proof.Machine

open Sys2Proof

variable {s : State}

/-! ### Quiesce (R468) -/

/-- The state that shows the clamp. -/
def State.clampShown (s : State) (bays engines : Nat) : State :=
  s.setFs [(RST_CLAMP_BAY, bays), (RST_CLAMP_ENG, engines)]

theorem State.getF_clampShown_BAY (s : State) (bays engines : Nat) :
    (s.clampShown bays engines).getF RST_CLAMP_BAY = bays % 2 ^ 16 :=
  (State.getF_setF_lo _ _ rfl).trans (State.getF_setF ..)

theorem State.getF_clampShown_ENG (s : State) (bays engines : Nat) :
    (s.clampShown bays engines).getF RST_CLAMP_ENG = engines % 2 ^ 5 :=
  State.getF_setF ..

/-- What quiesce makes of one more command: its flight once quiet, and the state once its tiles are cut. -/
def State.quietOne (s : State) (bays engines : Nat) (a : List Flight × State) (f : Flight) : List Flight × State :=
  let c := (a.2.countCut f).cut f (f.clamped (s.engine f.q) bays engines)
  (a.1 ++ [f.quieted c.1], c.2)

/-- Every command in flight, quiet, and the state once all their tiles are cut. -/
def State.quietAll (s : State) (bays engines : Nat) : List Flight × State :=
  s.flights.foldl (s.quietOne bays engines) ([], s)

/-- What the end of quiesce may change beside the flights: the collectives' table, the ledger's slots, the stack ports. -/
def quietParts : List Part := lineParts ++ [.coll, .flue, .stackPorts]

theorem State.quiesce_keeps_quietAll (s : State) (bays engines : Nat) :
    Keeps (Parts.of quietParts)
      { ((s.clampShown bays engines).quietAll bays engines).2 with
        flights := ((s.clampShown bays engines).quietAll bays engines).1 }
      (s.quiesce bays engines) := by
  have hT := Parts.le_refl quietParts
  have hcoll := State.coll_keeps (Parts.within hT) (keeps_refl
    { ((s.clampShown bays engines).quietAll bays engines).2 with
      flights := ((s.clampShown bays engines).quietAll bays engines).1 }) []
  exact State.stackPortsUpdate_keeps (Parts.within hT) (keeps_foldl _
    (State.flue_keeps (Parts.within hT) hcoll
      { ((s.clampShown bays engines).quietAll bays engines).2.flue with early := [] } rfl) fun _ _ hs => State.putSlot_keeps (Parts.within hT) hs _) fun r : StackRt =>
    { r with outstanding := [], corrective := [] }

theorem State.quietAll_keeps (s : State) (bays engines : Nat) :
    Keeps (Parts.of (triggerParts ++ ([.free, .hearths, .hostMem, .reg .OBS_CNT] : List Part))) s
      (s.quietAll bays engines).2 := by
  have hT := Parts.le_refl (triggerParts ++ ([.free, .hearths, .hostMem, .reg .OBS_CNT] : List Part))
  exact keeps_foldl_snd _ (keeps_refl s) fun _ _ ha =>
    State.cut_keeps (Parts.within hT) (State.countCut_keeps (Parts.within hT) ha _) _ _

theorem State.quietAll_quiet (s : State) (bays engines : Nat) :
    ∀ f ∈ (s.quietAll bays engines).1, f.running = [] ∧ f.parts = [] := by
  refine List.foldlRecOn _ _ (motive := fun a : List Flight × State => ∀ f ∈ a.1, f.running = [] ∧ f.parts = [])
    (fun f hf => nomatch hf) fun a ha g _ f hf => ?_
  rcases List.mem_append.1 hf with hold | hnew
  · exact ha f hold
  · rw [List.mem_singleton.1 hnew]
    exact ⟨rfl, rfl⟩

theorem State.flights_quiesce_quiet (s : State) (bays engines : Nat) :
    ∀ f ∈ (s.quiesce bays engines).flights, f.running = [] ∧ f.parts = [] := by
  rw [(s.quiesce_keeps_quietAll bays engines).same .flights (by decide)]
  exact State.quietAll_quiet _ bays engines

theorem State.getF_quiesce_clamp (s : State) (bays engines : Nat) {f : Fld} (hf : f.reg = .RST_CLAMP) :
    (s.quiesce bays engines).getF f = (s.clampShown bays engines).getF f :=
  ((s.quiesce_keeps_quietAll bays engines).same (.reg .RST_CLAMP) (by decide) f hf).trans
    ((State.quietAll_keeps _ bays engines).same (.reg .RST_CLAMP) (by decide) f hf)

/-- The clamp is shown from the quiesce to the end of the recovery. -/
theorem State.getF_afterQuiesce_clamp (s : State) (r : RecRt) {f : Fld} (hf : f.reg = .RST_CLAMP) :
    (s.afterQuiesce r).getF f = s.getF f :=
  (State.afterQuiesce_keeps (Parts.le_refl _) (keeps_refl s) r).same (.reg .RST_CLAMP) (by decide) f hf

theorem State.recov_quiesce (s : State) (bays engines : Nat) : (s.quiesce bays engines).recov = s.recov :=
  (State.quiesce_keeps (Parts.le_refl _) (keeps_refl s) bays engines).same .recov (by decide)

/-! ### The rows -/

theorem exec_quiesceTimeout {r : RecRt} (hr : s.recov = some r) (hq : s.quiescing = true) (bays engines : Nat) :
    exec (.quiesceTimeout bays engines) s
      = .next ((s.quiesce (bays % 2 ^ 16) (engines % 2 ^ 5)).afterQuiesce r) := by
  simp [exec, execQuiesceTimeout, onlyIf, hr, hq]

theorem exec_quiesceTimeout_none (hq : s.quiescing = false) (bays engines : Nat) :
    exec (.quiesceTimeout bays engines) s = .next s := by
  cases hr : s.recov <;> simp [exec, execQuiesceTimeout, onlyIf, hr, hq]

theorem exec_sequencerWatchdog (hq : s.quiescing = true) : exec .sequencerWatchdog s = .next s.latchFail := if_pos hq

theorem exec_sequencerWatchdog_none (hq : s.quiescing = false) : exec .sequencerWatchdog s = .next s :=
  if_neg (Bool.eq_false_iff.1 hq)

theorem exec_thermalReadyTimeout (hw : s.withheld = true) : exec .thermalReadyTimeout s
    = .next (State.setOut { s with power := { s.power with life := .latched } } outHotrst true) :=
  if_pos hw

theorem exec_thermalReadyTimeout_none (hw : s.withheld = false) : exec .thermalReadyTimeout s = .next s :=
  if_neg (Bool.eq_false_iff.1 hw)

theorem exec_pllLockLoss (hup : s.power.life = .up) (hclock : s.getF PWR_STAT_STATE ≠ 2) :
    exec .pllLockLoss s = .next s.latchFail :=
  if_pos (by simp [hup, hclock])

theorem exec_pllLockLoss_none (h : s.power.life ≠ .up ∨ s.getF PWR_STAT_STATE = 2) : exec .pllLockLoss s = .next s :=
  if_neg (by rcases h with h | h <;> simp [h])

end Sys2Proof.Machine

/-! A module that a THERMAL recovery has latched, or that has stopped after a failure, does nothing more (R31, R408, R482). -/

namespace Sys2Proof.Machine

open Sys2Proof

variable {s : State}

/-! ### The queues and their engines, while the module runs no commands -/

section
variable (h : s.running = false)
include h

theorem State.due_of_not_running (q : Nat) : s.due q = false := by simp [State.due, h]

theorem State.active_of_not_running : s.active = false := by simp [State.active, h]

theorem exec_opcodeRow_of_not_running {c : Instr} {q : Fin 64} {p : Nat → Bool} (hr : opcodeRow c = some (q, p)) :
    exec c s = .next s := by
  rw [exec_opcodeRow hr, State.issue_of_held (State.startRow_not_due p (State.due_of_not_running h q)) rfl]

theorem exec_tileComplete_of_not_running (q : Fin 64) (n : Nat) (e : TileEnd) :
    exec (.tileComplete q n e) s = .next s :=
  exec_tileComplete_none (by simp [State.landing, h])

theorem exec_tileFail_of_not_running (q : Fin 64) (n tile : Nat) (cause : FailCause) :
    exec (.tileFail q n tile cause) s = .next s := by
  have hrun : s.runningAt q n tile = none := by simp [State.runningAt, h]
  have hslice : s.slicing q n tile cause = none := by simp [State.slicing, h]
  change execTileFail q n tile cause s = _
  simp only [execTileFail, hrun, hslice]

theorem exec_glazeEncode_of_not_running (q : Fin 64) (n unit : Nat) : exec (.glazeEncode q n unit) s = .next s :=
  exec_glazeEncode_idle (by simp [State.encoding, h])

theorem exec_escalationPass_of_not_running (q : Fin 64) (e : PassEnd) : exec (.escalationPass q e) s = .next s := by
  have hnone : s.escIdle q e.n = none := by simp [State.escIdle, h]
  change execEscalationPass q e s = _
  simp only [execEscalationPass, hnone]

theorem exec_narrowEmission_of_not_running (q : Fin 64) (n : Nat) : exec (.narrowEmission q n) s = .next s := by
  have hnone : s.emissionDue q n = none := by simp [State.emissionDue, h]
  change execNarrowEmission q n s = _
  simp only [execNarrowEmission, hnone]

theorem exec_commandComplete_of_not_running (q : Fin 64) : exec (.commandComplete q) s = .next s :=
  exec_commandComplete_none (by simp [State.completing, h])

theorem exec_waitTimeout_of_not_running (q : Fin 64) : exec (.waitTimeout q) s = .next s :=
  exec_waitTimeout_none (by simp [State.waitingHead, State.due_of_not_running h]) (by simp [State.heldMark, h])

theorem exec_dispatchTimeout_of_not_running (expired : List (Fin 64 × Nat)) :
    exec (.dispatchTimeout expired) s = .next s := by
  change execDispatchTimeout expired s = _
  unfold execDispatchTimeout
  extract_lets l
  split
  · exact if_neg (by simp [h])
  · rfl

theorem exec_decisionStepEnd_of_not_running (c : Fin 16) : exec (.decisionStepEnd c) s = .next s := by
  change execDecisionStepEnd c s = _
  unfold execDecisionStepEnd
  split
  · exact if_neg (by simp [h])
  · rfl

theorem exec_readBeatReturn_of_not_running (b : Fin 16) (beat : BeatReturn) (reader : Option (Fin 64 × Nat × Nat)) :
    exec (.readBeatReturn b beat reader) s = .next s := by
  change execReadBeatReturn b beat reader s = _
  unfold execReadBeatReturn
  split
  · exact if_neg (by simp [h])
  · rfl

theorem exec_eventLogReclaim_of_not_running : exec .eventLogReclaim s = .next s := by
  change execEventLogReclaim s = _
  unfold execEventLogReclaim
  split
  · exact if_neg (by simp [State.stokerUp, h])
  · rfl

end

/-! ### Writes and requests from outside, while no link carries them -/

section
variable (h : s.linkServes = false)
include h

theorem State.barWrite_down (f : State → State) : s.barWrite f = s := if_pos (by simp [h])

theorem State.pf0Write_down (off : Nat) (f : State → State) : s.pf0Write off f = s := State.barWrite_down h _

theorem State.hostWrite_down (a : Accessor) (off : Nat) (own : Nat → Bool) (f : State → State) :
    s.hostWrite a off own f = s := by
  cases a with
  | pf0 => exact State.pf0Write_down h _ _
  | vf c => exact State.pf0Write_down h _ _
  | i3c => rfl

/-- An accessor that reaches the always-on registers writes nothing that would leave the state as it is. -/
theorem State.alwaysWrite_down {f : State → State} (hf : f s = s) (a : Accessor) : s.alwaysWrite a f = s := by
  cases a with
  | pf0 => exact State.barWrite_down h f
  | vf c => rfl
  | i3c =>
    rw [State.alwaysWrite, hf]
    exact ite_self s

theorem exec_hostMemRead_down (addr : Nat) : exec (.hostMemRead addr) s = .next s :=
  if_pos (by simp [State.hdmServes, h])

theorem exec_hostMemWrite_down (addr : Nat) (data : List Byte) : exec (.hostMemWrite addr data) s = .next s :=
  if_pos (by simp [State.hdmServes, h])

end

/-! ### The Stoker's service side, while it serves no port -/

theorem State.service_down (h : s.svcUp = false) (rule : SigRule) (hdr : SvcHdr) (cmd : Nat) (body : List Byte)
    (act : State → Reply) : s.service rule hdr cmd body act = .next s :=
  if_pos (by simp [h])

theorem State.ownerService_down (h : s.svcUp = false) (hdr : SvcHdr) (cmd : Nat) (body : List Byte)
    (act : State → Reply) : s.ownerService hdr cmd body act = .next s := by
  unfold State.ownerService
  split <;> exact State.service_down h ..

/-! ### A latched module (R408) -/

section
variable (h : s.power.life = .latched)
include h

theorem State.running_of_latched : s.running = false := by simp [State.running, h]

theorem State.linkServes_of_latched : s.linkServes = false := by simp [State.linkServes, h]

theorem State.svcUp_of_latched : s.svcUp = false := by simp [State.svcUp, h]

theorem State.quiescing_of_latched : s.quiescing = false := by simp [State.quiescing, h]

theorem State.withheld_of_latched : s.withheld = false := by simp [State.withheld, h]

theorem State.entering_of_latched : s.entering = false := by simp [State.entering, h]

theorem State.cause_of_latched (code : Nat) (timedOut : List (Nat × Nat)) (flr : List Nat)
    (owner : Option (Nat × Nat × Nat × Nat)) (inst : Option (Nat × Nat × Nat)) :
    s.cause code timedOut flr owner inst = s := by
  simp [State.cause, State.running_of_latched h, h]

theorem State.requestSleep_of_latched (t : Nat) : s.requestSleep t = s := by simp [State.requestSleep, h]

theorem State.requestWake_of_latched (o : WakeOut) : s.requestWake o = s := by simp [State.requestWake, h]

theorem State.mailbox_of_latched (cmd len : Nat) (act : State → Nat → Reply) : s.mailbox cmd len act = .next s := by
  unfold State.mailbox
  split
  · exact if_neg (by simp [h])
  · rw [State.barWrite_down (State.linkServes_of_latched h)]

theorem exec_d2dUncorr_of_latched (bay : Fin 16) (second : Bool) (owner : Option (Fin 64 × Nat)) :
    exec (.d2dUncorr bay second owner) s = .next s := by
  change execD2dUncorr bay second owner s = _
  simp only [execD2dUncorr, onlyIf, State.cause_of_latched h, ite_self]

theorem exec_powerOnReset_of_latched (o : BootOut) : exec (.powerOnReset o) s = .next s := by
  change execPowerOnReset o s = _
  simp only [execPowerOnReset, h]

theorem exec_bootTimeout_of_latched : exec .bootTimeout s = .next s := by
  change execBootTimeout s = _
  simp only [execBootTimeout, h]

theorem State.plainCause_of_latched (code : Nat) : s.plainCause code = s := State.cause_of_latched h ..

end

/-- A latched module answers only what the board, the comparators, its switch, its registers and its trace do. -/
theorem exec_of_latched {i : Instr} (h : s.power.life = .latched) (hi : actsLatched i = false) :
    exec i s = .next s := by
  have hrun := State.running_of_latched h
  have hactive := State.active_of_not_running hrun
  have hlink := State.linkServes_of_latched h
  have hsvc := State.svcUp_of_latched h
  cases i
  case nop | link | wait | signal | stepMark | fence | matmul | matmulPacked | matmulTable | matmulBinary | matmulStream
      | rotate | quantise | dequantise | amaxPass | vecMap | vecNorm | vecSoftmax | vecLoss | vecReduce | move | offload
      | prefetch | spill | reduceBucket | broadcast | digestCheck | update | digest | tap | precisionApply =>
    exact exec_opcodeRow_of_not_running hrun rfl
  case tileComplete => exact exec_tileComplete_of_not_running hrun ..
  case tileFail => exact exec_tileFail_of_not_running hrun ..
  case glazeEncode => exact exec_glazeEncode_of_not_running hrun ..
  case escalationPass => exact exec_escalationPass_of_not_running hrun ..
  case narrowEmission => exact exec_narrowEmission_of_not_running hrun ..
  case commandComplete => exact exec_commandComplete_of_not_running hrun _
  case waitTimeout => exact exec_waitTimeout_of_not_running hrun _
  case dispatchTimeout => exact exec_dispatchTimeout_of_not_running hrun _
  case decisionStepEnd => exact exec_decisionStepEnd_of_not_running hrun _
  case readBeatReturn => exact exec_readBeatReturn_of_not_running hrun ..
  case eventLogReclaim => exact exec_eventLogReclaim_of_not_running hrun
  -- The dispatcher, the engines' steps, the stacks and the Damper, whose guard asks for a module that runs.
  case tilePlace | watchLinePoll | stackPortGrant | refreshBlackout | correctiveWrite | rowSpare | fastLimiter | fallback
      | tripHoldTimeout | flrTimeout =>
    exact if_neg (by simp [hrun])
  case stepBarrier => exact if_neg (by simp [State.barrierMet, hrun])
  case interludeClose => exact if_neg (by simp [State.interludeDone, hrun])
  case sensorSample | sensorFailure | budgetPeriod => exact if_neg (by simp [State.stokerUp, hrun])
  case hearthGate => exact if_neg (by simp [State.mayGate, hrun])
  case patrolScrub | coneTestDue | coneTestOverdue | coneTestEnd | busyTimeSave =>
    exact if_neg (by simp [hactive])
  case coneTestStart => exact if_neg (by simp [State.mayTest, hactive])
  case refreshWindowChange => exact exec_refreshWindowChange_idle _ (.inr ⟨hrun, by simp [State.selfRefresh, h]⟩)
  case routingTableSwap => exact exec_routingTableSwap_idle (by simp [State.routes, h])
  -- The host's writes, which the link carries.
  case queueEnable | pageTableBaseWrite | recover | retrain | sweep | rearm | fire =>
    exact congrArg _ (State.pf0Write_down hlink _ _)
  case queueResume | syncObjectWrite => exact congrArg _ (State.hostWrite_down hlink ..)
  case hdmCommit => exact congrArg _ (State.barWrite_down hlink _)
  case bankedRequest | emberRequest =>
    exact congrArg _ (State.alwaysWrite_down hlink (State.requestSleep_of_latched h _) _)
  case wakeRequest => exact congrArg _ (State.alwaysWrite_down hlink (State.requestWake_of_latched h _) _)
  case hostMemRead => exact exec_hostMemRead_down hlink _
  case hostMemWrite => exact exec_hostMemWrite_down hlink ..
  case atsInvalidation | cxlLinkDown | ideKeyProgram | flr => exact if_neg (by simp [hlink])
  -- Services and the mailbox.
  case getInfo | mailboxGetCert | mailboxAttest | mailboxReadEvents => exact State.mailbox_of_latched h ..
  case updateBegin | updateData | updateEnd | confirm | configWrite | attest | getCert | readEvents | enroll | wrapPsk =>
    exact if_pos (by simp [hsvc])
  case clearRetire => exact State.ownerService_down hsvc ..
  -- Recovery, power and boot.
  case d2dUncorr => exact exec_d2dUncorr_of_latched h ..
  case stokerEcc | stokerWdt | regulator => exact congrArg _ (State.plainCause_of_latched h _)
  case stokerSramScrub => rfl
  case pllLockLoss => exact exec_pllLockLoss_none (.inl (by simp [h]))
  case quiesceTimeout => exact exec_quiesceTimeout_none (State.quiescing_of_latched h) ..
  case sequencerWatchdog => exact exec_sequencerWatchdog_none (State.quiescing_of_latched h)
  case thermalReadyTimeout => exact exec_thermalReadyTimeout_none (State.withheld_of_latched h)
  case powerEntry | entryTimeout => exact if_neg (by simp [State.entering_of_latched h])
  case wakeTimeout => exact if_neg (by simp [h])
  case powerOnReset => exact exec_powerOnReset_of_latched h _
  case bootTimeout => exact exec_bootTimeout_of_latched h
  -- The commands that a latched module answers.
  all_goals cases hi

/-! ### A module that has stopped (R31, R482) -/

section
variable (h : s.stopped = true)
include h

theorem State.latched_of_stopped : s.power.life = .latched := by
  simp only [State.stopped, Bool.and_eq_true, beq_iff_eq] at h
  exact h.2

theorem State.linkUp_of_stopped (p : Nat) : s.linkUp p = false := by simp [State.linkUp, h]

theorem State.i3cUp_of_stopped : s.i3cUp = false := by simp [State.i3cUp, h]

theorem State.takeFront_of_stopped (p : Nat) (vc : Option Nat) (f : Packet → Bool) : s.takeFront p vc f = none := by
  simp [State.takeFront, State.front, h]

theorem State.arrival_of_stopped (p ty : Nat) (kind : Packet → Bool) : s.arrival p ty kind = none := by
  simp [State.arrival, State.takeFront_of_stopped h]

theorem State.passes_of_stopped (p : Nat) : s.passes p = none := by
  simp [State.passes, State.takeFront_of_stopped h]

theorem exec_nak_of_stopped (p : Fin 6) : exec (.nak p) s = .next s := by
  change execNak p s = _
  simp only [execNak, State.takeLocal, State.takeFront_of_stopped h]

theorem exec_credit_of_stopped (p : Fin 6) : exec (.credit p) s = .next s := by
  change execCredit p s = _
  simp only [execCredit, State.takeLocal, State.takeFront_of_stopped h]

theorem exec_idle_of_stopped (p : Fin 6) : exec (.idle p) s = .next s := by
  change execIdle p s = _
  simp only [execIdle, State.takeLocal, State.takeFront_of_stopped h]

theorem exec_registerWrite_of_stopped (t : WriteTarget) (bytes value : Nat) :
    exec (.registerWrite t bytes value) s = .next s := by
  have hlink := State.linkServes_of_latched (State.latched_of_stopped h)
  refine congrArg Host.Outcome.next (a₂ := s) ?_
  cases t with
  | bar a off =>
    cases a with
    | pf0 => exact State.pf0Write_down hlink _ _
    | vf c => exact State.hostWrite_down hlink ..
    | i3c =>
      change s.i3cWrite off bytes value = s
      simp [State.i3cWrite, State.alwaysWrite, State.i3cUp_of_stopped h]
  | numVfs n on => exact if_neg (by simp [hlink])
  | msixEnable fn on => exact if_neg (by simp [hlink])
  | atsEnable fn on => exact if_neg (by simp [hlink])

end

/-- A stopped module answers only what the board, the host's memory and the comparators do. -/
theorem exec_of_stopped {i : Instr} (h : s.stopped = true) (hi : actsStopped i = false) : exec i s = .next s := by
  cases hswitch : actsLatched i with
  | false => exact exec_of_latched (State.latched_of_stopped h) hswitch
  | true =>
    have hlink := State.linkUp_of_stopped h
    have harrival := State.arrival_of_stopped h
    cases i
    case frameReceive | skipFrameReceive | skipFrameSend | replayTimeout | creditReport | retrainEntry | outputGrant =>
      exact if_neg (by simp [hlink])
    case retrainDone | retrainTimeout | failedPortRetry | traceFreeze | traceFull => exact if_neg (by simp [h])
    case nak => exact exec_nak_of_stopped h _
    case credit => exact exec_credit_of_stopped h _
    case idle => exact exec_idle_of_stopped h _
    case writePacket | readReq | readRsp | writeAck | signalPacket | signalAck | collData | collReady | collAbort | collAck
        | unreach =>
      exact State.deliver_none (harrival ..) _
    case linkstate | endpoint => exact State.deliverSwitch_none (harrival ..) _
    case transitPacket => exact exec_transitPacket_none (State.passes_of_stopped h _)
    case creditWaitTimeout => exact exec_creditWaitTimeout_down (hlink _)
    case registerWrite => exact exec_registerWrite_of_stopped h ..
    -- The commands that a stopped module answers, and those that a latched one does not.
    all_goals cases (show (actsLatched _ && !actsStopped _) = true by rw [hswitch, hi]; rfl)

/-! ### The statement -/

/-- Settles O56: a quiesce that its limit ends goes on to one of the recovery's ends, the watchdog and a READY that is
withheld too long latch the module, as the loss of a PLL's lock does, and a module that is latched or has stopped does
nothing more. A recovery as one command is the model's choice (log entries 31, 32). -/
theorem recoveryLimitsAndLatch : Obligations.RecoveryLimitsAndLatch := by
  refine ⟨fun s => ⟨fun bays engines r hr hq => ?_, fun hq => ?_, fun hq => ⟨exec_sequencerWatchdog_none hq,
    exec_quiesceTimeout_none hq⟩, fun hw => ?_, exec_thermalReadyTimeout_none, rfl⟩,
    fun s => ⟨fun hup hclock => ?_, exec_pllLockLoss_none⟩, fun i s => exec_of_stopped, fun i s => exec_of_latched⟩
  · have hrecov : (s.quiesce (bays % 2 ^ 16) (engines % 2 ^ 5)).recov.isSome = true := by
      rw [State.recov_quiesce, hr]
      rfl
    refine ⟨State.flights_quiesce_quiet s _ _, _, exec_quiesceTimeout hr hq bays engines, rfl, ?_, ?_,
      State.afterQuiesce_ends hrecov⟩
    · rw [State.getF_afterQuiesce_clamp _ _ rfl, State.getF_quiesce_clamp _ _ _ rfl, State.getF_clampShown_BAY,
        Nat.mod_mod]
    · rw [State.getF_afterQuiesce_clamp _ _ rfl, State.getF_quiesce_clamp _ _ _ rfl, State.getF_clampShown_ENG,
        Nat.mod_mod]
  · exact ⟨_, exec_sequencerWatchdog hq, rfl, s.outOn_latchFail_hotrst, s.outOn_latchFail_fault,
      s.latchFail_keeps_self.getF (f := RST_FAULT0_CAUSE) (by decide)⟩
  · exact ⟨_, exec_thermalReadyTimeout hw, rfl, (State.outOn_setOut _ _ _ (by decide)).trans (if_pos rfl)⟩
  · exact ⟨_, exec_pllLockLoss hup hclock, rfl, s.stopped_latchFail, s.outOn_latchFail_fault, s.outOn_latchFail_hotrst,
      rfl, rfl⟩

end Sys2Proof.Machine

/-! `PWR_STAT.STATE` and what asks for its change: a request for BANKED or EMBER, a wake request, and the limits of
an entry and of a wake's step (R422–R424, R426, R427). -/

namespace Sys2Proof.Machine

open Sys2Proof

variable {s : State}

/-! ### `PWR_STAT.STATE` changes (R435, R498) -/

theorem State.setPwrState_of_eq {v : Nat} (h : s.getF PWR_STAT_STATE = v) : s.setPwrState v = s := if_pos h

/-- A change of the state also raises the alert, interrupts and leaves a record. -/
theorem State.setPwrState_keeps_setF {v : Nat} (h : s.getF PWR_STAT_STATE ≠ v) :
    Keeps (Parts.of (traceParts ++ alertParts ++ irqParts)) (s.setF PWR_STAT_STATE v) (s.setPwrState v) := by
  have hT := Parts.le_refl (traceParts ++ alertParts ++ irqParts)
  rw [State.setPwrState, if_neg h]
  exact State.traceRec_keeps (Parts.within hT) (State.irq_keeps (Parts.within hT)
    (State.alert_keeps (Parts.within hT) (keeps_refl _)) _ _) ..

theorem State.getF_setPwrState_STATE (s : State) {v : Nat} (hv : v < 8) :
    (s.setPwrState v).getF PWR_STAT_STATE = v := by
  by_cases h : s.getF PWR_STAT_STATE = v
  · rw [State.setPwrState_of_eq h, h]
  · exact ((State.setPwrState_keeps_setF h).getF (by decide)).trans
      ((s.getF_setF PWR_STAT_STATE v).trans (Nat.mod_eq_of_lt hv))

/-- The other fields of `PWR_STAT` stay. -/
theorem State.getF_setPwrState_lo (s : State) (v : Nat) {f : Fld} (hf : f.reg = .PWR_STAT)
    (hlo : (f.lo % 64 == PWR_STAT_STATE.lo % 64) = false) : (s.setPwrState v).getF f = s.getF f := by
  by_cases h : s.getF PWR_STAT_STATE = v
  · rw [State.setPwrState_of_eq h]
  · exact ((State.setPwrState_keeps_setF h).same (.reg .PWR_STAT) (by decide) f hf).trans (State.getF_setF_lo _ _ hlo)

theorem State.setPwrState_keeps_self (s : State) (v : Nat) :
    Keeps (Parts.of (traceParts ++ alertParts ++ irqParts ++ [.reg .PWR_STAT])) s (s.setPwrState v) :=
  State.setPwrState_keeps (Parts.le_refl _) (keeps_refl s) v

/-- A sideband output is no other register's. -/
theorem State.getF_setOut (s : State) (i : Nat) (b : Bool) {f : Fld}
    (hf : (f.reg.num == Reg.SVC_SIDEBAND.num) = false) :
    (s.setOut i b).getF f = s.getF f :=
  State.getF_setF_num s _ hf

/-- The state is set, and READY_OD with it: every other field of `PWR_STAT` stays as it is. -/
theorem State.setPwrState_setOut_shows (s : State) {v : Nat} (hv : v < 8) (b : Bool) :
    let t := (s.setPwrState v).setOut outReady b
    t.getF PWR_STAT_STATE = v ∧ t.outOn outReady = b ∧ t.getF PWR_CTL_TARGET = s.getF PWR_CTL_TARGET
    ∧ ∀ f : Fld, f.reg = .PWR_STAT → (f.lo % 64 == PWR_STAT_STATE.lo % 64) = false → t.getF f = s.getF f := by
  refine ⟨?_, ?_, ?_, fun f hf hlo => ?_⟩
  · exact (State.getF_setOut _ _ _ rfl).trans (s.getF_setPwrState_STATE hv)
  · exact (State.outOn_setOut _ _ _ (by decide)).trans (if_pos rfl)
  · exact (State.getF_setOut _ _ _ rfl).trans ((s.setPwrState_keeps_self v).getF (by decide))
  · exact (State.getF_setOut _ _ _ (by rw [hf]; rfl)).trans (s.getF_setPwrState_lo v hf hlo)

/-! ### Requests for BANKED and EMBER (R422–R424) -/

/-- A request over I3C, for BANKED (1) or EMBER (2). -/
theorem exec_sleepRequest {i : Instr} {k : Nat} (hup : s.i3cUp = true)
    (hi : (i, k) ∈ [(Instr.bankedRequest .i3c, 1), (.emberRequest .i3c, 2)]) :
    (k = 1 ∨ k = 2) ∧ exec i s = .next (s.requestSleep k) := by
  simp only [List.mem_cons, Prod.mk.injEq, List.not_mem_nil, or_false] at hi
  rcases hi with ⟨rfl, rfl⟩ | ⟨rfl, rfl⟩
  · exact ⟨.inl rfl, congrArg _ (if_pos hup)⟩
  · exact ⟨.inr rfl, congrArg _ (if_pos hup)⟩

section
variable {k : Nat} (hup : s.power.life = .up)
include hup

/-- The entry begins: it waits for quiet in step 1 (log entry 17). -/
theorem State.requestSleep_begins (ha : bitOf s.seval.stateAllow (k - 1) = true) (hr : s.recov = none)
    (hst : s.getF PWR_STAT_STATE = 0) : s.requestSleep k
      = ((s.setFs [(PWR_CTL_TARGET, k), (PWR_STAT_STEP, 1)]).setPwrState 3).setOut outReady false := by
  simp [State.requestSleep, hup, ha, hr, hst]

theorem State.requestSleep_in_recovery (ha : bitOf s.seval.stateAllow (k - 1) = true) (hr : s.recov.isSome = true) :
    s.requestSleep k = s.setFs [(PWR_CTL_TARGET, k), (PWR_STAT_REFUSED, 1)] := by
  simp [State.requestSleep, hup, ha, hr]

theorem State.requestSleep_banked_asleep (hr : s.recov = none) (hst : s.getF PWR_STAT_STATE = 2) :
    s.requestSleep 1 = s := by
  simp [State.requestSleep, hup, hr, hst]

end

theorem State.requestSleep_refused {k : Nat} (ha : bitOf s.seval.stateAllow (k - 1) = false) : s.requestSleep k = s :=
  if_pos (by simp [ha])

theorem State.requestSleep_begins_shows (hup : s.power.life = .up) {k : Nat} (hk : k < 4)
    (ha : bitOf s.seval.stateAllow (k - 1) = true) (hr : s.recov = none) (hst : s.getF PWR_STAT_STATE = 0) :
    (s.requestSleep k).getF PWR_STAT_STATE = 3 ∧ (s.requestSleep k).getF PWR_STAT_STEP = 1
    ∧ (s.requestSleep k).getF PWR_CTL_TARGET = k ∧ (s.requestSleep k).outOn outReady = false := by
  obtain ⟨hstate, hready, htarget, hrest⟩ :=
    (s.setFs [(PWR_CTL_TARGET, k), (PWR_STAT_STEP, 1)]).setPwrState_setOut_shows (v := 3) (by decide) false
  rw [State.requestSleep_begins hup ha hr hst]
  refine ⟨hstate, (hrest PWR_STAT_STEP rfl rfl).trans (State.getF_setF ..), htarget.trans ?_, hready⟩
  exact (State.getF_setF_num _ _ rfl).trans ((s.getF_setF PWR_CTL_TARGET k).trans (Nat.mod_eq_of_lt hk))

theorem State.requestSleep_in_recovery_shows (hup : s.power.life = .up) {k : Nat}
    (ha : bitOf s.seval.stateAllow (k - 1) = true) (hr : s.recov.isSome = true) :
    (s.requestSleep k).getF PWR_STAT_REFUSED = 1
    ∧ (s.requestSleep k).getF PWR_STAT_STATE = s.getF PWR_STAT_STATE := by
  rw [State.requestSleep_in_recovery hup ha hr]
  exact ⟨State.getF_setF .., State.getF_setFs_ne s⟩

/-! ### Wake requests (R422, R426, R427) -/

theorem exec_wakeRequest (hup : s.i3cUp = true) (o : WakeOut) :
    exec (.wakeRequest .i3c o) s = .next (s.requestWake o) :=
  congrArg _ (if_pos hup)

theorem State.requestWake_entering (hup : s.power.life = .up) (he : s.entering = true) (o : WakeOut) :
    s.requestWake o = s.cancelEntry.setF PWR_CTL_TARGET 0 := by
  simp [State.requestWake, hup, he]

theorem State.cancelEntry_entering (hst : s.getF PWR_STAT_STATE = 3) : s.cancelEntry
    = ((s.setFs [(PWR_STAT_CANCELLED, 1), (PWR_STAT_STEP, 0)]).setPwrState 0).setOut outReady true :=
  if_pos hst

theorem State.requestWake_entering_shows (hup : s.power.life = .up) (hr : s.recov = none)
    (hst : s.getF PWR_STAT_STATE = 3) (o : WakeOut) : (s.requestWake o).getF PWR_STAT_STATE = 0
    ∧ (s.requestWake o).getF PWR_STAT_CANCELLED = 1 ∧ (s.requestWake o).getF PWR_CTL_TARGET = 0
    ∧ (s.requestWake o).outOn outReady = true := by
  obtain ⟨hstate, hready, -, hrest⟩ :=
    (s.setFs [(PWR_STAT_CANCELLED, 1), (PWR_STAT_STEP, 0)]).setPwrState_setOut_shows (v := 0) (by decide) true
  rw [State.requestWake_entering hup (by simp [State.entering, hup, hr, hst]), State.cancelEntry_entering hst]
  have hcancelled := (hrest PWR_STAT_CANCELLED rfl rfl).trans
    ((State.getF_setF_lo _ _ rfl).trans (s.getF_setF PWR_STAT_CANCELLED 1))
  exact ⟨(State.getF_setF_num _ _ rfl).trans hstate, (State.getF_setF_num _ _ rfl).trans hcancelled,
    State.getF_setF _ PWR_CTL_TARGET 0, (congrArg (bitOf · outReady) (State.getF_setF_num _ _ rfl)).trans hready⟩

/-- A wake from BANKED whose steps and check succeed. -/
theorem State.requestWake_banked (hup : s.power.life = .up) (hst : s.getF PWR_STAT_STATE = 1) {o : WakeOut}
    (hstep : o.failStep = 0) (hcheck : o.checkFailed = false) : s.requestWake o = s.awake o := by
  simp [State.requestWake, State.entering, State.asleep, State.wake, hup, hst, hstep, hcheck]

/-- The registers that the wake shows, before the Damper, the link and the watch lines. -/
def State.wakeShown (s : State) (o : WakeOut) : State :=
  (s.setFs [(PWR_STAT_STEP, 0), (PWR_STAT_TRAINFULL, b2n o.checkFailed), (PWR_STAT_WAKE_MS, min o.ms 65535),
    (PWR_CTL_TARGET, 0)]).setPwrState 0

/-- The rest of a wake shows nothing more in `PWR_STAT`. -/
theorem State.awake_keeps_wakeShown (s : State) (o : WakeOut) :
    Keeps (Parts.of (watchParts ++ [.bays, .damper, .reg .CXL_LINK, .reg .DMP_BAY, .reg .DMP_STAT])) (s.wakeShown o)
      (s.awake o) := by
  have hT := Parts.le_refl (watchParts ++ [.bays, .damper, .reg .CXL_LINK, .reg .DMP_BAY, .reg .DMP_STAT])
  unfold State.awake
  extract_lets s1 s2 s3 s4
  have hs2 : Keeps _ (s.wakeShown o) s2 := State.enterReady_keeps (Parts.within hT)
    (State.damperStart_keeps (Parts.within hT) (keeps_refl _))
  have hs3 : Keeps _ (s.wakeShown o) s3 := ite_keeps (State.cxlTrain_keeps (Parts.within hT) hs2) hs2
  have hs4 : Keeps _ (s.wakeShown o) s4 := State.irq_keeps (Parts.within hT)
    (ite_keeps (State.setDuties_keeps (Parts.within hT) hs3 _) hs3) _ _
  exact keeps_foldl _ hs4 fun _ _ hs => State.readWatch_keeps (Parts.within hT) hs _

theorem State.awake_shows (s : State) (o : WakeOut) : (s.awake o).getF PWR_STAT_STATE = 0
    ∧ (s.awake o).getF PWR_STAT_WAKE_MS = min o.ms 65535 ∧ (s.awake o).getF PWR_STAT_TRAINFULL = b2n o.checkFailed := by
  have hk := s.awake_keeps_wakeShown o
  refine ⟨(hk.getF (by decide)).trans (State.getF_setPwrState_STATE _ (by decide)), (hk.getF (by decide)).trans ?_,
    (hk.getF (by decide)).trans ?_⟩
  · refine (State.getF_setPwrState_lo _ _ rfl rfl).trans ((State.getF_setF_num _ _ rfl).trans
      ((State.getF_setF ..).trans ?_))
    exact Nat.mod_eq_of_lt (by show min o.ms 65535 < 2 ^ 16; omega)
  · refine (State.getF_setPwrState_lo _ _ rfl rfl).trans ((State.getF_setF_num _ _ rfl).trans
      ((State.getF_setF_lo _ _ rfl).trans ((State.getF_setF ..).trans ?_)))
    cases o.checkFailed <;> rfl

/-! ### The limits (R424, R427) -/

theorem exec_entryTimeout (he : s.entering = true) (hq : s.quiet = false) :
    exec .entryTimeout s = .next s.refuseEntry :=
  if_pos (by simp [he, hq])

theorem State.refuseEntry_shows (s : State) : s.refuseEntry.getF PWR_STAT_STATE = 0
    ∧ s.refuseEntry.getF PWR_STAT_REFUSED = 1 ∧ s.refuseEntry.getF PWR_STAT_STEP = 0
    ∧ s.refuseEntry.outOn outReady = true := by
  obtain ⟨hstate, hready, -, hrest⟩ :=
    (s.setFs [(PWR_STAT_REFUSED, 1), (PWR_STAT_STEP, 0)]).setPwrState_setOut_shows (v := 0) (by decide) true
  exact ⟨hstate, (hrest PWR_STAT_REFUSED rfl rfl).trans ((State.getF_setF_lo _ _ rfl).trans
      (s.getF_setF PWR_STAT_REFUSED 1)),
    (hrest PWR_STAT_STEP rfl rfl).trans (State.getF_setF ..), hready⟩

theorem exec_wakeTimeout {k : Fin 5} (hup : s.power.life = .up) (hst : s.getF PWR_STAT_STATE = 4)
    (hstep : s.getF PWR_STAT_STEP = k.val) : exec (.wakeTimeout k) s = .next s.latchFail :=
  if_pos (by simp [hup, hst, hstep])

end Sys2Proof.Machine

/-! The entry into BANKED or EMBER (R424, R425, R428). -/

namespace Sys2Proof.Machine

open Sys2Proof

variable {s : State}

/-! ### The floods that leave before the ports go down (R361, R425) -/

theorem State.accepting_foldl {α : Type} {F : State → α → State} (hF : ∀ s x, (F s x).flue.accepting = s.flue.accepting)
    (l : List α) (s : State) : (l.foldl F s).flue.accepting = s.flue.accepting :=
  List.foldlRecOn l F (motive := fun t => t.flue.accepting = s.flue.accepting) rfl fun t ht x _ => (hF t x).trans ht

theorem State.accepting_placePacket (s : State) (p : Nat) (pk : Packet) :
    (s.placePacket p pk).flue.accepting = s.flue.accepting :=
  (State.accepting_foldl (fun s _ => s.accepting_newFrame p _) _ _).trans (s.accepting_setPort p _)

theorem State.accepting_sendOut (s : State) (p g : Nat) (pk : Packet) :
    (s.sendOut p g pk).flue.accepting = s.flue.accepting :=
  (State.accepting_placePacket _ p _).trans (s.accepting_setPort p _)

theorem State.accepting_fillFrame (s : State) (p : Nat) : (s.fillFrame p).flue.accepting = s.flue.accepting := by
  rw [State.fillFrame, State.accepting_newFrame, State.accepting_setPort]

theorem State.accepting_flushSvc (s : State) (p : Nat) : (s.flushSvc p).flue.accepting = s.flue.accepting := by
  have hsent := State.accepting_foldl (F := fun s pk =>
      if ((s.port p).outq.getD 7 []).head? = some pk && (s.port p).mayLeave pk then s.sendOut p 7 pk else s)
    (fun s pk => by split <;> [exact s.accepting_sendOut p 7 pk; rfl]) ((s.port p).outq.getD 7 []) s
  unfold State.flushSvc
  extract_lets s1
  split
  · exact (s1.accepting_fillFrame p).trans hsent
  · exact hsent

theorem State.accepting_floodLink (s : State) (p : Nat) (up : Bool) :
    (s.floodLink p up).flue.accepting = s.flue.accepting := by
  rw [State.floodLink, State.flue_flood]

theorem State.accepting_floodDown (s : State) : s.floodDown.flue.accepting = s.flue.accepting :=
  (State.accepting_foldl (fun s p => s.accepting_flushSvc p) _ _).trans
    (State.accepting_foldl (fun s p => s.accepting_floodLink p false) _ s)

/-! ### The main logic loses its power (R425, R428) -/

theorem State.tlb_darken (s : State) (ember : Bool) : (s.darken ember).tlb = [] := by
  unfold State.darken
  extract_lets trip warn src s1
  exact (State.setFs_keeps_regs (s := s1) [.DMP_STAT] (Parts.le_refl _) (keeps_refl s1)).same .tlb (by decide)

theorem State.tlb_emberOff (s : State) : s.emberOff.tlb = [] := by
  have hT := Parts.le_refl (traceParts ++ [.atc, .filter, .link, .pba, .watch, .mbReq, .mbResp, .reg .FLU_PORT,
    .reg .CXL_LINK, .reg .CXL_SF])
  exact ((State.mailBuffers_keeps (Parts.within hT) (State.cxlDown_keeps (Parts.within hT)
    (State.idlePorts_keeps (Parts.within hT) (keeps_refl (s.darken true))))).same .tlb (by decide)).trans
    (s.tlb_darken true)

/-- Steps 1 to 3: the switch takes no packet in, the floods leave, and what is saved is saved. -/
def State.sleepSaved (s : State) : State :=
  let t : State := { s.floodEndpoint false with flue := { s.flue with accepting := false } }
  (if s.getF PWR_CTL_TARGET = 2 then t.floodDown else t).saveSync

/-- Step 6: what the requested state leaves without power goes dark. -/
def State.sleepDark (s : State) : State :=
  if s.getF PWR_CTL_TARGET = 2 then s.sleepSaved.emberOff else s.sleepSaved.darken false

theorem State.enterSleep_eq (s : State) : s.enterSleep
    = (s.sleepDark.setF PWR_STAT_STEP 0).setPwrState (s.getF PWR_CTL_TARGET) := rfl

theorem State.accepting_sleepSaved (s : State) : s.sleepSaved.flue.accepting = false := by
  refine ((State.saveSync_keeps (Parts.le_refl _) (keeps_refl _)).accepting (by decide)).trans ?_
  split
  · exact State.accepting_floodDown _
  · rfl

theorem State.accepting_sleepDark (s : State) : s.sleepDark.flue.accepting = false := by
  rw [← s.accepting_sleepSaved, State.sleepDark]
  split
  · exact (State.emberOff_keeps (Parts.le_refl _) (keeps_refl _)).accepting (by decide)
  · exact (State.darken_keeps (Parts.le_refl _) (keeps_refl _) false).accepting (by decide)

theorem State.tlb_sleepDark (s : State) : s.sleepDark.tlb = [] := by
  rw [State.sleepDark]
  split
  · exact State.tlb_emberOff _
  · exact State.tlb_darken _ false

theorem State.enterSleep_shows (s : State) (ht : s.getF PWR_CTL_TARGET < 8) :
    s.enterSleep.getF PWR_STAT_STATE = s.getF PWR_CTL_TARGET ∧ s.enterSleep.getF PWR_STAT_STEP = 0
    ∧ s.enterSleep.tlb = [] ∧ s.enterSleep.flue.accepting = false := by
  have hk := (s.sleepDark.setF PWR_STAT_STEP 0).setPwrState_keeps_self (s.getF PWR_CTL_TARGET)
  rw [State.enterSleep_eq]
  exact ⟨State.getF_setPwrState_STATE _ ht, (State.getF_setPwrState_lo _ _ rfl rfl).trans (State.getF_setF ..),
    (hk.same .tlb (by decide)).trans s.tlb_sleepDark, (hk.accepting (by decide)).trans s.accepting_sleepDark⟩

theorem exec_powerEntry (he : s.entering = true) (hq : s.quiet = true) : exec .powerEntry s = .next s.enterSleep :=
  if_pos (by simp [he, hq])

theorem exec_powerEntry_waits (hq : s.quiet = false) : exec .powerEntry s = .next s := if_neg (by simp [hq])

/-! ### The statement -/

/-- Settles O57: a request begins an entry, is refused or does nothing; a wake request cancels an entry or wakes the
module; and an entry and a wake's step end at their limits. Where an entry waits is the model's reading (log entries 17,
35). -/
theorem powerStateRequests : Obligations.PowerStateRequests := by
  refine ⟨fun s hi3c hup => ⟨fun i k hi => ?_, fun hr hst => ?_, fun o hr hst => ?_, fun o hstep hcheck hst => ?_⟩,
    fun s => ⟨fun he hq ht => ?_, fun he hq => ⟨exec_powerEntry_waits hq, _, exec_entryTimeout he hq,
      s.refuseEntry_shows⟩,
      fun k hup hst hstep => ⟨_, exec_wakeTimeout hup hst hstep, rfl, s.outOn_latchFail_hotrst⟩⟩⟩
  · obtain ⟨hk, hexec⟩ := exec_sleepRequest hi3c hi
    refine ⟨fun ha hr hst => ⟨_, hexec, State.requestSleep_begins_shows hup (by omega) ha hr hst⟩,
      fun ha hr => ⟨_, hexec, State.requestSleep_in_recovery_shows hup ha hr⟩, fun ha => ?_⟩
    rw [hexec, State.requestSleep_refused ha]
  · obtain ⟨-, hexec⟩ := exec_sleepRequest (i := .bankedRequest .i3c) (k := 1) hi3c (by simp)
    rw [hexec, State.requestSleep_banked_asleep hup hr hst]
  · exact ⟨_, exec_wakeRequest hi3c o, State.requestWake_entering_shows hup hr hst o⟩
  · obtain ⟨hstate, hms, hfull⟩ := s.awake_shows o
    refine ⟨_, exec_wakeRequest hi3c o, ?_⟩
    rw [State.requestWake_banked hup hst hstep hcheck]
    exact ⟨hstate, hms, hfull.trans (by rw [hcheck]; rfl)⟩
  · exact ⟨_, exec_powerEntry he hq, s.enterSleep_shows (by omega)⟩

end Sys2Proof.Machine

/-! The record of a fault, and what a recovery that follows it leaves shown (R465, R466, R481, R500, R555). -/

namespace Sys2Proof.Machine

open Sys2Proof

variable {s t u : State}

/-! ### A fault that is recorded and shown (R465, R500, R555) -/

/-- A fault record is held, FAULT_N and the alert say so, and the trace is frozen. -/
def State.faultShown (s : State) : Prop :=
  s.getF RST_FAULT0_VALID = 1 ∧ s.getF SVC_ALERT_FAULT = 1 ∧ s.outOn outFault = true ∧ s.getF OBS_TRSTAT_FROZEN = 1

/-- From `s` to `t` a recorded fault stays shown, and READY_OD stays as it is. -/
def ShowsOn (s t : State) : Prop := (s.faultShown → t.faultShown) ∧ t.outOn outReady = s.outOn outReady

theorem ShowsOn.refl (s : State) : ShowsOn s s := ⟨id, rfl⟩

theorem ShowsOn.trans (h : ShowsOn s t) (g : ShowsOn t u) : ShowsOn s u := ⟨g.1 ∘ h.1, g.2.trans h.2⟩

theorem ShowsOn.ite {c : Prop} [Decidable c] (h : ShowsOn s t) (g : ShowsOn s u) : ShowsOn s (if c then t else u) := by
  split
  · exact h
  · exact g

theorem ShowsOn.foldl {α : Type} {f : State → α → State} (h : ∀ s x, ShowsOn s (f s x)) (l : List α) (s : State) :
    ShowsOn s (l.foldl f s) :=
  List.foldlRecOn l f (motive := ShowsOn s) (.refl s) fun t ht x _ => ht.trans (h t x)

theorem ShowsOn.foldl_fst {α β : Type} {f : State × β → α → State × β} (h : ∀ p x, ShowsOn p.1 (f p x).1) (l : List α)
    (p : State × β) : ShowsOn p.1 (l.foldl f p).1 :=
  List.foldlRecOn l f (motive := fun q => ShowsOn p.1 q.1) (.refl p.1) fun q hq x _ => hq.trans (h q x)

theorem ShowsOn.foldl_snd {α β : Type} {f : β × State → α → β × State} (h : ∀ p x, ShowsOn p.2 (f p x).2) (l : List α)
    (p : β × State) : ShowsOn p.2 (l.foldl f p).2 :=
  List.foldlRecOn l f (motive := fun q => ShowsOn p.2 q.2) (.refl p.2) fun q hq x _ => hq.trans (h q x)

/-- The same fields, in registers that are read one by one. -/
theorem ShowsOn.of_getF (hv : t.getF RST_FAULT0_VALID = s.getF RST_FAULT0_VALID)
    (ha : t.getF SVC_ALERT_FAULT = s.getF SVC_ALERT_FAULT) (ho : t.getF SVC_SIDEBAND_OUT = s.getF SVC_SIDEBAND_OUT)
    (hf : t.getF OBS_TRSTAT_FROZEN = s.getF OBS_TRSTAT_FROZEN) : ShowsOn s t := by
  refine ⟨?_, congrArg (bitOf · outReady) ho⟩
  rintro ⟨hvalid, halert, hout, hfrozen⟩
  exact ⟨hv.trans hvalid, ha.trans halert, (congrArg (bitOf · outFault) ho).trans hout, hf.trans hfrozen⟩

theorem Keeps.showsOn {T : Nat} (h : Keeps T s t) (hv : T.testBit (Part.num (.reg .RST_FAULT0)) = false := by decide)
    (ha : T.testBit (Part.num (.reg .SVC_ALERT)) = false := by decide)
    (ho : T.testBit (Part.num (.reg .SVC_SIDEBAND)) = false := by decide)
    (hf : T.testBit (Part.num (.reg .OBS_TRSTAT)) = false := by decide) : ShowsOn s t :=
  .of_getF (h.getF hv) (h.getF ha) (h.getF ho) (h.getF hf)

/-! ### The trace (R498–R501) -/

/-- Without its freeze, `OBS_TRSTAT` is of no concern here. -/
theorem State.setF_showsOn_trstat (s : State) {f : Fld} (v : Nat) (hf : f.reg = .OBS_TRSTAT)
    (hlo : (OBS_TRSTAT_FROZEN.lo % 64 == f.lo % 64) = false) : ShowsOn s (s.setF f v) := by
  have hne : ∀ g : Fld, g.reg ≠ .OBS_TRSTAT → (s.setF f v).getF g = s.getF g := fun g hg =>
    s.getF_setF_reg v (hf ▸ hg)
  exact .of_getF (hne _ (by decide)) (hne _ (by decide)) (hne _ (by decide)) (State.getF_setF_lo s v hlo)

theorem State.traceWrite_showsOn (s : State) (cls sub ctx queue d0 d1 : Nat) :
    ShowsOn s (s.traceWrite cls sub ctx queue d0 d1) := by
  unfold State.traceWrite
  refine .ite ?_ (.refl s)
  extract_lets off s1 nxt nxt' s2 s3
  have h1 : ShowsOn s s1 := (State.dwrite_keeps (Parts.le_refl _) (keeps_refl s) _ _).showsOn
  have h2 : ShowsOn s s2 := h1.trans (s1.setF_showsOn_trstat _ rfl rfl)
  have hk : Keeps (Parts.of [.trace, .reg .OBS_GCNT]) s2
      { s3 with trace := ⟨(s3.trace.seq + 1) % 2 ^ 32, s3.trace.post.map (· - 1)⟩ } :=
    State.trace_keeps (Parts.within (Parts.le_refl _))
      (State.incF_keeps_reg .OBS_GCNT (Parts.within (Parts.le_refl _)) (keeps_refl s2) 1) _
  exact h2.trans hk.showsOn

theorem State.traceRec_showsOn (s : State) (cls sub ctx queue d0 d1 : Nat) :
    ShowsOn s (s.traceRec cls sub ctx queue d0 d1) :=
  .ite (s.traceWrite_showsOn ..) (.refl s)

theorem State.trigger_showsOn (s : State) (cause value : Nat) : ShowsOn s (s.trigger cause value) := by
  unfold State.trigger
  refine .ite ?_ (.refl s)
  extract_lets off s1 s2
  have h1 : ShowsOn s s1 := s.traceWrite_showsOn ..
  have h2 : ShowsOn s s2 := h1.trans (.of_getF (State.getF_setFs_ne s1) (State.getF_setFs_ne s1)
    (State.getF_setFs_ne s1) (State.getF_setFs_ne s1))
  exact .ite (h2.trans (State.trace_keeps (Parts.le_refl _) (keeps_refl s2) _).showsOn) h2

/-! ### Counters (R484–R488) -/

theorem State.count_showsOn (s : State) (c e n : Nat) : ShowsOn s (s.count c e n) := by
  have hinc : ShowsOn s (s.incF (OBS_CNT_COUNT c e) n) :=
    (State.incF_keeps_reg .OBS_CNT (Parts.le_refl _) (keeps_refl s) n).showsOn
  exact .ite (.refl s) (hinc.trans (.ite (State.trigger_showsOn ..) (.refl _)))

theorem State.countAll_showsOn (s : State) (c : Nat) (l : List (Nat × Nat)) : ShowsOn s (s.countAll c l) :=
  .foldl (fun s (p : Nat × Nat) => s.count_showsOn c p.1 p.2) l s

theorem State.fresh_showsOn (s : State) : ShowsOn s s.fresh.2 :=
  (State.fresh_keeps (Parts.le_refl _) (keeps_refl s)).showsOn

theorem State.countBusy_showsOn (s : State) (f : Flight) (t : Nat) : ShowsOn s (s.countBusy f t) := by
  unfold State.countBusy
  extract_lets e c
  split
  rename_i n u hu
  obtain ⟨-, rfl⟩ := Prod.mk.inj hu
  have hc (e n : Nat) : ShowsOn s (s.fresh.2.count c e n) := s.fresh_showsOn.trans (State.count_showsOn ..)
  split
  · exact s.fresh_showsOn
  · exact .ite ((hc 3 n).trans (State.setHearth_keeps (Parts.le_refl _) (keeps_refl _) _ _).showsOn)
      (.ite (hc 4 n) s.fresh_showsOn)

theorem State.runCut_showsOn (s : State) (f : Flight) (t : Nat) : ShowsOn s (s.runCut f t) := by
  unfold State.runCut
  extract_lets c rd whole s1
  have h1 : ShowsOn s s1 := (s.countBusy_showsOn f t).trans
    (.foldl (fun s e => s.fresh_showsOn.trans (State.count_showsOn ..)) whole _)
  exact .ite (.ite (h1.trans (s1.fresh_showsOn.trans (State.count_showsOn ..)))
    (h1.trans (s1.fresh_showsOn.trans (State.count_showsOn ..)))) (.refl s)

theorem State.countUnits_showsOn (s : State) (f : Flight) : ShowsOn s (s.countUnits f) := s.countAll_showsOn ..

theorem State.countCut_showsOn (s : State) (f : Flight) : ShowsOn s (s.countCut f) := by
  have hcut := ShowsOn.foldl (fun s (r : Running) => s.runCut_showsOn f r.tile) f.running s
  exact .ite hcut (hcut.trans (State.countUnits_showsOn _ f))

/-! ### Steps 2 to 8 (R467–R471) -/

theorem State.setRstStep_showsOn (s : State) (v : Nat) : ShowsOn s (s.setRstStep v) :=
  (State.setF_keeps_reg (s := s) (f := RST_STAT_STEP) .RST_STAT (Parts.le_refl _) (keeps_refl s) v).showsOn.trans
    (State.traceRec_showsOn ..)

theorem State.quiesce_showsOn (s : State) (bays engines : Nat) : ShowsOn s (s.quiesce bays engines) := by
  have hclamp : ShowsOn s (s.clampShown bays engines) :=
    (State.setFs_keeps_regs [.RST_CLAMP] (Parts.le_refl _) (keeps_refl s)).showsOn
  have hall : ShowsOn (s.clampShown bays engines) ((s.clampShown bays engines).quietAll bays engines).2 :=
    .foldl_snd (f := (s.clampShown bays engines).quietOne bays engines) (fun p f => (p.2.countCut_showsOn f).trans
      (State.cut_keeps (Parts.le_refl _) (keeps_refl _) _ _).showsOn) _ ([], s.clampShown bays engines)
  exact hclamp.trans (hall.trans ((State.flights_keeps (Parts.le_refl _) (keeps_refl _) _).showsOn.trans
    (s.quiesce_keeps_quietAll bays engines).showsOn))

theorem State.throughReset_showsOn (s : State) (r : RecRt) : ShowsOn s (s.throughReset r) := by
  have hcapture : ShowsOn s (s.setRstStep 3).capture :=
    (s.setRstStep_showsOn 3).trans (State.capture_keeps (Parts.le_refl _) (keeps_refl _)).showsOn
  have hcount : ShowsOn s
      (if r.warm then (s.setRstStep 3).capture else (s.setRstStep 3).capture.incF RST_STAT_COUNT 1) :=
    .ite hcapture (hcapture.trans (State.incF_keeps_reg .RST_STAT (Parts.le_refl _) (keeps_refl _) 1).showsOn)
  exact hcount.trans ((State.setRstStep_showsOn _ 5).trans
    (State.resetMain_keeps (Parts.le_refl _) (keeps_refl _)).showsOn)

/-- `FAULT_N` and `ALERT_N` alone follow their conditions. -/
theorem State.outOn_syncPins (s : State) {k : Nat} (hk : k < 7) (hf : k ≠ outFault) (ha : k ≠ outAlert) :
    s.syncPins.outOn k = s.outOn k := by
  rw [State.syncPins, State.outOn_setOut _ _ _ hk, if_neg ha, State.outOn_setOut _ _ _ hk, if_neg hf]

/-- FAULT_N is asserted while a fault record is held. -/
theorem State.outOn_syncPins_fault_of_valid (h : s.getF RST_FAULT0_VALID = 1) : s.syncPins.outOn outFault = true := by
  rw [State.syncPins, State.outOn_setOut _ _ _ (by decide), if_neg (by decide), State.outOn_setOut _ _ _ (by decide),
    if_pos rfl, State.flag, h]
  rfl

theorem State.syncPins_keeps_self (s : State) : Keeps (Parts.of [.reg .SVC_SIDEBAND]) s s.syncPins :=
  State.syncPins_keeps (Parts.le_refl _) (keeps_refl s)

theorem State.syncPins_showsOn (s : State) : ShowsOn s s.syncPins := by
  have hk := s.syncPins_keeps_self
  refine ⟨?_, s.outOn_syncPins (by decide) (by decide) (by decide)⟩
  rintro ⟨hvalid, halert, -, hfrozen⟩
  exact ⟨(hk.getF (by decide)).trans hvalid, (hk.getF (by decide)).trans halert,
    State.outOn_syncPins_fault_of_valid hvalid, (hk.getF (by decide)).trans hfrozen⟩

/-- Another output than FAULT_N leaves a fault shown. -/
theorem State.faultShown.setOut (h : s.faultShown) {i : Nat} (hi : i ≠ outFault) (b : Bool) :
    (s.setOut i b).faultShown := by
  obtain ⟨hvalid, halert, hout, hfrozen⟩ := h
  exact ⟨(State.getF_setOut _ _ _ rfl).trans hvalid, (State.getF_setOut _ _ _ rfl).trans halert,
    (State.outOn_setOut _ _ _ (by decide)).trans ((if_neg (Ne.symm hi)).trans hout),
    (State.getF_setOut _ _ _ rfl).trans hfrozen⟩

theorem State.alert_showsOn_degraded (s : State) : ShowsOn s (s.alert SVC_ALERT_DEGRADED) :=
  (ShowsOn.of_getF (State.getF_setF_num s 1 rfl) (State.getF_setF_lo s 1 rfl) (State.getF_setF_num s 1 rfl)
    (State.getF_setF_num s 1 rfl)).trans (State.syncPins_showsOn _)

theorem State.latchFail_showsOn (s : State) : ShowsOn s s.latchFail := by
  have hpower : ShowsOn s { s with power := { s.power with failed := true, life := .latched } } :=
    (State.power_keeps (Parts.le_refl _) (keeps_refl s) _).showsOn
  have hout : ShowsOn { s with power := { s.power with failed := true, life := .latched } }
      (State.setOut { s with power := { s.power with failed := true, life := .latched } } outHotrst true) :=
    ⟨fun h => h.setOut (by decide) true, (State.outOn_setOut _ _ _ (by decide)).trans (if_neg (by decide))⟩
  exact hpower.trans (hout.trans (State.syncPins_showsOn _))

theorem State.setHearthState_showsOn (s : State) (h st : Nat) : ShowsOn s (s.setHearthState h st) := by
  unfold State.setHearthState State.syncHearths
  extract_lets on s1 s2 deg was s3 s4 s5
  have hnote : ShowsOn s (s.noteHearth h st) := (State.noteHearth_keeps (Parts.le_refl _) (keeps_refl s) h st).showsOn
  have hmap : Keeps (Parts.of [.reg .ID_HMAP, .reg .ID_HEARTHS]) (s.noteHearth h st) s3 :=
    have hT := Parts.le_refl ([.reg .ID_HMAP, .reg .ID_HEARTHS] : List Part)
    State.setF_keeps_reg .ID_HEARTHS (Parts.within hT) (State.setF_keeps_reg .ID_HEARTHS (Parts.within hT)
      (keeps_foldl _ (keeps_refl _) fun _ _ hs => State.setF_keeps_reg .ID_HMAP (Parts.within hT) hs _) _) _
  have h3 : ShowsOn s s3 := hnote.trans hmap.showsOn
  have hlog : Keeps (Parts.of (logParts ++ irqParts)) s4 (s5.irq 0 69) :=
    State.irq_keeps (Parts.within (Parts.le_refl _)) (State.logEvent_keeps (Parts.within (Parts.le_refl _))
      (keeps_refl s4) ..) ..
  have hirq : ShowsOn s3 (s3.irq 0 69) := (State.irq_keeps (Parts.le_refl _) (keeps_refl s3) ..).showsOn
  exact .ite (h3.trans (s3.alert_showsOn_degraded.trans hlog.showsOn)) (.ite (h3.trans hirq) h3)

theorem State.setDuties_showsOn (s : State) (d : List Nat) : ShowsOn s (s.setDuties d) := by
  have hset : Keeps (Parts.of [.reg .DMP_BAY]) s
      ((List.range 16).foldl (fun s b => s.setF (DMP_BAY_DUTY b) (d.getD b 0)) s) :=
    keeps_foldl _ (keeps_refl s) fun _ _ hs => State.setF_keeps_reg .DMP_BAY (Parts.le_refl _) hs _
  exact hset.showsOn.trans (.foldl (fun s b => .ite (.refl s) (s.traceRec_showsOn ..)) _ _)

theorem State.damperStart_showsOn (s : State) : ShowsOn s s.damperStart := by
  unfold State.damperStart State.leastAllowances State.fallDuties
  extract_lets src s1 s2 src' s3
  have hT := Parts.le_refl ([.damper, .bays, .reg .DMP_BAY] : List Part)
  have h1 : Keeps _ s s1 := State.damper_keeps (Parts.within hT) (keeps_refl s) _
  have h2 : Keeps _ s s2 := keeps_foldl _ h1 fun _ _ hs => State.setBay_keeps (Parts.within hT) hs _ _
  have h3 : Keeps _ s s3 := State.damper_keeps (Parts.within hT) h2 _
  have hk : Keeps _ s ((List.range 16).foldl (fun s b => s.setF (DMP_BAY_ALLOW b) 96) s3) :=
    keeps_foldl _ h3 fun _ _ hs => State.setF_keeps_reg .DMP_BAY (Parts.within hT) hs _
  exact hk.showsOn.trans ((State.setDuties_showsOn _ _).trans
    (State.setF_keeps_reg .DMP_STAT (Parts.le_refl _) (keeps_refl _) 1).showsOn)

theorem State.restore_showsOn (s : State) : ShowsOn s s.restore := by
  unfold State.restore
  extract_lets s1 s2
  have h1 : ShowsOn s s1 := .foldl (fun s h => .ite (s.setHearthState_showsOn h hEnabled) (.refl s)) _ s
  have h2 : ShowsOn s s2 := h1.trans ((State.syncCone_keeps (Parts.le_refl _) (keeps_refl s1)).showsOn.trans
    (State.damperStart_showsOn _))
  exact .ite (h2.trans (State.setDuties_showsOn _ _)) h2

theorem State.throughRestore_showsOn (s : State) (busy : Bool) : ShowsOn s (s.throughRestore busy) := by
  have htrain : ShowsOn s (if s.flag SVC_SIDEBAND_PERST_N then s.cxlTrain else s) :=
    .ite (State.cxlTrain_keeps (Parts.le_refl _) (keeps_refl s)).showsOn (.refl s)
  exact htrain.trans ((State.mailboxBusy_keeps (Parts.le_refl _) (keeps_refl _) busy).showsOn.trans
    ((State.setRstStep_showsOn _ 8).trans (State.restore_showsOn _)))

/-! ### The queues and functions at READY (R241, R478, R506) -/

theorem State.flrEnd_showsOn (s : State) (c : Nat) : ShowsOn s (s.flrEnd c) := by
  unfold State.flrEnd
  extract_lets qs s1 s2 s3 s4
  have h1 : ShowsOn s s1 := .foldl (fun s (f : Flight) => (s.countUnits_showsOn f).trans
    (State.freeEntry_keeps (Parts.le_refl _) (keeps_refl _) _ _).showsOn) _ s
  have hT := Parts.le_refl ([.flights, .queues, .link, .reg .QUE_CFG, .reg .QUE_CTL, .reg .QUE_STAT, .reg .VF_FAULT0] :
    List Part)
  have h3 : Keeps _ s1 s3 := keeps_foldl _ (State.flights_keeps (Parts.within hT) (keeps_refl s1) _) fun _ _ hs =>
    State.setFs_keeps_regs [.QUE_CFG, .QUE_CTL, .QUE_STAT] (Parts.within hT)
      (State.setQueue_keeps (Parts.within hT) hs _ _)
  have h4 : Keeps _ s1 s4 := keeps_foldl _ h3 fun _ _ hs => State.link_keeps (Parts.within hT) hs _ (by rfl)
  exact h1.trans (State.setF_keeps_reg .VF_FAULT0 (Parts.within hT) h4 0).showsOn

theorem State.vwrite_showsOn (s : State) (c va : Nat) (bs : List Byte) : ShowsOn s (s.vwrite c va bs) :=
  (State.vwrite_keeps (Parts.le_refl _) (keeps_refl s) c va bs).showsOn

theorem State.applyWrites_showsOn (s : State) (c : Nat) (ws : Writes) : ShowsOn s (s.applyWrites c ws) := by
  unfold State.applyWrites
  refine .foldl (fun s w => ?_) ws s
  exact (s.vwrite_showsOn c w.1 w.2).trans (State.count_showsOn ..)

theorem State.writeBitmap_showsOn (s : State) (f : Flight) : ShowsOn s (s.writeBitmap f).2 := by
  unfold State.writeBitmap
  split
  · exact .refl s
  · extract_lets c need len next at' bytes s1
    split
    · exact .refl s
    · exact (State.arena_keeps (Parts.le_refl _) (keeps_refl s) _).showsOn.trans (s1.applyWrites_showsOn c _)

theorem State.recoverRecord_showsOn (s : State) (f : Flight) (st : Status) : ShowsOn s (s.recoverRecord f st) :=
  (s.writeBitmap_showsOn f).trans ((State.fresh_showsOn _).trans ((State.applyWrites_showsOn ..).trans
    ((State.setF_keeps_reg .QUE_STAT (Parts.le_refl _) (keeps_refl _) _).showsOn.trans (State.countAll_showsOn ..))))

theorem State.syncAdd_showsOn (s : State) (n inc sub c q : Nat) : ShowsOn s (s.syncAdd n inc sub c q) := by
  have hset : ShowsOn s (s.setF (SYNC_VALUE n) (s.sync n + inc)) :=
    (State.setF_keeps_reg .SYNC (Parts.le_refl _) (keeps_refl s) _).showsOn
  exact .ite (.refl s) (.ite (hset.trans ((State.traceRec_showsOn ..).trans (State.trigger_showsOn ..)))
    (hset.trans (State.traceRec_showsOn ..)))

theorem State.haltQueue_showsOn (s : State) (q : Nat) : ShowsOn s (s.haltQueue q) := by
  have hadd : ShowsOn s (if s.syncIn (s.ctxOf q) (s.getF (QUE_CFG_FAULT_SYNC q)) then
      s.syncAdd (s.getF (QUE_CFG_FAULT_SYNC q)) 1 0 (s.ctxOf q) q else s) := .ite (s.syncAdd_showsOn ..) (.refl s)
  have hT := Parts.le_refl ([.reg .QUE_CTL, .reg .QUE_STAT] : List Part)
  exact hadd.trans (State.setQState_keeps (Parts.within hT)
    (State.setF_keeps_reg .QUE_CTL (Parts.within hT) (keeps_refl _) 1) q qHalted).showsOn

theorem State.recoverQueue_showsOn (s : State) (timedOut : List (Nat × Nat)) (q : Nat) :
    ShowsOn s (s.recoverQueue timedOut q) := by
  unfold State.recoverQueue
  refine .ite ?_ (.refl s)
  extract_lets src s1
  have h1 : ShowsOn s s1 := (State.setQueue_keeps (Parts.le_refl _) (keeps_refl s) _ _).showsOn
  split
  · exact h1.trans ((State.recoverRecord_showsOn ..).trans ((State.haltQueue_showsOn _ q).trans
      (State.queueIrq_keeps (Parts.le_refl _) (keeps_refl _) q).showsOn))
  · have hT := Parts.le_refl ([.reg .QUE_CTL, .reg .QUE_STAT] : List Part)
    exact h1.trans (State.setQState_keeps (Parts.within hT)
      (State.setF_keeps_reg .QUE_CTL (Parts.within hT) (keeps_refl s1) 1) q qHalted).showsOn

/-! ### The decision step that runs again (R241) -/

theorem State.govRead_showsOn (s : State) (c a len : Nat) : ShowsOn s (s.govRead c a len).2 :=
  (State.govRead_keeps (Parts.le_refl _) (keeps_refl s) c a len).showsOn

theorem State.logRing_showsOn (s : State) (c q : Nat) (rec' : List Byte) : ShowsOn s (s.logRing c q rec') :=
  (State.ring_keeps (Parts.le_refl _) (keeps_refl s) c rec').showsOn.trans (State.traceRec_showsOn ..)

theorem State.decideEntry_showsOn (s : State) (c w i : Nat) (t : GovTally) (e : FtEntry) :
    ShowsOn s (s.decideEntry c w i t e).1 := by
  unfold State.decideEntry
  extract_lets adv ra e1
  split
  rename_i ok u hu
  have h1 : ShowsOn s u := by
    have hread := s.govRead_showsOn c ra 384
    rwa [hu] at hread
  split
  · exact h1
  · refine h1.trans (ShowsOn.trans ?_ (State.vwrite_showsOn ..))
    exact .ite (State.vwrite_showsOn ..) ((State.vwrite_showsOn ..).trans (State.logRing_showsOn ..))

theorem State.processEntry_showsOn (s : State) (c w i : Nat) (t : GovTally) :
    ShowsOn s (s.processEntry c w i t).1 := by
  unfold State.processEntry
  extract_lets a
  split
  rename_i ok u hu
  have h1 : ShowsOn s u := by
    have hread := s.govRead_showsOn c a 32
    rwa [hu] at hread
  split
  · exact h1
  · extract_lets e len la named
    split
    · exact h1
    · split
      rename_i ok v hv
      have h2 : ShowsOn s v := by
        have hread := (State.govReadIf_keeps (Parts.le_refl _) (keeps_refl u) named c la 32).showsOn
        rw [hv] at hread
        exact h1.trans hread
      split
      · exact h2
      · extract_lets lead
        split
        · exact h2.trans (State.vwrite_showsOn ..)
        · exact h2.trans (State.decideEntry_showsOn ..)

theorem State.decideWindow_showsOn (s : State) (c w : Nat) (t : GovTally) : ShowsOn s (s.decideWindow c w t) := by
  have hfold : ShowsOn s ((List.range (s.getF (CTX_TAB_LEN c 3))).foldl (fun s i => s.foldRecord c w i) s) :=
    .foldl (fun s i => (State.foldRecord_keeps (Parts.le_refl _) (keeps_refl s) c w i).showsOn) _ s
  exact hfold.trans ((ShowsOn.foldl_fst (fun (p : State × GovTally) (i : Nat) =>
    p.1.processEntry_showsOn c w i p.2) _ (_, t)).trans
    (State.setF_keeps_reg .CTX_GOVSTAT (Parts.le_refl _) (keeps_refl _) _).showsOn)

theorem State.rerunDecision_showsOn (s : State) : ShowsOn s s.rerunDecision := by
  unfold State.rerunDecision
  split
  · exact .refl s
  · exact (State.setF_keeps_reg .CTX_GOVSTAT (Parts.le_refl _) (keeps_refl s) 1).showsOn.trans
      (State.decideWindow_showsOn ..)

end Sys2Proof.Machine

/-! What a recovery that a cause starts comes to: the record of the cause, the port that holds it, and its three ends
(R241, R463–R467, R478, R481, R482). -/

namespace Sys2Proof.Machine

open Sys2Proof

variable {s t u : State}

/-! ### The record of a cause (R465, R466, R483) -/

/-- Each of several fields that are set once shows its value. -/
theorem State.getF_setFs_of_mem {l : List (Fld × Nat)} (hl : (l.map fun p => p.1.key).Nodup) {f : Fld} {v : Nat}
    (h : (f, v) ∈ l) (s : State) : (s.setFs l).getF f = v % 2 ^ f.width := by
  induction l generalizing s with
  | nil => cases h
  | cons p l ih =>
    obtain ⟨hp, hl⟩ := List.nodup_cons.1 hl
    rw [State.setFs_cons]
    rcases List.mem_cons.1 h with rfl | hmem
    · refine List.foldlRecOn l _ (motive := fun t : State => t.getF f = v % 2 ^ f.width) (s.getF_setF f v)
        fun t ht g hg => ?_
      exact (t.getF_setF_ne g.2 fun e => hp (List.mem_map.2 ⟨g, hg, e.symm⟩)).trans ht
    · exact ih hl hmem _

/-- The fields of a record. -/
def faultFlds : List Fld :=
  [RST_FAULT0_VALID, RST_FAULT0_OVER, RST_FAULT0_RECOV, RST_FAULT0_CAUSE, RST_FAULT0_CTX, RST_FAULT0_QUEUE,
    RST_FAULT0_ENGINE, RST_FAULT0_CTXV, RST_FAULT1_CMD, RST_FAULT2_TILE, RST_FAULT2_INST, RST_FAULT2_BAY,
    RST_FAULT2_INSTV, RST_FAULT2_PORTREQ, RST_FAULT2_STUCK, RST_FAULT2_PORTBAY, RST_FAULT3_REMOTE, RST_FAULT3_RANK,
    RST_FAULT3_ADDR]

theorem FaultRec.fields_flds (r : FaultRec) (over' : Bool) : (r.fields over').map Prod.fst = faultFlds := rfl

theorem FaultRec.nodup_fields (r : FaultRec) (over' : Bool) : ((r.fields over').map fun p => p.1.key).Nodup := by
  have hkeys : ((r.fields over').map fun p => p.1.key) = faultFlds.map Fld.key := by
    rw [← r.fields_flds over', List.map_map]
    rfl
  rw [hkeys]
  decide

/-- The registers of the record. -/
def faultRegs : List Reg := [.RST_FAULT0, .RST_FAULT1, .RST_FAULT2, .RST_FAULT3]

theorem FaultRec.reg_fields {r : FaultRec} {over' : Bool} {f : Fld} {v : Nat} (h : (f, v) ∈ r.fields over') :
    f.reg ∈ faultRegs := by
  have hregs : ∀ f ∈ faultFlds, f.reg ∈ faultRegs := by decide
  exact hregs f (r.fields_flds over' ▸ List.mem_map_of_mem (f := Prod.fst) h)

/-- What reaches no register of the record leaves its fields. -/
theorem Keeps.getF_record {T : Nat} (h : Keeps T s t) {f : Fld} (hf : f.reg ∈ faultRegs)
    (hT : (faultRegs.all fun r => !T.testBit (Part.num (.reg r))) = true := by decide) : t.getF f = s.getF f :=
  h.getF (by simpa using List.all_eq_true.1 hT f.reg hf)

/-- What a fault does after its record is written: interrupts, the VF's copy, and the trace. -/
def noteFaultParts : List Part :=
  triggerParts ++ irqParts ++ [.reg .VF_FAULT0, .reg .VF_FAULT1, .reg .VF_FAULT2, .reg .VF_FAULT3]

/-- A recovery cause is written over a record that is held; the alert and the rest follow, and the trace freezes. -/
theorem State.fault_of_recovery (s : State) {r : FaultRec} (hr : r.recovery = true) : ∃ u : State,
    Keeps (Parts.of noteFaultParts) ((s.setFs (r.fields (s.flag RST_FAULT0_VALID))).alert SVC_ALERT_FAULT) u
    ∧ s.fault r = u.setF OBS_TRSTAT_FROZEN 1 := by
  have hT := Parts.le_refl noteFaultParts
  unfold State.fault
  extract_lets held s1 s2 s3 armed s4
  have hrecord : s1 = s.setFs (r.fields (s.flag RST_FAULT0_VALID)) := by simp [s1, held, hr]
  rw [← hrecord, if_neg (by simp [hr])]
  have h2 : Keeps (Parts.of noteFaultParts) (s1.alert SVC_ALERT_FAULT) s2 :=
    State.irq_keeps (Parts.within hT) (keeps_refl _) ..
  have h3 : Keeps (Parts.of noteFaultParts) (s1.alert SVC_ALERT_FAULT) s3 := by
    unfold s3
    split
    · exact State.vfCopy_keeps (Parts.within hT) h2 _
    · exact h2
  exact ⟨s4, ite_keeps (State.trigger_keeps (Parts.within hT) h3 ..)
    (State.traceRec_keeps (Parts.within hT) h3 ..), rfl⟩

theorem State.getF_fault_of_recovery (s : State) {r : FaultRec} (hr : r.recovery = true) {f : Fld} {v : Nat}
    (h : (f, v) ∈ r.fields (s.flag RST_FAULT0_VALID)) : (s.fault r).getF f = v % 2 ^ f.width := by
  obtain ⟨u, hk, heq⟩ := s.fault_of_recovery hr
  have hf := FaultRec.reg_fields h
  have hset := State.setF_keeps_reg (s := u) (f := OBS_TRSTAT_FROZEN) .OBS_TRSTAT (Parts.le_refl _) (keeps_refl u) 1
  have halert := State.alert_keeps (f := SVC_ALERT_FAULT) (Parts.le_refl _)
    (keeps_refl (s.setFs (r.fields (s.flag RST_FAULT0_VALID))))
  calc (s.fault r).getF f
    _ = (u.setF OBS_TRSTAT_FROZEN 1).getF f := by rw [heq]
    _ = u.getF f := hset.getF_record hf
    _ = _ := hk.getF_record hf
    _ = (s.setFs (r.fields (s.flag RST_FAULT0_VALID))).getF f := halert.getF_record hf
    _ = v % 2 ^ f.width := State.getF_setFs_of_mem (r.nodup_fields _) h s

theorem State.fault_of_recovery_shown (s : State) {r : FaultRec} (hr : r.recovery = true) : (s.fault r).faultShown := by
  have hvalid : (s.fault r).getF RST_FAULT0_VALID = 1 :=
    s.getF_fault_of_recovery hr (v := 1) (by simp [FaultRec.fields])
  obtain ⟨u, hk, heq⟩ := s.fault_of_recovery hr
  rw [heq] at hvalid ⊢
  have hrecorded : (s.setFs (r.fields (s.flag RST_FAULT0_VALID))).getF RST_FAULT0_VALID = 1 :=
    State.getF_setFs_of_mem (v := 1) (r.nodup_fields _) (by simp [FaultRec.fields]) s
  have hpins := State.syncPins_keeps_self ((s.setFs (r.fields (s.flag RST_FAULT0_VALID))).setF SVC_ALERT_FAULT 1)
  refine ⟨hvalid, ?_, ?_, State.getF_setF ..⟩
  · exact (State.getF_setF_num _ _ rfl).trans ((hk.getF (by decide)).trans
      ((hpins.getF (by decide)).trans (State.getF_setF ..)))
  · exact (congrArg (bitOf · outFault) (State.getF_setF_num _ _ rfl)).trans ((hk.outOn (by decide) _).trans
      (State.outOn_syncPins_fault_of_valid ((State.getF_setF_num _ _ rfl).trans hrecorded)))

/-! ### Step 1 (R463, R465–R467) -/

/-- Step 1 of a recovery: the record and its time, and the module is no longer READY. -/
def State.causeNoted (s : State) (r : RecRt) (x : FaultRec) : State :=
  (State.leaveReady { ((s.cancelEntry.fault x).setF RST_TIME_NS s.now) with recov := some r }).setRstStep 1

theorem State.startRecovery_eq (s : State) (r : RecRt) (x : FaultRec) :
    s.startRecovery r x = (s.causeNoted r x).recoverGo r := rfl

theorem State.leaveReady_keeps_self (s : State) : Keeps (Parts.of [.flue, .ports, .reg .SVC_SIDEBAND]) s s.leaveReady :=
  State.leaveReady_keeps (Parts.le_refl _) (keeps_refl s)

theorem State.outOn_leaveReady (s : State) {k : Nat} (hk : k < 7) :
    s.leaveReady.outOn k = if k = outReady then false else s.outOn k := by
  have hflood := State.floodEndpoint_keeps (Parts.le_refl _) (keeps_refl (s.setOut outReady false)) false
  exact (hflood.outOn (by decide) k).trans (State.outOn_setOut _ _ _ hk)

theorem State.leaveReady_faultShown (h : s.faultShown) : s.leaveReady.faultShown := by
  obtain ⟨hvalid, halert, hout, hfrozen⟩ := h
  have hk := s.leaveReady_keeps_self
  exact ⟨(hk.getF (by decide)).trans hvalid, (hk.getF (by decide)).trans halert,
    (s.outOn_leaveReady (by decide)).trans hout, (hk.getF (by decide)).trans hfrozen⟩

theorem State.getF_setRstStep_COUNT (s : State) (v : Nat) :
    (s.setRstStep v).getF RST_STAT_COUNT = s.getF RST_STAT_COUNT :=
  ((s.setRstStep_keeps_setF v).getF (by decide)).trans (State.getF_setF_lo _ _ rfl)

/-- The parts that step 1 may change, `COUNT` of `RST_STAT` aside. -/
def causeNotedParts : List Part :=
  noteFaultParts ++ [.flue, .ports, .recov, .reg .SVC_SIDEBAND, .reg .SVC_ALERT, .reg .PWR_STAT, .reg .RST_STAT,
    .reg .RST_TIME, .reg .RST_FAULT0, .reg .RST_FAULT1, .reg .RST_FAULT2, .reg .RST_FAULT3]

theorem State.causeNoted_keeps (s : State) (r : RecRt) (x : FaultRec) :
    Keeps (Parts.of causeNotedParts) s (s.causeNoted r x) := by
  have hT := Parts.le_refl causeNotedParts
  exact State.setRstStep_keeps (Parts.within hT) (State.leaveReady_keeps (Parts.within hT)
    (State.recov_keeps (Parts.within hT) (State.setF_keeps_reg .RST_TIME (Parts.within hT)
    (State.fault_keeps (Parts.within hT) (State.cancelEntry_keeps (Parts.within hT) (keeps_refl s)) _) _) _)) 1

/-- The state as the fault is recorded, with the time and the recovery. -/
def State.causeRecorded (s : State) (r : RecRt) (x : FaultRec) : State :=
  { ((s.cancelEntry.fault x).setF RST_TIME_NS s.now) with recov := some r }

theorem State.causeNoted_eq (s : State) (r : RecRt) (x : FaultRec) :
    s.causeNoted r x = (s.causeRecorded r x).leaveReady.setRstStep 1 := rfl

theorem State.causeRecorded_keeps_fault (s : State) (r : RecRt) (x : FaultRec) :
    Keeps (Parts.of [.reg .RST_TIME, .recov]) (s.cancelEntry.fault x) (s.causeRecorded r x) :=
  State.recov_keeps (Parts.within (Parts.le_refl _))
    (State.setF_keeps_reg .RST_TIME (Parts.within (Parts.le_refl _)) (keeps_refl _) _) _

/-- A cancelled entry touches no fault record. -/
theorem State.cancelEntry_keeps_self (s : State) :
    Keeps (Parts.of (traceParts ++ alertParts ++ irqParts ++ [.reg .PWR_STAT])) s s.cancelEntry :=
  State.cancelEntry_keeps (Parts.le_refl _) (keeps_refl s)

/-- From the record to the end of step 1 nothing else is written than the trace, `STEP` and READY_OD. -/
theorem State.causeNoted_keeps_recorded (s : State) (r : RecRt) (x : FaultRec) :
    Keeps (Parts.of (traceParts ++ [.flue, .ports, .reg .SVC_SIDEBAND, .reg .RST_STAT])) (s.causeRecorded r x)
      (s.causeNoted r x) :=
  State.setRstStep_keeps (Parts.within (Parts.le_refl _)) (State.leaveReady_keeps (Parts.within (Parts.le_refl _))
    (keeps_refl _)) 1

section
variable (r : RecRt) {x : FaultRec} (hx : x.recovery = true)
include hx

theorem State.getF_causeNoted_record {f : Fld} {v : Nat} (h : (f, v) ∈ x.fields (s.flag RST_FAULT0_VALID)) :
    (s.causeNoted r x).getF f = v % 2 ^ f.width := by
  have hvalid : s.cancelEntry.flag RST_FAULT0_VALID = s.flag RST_FAULT0_VALID :=
    congrArg (· != 0) (s.cancelEntry_keeps_self.getF (by decide))
  rw [← hvalid] at h
  have hf := FaultRec.reg_fields h
  exact ((s.causeNoted_keeps_recorded r x).getF_record hf).trans
    (((s.causeRecorded_keeps_fault r x).getF_record hf).trans (s.cancelEntry.getF_fault_of_recovery hx h))

theorem State.causeNoted_faultShown : (s.causeNoted r x).faultShown :=
  (State.setRstStep_showsOn _ 1).1 (State.leaveReady_faultShown
    ((s.causeRecorded_keeps_fault r x).showsOn.1 (s.cancelEntry.fault_of_recovery_shown hx)))

theorem State.getF_causeNoted_COUNT : (s.causeNoted r x).getF RST_STAT_COUNT = s.getF RST_STAT_COUNT := by
  obtain ⟨u, hk, heq⟩ := s.cancelEntry.fault_of_recovery hx
  have halert := State.alert_keeps (f := SVC_ALERT_FAULT) (Parts.le_refl _)
    (keeps_refl (s.cancelEntry.setFs (x.fields (s.cancelEntry.flag RST_FAULT0_VALID))))
  have hfault : (s.cancelEntry.fault x).getF RST_STAT_COUNT = s.cancelEntry.getF RST_STAT_COUNT :=
    calc (s.cancelEntry.fault x).getF RST_STAT_COUNT
      _ = u.getF RST_STAT_COUNT := by rw [heq]; exact State.getF_setF_num _ _ rfl
      _ = _ := hk.getF (by decide)
      _ = _ := halert.getF (by decide)
      _ = s.cancelEntry.getF RST_STAT_COUNT := State.getF_setFs_ne _
  rw [State.causeNoted_eq, State.getF_setRstStep_COUNT, (State.leaveReady_keeps_self _).getF (by decide),
    (s.causeRecorded_keeps_fault r x).getF (by decide), hfault, s.cancelEntry_keeps_self.getF (by decide)]

end

theorem State.causeNoted_leaves_ready (s : State) (r : RecRt) (x : FaultRec) :
    (s.causeNoted r x).getF RST_TIME_NS = s.now % 2 ^ 64 ∧ (s.causeNoted r x).outOn outReady = false
    ∧ (s.causeNoted r x).flue.accepting = false ∧ (s.causeNoted r x).recov = some r := by
  have hk := s.causeNoted_keeps_recorded r x
  have hstep := (s.causeRecorded r x).leaveReady.setRstStep_keeps_self 1
  refine ⟨(hk.getF (by decide)).trans (State.getF_setF _ RST_TIME_NS s.now), ?_, hstep.accepting (by decide),
    hk.same .recov (by decide)⟩
  exact (hstep.outOn (by decide) outReady).trans (State.outOn_leaveReady _ (by decide))

/-! ### A held port (R463) -/

theorem Keeps.stuckPort {T : Nat} (h : Keeps T s t) (hT : T.testBit (Part.num .stackPorts) = false) :
    t.stuckPort = s.stuckPort := by
  have hport : t.stackPort = s.stackPort := funext (h.stackPort hT)
  simp only [State.stuckPort, hport]

theorem State.recoverGo_held (h : s.stuckPort.isSome = true) (r : RecRt) : s.recoverGo r = s.setRstStep 2 :=
  if_pos (by rw [(s.setRstStep_keeps_self 2).stuckPort (by decide), h])

theorem State.recoverGo_free (h : s.stuckPort = none) (r : RecRt) :
    s.recoverGo r = ((s.setRstStep 2).quiesce 0 0).afterQuiesce r :=
  if_neg (by rw [(s.setRstStep_keeps_self 2).stuckPort (by decide), h]; decide)

/-! ### `COUNT` (R467) -/

section
variable {r : RecRt} (hr : r.warm = false)
include hr

/-- Steps 3 to 5 count the recovery. -/
theorem State.getF_throughReset_COUNT :
    (s.throughReset r).getF RST_STAT_COUNT = (s.getF RST_STAT_COUNT + 1) % 2 ^ 16 := by
  have hcapture : (s.setRstStep 3).capture.getF RST_STAT_COUNT = s.getF RST_STAT_COUNT :=
    ((State.capture_keeps (Parts.le_refl _) (keeps_refl _)).getF (by decide)).trans (s.getF_setRstStep_COUNT 3)
  rw [State.throughReset, hr, if_neg Bool.false_ne_true, (State.resetMain_keeps (Parts.le_refl _) (keeps_refl _)).getF
    (by decide), State.getF_setRstStep_COUNT, State.incF, State.getF_setF, hcapture]
  rfl

end

theorem State.getF_recoveryFails_COUNT (s : State) (step : Nat) :
    (s.recoveryFails step).getF RST_STAT_COUNT = s.getF RST_STAT_COUNT :=
  ((s.setRstStep step).latchFail_keeps_self.getF (by decide)).trans (s.getF_setRstStep_COUNT step)

theorem State.getF_throughRestore_COUNT (s : State) (busy : Bool) :
    (s.throughRestore busy).getF RST_STAT_COUNT = s.getF RST_STAT_COUNT := by
  have hT := Parts.le_refl (irqParts ++ [.free, .reg .CXL_LINK, .reg .STK_MBSTAT])
  have hbusy := State.mailboxBusy_keeps (Parts.within hT) (ite_keeps (c := s.flag SVC_SIDEBAND_PERST_N = true)
    (State.cxlTrain_keeps (Parts.within hT) (keeps_refl s)) (keeps_refl s)) busy
  exact ((State.restore_keeps (Parts.le_refl _) (keeps_refl _)).getF (by decide)).trans
    ((State.getF_setRstStep_COUNT _ 8).trans (hbusy.getF (by decide)))

theorem State.getF_reload_COUNT (h : s.reload = some t) : t.getF RST_STAT_COUNT = s.getF RST_STAT_COUNT := by
  unfold State.reload at h
  extract_lets slot fw sv nvFw nvSv at h
  split at h
  · cases h
    exact State.getF_setF_lo _ _ rfl
  · cases h

/-! ### READY after a recovery (R241, R478) -/

/-- Pending resets of functions complete, and every enabled queue halts. -/
def State.queuesRecovered (s : State) (r : RecRt) : State :=
  (List.range 64).foldl (fun s q => s.recoverQueue r.timedOut q) (r.flrPending.foldl State.flrEnd s)

/-- READY, with nothing in flight and no recovery. -/
def State.readied (s : State) : State :=
  ((State.setFs { s with flights := [], recov := none } [(RST_CTL_RECOVER, 0)]).setRstStep 0).enterReady

/-- The event-log record, the interrupted decision step and the interrupt. -/
def State.announced (s : State) : State := s.logRecovery.rerunDecision.irq 0 65

theorem State.readyAfter_eq (s : State) (r : RecRt) : s.readyAfter r = (s.queuesRecovered r).readied.announced := rfl

theorem State.queuesRecovered_keeps (s : State) (r : RecRt) : Keeps (Parts.of (triggerParts ++ irqParts ++ ([.arena,
    .coll, .flights, .free, .hostMem, .link, .queues, .reg .FLU_RED, .reg .OBS_CNT, .reg .QUE_CFG, .reg .QUE_CTL,
    .reg .QUE_STAT, .reg .SYNC, .reg .VF_FAULT0] : List Part))) s (s.queuesRecovered r) := by
  have hT := Parts.le_refl (triggerParts ++ irqParts ++ ([.arena,
    .coll, .flights, .free, .hostMem, .link, .queues, .reg .FLU_RED, .reg .OBS_CNT, .reg .QUE_CFG, .reg .QUE_CTL,
    .reg .QUE_STAT, .reg .SYNC, .reg .VF_FAULT0] : List Part))
  exact keeps_foldl _ (keeps_foldl _ (keeps_refl s) fun _ _ hs => State.flrEnd_keeps (Parts.within hT) hs _)
    fun _ _ hs => State.recoverQueue_keeps (Parts.within hT) hs _ _

/-- What READY may change beside the queues. -/
def readiedParts : List Part :=
  traceParts ++ [.flights, .recov, .flue, .ports, .reg .RST_CTL, .reg .RST_STAT, .reg .SVC_SIDEBAND]

theorem State.readied_keeps (s : State) : Keeps (Parts.of readiedParts) s s.readied := by
  have hT := Parts.le_refl readiedParts
  exact State.enterReady_keeps (Parts.within hT) (State.setRstStep_keeps (Parts.within hT)
    (State.setFs_keeps_regs [.RST_CTL] (Parts.within hT) (State.recov_keeps (Parts.within hT)
    (State.flights_keeps (Parts.within hT) (keeps_refl s) []) none)) 0)

/-- What the announcement may change. -/
def announcedParts : List Part :=
  traceParts ++ ringParts ++ lineErrorParts ++ irqParts ++ logParts ++ [.hostMem, .reg .CTX_GOVSTAT]

theorem State.announced_keeps (s : State) : Keeps (Parts.of announcedParts) s s.announced := by
  have hT := Parts.le_refl announcedParts
  exact State.irq_keeps (Parts.within hT) (State.rerunDecision_keeps (Parts.within hT)
    (State.logRecovery_keeps (Parts.within hT) (keeps_refl s))) 0 65

theorem State.accepting_enterReady (s : State) : s.enterReady.flue.accepting = true := by
  rw [State.enterReady, State.floodEndpoint, State.flue_flood]
  rfl

theorem State.accepting_readyAfter (s : State) (r : RecRt) : (s.readyAfter r).flue.accepting = true := by
  rw [State.readyAfter_eq]
  exact ((State.announced_keeps _).accepting (by decide)).trans (State.accepting_enterReady _)

theorem State.getF_readied_COUNT (s : State) : s.readied.getF RST_STAT_COUNT = s.getF RST_STAT_COUNT :=
  ((State.enterReady_keeps_self _).getF (by decide)).trans ((State.getF_setRstStep_COUNT _ 0).trans
    (State.getF_setF_num { s with flights := [], recov := none } 0 rfl))

theorem State.getF_readyAfter_COUNT (s : State) (r : RecRt) :
    (s.readyAfter r).getF RST_STAT_COUNT = s.getF RST_STAT_COUNT := by
  rw [State.readyAfter_eq, (State.announced_keeps _).getF (by decide), State.getF_readied_COUNT,
    (s.queuesRecovered_keeps r).getF (by decide)]

theorem State.enterReady_faultShown (h : s.faultShown) : s.enterReady.faultShown := by
  have hflue : State.faultShown { s with flue := { s.flue with accepting := true } } := h
  exact (State.floodEndpoint_keeps (Parts.le_refl _) (keeps_refl _) true).showsOn.1 (hflue.setOut (by decide) true)

theorem State.readied_faultShown (h : s.faultShown) : s.readied.faultShown := by
  have hclear : State.faultShown (State.setFs { s with flights := [], recov := none } [(RST_CTL_RECOVER, 0)]) :=
    (State.setF_keeps_reg (s := { s with flights := [], recov := none }) .RST_CTL (Parts.le_refl _) (keeps_refl _)
      0).showsOn.1 h
  exact State.enterReady_faultShown ((State.setRstStep_showsOn _ 0).1 hclear)

theorem State.announced_showsOn (s : State) : ShowsOn s s.announced :=
  (State.logRecovery_keeps (Parts.le_refl _) (keeps_refl s)).showsOn.trans ((State.rerunDecision_showsOn _).trans
    (State.irq_keeps (Parts.le_refl _) (keeps_refl _) 0 65).showsOn)

theorem State.queuesRecovered_showsOn (s : State) (r : RecRt) : ShowsOn s (s.queuesRecovered r) :=
  (ShowsOn.foldl State.flrEnd_showsOn r.flrPending s).trans
    (.foldl (fun s q => s.recoverQueue_showsOn r.timedOut q) _ _)

theorem State.readyAfter_faultShown (h : s.faultShown) (r : RecRt) : (s.readyAfter r).faultShown := by
  rw [State.readyAfter_eq]
  exact (State.announced_showsOn _).1 (State.readied_faultShown ((s.queuesRecovered_showsOn r).1 h))

end Sys2Proof.Machine

/-! The queues after a recovery (R478, R506): those of a function under reset are disabled, and every other one
halts. -/

namespace Sys2Proof.Machine

open Sys2Proof

variable {s t u : State}

/-! ### The queues of a function under reset (R506) -/

/-- A reset of a function disables one of its queues. -/
def State.flrDisabled (s : State) (q : Nat) : State :=
  (s.setQueue q { s.queue q with mark := none }).setFs
    [(QUE_CFG_EN q, 0), (QUE_CTL_HALT q, 0), (QUE_STAT_STATE q, qDisabled)]

theorem State.getF_flrDisabled_EN (s : State) (q : Nat) : (s.flrDisabled q).getF (QUE_CFG_EN q) = 0 :=
  (State.getF_setF_num _ _ rfl).trans ((State.getF_setF_num _ _ rfl).trans
    ((s.setQueue q { s.queue q with mark := none }).getF_setF (QUE_CFG_EN q) 0))

/-- Of `QUE_CFG`, nothing but the queue's `EN` is written. -/
theorem State.getF_flrDisabled_ne (s : State) (q : Nat) {f : Fld} (hr : f.reg = .QUE_CFG)
    (hf : f.key ≠ (QUE_CFG_EN q).key) : (s.flrDisabled q).getF f = s.getF f := by
  have hrest (t : State) {g : Fld} (v : Nat) (hg : (Reg.QUE_CFG.num == g.reg.num) = false) :
      (t.setF g v).getF f = t.getF f := t.getF_setF_num v (hr ▸ hg)
  exact (hrest _ _ rfl).trans ((hrest _ _ rfl).trans
    ((s.setQueue q { s.queue q with mark := none }).getF_setF_ne 0 hf))

theorem QUE_CFG_EN_key_ne {q x : Nat} (hq : q < 64) (hx : x < 64) (h : q ≠ x) :
    (QUE_CFG_EN q).key ≠ (QUE_CFG_EN x).key :=
  Fld.key_ne_of_i (by simp only [QUE_CFG_EN]; omega)

theorem State.flag_flrDisabled_EN (s : State) {q x : Nat} (hq : q < 64) (hx : x < 64) :
    (s.flrDisabled x).flag (QUE_CFG_EN q) = (s.flag (QUE_CFG_EN q) && q != x) := by
  by_cases h : q = x
  · subst h
    rw [State.flag, State.getF_flrDisabled_EN]
    simp
  · rw [State.flag, State.getF_flrDisabled_ne s x rfl (QUE_CFG_EN_key_ne hq hx h), bne_iff_ne.2 h, Bool.and_true]
    rfl

theorem State.flag_foldl_flrDisabled_EN {q : Nat} (hq : q < 64) (qs : List Nat) (hqs : ∀ x ∈ qs, x < 64) (s : State) :
    (qs.foldl State.flrDisabled s).flag (QUE_CFG_EN q) = (s.flag (QUE_CFG_EN q) && !qs.contains q) := by
  induction qs generalizing s with
  | nil => simp
  | cons x qs ih =>
    rw [List.foldl_cons, ih (fun y hy => hqs y (List.mem_cons_of_mem x hy)),
      s.flag_flrDisabled_EN hq (hqs x List.mem_cons_self), List.contains_cons, Bool.not_or, Bool.and_assoc]
    rfl

/-- The queues of a context, in ascending order. -/
def State.queuesOf (s : State) (c : Nat) : List Nat := (List.range 64).filter fun q => s.ctxOf q == c

theorem State.contains_queuesOf (s : State) (c : Nat) {q : Nat} (hq : q < 64) :
    (s.queuesOf c).contains q = (s.ctxOf q == c) := by
  rw [Bool.eq_iff_iff, List.contains_iff_mem, State.queuesOf, List.mem_filter, List.mem_range]
  exact and_iff_right hq

/-- A reset of a function writes `QUE_CFG` where it disables the queues. -/
theorem State.flrEnd_disables (s : State) (c : Nat) : ∃ u : State,
    (∀ f : Fld, f.reg = .QUE_CFG → u.getF f = s.getF f)
    ∧ ∀ f : Fld, f.reg = .QUE_CFG → (s.flrEnd c).getF f = ((s.queuesOf c).foldl State.flrDisabled u).getF f := by
  unfold State.flrEnd
  extract_lets qs s1 s2 s3 s4
  have h2 : Keeps (Parts.of (triggerParts ++ ([.coll, .flights, .reg .FLU_RED, .reg .OBS_CNT] : List Part))) s s2 :=
    have hT := Parts.le_refl (triggerParts ++ ([.coll, .flights, .reg .FLU_RED, .reg .OBS_CNT] : List Part))
    State.flights_keeps (Parts.within hT) (keeps_foldl _ (keeps_refl s) fun _ _ hs => State.freeEntry_keeps
      (Parts.within hT) (State.countUnits_keeps (Parts.within hT) hs _) _ _) _
  have h4 : Keeps (Parts.of [.link, .reg .VF_FAULT0]) s3 (s4.setF (VF_FAULT0_VALID c) 0) :=
    have hT := Parts.le_refl ([.link, .reg .VF_FAULT0] : List Part)
    State.setF_keeps_reg .VF_FAULT0 (Parts.within hT) (keeps_foldl _ (keeps_refl s3) fun _ _ hs =>
      State.link_keeps (Parts.within hT) hs _ (by rfl)) 0
  exact ⟨s2, h2.same (.reg .QUE_CFG) (by decide), h4.same (.reg .QUE_CFG) (by decide)⟩

theorem State.flag_flrEnd_EN (s : State) (c : Nat) {q : Nat} (hq : q < 64) :
    (s.flrEnd c).flag (QUE_CFG_EN q) = (s.flag (QUE_CFG_EN q) && s.ctxOf q != c) := by
  obtain ⟨u, hu, hend⟩ := s.flrEnd_disables c
  have hbelow : ∀ x ∈ s.queuesOf c, x < 64 := fun x hx => List.mem_range.1 (List.mem_filter.1 hx).1
  have hfold := State.flag_foldl_flrDisabled_EN hq (s.queuesOf c) hbelow u
  rw [s.contains_queuesOf c hq] at hfold
  calc (s.flrEnd c).flag (QUE_CFG_EN q)
    _ = ((s.queuesOf c).foldl State.flrDisabled u).flag (QUE_CFG_EN q) := congrArg (· != 0) (hend _ rfl)
    _ = (u.flag (QUE_CFG_EN q) && s.ctxOf q != c) := hfold
    _ = (s.flag (QUE_CFG_EN q) && s.ctxOf q != c) := by rw [State.flag, hu _ rfl]; rfl

theorem State.ctxOf_flrEnd (s : State) (c q : Nat) : (s.flrEnd c).ctxOf q = s.ctxOf q := by
  obtain ⟨u, hu, hend⟩ := s.flrEnd_disables c
  have hkeep (s : State) (x : Nat) : (s.flrDisabled x).getF (QUE_CFG_CTX q) = s.getF (QUE_CFG_CTX q) :=
    s.getF_flrDisabled_ne x rfl (Fld.key_ne_of_lo (show 16 % 64 ≠ 31 % 64 by decide))
  exact (hend _ rfl).trans ((State.getF_foldl hkeep _ u).trans (hu _ rfl))

theorem State.flag_flrEnds_EN (cs : List Nat) (s : State) {q : Nat} (hq : q < 64) :
    (cs.foldl State.flrEnd s).flag (QUE_CFG_EN q) = (s.flag (QUE_CFG_EN q) && !cs.contains (s.ctxOf q)) := by
  induction cs generalizing s with
  | nil => simp
  | cons c cs ih =>
    rw [List.foldl_cons, ih, s.flag_flrEnd_EN c hq, s.ctxOf_flrEnd c q, List.contains_cons, Bool.not_or, Bool.and_assoc]
    rfl

/-! ### The queues that halt (R478) -/

/-- An enabled queue is halted. -/
def State.haltedIfEnabled (s : State) (q : Nat) : Prop :=
  s.flag (QUE_CFG_EN q) = true → s.getF (QUE_CTL_HALT q) = 1 ∧ s.getF (QUE_STAT_STATE q) = qHalted

/-- The fields that the end of a recovery reads of every queue. -/
def SameQueue (s t : State) (q : Nat) : Prop :=
  t.flag (QUE_CFG_EN q) = s.flag (QUE_CFG_EN q) ∧ t.getF (QUE_CTL_HALT q) = s.getF (QUE_CTL_HALT q)
    ∧ t.getF (QUE_STAT_STATE q) = s.getF (QUE_STAT_STATE q)

theorem SameQueue.trans {q : Nat} (h : SameQueue s t q) (g : SameQueue t u q) : SameQueue s u q := by
  obtain ⟨hen, hhalt, hstate⟩ := h
  obtain ⟨gen, ghalt, gstate⟩ := g
  exact ⟨gen.trans hen, ghalt.trans hhalt, gstate.trans hstate⟩

theorem Keeps.sameQueue {T : Nat} (h : Keeps T s t) (q : Nat)
    (hcfg : T.testBit (Part.num (.reg .QUE_CFG)) = false := by decide)
    (hctl : T.testBit (Part.num (.reg .QUE_CTL)) = false := by decide)
    (hstat : T.testBit (Part.num (.reg .QUE_STAT)) = false := by decide) : SameQueue s t q :=
  ⟨congrArg (· != 0) (h.getF (f := QUE_CFG_EN q) hcfg), h.getF (f := QUE_CTL_HALT q) hctl,
    h.getF (f := QUE_STAT_STATE q) hstat⟩

theorem SameQueue.haltedIfEnabled {q : Nat} (h : SameQueue s t q) (hs : s.haltedIfEnabled q) : t.haltedIfEnabled q := by
  obtain ⟨hen, hhalt, hstate⟩ := h
  intro he
  obtain ⟨hh, hst⟩ := hs (hen ▸ he)
  exact ⟨hhalt.trans hh, hstate.trans hst⟩

/-- The record of a command touches of its queue nothing but `LAST_STATUS`. -/
theorem State.recoverRecord_eq (s : State) (f : Flight) (st : Status) : ∃ (u : State) (c : Nat) (l : List (Nat × Nat)),
    Keeps (Parts.of (triggerParts ++ [.arena, .free, .hostMem, .reg .OBS_CNT])) s u
    ∧ s.recoverRecord f st = (u.setF (QUE_STAT_LAST_STATUS f.q) st.code).countAll c l := by
  have hT := Parts.le_refl (triggerParts ++ [.arena, .free, .hostMem, .reg .OBS_CNT])
  exact ⟨_, _, _, State.applyWrites_keeps (Parts.within hT) (State.fresh_keeps (Parts.within hT)
    (State.writeBitmap_keeps (Parts.within hT) (keeps_refl s) f)) _ _, rfl⟩

theorem State.recoverRecord_sameQueue (s : State) (f : Flight) (st : Status) (q : Nat) :
    SameQueue s (s.recoverRecord f st) q := by
  obtain ⟨u, c, l, hk, heq⟩ := s.recoverRecord_eq f st
  have hcount := State.countAll_keeps (Parts.le_refl _) (keeps_refl (u.setF (QUE_STAT_LAST_STATUS f.q) st.code)) c l
  have hset : SameQueue u (u.setF (QUE_STAT_LAST_STATUS f.q) st.code) q :=
    ⟨congrArg (· != 0) (State.getF_setF_num _ _ rfl), State.getF_setF_num _ _ rfl, State.getF_setF_lo _ _ rfl⟩
  rw [heq]
  exact (hk.sameQueue q).trans (hset.trans (hcount.sameQueue q))

/-- An enabled queue ends halted, by one write of `HALT` and one of the state. -/
theorem State.recoverQueue_halts (s : State) (timedOut : List (Nat × Nat)) {q : Nat}
    (he : s.flag (QUE_CFG_EN q) = true) : ∃ u : State, (∀ x, SameQueue s u x)
    ∧ ∀ f : Fld, (s.recoverQueue timedOut q).getF f = ((u.setF (QUE_CTL_HALT q) 1).setQState q qHalted).getF f := by
  unfold State.recoverQueue
  rw [if_pos he]
  extract_lets src s1
  have h1 (x : Nat) : SameQueue s s1 x := (State.setQueue_keeps (Parts.le_refl _) (keeps_refl s) _ _).sameQueue x
  split
  · next f _ =>
    obtain ⟨v, hv, heq⟩ :=
      (s1.recoverRecord f (if timedOut.contains (q, f.n) then .timeout else .abortedByRecovery)).haltQueue_eq q
    refine ⟨v, fun x => (h1 x).trans ((s1.recoverRecord_sameQueue f _ x).trans (hv.sameQueue x)), fun g => ?_⟩
    exact (State.getF_queueIrq _ q g).trans (by rw [heq])
  · exact ⟨s1, h1, fun f => rfl⟩

theorem State.recoverQueue_halted (s : State) (timedOut : List (Nat × Nat)) (q : Nat) :
    (s.recoverQueue timedOut q).haltedIfEnabled q := by
  cases he : s.flag (QUE_CFG_EN q) with
  | false =>
    have hsame : s.recoverQueue timedOut q = s := if_neg (by simp [he])
    rw [State.haltedIfEnabled, hsame, he]
    exact nofun
  | true =>
    obtain ⟨u, -, heq⟩ := s.recoverQueue_halts timedOut he
    exact fun _ => ⟨(heq _).trans ((State.getF_setF_num _ _ rfl).trans (u.getF_setF (QUE_CTL_HALT q) 1)),
      (heq _).trans (State.getF_setF _ (QUE_STAT_STATE q) qHalted)⟩

theorem State.recoverQueue_other (s : State) (timedOut : List (Nat × Nat)) {q x : Nat} (hq : q < 64) (hx : x < 64)
    (h : x ≠ q) : SameQueue s (s.recoverQueue timedOut q) x := by
  cases he : s.flag (QUE_CFG_EN q) with
  | false =>
    have hsame : s.recoverQueue timedOut q = s := if_neg (by simp [he])
    rw [hsame]
    exact ⟨rfl, rfl, rfl⟩
  | true =>
    obtain ⟨u, hu, heq⟩ := s.recoverQueue_halts timedOut he
    refine (hu x).trans ⟨?_, ?_, ?_⟩
    · exact congrArg (· != 0) ((heq _).trans ((State.getF_setF_num _ _ rfl).trans (State.getF_setF_num _ _ rfl)))
    · refine (heq _).trans ((State.getF_setF_num _ _ rfl).trans (State.getF_setF_ne _ _ (Fld.key_ne_of_i ?_)))
      simp only [QUE_CTL_HALT]
      omega
    · refine (heq _).trans ((State.getF_setF_ne _ _ (Fld.key_ne_of_i ?_)).trans (State.getF_setF_num _ _ rfl))
      simp only [QUE_STAT_STATE]
      omega

/-- What a turn of a loop establishes for its index, and no other turn undoes, holds for every index at its end. -/
theorem foldl_range_establishes {P : State → Nat → Prop} {F : State → Nat → State} {n : Nat}
    (hset : ∀ s i, P (F s i) i) (hkeep : ∀ s i j, i < n → j < n → j ≠ i → P s j → P (F s i) j) (s : State) {j : Nat}
    (hj : j < n) : P ((List.range n).foldl F s) j := by
  have hprefix : ∀ m, m ≤ n → ∀ j, j < m → P ((List.range m).foldl F s) j := by
    intro m
    induction m with
    | zero => intro _ j hj; omega
    | succ m ih =>
      intro hm j hj
      rw [List.range_succ, List.foldl_append, List.foldl_cons, List.foldl_nil]
      rcases Nat.lt_succ_iff_lt_or_eq.1 hj with hlt | rfl
      · exact hkeep _ m j (by omega) (by omega) (by omega) (ih (by omega) j hlt)
      · exact hset _ j
  exact hprefix n le_rfl j hj

/-! ### The queues at READY -/

/-- The queues of the contexts `flr` are disabled, and every queue still enabled is halted. -/
def QueuesHalted (s t : State) (flr : List Nat) : Prop :=
  ∀ q : Fin 64, t.flag (QUE_CFG_EN q) = (s.flag (QUE_CFG_EN q) && !flr.contains (s.ctxOf q)) ∧ t.haltedIfEnabled q

theorem State.queuesRecovered_halted (s : State) (r : RecRt) : QueuesHalted s (s.queuesRecovered r) r.flrPending := by
  intro q
  refine ⟨?_, foldl_range_establishes (P := State.haltedIfEnabled) (fun s i => s.recoverQueue_halted r.timedOut i)
    (fun s i j hi hj hne hs => (s.recoverQueue_other r.timedOut hi hj hne).haltedIfEnabled hs) _ q.isLt⟩
  have hT := Parts.le_refl (triggerParts ++ irqParts ++ ([.arena, .free, .hostMem, .queues, .reg .OBS_CNT,
    .reg .QUE_CTL, .reg .QUE_STAT, .reg .SYNC] : List Part))
  have hk : Keeps _ (r.flrPending.foldl State.flrEnd s) (s.queuesRecovered r) :=
    keeps_foldl _ (keeps_refl _) fun _ _ hs => State.recoverQueue_keeps hT hs r.timedOut _
  exact (congrArg (· != 0) (hk.same (.reg .QUE_CFG) (by decide) _ rfl)).trans
    (State.flag_flrEnds_EN r.flrPending s q.isLt)

theorem State.readyAfter_halted (s : State) (r : RecRt) : QueuesHalted s (s.readyAfter r) r.flrPending := by
  intro q
  obtain ⟨hen, hhalted⟩ := s.queuesRecovered_halted r q
  have hsame : SameQueue (s.queuesRecovered r) (s.readyAfter r) q := by
    rw [State.readyAfter_eq]
    exact ((State.readied_keeps _).sameQueue q).trans ((State.announced_keeps _).sameQueue q)
  exact ⟨hsame.1.trans hen, hsame.haltedIfEnabled hhalted⟩

/-- What leaves the configuration of the queues before a state leaves what is said of its queues. -/
theorem QueuesHalted.of_same {flr : List Nat} (h : QueuesHalted t u flr) (hsame : Part.same (.reg .QUE_CFG) s t) :
    QueuesHalted s u flr := by
  intro q
  obtain ⟨hen, hhalted⟩ := h q
  have hflag : t.flag (QUE_CFG_EN q) = s.flag (QUE_CFG_EN q) := congrArg (· != 0) (hsame _ rfl)
  have hctx : t.ctxOf q = s.ctxOf q := hsame _ rfl
  rw [hflag, hctx] at hen
  exact ⟨hen, hhalted⟩

end Sys2Proof.Machine

/-! A recovery cause acts (R464–R467, R481): its record, the port that holds it, and its three ends. -/

namespace Sys2Proof.Machine

open Sys2Proof

variable {s t u : State}

/-! ### The trip across the reset of the main logic (R408, R481) -/

theorem State.getF_resetMain_TRIP (s : State) : s.resetMain.getF DMP_STAT_TRIP = s.getF DMP_STAT_TRIP % 2 :=
  (State.getF_setF_lo _ _ rfl).trans (State.getF_setF ..)

theorem State.getF_throughReset_TRIP (s : State) (r : RecRt) :
    (s.throughReset r).getF DMP_STAT_TRIP = s.getF DMP_STAT_TRIP % 2 := by
  have hT := Parts.le_refl (traceParts ++ [.free, .reg .RST_STAT])
  have hcapture := State.capture_keeps (Parts.within hT) (State.setRstStep_keeps (Parts.within hT) (keeps_refl s) 3)
  have hstep := State.setRstStep_keeps (Parts.within hT) (ite_keeps (c := r.warm = true) hcapture
    (State.incF_keeps_reg (f := RST_STAT_COUNT) .RST_STAT (Parts.within hT) hcapture 1)) 5
  exact (State.getF_resetMain_TRIP _).trans (congrArg (· % 2) (hstep.getF (by decide)))

/-- The Damper starts with `FALLBACK`, and leaves the trip as it is. -/
theorem State.getF_damperStart_TRIP (s : State) : s.damperStart.getF DMP_STAT_TRIP = s.getF DMP_STAT_TRIP := by
  unfold State.damperStart State.leastAllowances State.fallDuties
  extract_lets src s1 s2 src' s3
  have hT := Parts.le_refl (traceParts ++ [.damper, .bays, .reg .DMP_BAY])
  have h1 : Keeps _ s s1 := State.damper_keeps (Parts.within hT) (keeps_refl s) _
  have h2 : Keeps _ s s2 := keeps_foldl _ h1 fun _ _ hs => State.setBay_keeps (Parts.within hT) hs _ _
  have h3 : Keeps _ s s3 := State.damper_keeps (Parts.within hT) h2 _
  have h4 : Keeps _ s ((List.range 16).foldl (fun s b => s.setF (DMP_BAY_ALLOW b) 96) s3) :=
    keeps_foldl _ h3 fun _ _ hs => State.setF_keeps_reg .DMP_BAY (Parts.within hT) hs _
  exact (State.getF_setF_lo _ _ rfl).trans ((State.setDuties_keeps (Parts.within hT) h4 _).getF (by decide))

theorem State.getF_restore_TRIP (s : State) : s.restore.getF DMP_STAT_TRIP = s.getF DMP_STAT_TRIP := by
  unfold State.restore
  extract_lets s1 s2
  have h1 : Keeps (Parts.of (alertParts ++ irqParts ++ logParts ++ [.reg .HTH_STATE, .reg .ID_HEARTHS, .reg .ID_HMAP]))
      s s1 := keeps_foldl _ (keeps_refl s) fun _ _ hs =>
    ite_keeps (State.setHearthState_keeps (Parts.within (Parts.le_refl _)) hs _ _) hs
  have h2 : s2.getF DMP_STAT_TRIP = s.getF DMP_STAT_TRIP :=
    (State.getF_damperStart_TRIP _).trans (((State.syncCone_keeps (Parts.le_refl _) (keeps_refl s1)).getF
      (by decide)).trans
      (h1.getF (by decide)))
  split
  · exact ((s2.setDuties_keeps_self _).getF (by decide)).trans h2
  · exact h2

theorem State.getF_throughRestore_TRIP (s : State) (busy : Bool) :
    (s.throughRestore busy).getF DMP_STAT_TRIP = s.getF DMP_STAT_TRIP := by
  have hT := Parts.le_refl (traceParts ++ irqParts ++ [.free, .reg .CXL_LINK, .reg .STK_MBSTAT, .reg .RST_STAT])
  have hstep := State.setRstStep_keeps (Parts.within hT) (State.mailboxBusy_keeps (Parts.within hT)
    (ite_keeps (c := s.flag SVC_SIDEBAND_PERST_N = true) (State.cxlTrain_keeps (Parts.within hT) (keeps_refl s))
    (keeps_refl s)) busy) 8
  exact (State.getF_restore_TRIP _).trans (hstep.getF (by decide))

/-! ### After the quiesce (R467) -/

/-- A THERMAL recovery waits in step 8 while its trip holds. -/
def State.thermalEnd (s t : State) (code : Nat) : Prop :=
  code = 6 ∧ s.getF DMP_STAT_TRIP % 2 = 1 ∧ t.getF RST_STAT_STEP = 8 ∧ t.recov.isSome = true ∧ t.outOn outReady = false

theorem State.throughReset_keeps_queues (s : State) (r : RecRt) : Part.same (.reg .QUE_CFG) s (s.throughReset r) := by
  have hT := Parts.le_refl (traceParts ++ clearedParts ++ ([.arena, .atc, .bays, .filter, .free, .hearths, .link,
    .mbReq, .mbResp, .pba, .queues, .stackPorts, .stoker, .tlb, .watch, .reg .RST_STAT] : List Part))
  have hcapture := State.capture_keeps (Parts.within hT) (State.setRstStep_keeps (Parts.within hT) (keeps_refl s) 3)
  exact (State.resetMain_keeps (Parts.within hT) (State.setRstStep_keeps (Parts.within hT)
    (ite_keeps (c := r.warm = true)
    hcapture (State.incF_keeps_reg (f := RST_STAT_COUNT) .RST_STAT (Parts.within hT) hcapture 1)) 5)).same _ (by decide)

theorem State.throughRestore_keeps_queues (s : State) (busy : Bool) :
    Part.same (.reg .QUE_CFG) s (s.throughRestore busy) := by
  have hT := Parts.le_refl (traceParts ++ alertParts ++ irqParts ++ logParts ++ ([.bays, .damper, .free,
    .reg .CXL_LINK, .reg .DMP_BAY, .reg .DMP_STAT, .reg .HTH_CONECTL, .reg .HTH_STATE, .reg .ID_HEARTHS, .reg .ID_HMAP,
    .reg .RST_STAT, .reg .STK_MBSTAT] : List Part))
  exact (State.restore_keeps (Parts.within hT) (State.setRstStep_keeps (Parts.within hT) (State.mailboxBusy_keeps
    (Parts.within hT) (ite_keeps (c := s.flag SVC_SIDEBAND_PERST_N = true) (State.cxlTrain_keeps (Parts.within hT)
    (keeps_refl s)) (keeps_refl s)) busy) 8)).same _ (by decide)

/-- What steps 3 to 8 leave of a recovery that is no warm reset: it is counted, and what was shown stays shown. -/
structure Restored (s t : State) : Prop where
  shows : ShowsOn s t
  count : t.getF RST_STAT_COUNT = (s.getF RST_STAT_COUNT + 1) % 2 ^ 16
  trip : t.getF DMP_STAT_TRIP = s.getF DMP_STAT_TRIP % 2
  recov : t.recov = s.recov
  queues : Part.same (.reg .QUE_CFG) s t

section
variable {r : RecRt} (hr : r.warm = false)
include hr

/-- A recovery fails in step 6, or comes through step 8. -/
theorem State.afterQuiesce_cases (s : State) : s.afterQuiesce r = (s.throughReset r).recoveryFails 6
    ∨ ∃ t, Restored s t ∧ s.afterQuiesce r = t.afterRestore r := by
  cases hload : (s.throughReset r).reload with
  | none => exact .inl (State.afterQuiesce_fails hload)
  | some v =>
    have hreload := State.reload_keeps (Parts.le_refl _) (keeps_refl (s.throughReset r)) hload
    refine .inr ⟨_, ⟨?_, ?_, ?_, ?_, ?_⟩, State.afterQuiesce_goes hload⟩
    · exact (s.throughReset_showsOn r).trans (hreload.showsOn.trans (v.throughRestore_showsOn _))
    · exact (v.getF_throughRestore_COUNT _).trans ((State.getF_reload_COUNT hload).trans
        (State.getF_throughReset_COUNT hr))
    · exact (v.getF_throughRestore_TRIP _).trans ((hreload.getF (by decide)).trans (s.getF_throughReset_TRIP r))
    · exact (v.recov_throughRestore _).trans ((hreload.same .recov (by decide)).trans (s.recov_throughReset r))
    · exact Part.same_trans (s.throughReset_keeps_queues r) (Part.same_trans (hreload.same _ (by decide))
        (v.throughRestore_keeps_queues _))

/-- After step 8 a THERMAL recovery waits for the trip to end, and any other reaches READY. -/
theorem State.afterRestore_cases (s : State) : r.cause = 6 ∧ s.flag DMP_STAT_TRIP = true
      ∧ s.afterRestore r = s.setRstStep 8 ∨ s.afterRestore r = s.readyAfter r := by
  unfold State.afterRestore
  rw [hr, if_neg Bool.false_ne_true]
  split
  · next h => exact .inl (by simpa using h)
  · exact .inr rfl

/-- Whichever end it comes to, a recovery is counted, and the fault stays shown. -/
theorem State.afterQuiesce_counted (hs : s.faultShown) : (s.afterQuiesce r).faultShown
    ∧ (s.afterQuiesce r).getF RST_STAT_COUNT = (s.getF RST_STAT_COUNT + 1) % 2 ^ 16 := by
  rcases s.afterQuiesce_cases hr with heq | ⟨t, ht, heq⟩
  · rw [heq, State.getF_recoveryFails_COUNT]
    exact ⟨((s.throughReset_showsOn r).trans ((State.setRstStep_showsOn _ 6).trans (State.latchFail_showsOn _))).1 hs,
      State.getF_throughReset_COUNT hr⟩
  · rw [heq]
    rcases t.afterRestore_cases hr with ⟨-, -, hend⟩ | hend
    · rw [hend, State.getF_setRstStep_COUNT]
      exact ⟨(ht.shows.trans (t.setRstStep_showsOn 8)).1 hs, ht.count⟩
    · rw [hend, State.getF_readyAfter_COUNT]
      exact ⟨State.readyAfter_faultShown (ht.shows.1 hs) r, ht.count⟩

/-- The three ends of a recovery that is no warm reset. -/
theorem State.afterQuiesce_ends_of_cause (hrecov : s.recov.isSome = true) (hready : s.outOn outReady = false) :
    (s.afterQuiesce r).latchedEnd ∨ s.thermalEnd (s.afterQuiesce r) r.cause
    ∨ (s.afterQuiesce r).readyEnd ∧ (s.afterQuiesce r).flue.accepting = true
      ∧ QueuesHalted s (s.afterQuiesce r) r.flrPending := by
  rcases s.afterQuiesce_cases hr with heq | ⟨t, ht, heq⟩
  · rw [heq]
    exact .inl (State.recoveryFails_ends _)
  · rw [heq]
    rcases t.afterRestore_cases hr with ⟨hcause, htrip, hend⟩ | hend
    · have hstep := t.setRstStep_keeps_self 8
      have htrip2 : s.getF DMP_STAT_TRIP % 2 ≠ 0 := by simpa [State.flag, ht.trip] using htrip
      rw [hend]
      exact .inr (.inl ⟨hcause, Nat.mod_two_ne_zero.1 htrip2, t.getF_setRstStep_STEP 8,
        by rw [hstep.same .recov (by decide), ht.recov, hrecov],
        (hstep.outOn (by decide) _).trans (ht.shows.2.trans hready)⟩)
    · rw [hend]
      exact .inr (.inr ⟨t.readyAfter_ends r, t.accepting_readyAfter r, (t.readyAfter_halted r).of_same ht.queues⟩)

end

/-! ### A cause (R464–R467, R481) -/

/-- Step 2 of a recovery without a held port. -/
def State.quieted (s : State) : State := (s.setRstStep 2).quiesce 0 0

theorem State.quieted_keeps (s : State) : Keeps (Parts.of (runParts ++ ([.coll, .flue, .hostMem, .reg .RST_CLAMP,
    .reg .RST_STAT, .stackPorts] : List Part))) s s.quieted := by
  have hT := Parts.le_refl (runParts ++ ([.coll, .flue, .hostMem, .reg .RST_CLAMP, .reg .RST_STAT, .stackPorts] :
    List Part))
  exact State.quiesce_keeps (Parts.within hT) (State.setRstStep_keeps (Parts.within hT) (keeps_refl s) 2) 0 0

theorem State.quieted_showsOn (s : State) : ShowsOn s s.quieted :=
  (s.setRstStep_showsOn 2).trans (State.quiesce_showsOn _ 0 0)

theorem State.getF_quieted_COUNT (s : State) : s.quieted.getF RST_STAT_COUNT = s.getF RST_STAT_COUNT :=
  ((State.quiesce_keeps (Parts.le_refl _) (keeps_refl (s.setRstStep 2)) 0 0).getF (by decide)).trans
    (s.getF_setRstStep_COUNT 2)

theorem State.recoverGo_of_free (h : s.stuckPort = none) (r : RecRt) : s.recoverGo r = s.quieted.afterQuiesce r :=
  State.recoverGo_free h r

theorem State.causeNoted_stuckPort (s : State) (r : RecRt) (x : FaultRec) :
    (s.causeNoted r x).stuckPort = s.stuckPort :=
  (s.causeNoted_keeps r x).stuckPort (by decide)

/-- Where a cause's quiesce stands beside the state that it met: the fault is shown, READY_OD is released, and the
recovery is under way. -/
structure Quieted (s u : State) : Prop where
  shown : u.faultShown
  count : u.getF RST_STAT_COUNT = s.getF RST_STAT_COUNT
  trip : u.getF DMP_STAT_TRIP = s.getF DMP_STAT_TRIP
  queues : Part.same (.reg .QUE_CFG) s u
  recov : u.recov.isSome = true
  ready : u.outOn outReady = false

/-- Without a held port the recovery goes on from its quiesce. -/
theorem State.recoverGo_quiesces (r : RecRt) {x : FaultRec} (hx : x.recovery = true) (hport : s.stuckPort = none) :
    ∃ u, Quieted s u ∧ (s.causeNoted r x).recoverGo r = u.afterQuiesce r := by
  have hnoted := s.causeNoted_keeps r x
  have hquiet := (s.causeNoted r x).quieted_keeps
  obtain ⟨-, hready, -, hrecov⟩ := s.causeNoted_leaves_ready r x
  refine ⟨_, ⟨?_, ?_, ?_, ?_, ?_, ?_⟩, State.recoverGo_of_free ((s.causeNoted_stuckPort r x).trans hport) r⟩
  · exact (State.quieted_showsOn _).1 (State.causeNoted_faultShown r hx)
  · exact (State.getF_quieted_COUNT _).trans (State.getF_causeNoted_COUNT r hx)
  · exact (hquiet.getF (by decide)).trans (hnoted.getF (by decide))
  · exact Part.same_trans (hnoted.same _ (by decide)) (hquiet.same _ (by decide))
  · rw [hquiet.same .recov (by decide), hrecov]
    rfl
  · exact (State.quieted_showsOn _).2.trans hready

section
variable {code : Nat} {timedOut : List (Nat × Nat)} {flr : List Nat} {owner : Option (Nat × Nat × Nat × Nat)}
  {inst : Option (Nat × Nat × Nat)}

/-- A cause starts the sequence on a module that runs. -/
theorem State.cause_of_running (hrun : s.running = true) : s.cause code timedOut flr owner inst
    = (s.causeNoted ⟨false, code, timedOut, flr⟩ (s.recRecord code owner inst)).recoverGo
      ⟨false, code, timedOut, flr⟩ :=
  (if_pos hrun).trans (s.startRecovery_eq _ _)

/-- The record stays as the cause wrote it. -/
theorem State.getF_cause_record (hrun : s.running = true) {f : Fld} {v : Nat}
    (h : (f, v) ∈ (s.recRecord code owner inst).fields (s.flag RST_FAULT0_VALID)) :
    (s.cause code timedOut flr owner inst).getF f = v % 2 ^ f.width := by
  rw [State.cause_of_running hrun]
  exact ((State.recoverGo_keeps (Parts.le_refl _) (keeps_refl _) _).getF_record (FaultRec.reg_fields h)).trans
    (State.getF_causeNoted_record _ rfl h)

theorem State.cause_faultShown (hrun : s.running = true) : (s.cause code timedOut flr owner inst).faultShown := by
  have hnoted := State.causeNoted_faultShown (s := s) ⟨false, code, timedOut, flr⟩
    (x := s.recRecord code owner inst) rfl
  have hstuck := s.causeNoted_stuckPort ⟨false, code, timedOut, flr⟩ (s.recRecord code owner inst)
  rw [State.cause_of_running hrun]
  cases hport : s.stuckPort with
  | none =>
    rw [State.recoverGo_of_free (hstuck.trans hport)]
    exact (State.afterQuiesce_counted rfl ((State.quieted_showsOn _).1 hnoted)).1
  | some p =>
    rw [State.recoverGo_held (by rw [hstuck, hport]; rfl)]
    exact (State.setRstStep_showsOn _ 2).1 hnoted

theorem State.getF_cause_TIME (hrun : s.running = true) :
    (s.cause code timedOut flr owner inst).getF RST_TIME_NS = s.now % 2 ^ 64 := by
  obtain ⟨htime, -, -, -⟩ := s.causeNoted_leaves_ready ⟨false, code, timedOut, flr⟩ (s.recRecord code owner inst)
  rw [State.cause_of_running hrun]
  exact ((State.recoverGo_keeps (Parts.le_refl _) (keeps_refl _) _).getF (by decide)).trans htime

/-- A held port keeps the recovery in step 2 (R463). -/
theorem State.cause_held (hrun : s.running = true) {bay req : Nat} (hport : s.stuckPort = some (bay, req)) :
    let t := s.cause code timedOut flr owner inst
    t.getF RST_FAULT2_PORTBAY = bay % 16 ∧ t.getF RST_FAULT2_PORTREQ = req % 8 ∧ t.getF RST_STAT_STEP = 2
    ∧ t.recov.isSome = true ∧ t.outOn outReady = false ∧ t.flue.accepting = false := by
  intro t
  have hbay : t.getF RST_FAULT2_PORTBAY = bay % 16 :=
    State.getF_cause_record hrun (v := bay) (by simp [FaultRec.fields, State.recRecord, hport])
  have hreq : t.getF RST_FAULT2_PORTREQ = req % 8 :=
    State.getF_cause_record hrun (v := req) (by simp [FaultRec.fields, State.recRecord, hport])
  obtain ⟨-, hready, haccepting, hrecov⟩ :=
    s.causeNoted_leaves_ready ⟨false, code, timedOut, flr⟩ (s.recRecord code owner inst)
  have hstuck := s.causeNoted_stuckPort ⟨false, code, timedOut, flr⟩ (s.recRecord code owner inst)
  have ht : t = (s.causeNoted ⟨false, code, timedOut, flr⟩ (s.recRecord code owner inst)).setRstStep 2 :=
    (State.cause_of_running hrun).trans (State.recoverGo_held (by rw [hstuck, hport]; rfl) _)
  have hstep := (s.causeNoted ⟨false, code, timedOut, flr⟩ (s.recRecord code owner inst)).setRstStep_keeps_self 2
  refine ⟨hbay, hreq, ?_⟩
  rw [ht]
  exact ⟨State.getF_setRstStep_STEP _ 2, by rw [hstep.same .recov (by decide), hrecov]; rfl,
    (hstep.outOn (by decide) _).trans hready, (hstep.accepting (by decide)).trans haccepting⟩

/-- Without a held port the recovery is counted, and comes to one of its ends. -/
theorem State.cause_free (hrun : s.running = true) (hport : s.stuckPort = none) :
    (s.cause code timedOut flr owner inst).getF RST_STAT_COUNT = (s.getF RST_STAT_COUNT + 1) % 2 ^ 16
    ∧ ((s.cause code timedOut flr owner inst).latchedEnd ∨ s.thermalEnd (s.cause code timedOut flr owner inst) code
      ∨ (s.cause code timedOut flr owner inst).readyEnd
        ∧ (s.cause code timedOut flr owner inst).flue.accepting = true
        ∧ QueuesHalted s (s.cause code timedOut flr owner inst) flr) := by
  obtain ⟨u, ⟨hshown, hcount, htrip, hqueues, hrecov, hready⟩, heq⟩ := State.recoverGo_quiesces
    (s := s) ⟨false, code, timedOut, flr⟩ (x := s.recRecord code owner inst) rfl hport
  have hends := State.afterQuiesce_ends_of_cause (r := ⟨false, code, timedOut, flr⟩) rfl hrecov hready
  rw [State.thermalEnd, htrip] at hends
  rw [State.cause_of_running hrun, heq, ← hcount]
  exact ⟨(State.afterQuiesce_counted rfl hshown).2, hends.imp_right (Or.imp_right
    fun ⟨hend, haccepting, hhalted⟩ => ⟨hend, haccepting, hhalted.of_same hqueues⟩)⟩

/-- A recovery cause acts on a module that runs. -/
theorem State.cause_acts (hrun : s.running = true) (hcode : code < 32) :
    causeActs s (s.cause code timedOut flr owner inst) code flr := by
  obtain ⟨hvalid, halert, hfault, hfrozen⟩ := State.cause_faultShown (s := s) (code := code) (timedOut := timedOut)
    (flr := flr) (owner := owner) (inst := inst) hrun
  have hrecord {f : Fld} {v : Nat} := State.getF_cause_record (s := s) (code := code) (timedOut := timedOut)
    (flr := flr) (owner := owner) (inst := inst) hrun (f := f) (v := v)
  refine ⟨hvalid, (hrecord (by simp [FaultRec.fields, State.recRecord])).trans (Nat.mod_eq_of_lt hcode),
    hrecord (v := 1) (by simp [FaultRec.fields, State.recRecord, b2n]),
    (hrecord (v := b2n (s.flag RST_FAULT0_VALID)) (by simp [FaultRec.fields])).trans ?_, State.getF_cause_TIME hrun,
    (hrecord (v := b2n s.stuckPort.isSome) (by simp [FaultRec.fields, State.recRecord])).trans ?_, halert, hfault,
    hfrozen,
    fun _ _ hport => State.cause_held hrun hport, fun hport => ?_⟩
  · cases s.flag RST_FAULT0_VALID <;> rfl
  · cases s.stuckPort <;> rfl
  · obtain ⟨hcount, hends⟩ := State.cause_free (s := s) (code := code) (timedOut := timedOut) (flr := flr)
      (owner := owner) (inst := inst) hrun hport
    refine ⟨hcount, hends.imp_right (Or.imp ?_ ?_)⟩
    · exact id
    · rintro ⟨⟨hrecov, hflights, hstep, hready⟩, haccepting, hhalted⟩
      exact ⟨hrecov, hflights, hstep, hready, haccepting, hhalted⟩

end

end Sys2Proof.Machine

/-! The causes of chip recovery as the module meets them (R33, R34, R265, R464–R467, R481, R506, R522). -/

namespace Sys2Proof.Machine

open Sys2Proof

variable {s t u : State} {code : Nat} {timedOut : List (Nat × Nat)} {flr : List Nat}
  {owner : Option (Nat × Nat × Nat × Nat)} {inst : Option (Nat × Nat × Nat)}

/-! ### Whom the record names (R462, R466) -/

/-- A cause without an owner acts, and its record names no command. -/
theorem State.cause_acts_unowned (hrun : s.running = true) (hcode : code < 32) :
    causeActs s (s.cause code timedOut flr none inst) code flr
    ∧ (s.cause code timedOut flr none inst).getF RST_FAULT0_CTXV = 0 :=
  ⟨State.cause_acts hrun hcode, State.getF_cause_record hrun (v := 0) (by simp [FaultRec.fields, State.recRecord, b2n])⟩

/-- The record of a cause with an owner names the context, the queue, the engine and the command. -/
theorem State.cause_names_owner (hrun : s.running = true) (q : Fin 64) (n : Nat) :
    let t := s.cause code timedOut flr (s.ownerOf q n) inst
    t.getF RST_FAULT0_CTXV = 1 ∧ t.getF RST_FAULT0_QUEUE = q.val ∧ t.getF RST_FAULT1_CMD = n % 2 ^ 48
    ∧ t.getF RST_FAULT0_CTX = s.ctxOf q % 16 ∧ t.getF RST_FAULT0_ENGINE = s.engine q % 8 := by
  have hrecord {f : Fld} {v : Nat} := State.getF_cause_record (s := s) (code := code) (timedOut := timedOut)
    (flr := flr) (owner := s.ownerOf q n) (inst := inst) hrun (f := f) (v := v)
  refine ⟨hrecord (v := 1) ?_, (hrecord (v := q.val) ?_).trans (Nat.mod_eq_of_lt q.isLt), hrecord ?_, hrecord ?_,
    hrecord ?_⟩ <;> simp [FaultRec.fields, State.recRecord, State.ownerOf, b2n]

/-- The record of a cause at a Bay names the Bay. -/
theorem State.cause_names_bay (hrun : s.running = true) (bay : Fin 16) :
    (s.cause code timedOut flr owner (some (0, 0, bay.val))).getF RST_FAULT2_BAY = bay.val
    ∧ (s.cause code timedOut flr owner (some (0, 0, bay.val))).getF RST_FAULT2_INSTV = 1 := by
  have hbay : (s.cause code timedOut flr owner (some (0, 0, bay.val))).getF RST_FAULT2_BAY = bay.val % 2 ^ 4 :=
    State.getF_cause_record hrun (by simp [FaultRec.fields, State.recRecord])
  exact ⟨hbay.trans (Nat.mod_eq_of_lt bay.isLt),
    State.getF_cause_record hrun (v := 1) (by simp [FaultRec.fields, State.recRecord, b2n])⟩

/-! ### Where a cause does not act (R426, R481) -/

/-- During a recovery a cause is only counted. -/
theorem State.cause_counted (hrun : s.running = false) (hup : s.power.life = .up) (hrecov : s.recov.isSome = true) :
    s.cause code timedOut flr owner inst = s.addSat RST_STAT_LOST 1 := by
  rw [State.cause, hrun, if_neg Bool.false_ne_true, if_pos (by simp [hup, hrecov])]

/-- Where no recovery is under way and the module does not run, a cause is discarded. -/
theorem State.cause_discarded (hrun : s.running = false) (hoff : s.power.life ≠ .up ∨ s.recov = none) :
    s.cause code timedOut flr owner inst = s := by
  rw [State.cause, hrun, if_neg Bool.false_ne_true, if_neg]
  rcases hoff with hlife | hrecov
  · simp [hlife]
  · simp [hrecov]

/-! ### What happens before a cause acts -/

/-- What `RECOVER` (R464) and a link that goes down (R522) write before the cause acts. -/
def beforeCauseParts : List Part := [.atc, .filter, .link, .pba, .watch, .reg .CXL_LINK, .reg .CXL_SF, .reg .RST_CTL]

section
variable (h : Keeps (Parts.of beforeCauseParts) s u)
include h

theorem Keeps.running_beforeCause : u.running = s.running := by
  rw [State.running, State.running, h.same .power (by decide), h.same .recov (by decide),
    h.getF (f := PWR_STAT_STATE) (by decide)]

/-- A cause acts on what was written before it as it acts on the state that was met. -/
theorem Keeps.causeActs_beforeCause (hacts : causeActs u t code flr) : causeActs s t code flr := by
  have hvalid : u.getF RST_FAULT0_VALID = s.getF RST_FAULT0_VALID := h.getF (by decide)
  have hcount : u.getF RST_STAT_COUNT = s.getF RST_STAT_COUNT := h.getF (by decide)
  have htrip : u.getF DMP_STAT_TRIP = s.getF DMP_STAT_TRIP := h.getF (by decide)
  have hen (q : Nat) : u.getF (QUE_CFG_EN q) = s.getF (QUE_CFG_EN q) := h.same (.reg .QUE_CFG) (by decide) _ rfl
  have hctx (q : Nat) : u.ctxOf q = s.ctxOf q := h.same (.reg .QUE_CFG) (by decide) _ rfl
  simpa only [causeActs, State.flag, hvalid, hcount, htrip, hen, hctx, h.now (by decide),
    h.stuckPort (by decide)] using hacts

/-- A cause without an owner acts, and names no command, on a module that ran before. -/
theorem Keeps.plainCause_acts (hrun : s.running = true) (hcode : code < 32) :
    causeActs s (u.plainCause code) code [] ∧ (u.plainCause code).getF RST_FAULT0_CTXV = 0 :=
  (State.cause_acts_unowned (h.running_beforeCause.trans hrun) hcode).imp_left h.causeActs_beforeCause

end

theorem State.setRecover_keeps (s : State) : Keeps (Parts.of beforeCauseParts) s (s.setF RST_CTL_RECOVER 1) :=
  State.setF_keeps_reg .RST_CTL (Parts.within (Parts.le_refl beforeCauseParts)) (keeps_refl s) 1

/-- The CXL link as a link down leaves it. -/
def State.linkLost (s : State) : State := (s.addSat CXL_LINK_DOWNS 1).cxlDown

theorem State.linkLost_keeps (s : State) : Keeps (Parts.of beforeCauseParts) s s.linkLost :=
  have hT := Parts.le_refl beforeCauseParts
  State.cxlDown_keeps (Parts.within hT) (State.addSat_keeps_reg .CXL_LINK (Parts.within hT) (keeps_refl s) 1)

theorem State.flag_linkLost_UP (s : State) : s.linkLost.flag CXL_LINK_UP = false := by
  have hup : s.linkLost.getF CXL_LINK_UP = 0 :=
    (State.getF_setFs_ne (g := CXL_LINK_UP) (l := [(CXL_LINK_RATE, 0), (CXL_LINK_WIDTH, 0), (CXL_LINK_IDE, 0),
      (CXL_LINK_HDM, 0), (CXL_SF_OCC, 0)]) _).trans (State.getF_setF ..)
  rw [State.flag, hup]
  rfl

theorem State.getF_linkLost_DOWNS (s : State) :
    s.linkLost.getF CXL_LINK_DOWNS = min (s.getF CXL_LINK_DOWNS + 1) (2 ^ CXL_LINK_DOWNS.width - 1) :=
  (State.getF_setFs_ne _).trans (s.getF_addSat CXL_LINK_DOWNS 1)

/-! ### The command that a dispatch timeout names (R265, R462) -/

/-- The order of commands: by queue, then by number. -/
def commandLe (x y : Nat × Nat) : Prop := x.1 < y.1 ∨ x.1 = y.1 ∧ x.2 ≤ y.2

/-- The lower of two commands, the first of two equal ones. -/
def lowerOf (b : Option (Nat × Nat)) (x : Nat × Nat) : Option (Nat × Nat) :=
  match b with
  | none => some x
  | some y => if x.1 < y.1 || (x.1 == y.1 && decide (x.2 < y.2)) then some x else some y

theorem lowest_eq_foldl (l : List (Nat × Nat)) : lowest l = l.foldl lowerOf none := rfl

theorem lowerOf_eq_or (b : Option (Nat × Nat)) (x : Nat × Nat) : lowerOf b x = some x ∨ lowerOf b x = b := by
  unfold lowerOf
  split
  · exact .inl rfl
  · split
    · exact .inl rfl
    · exact .inr rfl

/-- A command below all others displaces what stands. -/
theorem lowerOf_least {b : Option (Nat × Nat)} {m : Nat × Nat} (hb : ∀ y ∈ b, commandLe m y) :
    lowerOf b m = some m := by
  cases b with
  | none => rfl
  | some y =>
    have hle : commandLe m y := hb y rfl
    by_cases heq : m = y
    · simp [lowerOf, heq]
    · have hne : ¬ (m.1 = y.1 ∧ m.2 = y.2) := fun h => heq (Prod.ext h.1 h.2)
      refine if_pos ?_
      simp only [Bool.or_eq_true, Bool.and_eq_true, decide_eq_true_eq, beq_iff_eq]
      unfold commandLe at hle
      omega

/-- It is displaced by none. -/
theorem lowerOf_of_least {m x : Nat × Nat} (hx : commandLe m x) : lowerOf (some m) x = some m := by
  refine if_neg ?_
  simp only [Bool.or_eq_true, Bool.and_eq_true, decide_eq_true_eq, beq_iff_eq]
  unfold commandLe at hx
  omega

theorem foldl_lowerOf_of_least {m : Nat × Nat} (l : List (Nat × Nat)) (hl : ∀ x ∈ l, commandLe m x)
    (b : Option (Nat × Nat)) (hb : ∀ y ∈ b, commandLe m y) (hm : m ∈ l ∨ b = some m) :
    l.foldl lowerOf b = some m := by
  induction l generalizing b with
  | nil => exact hm.resolve_left List.not_mem_nil
  | cons x l ih =>
    have hx := hl x List.mem_cons_self
    refine ih (fun y hy => hl y (List.mem_cons_of_mem x hy)) _ (fun y hy => ?_) ?_
    · rcases lowerOf_eq_or b x with h | h
      · rwa [Option.some.inj (h.symm.trans hy)] at hx
      · exact hb y (h ▸ hy)
    · rcases hm with hm | hm
      · rcases List.mem_cons.1 hm with rfl | hm
        · exact .inr (lowerOf_least hb)
        · exact .inl hm
      · exact .inr (hm ▸ lowerOf_of_least hx)

/-- The least command of a list is the one that the record names. -/
theorem lowest_of_least {l : List (Nat × Nat)} {m : Nat × Nat} (hm : m ∈ l) (hl : ∀ x ∈ l, commandLe m x) :
    lowest l = some m :=
  (lowest_eq_foldl l).trans <| foldl_lowerOf_of_least l hl none (fun _ hy => nomatch hy) (.inl hm)

/-- The commands of a timeout whose dispatch time runs. -/
def State.pastLimit (s : State) (expired : List (Fin 64 × Nat)) : List (Nat × Nat) :=
  (expired.map fun p => (p.1.val, p.2)).filter fun p => (s.dispatching p.1 p.2).isSome

theorem State.mem_pastLimit {expired : List (Fin 64 × Nat)} {x : Nat × Nat} :
    x ∈ s.pastLimit expired ↔ ∃ p ∈ expired, (p.1.val, p.2) = x ∧ (s.dispatching p.1 p.2).isSome = true := by
  simp only [State.pastLimit, List.mem_filter, List.mem_map]
  constructor
  · rintro ⟨⟨p, hp, rfl⟩, hx⟩
    exact ⟨p, hp, rfl, hx⟩
  · rintro ⟨p, hp, rfl, hx⟩
    exact ⟨⟨p, hp, rfl⟩, hx⟩

/-- A timeout is a cause on a module that runs, where it names a flight. -/
theorem exec_dispatchTimeout_of_flight {expired : List (Fin 64 × Nat)} {f : Flight}
    (h : ((lowest (s.pastLimit expired)).bind fun p => s.flight? p.1 p.2) = some f) (hrun : s.running = true) :
    exec (.dispatchTimeout expired) s
      = .next (s.cause 1 (s.pastLimit expired) [] (s.ownerOf f.q f.n) (s.oldestInst f)) := by
  change execDispatchTimeout expired s = _
  unfold execDispatchTimeout
  extract_lets l
  split
  · next g hg =>
    cases hg.symm.trans h
    exact if_pos hrun
  · next hnone => exact absurd (hnone.symm.trans h) nofun

theorem exec_dispatchTimeout_of_least {expired : List (Fin 64 × Nat)} {q : Fin 64} {n : Nat} {f : Flight}
    (hrun : s.running = true) (hmem : (q, n) ∈ expired) (hf : s.dispatching q n = some f)
    (hleast : ∀ p ∈ expired, (s.dispatching p.1 p.2).isSome = true → q < p.1 ∨ q = p.1 ∧ n ≤ p.2) :
    exec (.dispatchTimeout expired) s
      = .next (s.cause 1 (s.pastLimit expired) [] (s.ownerOf q n) (s.oldestInst f)) := by
  have hflight : s.flight? q n = some f := (Option.filter_eq_some_iff.1 hf).1
  obtain ⟨hq, hn⟩ := State.flight?_key hflight
  have hlowest : lowest (s.pastLimit expired) = some (q.val, n) := by
    refine lowest_of_least (State.mem_pastLimit.2 ⟨(q, n), hmem, rfl, by rw [hf]; rfl⟩) fun x hx => ?_
    obtain ⟨p, hp, rfl, hsome⟩ := State.mem_pastLimit.1 hx
    exact (hleast p hp hsome).imp id (And.imp_left (congrArg Fin.val))
  rw [exec_dispatchTimeout_of_flight (by rw [hlowest, Option.bind_some, hflight]) hrun, hq, hn]

theorem exec_dispatchTimeout_of_none {expired : List (Fin 64 × Nat)}
    (hnone : ∀ p ∈ expired, s.dispatching p.1 p.2 = none) : exec (.dispatchTimeout expired) s = .next s := by
  have hnil : s.pastLimit expired = [] := by
    refine List.eq_nil_iff_forall_not_mem.2 fun x hx => ?_
    obtain ⟨p, hp, -, hsome⟩ := State.mem_pastLimit.1 hx
    simp [hnone p hp] at hsome
  change execDispatchTimeout expired s = _
  unfold execDispatchTimeout
  rw [← State.pastLimit, hnil]
  rfl

/-! ### The die-to-die links (R33, R34) -/

/-- A die-to-die link attaches to the Bay. -/
def attached (bay : Fin 16) : Prop := ∃ l ∈ d2dLinks, l.1 = bay.val ∨ l.2 = bay.val

theorem attached_iff {bay : Fin 16} :
    (d2dLinks.any fun l => l.1 == bay.val || l.2 == bay.val) = true ↔ attached bay := by
  simp only [attached, List.any_eq_true, Bool.or_eq_true, beq_iff_eq]

/-- The owner of the command that lost the transfer. -/
def State.lostOwner (s : State) (owner : Option (Fin 64 × Nat)) : Option (Nat × Nat × Nat × Nat) :=
  (owner.bind fun p => s.flight? p.1 p.2).bind fun f => s.ownerOf f.q f.n

theorem exec_d2dUncorr_second {bay : Fin 16} (h : attached bay) (owner : Option (Fin 64 × Nat)) :
    exec (.d2dUncorr bay true owner) s = .next (s.cause 3 [] [] (s.lostOwner owner) (some (0, 0, bay.val))) :=
  if_pos (by rw [Bool.true_and]; exact attached_iff.2 h)

theorem exec_d2dUncorr_first (bay : Fin 16) (owner : Option (Fin 64 × Nat)) :
    exec (.d2dUncorr bay false owner) s = .next s :=
  rfl

theorem exec_d2dUncorr_unattached {bay : Fin 16} (h : ¬ attached bay) (owner : Option (Fin 64 × Nat)) :
    exec (.d2dUncorr bay true owner) s = .next s :=
  if_neg (by rw [Bool.true_and]; exact fun hany => h (attached_iff.1 hany))

theorem State.lostOwner_of_flight {q : Fin 64} {n : Nat} {f : Flight} (h : s.flight? q n = some f) :
    s.lostOwner (some (q, n)) = s.ownerOf q n := by
  obtain ⟨hq, hn⟩ := State.flight?_key h
  rw [State.lostOwner, Option.bind_some, h, Option.bind_some, hq, hn]

theorem State.lostOwner_of_none {owner : Option (Fin 64 × Nat)} (h : ∀ p, owner = some p → s.flight? p.1 p.2 = none) :
    s.lostOwner owner = none := by
  cases owner with
  | none => rfl
  | some p => rw [State.lostOwner, Option.bind_some, h p rfl, Option.bind_none]

/-! ### The causes, one by one -/

theorem exec_plainCauses {i : Instr} (h : (i, code) ∈ [(Instr.stokerEcc, 4), (.stokerWdt, 5), (.regulator, 9)]) :
    code < 32 ∧ exec i s = .next (s.plainCause code) := by
  simp only [List.mem_cons, List.not_mem_nil, or_false, Prod.mk.injEq] at h
  rcases h with ⟨rfl, rfl⟩ | ⟨rfl, rfl⟩ | ⟨rfl, rfl⟩ <;> exact ⟨by decide, rfl⟩

theorem recoveryCauses_plain (i : Instr) (code : Nat) (s : State)
    (h : (i, code) ∈ [(Instr.stokerEcc, 4), (.stokerWdt, 5), (.regulator, 9)]) :
    (s.running = true → ∃ t, exec i s = .next t ∧ causeActs s t code [] ∧ t.getF RST_FAULT0_CTXV = 0)
    ∧ (s.running = false → s.power.life = .up → s.recov.isSome = true → exec i s = .next (s.addSat RST_STAT_LOST 1))
    ∧ (s.running = false → (s.power.life ≠ .up ∨ s.recov = none) → exec i s = .next s) := by
  obtain ⟨hcode, hexec⟩ := exec_plainCauses (s := s) h
  rw [hexec]
  exact ⟨fun hrun => ⟨_, rfl, State.cause_acts_unowned hrun hcode⟩,
    fun hrun hup hrecov => congrArg Host.Outcome.next (State.cause_counted hrun hup hrecov),
    fun hrun hoff => congrArg Host.Outcome.next (State.cause_discarded hrun hoff)⟩

theorem recoveryCauses_tripHoldTimeout (s : State) :
    (s.running = true → s.flag DMP_STAT_TRIP = true → ∃ t, exec .tripHoldTimeout s = .next t ∧ causeActs s t 6 []
      ∧ t.getF RST_FAULT0_CTXV = 0)
    ∧ ((s.running = false ∨ s.flag DMP_STAT_TRIP = false) → exec .tripHoldTimeout s = .next s) := by
  constructor
  · intro hrun htrip
    exact ⟨_, if_pos (by rw [hrun, htrip]; rfl), State.cause_acts_unowned hrun (by decide)⟩
  · intro hoff
    exact if_neg (by rcases hoff with h | h <;> simp [h])

theorem recoveryCauses_recover (s : State) (h : s.pf0Open 0x700004 = true) :
    (s.running = true → ∃ t, exec .recover s = .next t ∧ causeActs s t 7 [] ∧ t.getF RST_FAULT0_CTXV = 0)
    ∧ (s.running = false → exec .recover s = .next s) := by
  have hexec : exec .recover s = .next s.recover := congrArg Host.Outcome.next (State.pf0Write_open h _)
  rw [hexec]
  constructor
  · intro hrun
    exact ⟨_, congrArg Host.Outcome.next (if_pos hrun), s.setRecover_keeps.plainCause_acts hrun (by decide)⟩
  · intro hrun
    exact congrArg Host.Outcome.next (if_neg (by rw [hrun]; exact Bool.false_ne_true))

theorem recoveryCauses_dispatchTimeout (expired : List (Fin 64 × Nat)) (s : State) :
    (∀ (q : Fin 64) (n : Nat) (f : Flight), s.running = true → (q, n) ∈ expired → s.dispatching q n = some f →
      (∀ p ∈ expired, (s.dispatching p.1 p.2).isSome = true → q < p.1 ∨ q = p.1 ∧ n ≤ p.2) →
      ∃ t, exec (.dispatchTimeout expired) s = .next t ∧ causeActs s t 1 [] ∧ t.getF RST_FAULT0_CTXV = 1
        ∧ t.getF RST_FAULT0_QUEUE = q.val ∧ t.getF RST_FAULT1_CMD = n % 2 ^ 48
        ∧ t.getF RST_FAULT0_CTX = s.ctxOf q % 16 ∧ t.getF RST_FAULT0_ENGINE = s.engine q % 8)
    ∧ ((s.running = false ∨ ∀ p ∈ expired, s.dispatching p.1 p.2 = none) →
      exec (.dispatchTimeout expired) s = .next s) := by
  constructor
  · intro q n f hrun hmem hf hleast
    exact ⟨_, exec_dispatchTimeout_of_least hrun hmem hf hleast, State.cause_acts hrun (by decide),
      State.cause_names_owner hrun q n⟩
  · rintro (hrun | hnone)
    · exact exec_dispatchTimeout_of_not_running hrun expired
    · exact exec_dispatchTimeout_of_none hnone

theorem recoveryCauses_d2dUncorr (bay : Fin 16) (owner : Option (Fin 64 × Nat)) (s : State) :
    (s.running = true → attached bay → ∃ t, exec (.d2dUncorr bay true owner) s = .next t ∧ causeActs s t 3 []
      ∧ t.getF RST_FAULT2_BAY = bay.val ∧ t.getF RST_FAULT2_INSTV = 1
      ∧ (∀ (q : Fin 64) (n : Nat) (f : Flight), owner = some (q, n) → s.flight? q n = some f →
          t.getF RST_FAULT0_CTXV = 1 ∧ t.getF RST_FAULT0_QUEUE = q.val ∧ t.getF RST_FAULT1_CMD = n % 2 ^ 48)
      ∧ ((∀ p, owner = some p → s.flight? p.1 p.2 = none) → t.getF RST_FAULT0_CTXV = 0))
    ∧ exec (.d2dUncorr bay false owner) s = .next s
    ∧ (¬ attached bay → exec (.d2dUncorr bay true owner) s = .next s) := by
  refine ⟨fun hrun hbay => ?_, exec_d2dUncorr_first bay owner, fun hbay => exec_d2dUncorr_unattached hbay owner⟩
  obtain ⟨hbayf, hinstv⟩ := State.cause_names_bay (code := 3) (timedOut := []) (flr := [])
    (owner := s.lostOwner owner) hrun bay
  refine ⟨_, exec_d2dUncorr_second hbay owner, State.cause_acts hrun (by decide), hbayf, hinstv, ?_, ?_⟩
  · rintro q n f rfl hflight
    rw [State.lostOwner_of_flight hflight]
    obtain ⟨hctxv, hqueue, hcmd, -, -⟩ := State.cause_names_owner (code := 3) (timedOut := []) (flr := [])
      (inst := some (0, 0, bay.val)) hrun q n
    exact ⟨hctxv, hqueue, hcmd⟩
  · intro hnone
    rw [State.lostOwner_of_none hnone]
    exact (State.cause_acts_unowned hrun (by decide)).2

theorem recoveryCauses_cxlLinkDown (s : State) :
    (s.linkServes = true → s.running = true → ∃ t, exec .cxlLinkDown s = .next t ∧ causeActs s t 8 []
      ∧ t.getF RST_FAULT0_CTXV = 0)
    ∧ (s.linkServes = true → s.running = false → s.recov.isSome = true →
      exec .cxlLinkDown s = .next (s.linkLost.addSat RST_STAT_LOST 1))
    ∧ (s.linkServes = true → s.running = false → s.recov = none → exec .cxlLinkDown s = .next s.linkLost)
    ∧ (s.linkServes = false → exec .cxlLinkDown s = .next s) := by
  have hkeeps := s.linkLost_keeps
  have hrecov : s.linkLost.recov = s.recov := hkeeps.same .recov (by decide)
  have hpower : s.linkLost.power = s.power := hkeeps.same .power (by decide)
  have hexec (hlink : s.linkServes = true) : exec .cxlLinkDown s = .next (s.linkLost.plainCause 8) := if_pos hlink
  refine ⟨fun hlink hrun => ⟨_, hexec hlink, hkeeps.plainCause_acts hrun (by decide)⟩, fun hlink hrun hunder => ?_,
    fun hlink hrun hnone => ?_, fun hlink => if_neg (by rw [hlink]; exact Bool.false_ne_true)⟩
  · obtain ⟨hup, -⟩ : s.power.life = .up ∧ s.flag CXL_LINK_UP = true := by simpa [State.linkServes] using hlink
    rw [hexec hlink, State.plainCause, State.cause_counted (hkeeps.running_beforeCause.trans hrun) (hpower ▸ hup)
      (hrecov ▸ hunder)]
  · rw [hexec hlink, State.plainCause, State.cause_discarded (hkeeps.running_beforeCause.trans hrun)
      (.inr (hrecov.trans hnone))]

theorem recoveryCauses_flrTimeout (c : Fin 16) (s : State) :
    (s.running = true → s.vfOn c = true → ∃ t, exec (.flrTimeout c) s = .next t ∧ causeActs s t 7 [c.val]
      ∧ t.getF RST_FAULT0_CTXV = 0)
    ∧ ((s.running = false ∨ s.vfOn c = false) → exec (.flrTimeout c) s = .next s) := by
  constructor
  · intro hrun hvf
    exact ⟨_, if_pos (by rw [hrun, hvf]; rfl), State.cause_acts_unowned hrun (by decide)⟩
  · intro hoff
    exact if_neg (by rcases hoff with h | h <;> simp [h])

/-- Settles O55: each cause goes through `State.cause`, which starts the sequence on a module that runs, is counted
during a recovery, and is discarded elsewhere; a recovery as one command is the model's choice (log entry 31). -/
theorem recoveryCauses : Obligations.RecoveryCauses := by
  unfold Obligations.RecoveryCauses
  refine ⟨recoveryCauses_plain, recoveryCauses_tripHoldTimeout, recoveryCauses_recover, recoveryCauses_dispatchTimeout,
    recoveryCauses_d2dUncorr, fun s => ?_, recoveryCauses_flrTimeout⟩
  obtain ⟨hruns, hcounts, hidle, hoff⟩ := recoveryCauses_cxlLinkDown s
  exact ⟨hruns, hcounts, hidle, hoff, s.flag_linkLost_UP, s.getF_linkLost_DOWNS⟩

end Sys2Proof.Machine

/-! The trace: what REARM and FIRE do, how it ends, and where one record lands (R498–R501). -/

namespace Sys2Proof.Machine

open Sys2Proof

variable {s : State}

theorem State.flag_eq_false {f : Fld} (h : s.getF f = 0) : s.flag f = false := by
  simp [State.flag, h]

/-! ### REARM (R500) -/

theorem exec_rearm (h : s.pf0Open 0x604004 = true) : exec .rearm s = .next s.rearm :=
  congrArg Host.Outcome.next (State.pf0Write_open h _)

/-- The fields of `OBS_TRSTAT`: the freeze, `FULL`, the trigger and its cause, and the write offset. -/
def trstatFlds : List Fld :=
  [OBS_TRSTAT_FROZEN, OBS_TRSTAT_FULL, OBS_TRSTAT_TRIGD, OBS_TRSTAT_CAUSE, OBS_TRSTAT_WOFF]

/-- A rearm writes 0 to every field of `OBS_TRSTAT`. -/
theorem State.getF_rearm (s : State) {f : Fld} (hf : f ∈ trstatFlds) : s.rearm.getF f = 0 := by
  have hnodup : ((trstatFlds.map fun f => (f, 0)).map fun p => p.1.key).Nodup := by decide
  have hmem : (f, 0) ∈ trstatFlds.map fun f => (f, 0) := List.mem_map_of_mem hf
  exact (State.getF_setFs_of_mem hnodup hmem _).trans (Nat.zero_mod _)

/-! ### A record of an open trace (R498, R499) -/

theorem State.traceOpen_eq_false (h : s.flag OBS_TRSTAT_FROZEN = true ∨ s.flag OBS_TRSTAT_FULL = true) :
    s.traceOpen = false := by
  rcases h with h | h <;> simp [State.traceOpen, h]

theorem State.traceWrite_shut (h : s.traceOpen = false) (cls sub ctx queue d0 d1 : Nat) :
    s.traceWrite cls sub ctx queue d0 d1 = s :=
  if_neg (by rw [h]; exact Bool.false_ne_true)

theorem State.traceRec_shut (h : s.traceOpen = false) (cls sub ctx queue d0 d1 : Nat) :
    s.traceRec cls sub ctx queue d0 d1 = s := by
  rw [State.traceRec, State.traceWrite_shut h, ite_self]

theorem State.traceRec_forced {cls : Nat} (h : traceForced cls = true) (sub ctx queue d0 d1 : Nat) :
    s.traceRec cls sub ctx queue d0 d1 = s.traceWrite cls sub ctx queue d0 d1 :=
  if_pos (by rw [h]; rfl)

theorem length_traceBytesOf (time cls sub ctx queue seq d0 d1 : Nat) :
    (traceBytesOf time cls sub ctx queue seq d0 d1).length = 32 := by
  simp [traceBytesOf, length_leBytes]

/-- The offset after a record, before it is cut to its field: the region wraps, but in STOP_FULL (R499). -/
def State.nextTraceOff (s : State) : Nat :=
  if s.getF OBS_TRCFG_MODE = 1 then s.getF OBS_TRSTAT_WOFF + 32
  else if s.traceBytes ≤ s.getF OBS_TRSTAT_WOFF + 32 then 0 else s.getF OBS_TRSTAT_WOFF + 32

theorem State.nextTraceOff_wraps (h : s.getF OBS_TRCFG_MODE ≠ 1) : s.nextTraceOff
    = if s.traceBytes ≤ s.getF OBS_TRSTAT_WOFF + 32 then 0 else s.getF OBS_TRSTAT_WOFF + 32 :=
  if_neg h

theorem State.getF_dwrite (s : State) (pa : Nat) (bs : List Byte) {f : Fld}
    (hf : (Parts.of [.reg .CXL_SF, .dram, .badLines, .filter]).testBit (Part.num (.reg f.reg)) = false) :
    (s.dwrite pa bs).getF f = s.getF f :=
  (State.dwrite_keeps (Parts.le_refl _) (keeps_refl s) pa bs).getF hf

/-- A record of an open trace: its bytes are stored at the offset, and the offset, event 0x2E, `SEQ` and the post-trigger
part move on. -/
theorem State.traceWrite_open (h : s.traceOpen = true) (cls sub ctx queue d0 d1 : Nat) :
    ∃ x, s.traceWrite cls sub ctx queue d0 d1
      = { ((s.dwrite (s.saggar + s.getF OBS_TRSTAT_WOFF) (traceBytesOf s.now cls sub ctx queue s.trace.seq d0 d1)).setF
          OBS_TRSTAT_WOFF s.nextTraceOff).incF (OBS_GCNT_COUNT 0x2E) 1 with trace := x } := by
  rw [State.traceWrite, if_pos h]
  simp only [State.traceBytes, State.getF_dwrite _ _ _ (f := OBS_TRCFG_MODE) (by decide),
    State.getF_dwrite _ _ _ (f := MEM_SAGGAR_TRACE) (by decide)]
  exact ⟨_, rfl⟩

theorem State.getF_traceWrite_WOFF (h : s.traceOpen = true) (cls sub ctx queue d0 d1 : Nat) :
    (s.traceWrite cls sub ctx queue d0 d1).getF OBS_TRSTAT_WOFF = s.nextTraceOff % 2 ^ 35 := by
  obtain ⟨x, hx⟩ := State.traceWrite_open h cls sub ctx queue d0 d1
  rw [hx]
  exact (State.getF_setF_num _ _ rfl).trans (State.getF_setF _ OBS_TRSTAT_WOFF _)

theorem State.dbyte_traceWrite (h : s.traceOpen = true) (cls sub ctx queue d0 d1 x : Nat) :
    (s.traceWrite cls sub ctx queue d0 d1).dbyte x
      = if s.saggar + s.getF OBS_TRSTAT_WOFF ≤ x ∧ x < s.saggar + s.getF OBS_TRSTAT_WOFF + 32 then
          (traceBytesOf s.now cls sub ctx queue s.trace.seq d0 d1).getD (x - (s.saggar + s.getF OBS_TRSTAT_WOFF)) 0
        else s.dbyte x := by
  obtain ⟨y, hy⟩ := State.traceWrite_open h cls sub ctx queue d0 d1
  have hdw := s.dbyte_dwrite (s.saggar + s.getF OBS_TRSTAT_WOFF)
    (traceBytesOf s.now cls sub ctx queue s.trace.seq d0 d1) x
  rw [length_traceBytesOf] at hdw
  rw [hy]
  exact hdw

/-! ### FIRE (R501) -/

theorem exec_fire (h : s.pf0Open 0x604004 = true) : exec .fire s = .next (s.trigger 5 1) :=
  congrArg Host.Outcome.next (State.pf0Write_open h _)

/-- A cause that is not armed, or comes after the trigger or in a frozen trace, does nothing. -/
theorem State.trigger_idle {cause : Nat} (h : bitOf (s.getF OBS_TRTRIG_ARM) (cause - 1) = false
    ∨ s.flag OBS_TRSTAT_TRIGD = true ∨ s.flag OBS_TRSTAT_FROZEN = true) (value : Nat) : s.trigger cause value = s :=
  if_neg (by rcases h with h | h | h <;> simp [h])

/-- What the trigger writes to the trace's registers, at the offset where it meets the trace. -/
def State.triggerFields (s : State) (cause : Nat) : List (Fld × Nat) :=
  [(OBS_TRSTAT_TRIGD, 1), (OBS_TRSTAT_CAUSE, cause), (OBS_TRPOS_TOFF, s.getF OBS_TRSTAT_WOFF)]

/-- The first armed cause writes its record and then the trigger's fields; TRIGGER mode also starts the post-trigger
part (R499), which is in no field. -/
theorem State.getF_trigger {cause : Nat} (harm : bitOf (s.getF OBS_TRTRIG_ARM) (cause - 1) = true)
    (htrig : s.flag OBS_TRSTAT_TRIGD = false) (hfroz : s.flag OBS_TRSTAT_FROZEN = false) (value : Nat) (f : Fld) :
    (s.trigger cause value).getF f
      = ((s.traceWrite 15 cause 0 0 (s.getF OBS_TRSTAT_WOFF) value).setFs (s.triggerFields cause)).getF f := by
  rw [State.trigger, if_pos (by rw [harm, htrig, hfroz]; rfl)]
  exact (apply_ite (State.getF · f) _ _ _).trans (ite_self _)

theorem State.getF_trigger_of_mem {cause : Nat} (harm : bitOf (s.getF OBS_TRTRIG_ARM) (cause - 1) = true)
    (htrig : s.flag OBS_TRSTAT_TRIGD = false) (hfroz : s.flag OBS_TRSTAT_FROZEN = false) (value : Nat) {f : Fld} {v : Nat}
    (hmem : (f, v) ∈ s.triggerFields cause) : (s.trigger cause value).getF f = v % 2 ^ f.width := by
  have hkeys : ((s.triggerFields cause).map fun p => p.1.key).Nodup :=
    show ([OBS_TRSTAT_TRIGD, OBS_TRSTAT_CAUSE, OBS_TRPOS_TOFF].map Fld.key).Nodup by decide
  exact (State.getF_trigger harm htrig hfroz value f).trans (State.getF_setFs_of_mem hkeys hmem _)

/-! ### The trace's ends (R499) -/

theorem exec_traceFreeze (hpost : s.trace.post = some 0) (hfroz : s.flag OBS_TRSTAT_FROZEN = false)
    (hstop : s.stopped = false) : exec .traceFreeze s = .next (s.setF OBS_TRSTAT_FROZEN 1) :=
  if_pos (by rw [hpost, hfroz, hstop]; rfl)

theorem exec_traceFull (hend : s.traceAtEnd = true) (hstop : s.stopped = false) :
    exec .traceFull s = .next (s.setF OBS_TRSTAT_FULL 1) :=
  if_pos (by rw [hend, hstop]; rfl)

/-- Settles O26: REARM and FIRE are writes of the trace's fields, and a record is one DRAM write at the offset, which
then moves by the record's 32 bytes. -/
theorem traceControlAndEnds : Obligations.TraceControlAndEnds := by
  refine ⟨fun s hpf0 => ⟨⟨s.rearm, exec_rearm hpf0, ?_⟩, fun harm htrig hfroz => ⟨s.trigger 5 1, exec_fire hpf0, ?_⟩,
      fun hidle => ?_⟩,
    fun s => ⟨fun hpost hfroz hstop => ?_, fun hend hstop => ?_, fun _ _ _ _ _ _ hshut => ?_,
      fun cls sub ctx queue d0 d1 hopen hforced hmode => ?_⟩⟩
  · have hzero : ∀ f ∈ trstatFlds, s.rearm.getF f = 0 := fun _ => s.getF_rearm
    exact ⟨hzero _ (by decide), hzero _ (by decide), hzero _ (by decide), hzero _ (by decide), hzero _ (by decide),
      rfl, rfl⟩
  · have hfld : ∀ p ∈ s.triggerFields 5, (s.trigger 5 1).getF p.1 = p.2 % 2 ^ p.1.width := fun _ =>
      State.getF_trigger_of_mem harm (State.flag_eq_false htrig) (State.flag_eq_false hfroz) 1
    exact ⟨hfld (OBS_TRSTAT_TRIGD, 1) (.head _), hfld (OBS_TRSTAT_CAUSE, 5) (.tail _ (.head _)),
      hfld (OBS_TRPOS_TOFF, s.getF OBS_TRSTAT_WOFF) (.tail _ (.tail _ (.head _)))⟩
  · rw [exec_fire hpf0, State.trigger_idle hidle]
  · exact ⟨_, exec_traceFreeze hpost (State.flag_eq_false hfroz) hstop, s.getF_setF .., rfl⟩
  · exact ⟨_, exec_traceFull hend hstop, s.getF_setF .., rfl⟩
  · exact State.traceRec_shut (State.traceOpen_eq_false hshut) ..
  · rw [State.traceRec_forced hforced, ← State.nextTraceOff_wraps hmode]
    exact ⟨State.getF_traceWrite_WOFF hopen .., State.dbyte_traceWrite hopen cls sub ctx queue d0 d1⟩

end Sys2Proof.Machine

/-! Every command answers a next state in every state, but for a CXL.mem access outside the committed window (R512); and
the frame of the host's commands. -/

namespace Sys2Proof.Machine

open Sys2Proof

variable {s : State}

/-! ### What answers a next state -/

theorem next_completes (t : State) : completes (.next t) := ⟨t, rfl⟩

theorem onlyIf_completes (b : Bool) (f : State → State) (s : State) : completes (onlyIf b f s) := by
  cases b with
  | false => exact next_completes s
  | true => exact next_completes (f s)

theorem State.deliver_completes (s : State) (p ty : Nat) (kind : Packet → Bool) (f : State → Packet → State) :
    completes (s.deliver p ty kind f) := by
  unfold State.deliver
  split <;> exact next_completes _

theorem State.deliverSwitch_completes (s : State) (p ty : Nat) (f : State → Packet → State) :
    completes (s.deliverSwitch p ty f) := by
  unfold State.deliverSwitch
  split <;> exact next_completes _

theorem State.service_completes (s : State) (rule : SigRule) (h : SvcHdr) (cmd : Nat) (body : List Byte)
    (act : State → Reply) : completes (s.service rule h cmd body act) := by
  unfold State.service
  split_ifs <;> exact next_completes _

theorem State.ownerService_completes (s : State) (h : SvcHdr) (cmd : Nat) (body : List Byte) (act : State → Reply) :
    completes (s.ownerService h cmd body act) := by
  unfold State.ownerService
  split <;> exact State.service_completes ..

theorem State.mailbox_completes (s : State) (cmd len : Nat) (act : State → Nat → Reply) :
    completes (s.mailbox cmd len act) := by
  unfold State.mailbox
  split
  · exact onlyIf_completes ..
  · exact next_completes _

theorem execTileFail_completes (q : Fin 64) (n tile : Nat) (cause : FailCause) (s : State) :
    completes (execTileFail q n tile cause s) := by
  unfold execTileFail
  split
  · exact onlyIf_completes ..
  · exact next_completes _
  · exact next_completes _

theorem execEscalationPass_completes (q : Fin 64) (p : PassEnd) (s : State) :
    completes (execEscalationPass q p s) := by
  unfold execEscalationPass
  split
  · split <;> exact next_completes _
  · exact next_completes _

theorem execCreditWaitTimeout_completes (p : Fin 6) (requester : Fin 8) (s : State) :
    completes (execCreditWaitTimeout p requester s) := by
  unfold execCreditWaitTimeout
  split
  · exact next_completes _
  · exact onlyIf_completes ..

theorem execRefreshWindowChange_completes (b : Fin 16) (cycle : Nat) (heat : StackHeat) (s : State) :
    completes (execRefreshWindowChange b cycle heat s) := by
  unfold execRefreshWindowChange
  split <;> exact onlyIf_completes ..

/-- Every command but the host's accesses of device memory answers a next state: its one next state, that of an event
under its condition, that of an arrival or a request, or the one that its own case names. -/
theorem exec_completes {c : Instr} (hread : ∀ a, c ≠ .hostMemRead a) (hwrite : ∀ a d, c ≠ .hostMemWrite a d)
    (s : State) : completes (exec c s) := by
  cases c
  all_goals dsimp only [exec]
  case hostMemRead a => exact absurd rfl (hread a)
  case hostMemWrite a d => exact absurd rfl (hwrite a d)
  case clearRetire => exact State.ownerService_completes ..
  case tileFail => exact execTileFail_completes ..
  case escalationPass => exact execEscalationPass_completes ..
  case creditWaitTimeout => exact execCreditWaitTimeout_completes ..
  case refreshWindowChange => exact execRefreshWindowChange_completes ..
  case getInfo | mailboxGetCert | mailboxAttest | mailboxReadEvents => exact State.mailbox_completes ..
  case linkstate | endpoint => exact State.deliverSwitch_completes ..
  case writePacket | readReq | readRsp | writeAck | signalPacket | signalAck | collData | collReady | collAbort | collAck
      | unreach => exact State.deliver_completes ..
  case updateBegin | updateData | updateEnd | confirm | configWrite | attest | getCert | readEvents | enroll | wrapPsk =>
    exact State.service_completes ..
  case glazeEncode | narrowEmission | commandComplete | tileComplete | waitTimeout | transitPacket | bootTimeout
      | powerOnReset | credit | idle =>
    dsimp only [execGlazeEncode, execNarrowEmission, execCommandComplete, execTileComplete, execWaitTimeout,
      execTransitPacket, execBootTimeout, execPowerOnReset, execCredit, execIdle]
    split <;> exact next_completes _
  case decisionStepEnd | nak | readBeatReturn | dispatchTimeout | quiesceTimeout | eventLogReclaim =>
    dsimp only [execDecisionStepEnd, execNak, execReadBeatReturn, execDispatchTimeout, execQuiesceTimeout,
      execEventLogReclaim]
    split
    · exact onlyIf_completes ..
    · exact next_completes _
  case d2dUncorr | snoopInvalidation | atsInvalidation =>
    dsimp only [execD2dUncorr, execSnoopInvalidation, execAtsInvalidation]
    exact onlyIf_completes ..
  case watchLinePoll | tilePlace | stepBarrier | interludeClose | frameReceive | skipFrameReceive | skipFrameSend
      | replayTimeout | creditReport | retrainEntry | retrainDone | retrainTimeout | failedPortRetry | routingTableSwap
      | outputGrant | refreshBlackout | stackPortGrant | patrolScrub | correctiveWrite | rowSpare | traceFreeze
      | traceFull
      | sensorSample | sensorFailure | budgetPeriod | fastLimiter | fallback | thermWarn | thermWarnRelease | thermTrip
      | hearthGate | busyTimeSave | coneTestDue | coneTestOverdue | coneTestStart | coneTestEnd | pllLockLoss
      | sequencerWatchdog | tripHoldTimeout | tripRelease | thermalReadyTimeout | powerEntry | entryTimeout | wakeTimeout
      | pwrEnHoldEnd | perstAssert | ideKeyProgram | flr | flrTimeout
      | cxlLinkDown => exact onlyIf_completes ..
  all_goals exact next_completes _

/-! ### The host's accesses of device memory (R512) -/

/-- A read answers, or it is decoded and its address lies outside the window. -/
theorem execHostMemRead_faults (addr : Nat) (s : State) : completes (execHostMemRead addr s)
    ∨ s.hdmServes = true ∧ s.inWindow addr = false ∧ execHostMemRead addr s = .fault (.hostAddress addr) := by
  unfold execHostMemRead
  split_ifs with hserve hshut hw
  · exact .inl (next_completes _)
  · exact .inl (next_completes _)
  · exact .inr ⟨by simpa using hserve, by simpa using hw, rfl⟩
  · exact .inl (next_completes _)
  · exact .inl (next_completes _)

/-- A write answers, or it is decoded and its address lies outside the window. -/
theorem execHostMemWrite_faults (addr : Nat) (data : List Byte) (s : State) : completes (execHostMemWrite addr data s)
    ∨ s.hdmServes = true ∧ s.inWindow addr = false ∧ execHostMemWrite addr data s = .fault (.hostAddress addr) := by
  unfold execHostMemWrite
  extract_lets bs pa
  split_ifs with hserve hide hshut hw
  · exact .inl (next_completes _)
  · exact .inl (next_completes _)
  · exact .inl (next_completes _)
  · exact .inr ⟨by simpa using hserve, by simpa using hw, rfl⟩
  · exact .inl (next_completes _)
  · exact .inl (next_completes _)

/-- Settles O7: a command answers a next state by the form of its meaning, and of the host's accesses the case of an
address outside the window is the one fault. -/
theorem onlyHostAccessFaults : Obligations.OnlyHostAccessFaults := by
  intro c s
  by_cases hread : ∃ a, c = .hostMemRead a
  · obtain ⟨a, rfl⟩ := hread
    exact (execHostMemRead_faults a s).imp id fun h => ⟨a, .inl rfl, h⟩
  by_cases hwrite : ∃ a d, c = .hostMemWrite a d
  · obtain ⟨a, d, rfl⟩ := hwrite
    exact (execHostMemWrite_faults a d s).imp id fun h => ⟨a, .inr ⟨d, rfl⟩, h⟩
  exact .inl (exec_completes (not_exists.1 hread) (fun a d h => hwrite ⟨a, d, h⟩) s)

/-! ### The frame -/

/-- No command of the host writes a part beside its frame. -/
theorem execParts_of_host {c : Instr} (h : (frameOf c).1 = .host) : execParts c = (frameOf c).2 := by
  unfold execParts
  split
  · cases h
  · rfl

/-- Settles O9: a command changes the parts of its frame alone. -/
theorem hostSideFrame : Obligations.HostSideFrame := by
  intro c s t p hc he hp
  have hk := exec_keeps (Parts.le_refl _) (keeps_refl s) t he
  exact hk.same p (Parts.testBit_of_not_mem (execParts_of_host hc ▸ hp))

end Sys2Proof.Machine

/-! PF0's writes while the link, its encryption or a recovery shuts the module (R520, R521). -/

namespace Sys2Proof.Machine

open Sys2Proof

variable {s : State}

theorem State.barWrite_refused (hl : s.linkServes = true) (hi : s.ideOk = false) (f : State → State) :
    s.barWrite f = s.addSat CXL_ERR_REFUSED 1 := by
  simp [State.barWrite, hl, hi]

theorem State.barWrite_shut (hl : s.linkServes = true) (hi : s.ideOk = true) (hs : s.shut = true) (f : State → State) :
    s.barWrite f = s := by
  simp [State.barWrite, hl, hi, hs]

theorem State.barWrite_open (hl : s.linkServes = true) (hi : s.ideOk = true) (hs : s.shut = false) (f : State → State) :
    s.barWrite f = f s := by
  simp [State.barWrite, hl, hi, hs]

theorem State.hostWrite_pf0 (s : State) (off : Nat) (own : Nat → Bool) (f : State → State) :
    s.hostWrite .pf0 off own f = s.barWrite fun s => if s.asleep && !powered off then s else f s := rfl

theorem State.alwaysWrite_pf0 (s : State) (f : State → State) : s.alwaysWrite .pf0 f = s.barWrite f := rfl

/-- Each of PF0's writes goes to a BAR. -/
theorem exec_of_mem_pf0Writes {n : Fin 8192} {c : Fin 16} {q : Fin 64} {p : Fin 6} {v : BitVec 64} {e : BitVec 32}
    {o : WakeOut} {base size ways : Nat} {i : Instr} (hi : i ∈ pf0Writes n c q p v e o base size ways) (s : State) :
    ∃ f, exec i s = .next (s.barWrite f) := by
  simp only [pf0Writes, List.mem_cons, List.not_mem_nil, or_false] at hi
  rcases hi with rfl | rfl | rfl | rfl | rfl | rfl | rfl | rfl | rfl | rfl | rfl | rfl | rfl
  exacts [⟨_, congrArg _ (s.hostWrite_pf0 ..)⟩, ⟨_, rfl⟩, ⟨_, rfl⟩, ⟨_, congrArg _ (s.hostWrite_pf0 ..)⟩, ⟨_, rfl⟩,
    ⟨_, rfl⟩, ⟨_, rfl⟩, ⟨_, rfl⟩, ⟨_, rfl⟩, ⟨_, congrArg _ (s.alwaysWrite_pf0 _)⟩,
    ⟨_, congrArg _ (s.alwaysWrite_pf0 _)⟩, ⟨_, congrArg _ (s.alwaysWrite_pf0 _)⟩, ⟨_, rfl⟩]

/-- Settles O23: PF0's writes go to a BAR, and a BAR is answered by its link, its encryption and the recovery first. -/
theorem shutModuleDiscardsHostWrites : Obligations.ShutModuleDiscardsHostWrites := by
  intro n c q p v e o base size ways s i hi
  obtain ⟨f, hf⟩ := exec_of_mem_pf0Writes hi s
  rw [hf]
  exact ⟨fun hl => congrArg _ (State.barWrite_down hl f), fun hl hide => congrArg _ (State.barWrite_refused hl hide f),
    fun hl hide hs => congrArg _ (State.barWrite_shut hl hide hs f)⟩

end Sys2Proof.Machine

/-! The host's accesses of device memory (R373, R375, R381, R512, R514, R516, R520, R521). -/

namespace Sys2Proof.Machine

open Sys2Proof

variable {s : State}

/-! ### The address ring (R381, R397) -/

/-- The entry of the address ring for an uncorrectable line. -/
def ringEntry (i pa : Nat) (scrub : Bool) (ctx : Nat) : List (Fld × Nat) :=
  [(MEM_UEADR_VALID i, 1), (MEM_UEADR_SRC_SCRUB i, b2n scrub), (MEM_UEADR_CTX i, if scrub then 0 else ctx),
    (MEM_UEADR_ADDR i, pa / 64)]

theorem Fld.key_mod (f : Fld) : f.key % 64 = f.lo % 64 := by
  rw [Fld.key, cellKey]
  omega

theorem ringEntry_key_nodup (i pa : Nat) (scrub : Bool) (ctx : Nat) :
    ((ringEntry i pa scrub ctx).map fun p => p.1.key).Nodup := by
  refine List.Nodup.of_map (· % 64) ?_
  simp only [ringEntry, List.map_cons, List.map_nil, Fld.key_mod]
  show [63 % 64, 62 % 64, 52 % 64, 6 % 64].Nodup
  decide

/-- The line is logged in the entry that `NEXT` names. -/
theorem State.getF_ueFound (s : State) (pa : Nat) (scrub : Bool) (ctx : Nat) {f : Fld} {v : Nat}
    (h : (f, v) ∈ ringEntry (s.getF MEM_UEPTR_NEXT) pa scrub ctx) :
    (s.ueFound pa scrub ctx).getF f = v % 2 ^ f.width := by
  have hf : (Reg.MEM_UEADR.num == f.reg.num) = true := by
    simp only [ringEntry, List.mem_cons, List.not_mem_nil, or_false, Prod.mk.injEq] at h
    rcases h with ⟨rfl, -⟩ | ⟨rfl, -⟩ | ⟨rfl, -⟩ | ⟨rfl, -⟩ <;> rfl
  unfold State.ueFound
  extract_lets at' s1 s2 i s3
  have hi : i = s.getF MEM_UEPTR_NEXT :=
    (State.getF_setF_num _ _ rfl).trans
      ((State.rowDue_keeps (Parts.le_refl _) (keeps_refl s) at'.1 (at'.2 / 2048)).getF (f := MEM_UEPTR_NEXT) (by decide))
  calc (s3.incF MEM_UEPTR_NEXT 1).getF f
    _ = s3.getF f := State.getF_setF_num _ _ (by rw [← beq_iff_eq.1 hf]; rfl)
    _ = v % 2 ^ f.width := State.getF_setFs_of_mem (ringEntry_key_nodup i pa scrub ctx) (hi ▸ h) s2

theorem State.ueFound_keeps_self (s : State) (pa : Nat) (scrub : Bool) (ctx : Nat) :
    Keeps (Parts.of lineErrorParts) s (s.ueFound pa scrub ctx) :=
  State.ueFound_keeps (Parts.le_refl _) (keeps_refl s) pa scrub ctx

/-! ### HOST_MEM_READ (R512, R514, R516) -/

theorem State.memOpen_iff :
    s.memOpen = true ↔ s.hdmServes = true ∧ s.ideOk = true ∧ s.shut = false ∧ s.dramAwake = true := by
  simp [State.memOpen, and_assoc]

theorem exec_hostMemRead (hm : s.memOpen = true) {addr : Nat} (hw : s.inWindow addr = true) :
    exec (.hostMemRead addr) s = .next (s.readLine (addr - s.host.hdmBase)) := by
  obtain ⟨hserve, hide, hshut, hawake⟩ := State.memOpen_iff.1 hm
  simp [exec, execHostMemRead, hserve, hide, hshut, hawake, hw]

theorem exec_hostMemRead_poisoned (hserve : s.hdmServes = true) (h : s.ideOk = false ∨ s.shut = true) (addr : Nat) :
    exec (.hostMemRead addr) s = .next s.poisonReply := by
  rcases h with h | h <;> simp [exec, execHostMemRead, hserve, h]

/-- An address outside the window is no address of the module. -/
theorem exec_hostMemRead_fault (hm : s.memOpen = true) {addr : Nat} (hw : s.inWindow addr = false) :
    exec (.hostMemRead addr) s = .fault (.hostAddress addr) := by
  obtain ⟨hserve, hide, hshut, -⟩ := State.memOpen_iff.1 hm
  simp [exec, execHostMemRead, hserve, hide, hshut, hw]

theorem State.readLine_bad {pa : Nat} (h : s.badLines.get false (pa / 64) = true) :
    s.readLine pa = (s.ueFound (pa / 64 * 64) false 0).poisonReply :=
  if_pos (by rwa [Nat.mul_div_cancel _ (by decide)])

theorem State.readLine_clean {pa : Nat} (h : s.badLines.get false (pa / 64) = false) :
    s.readLine pa
      = State.grantLine { s with hostReply := some ⟨bytesAt s.dbyte (pa / 64 * 64) 64, false⟩ } (pa / 64) := by
  rw [State.readLine, Nat.mul_div_cancel _ (by decide), h]
  rfl

/-- Settles O33: the line is logged, and the poisoned answer is counted. -/
theorem uncorrectableHostReadPoisoned : Obligations.UncorrectableHostReadPoisoned := by
  intro addr s hm hw pa i hbad hpa
  have hline : s.badLines.get false ((addr - s.host.hdmBase) / 64) = true := by
    rwa [Nat.mul_div_cancel _ (by decide)] at hbad
  let u := s.ueFound pa false 0
  have hu : Keeps (Parts.of lineErrorParts) s u := s.ueFound_keeps_self pa false 0
  have hpoison {f : Fld} (hf : (f.reg.num == Reg.CXL_ERR.num) = false) : u.poisonReply.getF f = u.getF f :=
    State.getF_setF_num _ _ hf
  have hentry {f : Fld} {v : Nat} (h : (f, v) ∈ ringEntry i pa false 0) : u.getF f = v % 2 ^ f.width :=
    s.getF_ueFound pa false 0 h
  refine ⟨u.poisonReply, (exec_hostMemRead hm hw).trans (congrArg _ (State.readLine_bad hline)), rfl, ?_,
    (hpoison rfl).trans (hentry (v := 1) (by simp [ringEntry])), ?_,
    (hpoison rfl).trans (hentry (v := 0) (by simp [ringEntry])), hu.same .dram (by decide), hu.same .badLines (by decide)⟩
  · calc u.poisonReply.getF CXL_ERR_POISON
      _ = min (u.getF CXL_ERR_POISON + 1) (2 ^ 16 - 1) := State.getF_addSat _ CXL_ERR_POISON 1
      _ = min (s.getF CXL_ERR_POISON + 1) (2 ^ 16 - 1) := by rw [hu.getF (by decide)]
  · calc u.poisonReply.getF (MEM_UEADR_ADDR i)
      _ = u.getF (MEM_UEADR_ADDR i) := hpoison rfl
      _ = pa / 64 % 2 ^ 34 := hentry (by simp [ringEntry])
      _ = pa / 64 := Nat.mod_eq_of_lt (by omega)

/-! ### HOST_MEM_WRITE (R373, R375, R381, R512) -/

theorem exec_hostMemWrite (hm : s.memOpen = true) {addr : Nat} {data : List Byte} (hd : addr % 64 + data.length ≤ 64)
    (hw : s.inWindow addr = true) :
    exec (.hostMemWrite addr data) s = .next (s.writeLine (addr - s.host.hdmBase) data) := by
  obtain ⟨hserve, hide, hshut, hawake⟩ := State.memOpen_iff.1 hm
  have htake : data.take (64 - addr % 64) = data := List.take_of_length_le (by omega)
  simp [exec, execHostMemWrite, hserve, hide, hshut, hawake, hw, htake]

theorem exec_hostMemWrite_fault (hm : s.memOpen = true) {addr : Nat} (hw : s.inWindow addr = false) (data : List Byte) :
    exec (.hostMemWrite addr data) s = .fault (.hostAddress addr) := by
  obtain ⟨hserve, hide, hshut, -⟩ := State.memOpen_iff.1 hm
  simp [exec, execHostMemWrite, hserve, hide, hshut, hw]

theorem State.writeLine_saggar {pa : Nat} (h : s.saggar ≤ pa) (bs : List Byte) :
    s.writeLine pa bs = s.addSat (MEM_ERR_HOSTREJ (s.stackAddr pa).1) 1 :=
  if_pos h

theorem State.writeLine_bad {pa : Nat} {bs : List Byte} (h : pa < s.saggar) (hbad : s.badLines.get false (pa / 64) = true)
    (hlen : bs.length < 64) : s.writeLine pa bs = s.ueFound (pa / 64 * 64) false 0 := by
  simp [State.writeLine, hbad, hlen, Nat.not_le.2 h]

theorem State.writeLine_lands {pa : Nat} {bs : List Byte} (h : pa < s.saggar)
    (hbad : (s.badLines.get false (pa / 64) && decide (bs.length < 64)) = false) :
    s.writeLine pa bs = (s.hostPut pa bs).snoopWrite pa bs.length := by
  rw [State.writeLine, if_neg (Nat.not_le.2 h), hbad]
  rfl

theorem State.dbyte_hostPut (s : State) (pa : Nat) (bs : List Byte) (x : Nat) :
    (s.hostPut pa bs).dbyte x = if pa ≤ x ∧ x < pa + bs.length then bs.getD (x - pa) 0 else s.dbyte x :=
  Mem.read_write memBlank s.dram pa bs x

/-- Settles O34: a read is of a clean line, poisoned or of no address, and a write lands or is discarded by its address
and its line. That a refused access counts as it does is the model's reading (log entry 36). -/
theorem hostMemoryAccesses : Obligations.HostMemoryAccesses := by
  refine ⟨fun addr s => ⟨fun hm hw hclean => ⟨_,
      (exec_hostMemRead hm hw).trans (congrArg _ (State.readLine_clean hclean)), rfl, ?_, ?_, rfl⟩,
      fun hserve h => exec_hostMemRead_poisoned hserve h addr,
      fun hm hw => exec_hostMemRead_fault hm hw⟩,
    fun addr data s hm hd => ⟨fun hw hlow hbad => ⟨?_, s.dbyte_hostPut _ data⟩, fun hw hhigh => ?_,
      fun hw hlow hbad hlen => ?_, fun hw => exec_hostMemWrite_fault hm hw data⟩⟩
  · exact List.getLast?_concat
  · exact State.getF_setF _ CXL_SF_OCC _
  · rw [exec_hostMemWrite hm hd hw, State.writeLine_lands hlow hbad]
  · rw [exec_hostMemWrite hm hd hw, State.writeLine_saggar hhigh]
  · rw [exec_hostMemWrite hm hd hw, State.writeLine_bad hlow hbad hlen]

end Sys2Proof.Machine

/-! The host's link: what the host invalidates in the module, the HDM decoder and the IDE keys (R512, R517–R520). -/

namespace Sys2Proof.Machine

open Sys2Proof

variable {s : State}

/-! ### Lines of host memory (R519) -/

theorem State.read_hostLine (s : State) (addr : Nat) {data : List Byte} (hd : data.length = 64) (x : Nat) :
    Mem.read memBlank (s.hostLine addr data).hostMem x = if addr / 64 * 64 ≤ x ∧ x < addr / 64 * 64 + 64
      then data.getD (x - addr / 64 * 64) 0 else Mem.read memBlank s.hostMem x := by
  have h := Mem.read_write memBlank s.hostMem (addr / 64 * 64) (data.take 64) x
  rw [List.take_of_length_le hd.le, hd] at h
  rw [State.hostLine, List.take_of_length_le hd.le]
  exact h

theorem exec_snoopInvalidation_held {addr : Nat} (hrun : s.running = true) (hl : s.linkServes = true)
    (hi : s.ideOk = true) (hheld : s.host.watch.contains (addr / 64) = true) (data : List Byte) :
    exec (.snoopInvalidation addr data) s = .next ((s.hostLine addr data).snooped (addr / 64)) :=
  if_pos (show (s.running && s.linkServes && s.ideOk && s.host.watch.contains (addr / 64)) = true by
    rw [hrun, hl, hi, hheld]; rfl)

theorem exec_snoopInvalidation_other {addr : Nat} (hother : s.host.watch.contains (addr / 64) = false)
    (data : List Byte) : exec (.snoopInvalidation addr data) s = .next (s.hostLine addr data) :=
  if_neg (show ¬ (s.running && s.linkServes && s.ideOk && s.host.watch.contains (addr / 64)) = true by
    rw [hother, Bool.and_false]; exact Bool.false_ne_true)

/-! ### Translations of the host (R517, R518) -/

/-- The module forgets a page's translation; the host's next answer for it is as `granted` says. -/
def State.atsForgotten (s : State) (k : Nat × Nat) (granted : Bool) : State :=
  let deny := s.host.atsDeny.filter (· != k)
  { s with host := { s.host with
    atc := s.host.atc.filter (· != k), atsDeny := if granted then deny else deny ++ [k] } }

theorem exec_atsInvalidation (hl : s.linkServes = true) (c : Fin 16) (page : Nat) (granted : Bool) :
    exec (.atsInvalidation c page granted) s = .next (s.atsForgotten (c.val, page) granted) :=
  if_pos hl

theorem State.mem_atc_atsForgotten (s : State) (k x : Nat × Nat) (granted : Bool) :
    x ∈ (s.atsForgotten k granted).host.atc ↔ x ∈ s.host.atc ∧ x ≠ k := by
  simp [State.atsForgotten]

theorem State.mem_atsDeny_atsForgotten (s : State) (k : Nat × Nat) (granted : Bool) :
    k ∈ (s.atsForgotten k granted).host.atsDeny ↔ granted = false := by
  cases granted <;> simp [State.atsForgotten]

/-! ### The HDM decoder (R512) -/

/-- The decoder serves a window. -/
def State.hdmCommitted (s : State) (base size : Nat) : State :=
  { s with host := { s.host with hdmBase := base, hdmSize := size } }.setF CXL_LINK_HDM 1

theorem exec_hdmCommit_commits (hl : s.linkServes = true) (hi : s.ideOk = true) (hs : s.shut = false)
    {base size ways : Nat} (hbase : base % 2 ^ 28 = 0) (hsize : size % 2 ^ 28 = 0) (hpos : 0 < size)
    (hle : size ≤ 2 ^ 40) (hways : ways = 1) : exec (.hdmCommit base size ways) s = .next (s.hdmCommitted base size) :=
  congrArg Host.Outcome.next ((State.barWrite_open hl hi hs _).trans (if_pos (by
    simpa [hpos, hways] using ⟨⟨hbase, hsize⟩, hle⟩)))

theorem exec_hdmCommit_fails (hl : s.linkServes = true) (hi : s.ideOk = true) (hs : s.shut = false)
    {base size ways : Nat}
    (h : base % 2 ^ 28 ≠ 0 ∨ size % 2 ^ 28 ≠ 0 ∨ size = 0 ∨ 2 ^ 40 < size ∨ ways ≠ 1) :
    exec (.hdmCommit base size ways) s = .next s := by
  refine congrArg Host.Outcome.next ((State.barWrite_open hl hi hs _).trans (if_neg fun hfits => ?_))
  simp only [Bool.and_eq_true, decide_eq_true_eq] at hfits
  obtain ⟨⟨⟨⟨hbase, hsize⟩, hpos⟩, hle⟩, hways⟩ := hfits
  omega

/-! ### Link encryption (R520) -/

/-- A stream has its key, and `IDE` shows whether both have. -/
def State.streamKeyed (s : State) (stream : Fin 2) : State :=
  let h := if stream.val = 0 then { s.host with ideMem := true } else { s.host with ideIo := true }
  { s with host := h }.setF CXL_LINK_IDE (b2n (h.ideMem && h.ideIo))

theorem exec_ideKeyProgram_keyed (hl : s.linkServes = true) (hk : s.seval.psk.any (fun k => keyUnwraps k.2) = true)
    (stream : Fin 2) : exec (.ideKeyProgram stream) s = .next (s.streamKeyed stream) :=
  if_pos (Bool.and_eq_true_iff.2 ⟨hl, hk⟩)

theorem exec_ideKeyProgram_refused (h : ¬ (s.linkServes = true ∧ s.seval.psk.any (fun k => keyUnwraps k.2) = true))
    (stream : Fin 2) : exec (.ideKeyProgram stream) s = .next s :=
  if_neg (mt Bool.and_eq_true_iff.1 h)

theorem State.flag_setF_b2n (s : State) {f : Fld} (hf : f.width = 1) (b : Bool) : (s.setF f (b2n b)).flag f = b := by
  rw [State.flag, State.getF_setF, hf]
  cases b <;> rfl

theorem State.streamKeyed_secure (s : State) (stream : Fin 2) :
    (s.streamKeyed stream).host.ideMem = (s.host.ideMem || stream == 0)
    ∧ (s.streamKeyed stream).host.ideIo = (s.host.ideIo || stream == 1)
    ∧ (s.streamKeyed stream).flag CXL_LINK_IDE
      = ((s.streamKeyed stream).host.ideMem && (s.streamKeyed stream).host.ideIo) := by
  refine ⟨?_, ?_, State.flag_setF_b2n _ rfl _⟩
  all_goals
    match stream with
    | 0 => simp [State.streamKeyed, State.setF]
    | 1 => simp [State.streamKeyed, State.setF]

/-- Settles O35: a line and a page that the host takes back are held no longer, the decoder commits what fits it, and a
provisioned key secures its stream. -/
theorem hostLinkCommands : Obligations.HostLinkCommands := by
  refine ⟨fun s => ⟨fun addr data hd => ⟨s.read_hostLine addr hd,
      fun hrun hl hi hheld => exec_snoopInvalidation_held hrun hl hi hheld data,
      fun hother => exec_snoopInvalidation_other hother data⟩,
    fun c page granted hl => ⟨s.atsForgotten (c.val, page) granted, exec_atsInvalidation hl c page granted,
      fun h => ((s.mem_atc_atsForgotten _ _ _).1 h).2 rfl, s.mem_atsDeny_atsForgotten _ granted,
      fun k hk => (s.mem_atc_atsForgotten _ k _).trans (and_iff_left hk)⟩⟩,
    fun s => ⟨fun base size ways hl hi hs => ⟨fun hbase hsize hpos hle hways => ⟨s.hdmCommitted base size,
        exec_hdmCommit_commits hl hi hs hbase hsize hpos hle hways, rfl, rfl, State.flag_setF_b2n _ rfl true⟩,
      exec_hdmCommit_fails hl hi hs⟩, fun stream => ?_⟩⟩
  by_cases h : s.linkServes = true ∧ s.seval.psk.any (fun k => keyUnwraps k.2) = true
  · refine ⟨s.streamKeyed stream, exec_ideKeyProgram_keyed h.1 h.2 stream, ?_⟩
    rw [if_pos h]
    exact s.streamKeyed_secure stream
  · refine ⟨s, exec_ideKeyProgram_refused h stream, ?_⟩
    rw [if_neg h]

end Sys2Proof.Machine

/-! Function level reset (R506, R522): what it leaves of the queues, the commands and the interrupts of its context. -/

namespace Sys2Proof.Machine

open Sys2Proof

variable {s : State}

/-! ### The steps of a reset (R506) -/

/-- The commands of a context leave with no record. -/
def State.dropFlights (s : State) (c : Nat) : State :=
  let u := (s.flights.filter fun f => (s.queuesOf c).contains f.q).foldl
    (fun s f => (s.countUnits f).freeEntry f.q f.n) s
  { u with flights := u.flights.filter fun f => !(s.queuesOf c).contains f.q }

/-- A vector of VF(c + 1) is masked. -/
def State.maskVector (c : Nat) (s : State) (v : Nat) : State :=
  let k := ((c + 1) * 128 + v) * 4 + 3
  { s with host := { s.host with msix := s.host.msix.set 1 k (s.msixWord (c + 1) v 3 / 2 * 2 + 1) } }

theorem State.flrEnd_eq (s : State) (c : Nat) :
    s.flrEnd c = ((List.range 65).foldl (State.maskVector c)
      ((s.queuesOf c).foldl State.flrDisabled (s.dropFlights c))).setF (VF_FAULT0_VALID c) 0 := rfl

/-- What one step of a fold brings about, and every step keeps, holds after a fold that takes the step. -/
theorem State.foldl_of_mem {F : State → Nat → State} {P : State → Prop} {x : Nat}
    (hF : ∀ s y, y = x ∨ P s → P (F s y)) (l : List Nat) {s : State} (h : x ∈ l ∨ P s) : P (l.foldl F s) := by
  induction l generalizing s with
  | nil => exact h.resolve_left List.not_mem_nil
  | cons y l ih =>
    refine ih ?_
    rcases h with h | h
    · exact (List.mem_cons.1 h).symm.imp id fun e => hF s y (.inl e.symm)
    · exact .inr (hF s y (.inr h))

/-! ### The queues -/

/-- A field that shows a value shows it after a write that sets it to that value. -/
theorem State.getF_setF_stays {f g : Fld} {v a : Nat} (hr : f.reset = g.reset) (hv : v % 2 ^ g.width = a)
    (h : f.key = g.key ∨ s.getF f = a) : (s.setF g v).getF f = a := by
  by_cases hk : f.key = g.key
  · rw [State.getF, hr, hk, ← State.getF, State.getF_setF, hv]
  · exact (s.getF_setF_ne v hk).trans (h.resolve_left hk)

/-- A queue is not halted, shows DISABLED and holds at no mark. -/
structure QueueEnded (s : State) (q : Nat) : Prop where
  halt : s.getF (QUE_CTL_HALT q) = 0
  state : s.getF (QUE_STAT_STATE q) = qDisabled
  holding : s.holding q = false

/-- A reset of its function ends a queue, and leaves every queue ended that was. -/
theorem State.queueEnded_flrDisabled (s : State) {q x : Nat} (h : x = q ∨ QueueEnded s q) :
    QueueEnded (s.flrDisabled x) q where
  halt := (State.getF_setF_num _ _ rfl).trans (State.getF_setF_stays rfl rfl
    (h.imp (fun e : x = q => e ▸ rfl) fun h => (State.getF_setF_num _ _ rfl).trans h.halt))
  state := State.getF_setF_stays rfl rfl (h.imp (fun e : x = q => e ▸ rfl) fun h =>
    (State.getF_setF_num _ _ rfl).trans ((State.getF_setF_num _ _ rfl).trans h.state))
  holding := by
    show (s.dropMark x).holding q = false
    by_cases hx : q = x
    · exact hx ▸ s.holding_dropMark_same q
    · exact (s.holding_dropMark_ne hx).trans (h.resolve_left fun e => hx e.symm).holding

/-- Masking touches the MSI-X tables alone. -/
theorem State.maskVectors_keeps (s : State) (c : Nat) (l : List Nat) :
    Keeps (Parts.of [.link, .reg .VF_FAULT0]) s (l.foldl (State.maskVector c) s) :=
  keeps_foldl l (keeps_refl s) fun _ _ hs => State.link_keeps (Parts.within (Parts.le_refl _)) hs _ (by rfl)

/-- After the queues nothing is written but the MSI-X tables and the fault record. -/
theorem State.flrEnd_keeps_disabled (s : State) (c : Nat) :
    Keeps (Parts.of [.link, .reg .VF_FAULT0]) ((s.queuesOf c).foldl State.flrDisabled (s.dropFlights c))
      (s.flrEnd c) := by
  rw [State.flrEnd_eq]
  exact State.setF_keeps_reg .VF_FAULT0 (Parts.within (Parts.le_refl _)) (State.maskVectors_keeps _ c _) 0

theorem State.queueEnded_flrEnd (s : State) {c q : Nat} (hq : q < 64) (hc : s.ctxOf q = c) :
    QueueEnded (s.flrEnd c) q := by
  have hmem : q ∈ s.queuesOf c := List.contains_iff_mem.1 ((s.contains_queuesOf c hq).trans (beq_iff_eq.2 hc))
  obtain ⟨hhalt, hstate, hhold⟩ := State.foldl_of_mem (fun s x h => s.queueEnded_flrDisabled (q := q) (x := x) h)
    (s.queuesOf c) (s := s.dropFlights c) (.inl hmem)
  have hk := s.flrEnd_keeps_disabled c
  obtain ⟨-, hh, hst⟩ := hk.sameQueue q
  exact ⟨hh.trans hhalt, hst.trans hstate, (hk.holding (by decide) q).trans hhold⟩

/-! ### The commands -/

theorem State.flights_flrDisabled (s : State) (q : Nat) : (s.flrDisabled q).flights = s.flights := rfl

theorem State.flights_flrEnd (s : State) (c : Nat) : (s.flrEnd c).flights = (s.dropFlights c).flights := by
  have hq : ((s.queuesOf c).foldl State.flrDisabled (s.dropFlights c)).flights = (s.dropFlights c).flights :=
    List.foldlRecOn (s.queuesOf c) _ (motive := fun t : State => t.flights = (s.dropFlights c).flights) rfl
      fun t ht q _ => (t.flights_flrDisabled q).trans ht
  exact ((s.flrEnd_keeps_disabled c).same .flights (by decide)).trans hq

/-- No command of the context is left. -/
theorem State.ctxOf_of_mem_flrEnd {c : Nat} {f : Flight} (hf : f ∈ (s.flrEnd c).flights) (hq : f.q < 64) :
    s.ctxOf f.q ≠ c := by
  rw [State.flights_flrEnd] at hf
  have hnot := (List.mem_filter.1 hf).2
  rw [s.contains_queuesOf c hq] at hnot
  simpa using hnot

/-! ### The interrupts -/

theorem State.masked_maskVector (s : State) {c v x : Nat} (h : x = v ∨ s.msixWord (c + 1) v 3 % 2 = 1) :
    (State.maskVector c s x).msixWord (c + 1) v 3 % 2 = 1 := by
  by_cases hx : v = x
  · subst hx
    have hword : (State.maskVector c s v).msixWord (c + 1) v 3 = s.msixWord (c + 1) v 3 / 2 * 2 + 1 :=
      Store.get_set_same ..
    rw [hword]
    omega
  · have hword : (State.maskVector c s x).msixWord (c + 1) v 3 = s.msixWord (c + 1) v 3 :=
      Store.get_set_ne' _ _ _ _ (by omega)
    rw [hword]
    exact h.resolve_left fun e => hx e.symm

theorem State.msixWord_setF (s : State) (f : Fld) (x fn vec w : Nat) :
    (s.setF f x).msixWord fn vec w = s.msixWord fn vec w := rfl

/-- Each vector of the function is masked. -/
theorem State.masked_flrEnd (s : State) (c : Nat) {v : Nat} (hv : v < 65) :
    (s.flrEnd c).msixWord (c + 1) v 3 % 2 = 1 := by
  rw [State.flrEnd_eq, State.msixWord_setF]
  exact State.foldl_of_mem (P := fun t => t.msixWord (c + 1) v 3 % 2 = 1) (fun s x h => s.masked_maskVector h)
    (List.range 65) (.inl (List.mem_range.2 hv))

/-! ### FLR -/

theorem exec_flr {c : Fin 16} (hl : s.linkServes = true) (hv : s.vfOn c = true) :
    exec (.flr c) s = .next (s.flr c) :=
  if_pos (by rw [hl, hv]; rfl)

theorem State.flr_now (h : s.recov = none) (c : Nat) : s.flr c = s.flrEnd c := by
  rw [State.flr, h]

theorem State.flr_kept {r : RecRt} (h : s.recov = some r) (c : Nat) :
    s.flr c = { s with recov := some { r with flrPending := r.flrPending ++ [c] } } := by
  rw [State.flr, h]

/-- Settles O36: a reset disables each queue of its context, drops its commands and masks each vector, or waits for READY.
That it acts whole is the model's reading (log entry 35). -/
theorem functionResetDisablesQueues : Obligations.FunctionResetDisablesQueues := by
  intro c s hl hv
  refine ⟨fun hrec => ⟨s.flrEnd c, ?_, fun q hq => ?_, fun f hf hq => State.ctxOf_of_mem_flrEnd hf hq,
    fun v hv => s.masked_flrEnd c hv, State.getF_setF _ (VF_FAULT0_VALID c) 0⟩, fun r hrec => ?_⟩
  · rw [exec_flr hl hv, State.flr_now hrec]
  · obtain ⟨hhalt, hstate, hhold⟩ := s.queueEnded_flrEnd q.isLt hq
    refine ⟨?_, hhalt, hstate, hhold⟩
    rw [s.flag_flrEnd_EN c q.isLt, hq, bne_self_eq_false, Bool.and_false]
  · rw [exec_flr hl hv, State.flr_kept hrec]

end Sys2Proof.Machine

/-! A step with a command that waits, and the writers of the security-version and owner fuses (R529, R540). -/

namespace Sys2Proof.Machine

open Sys2Proof

variable {s t : State}

/-- Settles O1: a queue with a command at its front is the second case of a step. -/
theorem stepRunsFrontCommand : Obligations.StepRunsFrontCommand := by
  intro c rest s hp
  rw [step, hp]

/-! ### The fuses that CONFIRM and ENROLL burn -/

/-- What a request's action leaves of the fuses, the service of the request leaves. -/
theorem State.service_keeps_fuses {α : Type} (g : Fuses → α) {rule : SigRule} {h : SvcHdr} {cmd : Nat} {body : List Byte}
    {act : State → Reply} (hact : ∀ u, g (act u).1.fuses = g u.fuses) (he : s.service rule h cmd body act = .next t) :
    g t.fuses = g s.fuses := by
  have hoctr : (s.takeOctr h).fuses = s.fuses :=
    (State.takeOctr_keeps (Parts.le_refl [.nvm]) (keeps_refl s) h).same .fuses (by decide)
  unfold State.service at he
  split_ifs at he
  · cases he
    rfl
  · cases he
    exact (hact _).trans (congrArg g hoctr)
  · cases he
    rfl

theorem State.owner_confirm (s : State) : s.confirm.1.fuses.owner = s.fuses.owner := by
  unfold State.confirm
  split <;> rfl

theorem State.svn_enroll (s : State) (key : List Byte) : (s.enroll key).1.fuses.svn = s.fuses.svn := by
  unfold State.enroll
  split_ifs <;> rfl

/-- The frames of CONFIRM and ENROLL alone hold the two fuses. -/
theorem burn_not_in_execParts {c : Instr} (hc : ∀ h, c ≠ .confirm h) (he : ∀ h key, c ≠ .enroll h key) :
    (Parts.of (execParts c)).testBit (Part.num .burn) = false := by
  cases c
  case confirm h => exact absurd rfl (hc h)
  case enroll h key => exact absurd rfl (he h key)
  all_goals
    dsimp only [execParts, frameOf]
    decide +kernel

theorem exec_keeps_burn {c : Instr} (hc : ∀ h, c ≠ .confirm h) (he : ∀ h key, c ≠ .enroll h key)
    (hx : exec c s = .next t) : t.fuses.svn = s.fuses.svn ∧ t.fuses.owner = s.fuses.owner :=
  (exec_keeps (Parts.le_refl _) (keeps_refl s) t hx).same .burn (burn_not_in_execParts hc he)

theorem exec_keeps_svn {c : Instr} (hc : ∀ h, c ≠ .confirm h) (hx : exec c s = .next t) :
    t.fuses.svn = s.fuses.svn := by
  by_cases he : ∃ h key, c = .enroll h key
  · obtain ⟨h, key, rfl⟩ := he
    exact State.service_keeps_fuses Fuses.svn (fun u => u.svn_enroll key) hx
  · exact (exec_keeps_burn hc (fun h key hk => he ⟨h, key, hk⟩) hx).1

theorem exec_keeps_owner {c : Instr} (he : ∀ h key, c ≠ .enroll h key) (hx : exec c s = .next t) :
    t.fuses.owner = s.fuses.owner := by
  by_cases hc : ∃ h, c = .confirm h
  · obtain ⟨h, rfl⟩ := hc
    exact State.service_keeps_fuses Fuses.owner State.owner_confirm hx
  · exact (exec_keeps_burn (fun h hk => hc ⟨h, hk⟩) he hx).2

/-- Settles O6: every operation leaves the queue of waiting commands, and of the two commands whose frames hold the fuses
CONFIRM leaves the owner and ENROLL the security version. -/
theorem queueAndFusesHaveTheirWriters : Obligations.QueueAndFusesHaveTheirWriters :=
  ⟨fun _ s t hx => (exec_keeps (Parts.le_refl _) (keeps_refl s) t hx).pending,
    fun _ _ _ hx => ⟨fun hc => exec_keeps_svn hc hx, fun he => exec_keeps_owner he hx⟩⟩

end Sys2Proof.Machine

/-! The frame of the board's commands, which the end of a cone test leaves (R102, R105, R107). -/

namespace Sys2Proof.Machine

open Sys2Proof

/-- The module up, with Hearth 287 quarantined and under test, and both its spare rows free. -/
def underTest : State :=
  (({ State.reset with power := ⟨.up, true, false, false⟩ } : State).setFs
    [(HTH_STATE_STATE 287, hQuarantined), (HTH_STATE_ROWS_FREE 287, 2)]).setHearth 287
      { HearthRt.init with testing := true }

/-- Refutes O11: the FAIL of a quarantined Hearth with one failing cell takes a spare row, which its repair record shows
(R102, R107); the frame of CONE_TEST_END does not list that register. -/
theorem not_boardSideFrame : ¬ Obligations.BoardSideFrame := by
  intro hframe
  have hexec : exec (.coneTestEnd 287 (.cells [(129, 5)])) underTest
      = .next (underTest.coneVerdict 287 (.cells [(129, 5)])) :=
    exec_coneTestEnd (by decide +kernel) (by decide +kernel)
  have hsame : Part.same (.reg .HTH_RREP) underTest (underTest.coneVerdict 287 (.cells [(129, 5)])) :=
    hframe _ _ _ (.reg .HTH_RREP) rfl hexec (by decide)
  have hfree : underTest.getF (HTH_RREP_VALID0 287) = 0 := by decide +kernel
  have htaken : (underTest.coneVerdict 287 (.cells [(129, 5)])).getF (HTH_RREP_VALID0 287) = 1 := by decide +kernel
  exact absurd ((htaken.symm.trans (hsame _ rfl)).trans hfree) (by decide)

end Sys2Proof.Machine

/-! Service requests: whose turn they are, what they must carry, and what the served ones do (R453, R528, R529, R533,
R535, R539–R546). -/

namespace Sys2Proof.Machine

open Sys2Proof

variable {s : State} {h : SvcHdr}

/-! ### The requests as services (R546) -/

section
variable (h : SvcHdr) (s : State)

theorem exec_updateBegin (len : Nat) : exec (.updateBegin h len) s
    = s.service .free h 0x01 (leBytes 4 len) fun u => u.updateBegin len := rfl

theorem exec_updateData (offset : Nat) (data : List Byte) : exec (.updateData h offset data) s
    = s.service .free h 0x02 (leBytes 4 offset ++ data) fun u => u.updateData offset data := rfl

theorem exec_updateEnd : exec (.updateEnd h) s = s.service .marked h 0x03 [] State.updateEnd := rfl

theorem exec_confirm : exec (.confirm h) s = s.service .marked h 0x04 [] State.confirm := rfl

theorem exec_configWrite (total offset : Nat) (data : List Byte) : exec (.configWrite h total offset data) s
    = s.service .marked h 0x05 (leBytes 4 total ++ leBytes 4 offset ++ data) fun u => u.configPiece total offset data := rfl

theorem exec_attest (nonce : List Byte) : exec (.attest h nonce) s
    = s.service .free h 0x06 nonce fun u => u.attest nonce := rfl

theorem exec_getCert : exec (.getCert h) s = s.service .free h 0x07 [] State.getCert := rfl

theorem exec_readEvents (seq : Nat) : exec (.readEvents h seq) s
    = s.service .free h 0x08 (leBytes 4 seq) fun u => u.events seq 128 := rfl

theorem exec_clearRetire (x : Nat) : exec (.clearRetire h x) s
    = s.ownerService h 0x09 (leBytes 4 x) fun u => u.clearRetire h x := rfl

theorem exec_enroll (key : List Byte) : exec (.enroll h key) s
    = s.service .free h 0x0A key fun u => u.enroll key := rfl

theorem exec_wrapPsk (key : List Byte) : exec (.wrapPsk h key) s
    = s.service .always h 0x0B key fun u => u.wrapPsk key := rfl

end

/-! ### Who is served (R546) -/

section
variable {rule : SigRule} {cmd : Nat} {body : List Byte} {act : State → Reply}

/-- A repeated request, or one to a Stoker that does not run, has no effect. -/
theorem State.service_shut (ho : s.svcOpen h = false) : s.service rule h cmd body act = .next s := by
  have hcond : (!s.svcUp || s.stoker.replies.any fun r => r.1 == h.seq) = true := by
    rwa [State.svcOpen, ← Bool.not_eq_true', Bool.not_and, Bool.not_not] at ho
  exact if_pos hcond

theorem State.service_open (ho : s.svcOpen h = true) : s.service rule h cmd body act
    = .next (if s.authOk rule h cmd body then State.respond h (act (s.takeOctr h)) else s.replied h svcAuthFailed []) := by
  have hcond : ¬ (!s.svcUp || s.stoker.replies.any fun r => r.1 == h.seq) = true := by
    rwa [State.svcOpen, ← Bool.not_eq_false', Bool.not_and, Bool.not_not, ← Bool.not_eq_true] at ho
  rw [State.service, if_neg hcond]
  split <;> rfl

theorem State.authOk_unsigned (hs : h.signed = false) : s.authOk rule h cmd body = !s.mustSign rule := by
  simp [State.authOk, hs]

theorem State.takeOctr_unsigned (hs : h.signed = false) : s.takeOctr h = s := by
  simp [State.takeOctr, hs]

/-- An unsigned request is acted on where no signature is asked for. -/
theorem State.service_unsigned (ho : s.svcOpen h = true) (hs : h.signed = false) (hm : s.mustSign rule = false) :
    s.service rule h cmd body act = .next (State.respond h (act s)) := by
  rw [State.service_open ho, State.authOk_unsigned hs, hm, State.takeOctr_unsigned hs]
  rfl

theorem State.service_unsigned_refused (ho : s.svcOpen h = true) (hs : h.signed = false) (hm : s.mustSign rule = true) :
    s.service rule h cmd body act = .next (s.replied h svcAuthFailed []) := by
  rw [State.service_open ho, State.authOk_unsigned hs, hm]
  rfl

theorem State.ownerService_enrolled (he : s.fuses.owner.isSome = true) :
    s.ownerService h cmd body act = s.service .always h cmd body act :=
  if_pos he

/-- Without an owner the request is answered NOT_ALLOWED, signed or not. -/
theorem State.ownerService_ownerless (ho : s.svcOpen h = true) (he : s.fuses.owner = none) :
    s.ownerService h cmd body act = .next (s.replied h svcNotAllowed []) :=
  (if_neg (by simp [he])).trans
    (State.service_unsigned (h := { h with signed := false }) (rule := .free) ho rfl rfl)

theorem State.ownerService_shut (ho : s.svcOpen h = false) : s.ownerService h cmd body act = .next s := by
  unfold State.ownerService
  split
  · exact State.service_shut ho
  · exact State.service_shut (h := { h with signed := false }) ho

end

/-- Settles O28: the gate of the service answers before a request's own action does. Status codes that no rule gives are the
model's choice (log entry 21). -/
theorem serviceRequestGate : Obligations.ServiceRequestGate := by
  refine ⟨fun h a b data s i hi ho => ?_,
    fun h a b data s i ho hs => ⟨fun hauth hi => ?_, ?_, fun he => ?_, fun he => ?_⟩⟩
  · simp only [List.mem_cons, List.not_mem_nil, or_false] at hi
    rcases hi with rfl | rfl | rfl | rfl | rfl | rfl | rfl | rfl | rfl | rfl | rfl
    all_goals simp only [exec_updateBegin, exec_updateData, exec_updateEnd, exec_confirm, exec_configWrite, exec_attest,
      exec_getCert, exec_readEvents, exec_clearRetire, exec_enroll, exec_wrapPsk, State.service_shut ho,
      State.ownerService_shut ho]
  · simp only [List.mem_cons, List.not_mem_nil, or_false] at hi
    rcases hi with rfl | rfl | rfl
    all_goals simp only [exec_updateEnd, exec_confirm, exec_configWrite,
      State.service_unsigned_refused (rule := .marked) ho hs hauth]
  · rw [exec_wrapPsk, State.service_unsigned_refused ho hs rfl]
  · rw [exec_clearRetire, State.ownerService_enrolled he, State.service_unsigned_refused ho hs rfl]
  · rw [exec_clearRetire, State.ownerService_ownerless ho he]

end Sys2Proof.Machine

/-! What a write, an erasure and a new boot header leave to be read in the NVM (R524–R526). -/

namespace Sys2Proof.Machine

open Sys2Proof

/-- A read after a wipe: inside the run the unlisted value, outside it what was there. -/
theorem Mem.read_wipe (d : Byte) (m : List Host.Cell) (a n x : Nat) :
    Mem.read d (Mem.wipe m a n) x = if a ≤ x ∧ x < a + n then d else Mem.read d m x := by
  rw [Mem.read, Mem.wipe, Store.get, Store.find?_append, Store.find?_filter m (fun k => decide (k < a)),
    Store.find?_filter m (fun k => decide (a + n ≤ k))]
  simp only [decide_eq_true_eq]
  rcases lt_or_ge x a with hlt | hge
  · rw [if_pos hlt, if_neg (by omega), if_neg (by omega), Option.or_none]
    rfl
  · rw [if_neg (by omega), Option.none_or]
    by_cases hx : x < a + n
    · rw [if_neg (by omega), if_pos ⟨hge, hx⟩]
      rfl
    · rw [if_pos (by omega), if_neg (by omega)]
      rfl

theorem State.nbyte_nwrite (s : State) (a : Nat) (bs : List Byte) (x : Nat) :
    (s.nwrite a bs).nbyte x = if a ≤ x ∧ x < a + bs.length then bs.getD (x - a) nvmBlank else s.nbyte x :=
  Mem.read_write nvmBlank s.nvm a bs x

theorem State.nbyte_nerase (s : State) (a n x : Nat) :
    (s.nerase a n).nbyte x = if a ≤ x ∧ x < a + n then nvmBlank else s.nbyte x :=
  Mem.read_wipe nvmBlank s.nvm a n x

/-- A boot header lies in the first two blocks. -/
theorem State.nbyte_putHdr (s : State) (hd : BootHdr) {x : Nat} (hx : 0x20000 ≤ x) :
    (s.putHdr hd).nbyte x = s.nbyte x := by
  have hlen (b : BootHdr) : b.bytes.length = 64 := by simp [BootHdr.bytes, length_leBytes]
  have hblock : (if s.hdrBlock = some 0 then 1 else 0) ≤ 1 := by split <;> omega
  unfold State.putHdr
  extract_lets i a
  have ha : a + 0x10000 ≤ 0x20000 := by omega
  rw [State.nbyte_nwrite, hlen, if_neg (by omega), State.nbyte_nerase, if_neg (by omega)]

theorem slotBase_ge (slot : Nat) : 0x20000 ≤ slotBase slot := by
  unfold slotBase
  split <;> decide

end Sys2Proof.Machine

/-! The update of the firmware and its confirmation (R528, R529, R545). -/

namespace Sys2Proof.Machine

open Sys2Proof

variable {s : State} {h : SvcHdr}

section
variable (s : State) (slot svn tries : Nat)

@[simp] theorem State.getF_logUpdate (f : Fld) : (s.logUpdate slot svn tries).getF f = s.getF f := rfl

@[simp] theorem State.fuses_logUpdate : (s.logUpdate slot svn tries).fuses = s.fuses := rfl

@[simp] theorem State.replies_logUpdate : (s.logUpdate slot svn tries).stoker.replies = s.stoker.replies := rfl

end

/-- The spare slot erased, and its config area marked stale in the header (R545). -/
def State.spareErased (s : State) : State :=
  (s.nerase (slotBase s.spareSlot) (24 * 2 ^ 20)).putHdr
    (BootHdr.setFmt { s.bootHdr with pend := false } s.spareSlot 0)

theorem State.nbyte_spareErased (s : State) {i : Nat} (hi : i < 24 * 2 ^ 20) :
    s.spareErased.nbyte (slotBase s.spareSlot + i) = 0xFF := by
  have hslot := slotBase_ge s.spareSlot
  rw [State.spareErased, State.nbyte_putHdr _ _ (by omega), State.nbyte_nerase, if_pos (by omega)]
  rfl

theorem State.updateBegin_of_fits {len : Nat} (hp : s.bootHdr.pend = false) (h0 : 0 < len) (hl : len ≤ 24 * 2 ^ 20) :
    s.updateBegin len
      = ({ s.spareErased with stoker := { s.stoker with updLen := some len, updSpans := [] } }, svcOk, []) := by
  have hfits : ¬ (decide (24 * 2 ^ 20 < len) || decide (len = 0)) = true := by
    simp only [Bool.or_eq_true, decide_eq_true_eq]
    omega
  rw [State.updateBegin, hp, if_neg Bool.false_ne_true, if_neg hfits]
  rfl

theorem State.updateData_of_fits {len offset : Nat} {data : List Byte} (hu : s.stoker.updLen = some len)
    (hd : data.length ≤ 8192) (hl : offset + data.length ≤ len) :
    s.updateData offset data = ({ s.nwrite (slotBase s.spareSlot + offset) data with
      stoker := { s.stoker with updSpans := (offset, data.length) :: s.stoker.updSpans } }, svcOk, []) := by
  have hfits : ¬ (decide (8192 < data.length) || decide (len < offset + data.length)) = true := by
    simp only [Bool.or_eq_true, decide_eq_true_eq]
    omega
  rw [State.updateData, hu]
  exact if_neg hfits

/-- The bytes that UPDATE_DATA leaves in the NVM. -/
theorem State.nbyte_nwrite_getD (s : State) (a : Nat) (data : List Byte) (x : Nat) :
    (s.nwrite a data).nbyte x = if a ≤ x ∧ x < a + data.length then data.getD (x - a) 0 else s.nbyte x := by
  rw [State.nbyte_nwrite]
  split
  · rw [List.getD_eq_getElem _ _ (by omega), List.getD_eq_getElem _ _ (by omega)]
  · rfl

theorem State.updateData_not_begun (hu : s.stoker.updLen = none) (offset : Nat) (data : List Byte) :
    s.updateData offset data = s.refuse svcNotAllowed := by
  rw [State.updateData, hu]

/-- An image that is whole and that the boot accepts ends its update. -/
theorem State.updateEnd_accepted {len : Nat} (hu : s.stoker.updLen = some len)
    (hc : spansCover len s.stoker.updSpans = true) (hf : s.fwOk s.spareSlot = true) :
    ∃ t, s.updateEnd = (t, svcOk, []) ∧ t.stoker.updLen = none ∧ t.getF SEC_BOOT_TRIES = 0
      ∧ t.stoker.replies = s.stoker.replies := by
  rw [State.updateEnd, hu]
  simp only [hc, hf, Bool.not_true, Bool.or_self, Bool.false_eq_true, if_false]
  refine ⟨_, rfl, rfl, ?_, State.replies_logUpdate ..⟩
  rw [State.getF_logUpdate]
  exact State.getF_setF _ SEC_BOOT_TRIES 0

theorem State.updateEnd_bad {len : Nat} (hu : s.stoker.updLen = some len)
    (hb : ¬ (spansCover len s.stoker.updSpans = true ∧ s.fwOk s.spareSlot = true)) :
    s.updateEnd = s.refuse svcBad := by
  rw [State.updateEnd, hu]
  exact if_pos (by simpa [imp_iff_not_or] using hb)

/-- The header that a confirmation writes, and the fuses that it burns (R529, R545). -/
def State.burnt (s : State) : State :=
  let x := s.getF SEC_BOOT_SLOT
  let u := s.putHdr (BootHdr.setFmt { s.bootHdr with slot := x, pend := false, tries := 0, fellback := false } (1 - x) 0)
  { u with fuses := { u.fuses with svn := max u.fuses.svn (min (s.fwSvn x) 64) } }

/-- What a confirmation shows in `SEC_BOOT`. -/
def confirmFields (svn : Nat) : List (Fld × Nat) := [(SEC_BOOT_TRIAL, 0), (SEC_BOOT_TRIES, 0), (SEC_BOOT_SVN_FUSE, svn)]

theorem confirmFields_key_nodup (svn : Nat) : ((confirmFields svn).map fun p => p.1.key).Nodup := by
  show [SEC_BOOT_TRIAL.key, SEC_BOOT_TRIES.key, SEC_BOOT_SVN_FUSE.key].Nodup
  decide

/-- The state of a confirmation before its event is logged. -/
def State.confirmShown (s : State) : State := s.burnt.setFs (confirmFields s.burnt.fuseSvn)

theorem State.getF_confirmShown (s : State) {f : Fld} {v : Nat} (hf : (f, v) ∈ confirmFields s.burnt.fuseSvn) :
    s.confirmShown.getF f = v % 2 ^ f.width :=
  State.getF_setFs_of_mem (confirmFields_key_nodup _) hf _

theorem State.confirm_eq (ht : s.flag SEC_BOOT_TRIAL = true) (hup : s.power.life = .up) : s.confirm
    = (s.confirmShown.logUpdate (s.getF SEC_BOOT_SLOT) (s.fwSvn (s.getF SEC_BOOT_SLOT)) 0, svcOk, []) :=
  if_neg (by simp [ht, hup])

/-- A trial that is confirmed burns the fuses up to its image's version and is over. -/
theorem State.confirm_trial (ht : s.flag SEC_BOOT_TRIAL = true) (hup : s.power.life = .up) :
    ∃ t, s.confirm = (t, svcOk, []) ∧ t.fuses.svn = max s.fuses.svn (min (s.fwSvn (s.getF SEC_BOOT_SLOT)) 64)
      ∧ t.getF SEC_BOOT_TRIAL = 0 ∧ t.getF SEC_BOOT_TRIES = 0 ∧ t.getF SEC_BOOT_SVN_FUSE = t.fuses.svn % 256
      ∧ t.stoker.replies = s.stoker.replies := by
  have hk : Keeps (Parts.of [.reg .SEC_BOOT]) s.burnt s.confirmShown :=
    State.setFs_keeps_regs [.SEC_BOOT] (Parts.le_refl _) (keeps_refl _)
  have hfuses : s.confirmShown.fuses = s.burnt.fuses := hk.same .fuses (by decide)
  have hstoker : s.confirmShown.stoker = s.stoker := hk.same .stoker (by decide)
  refine ⟨_, State.confirm_eq ht hup, ?_⟩
  rw [State.getF_logUpdate, State.getF_logUpdate, State.getF_logUpdate, State.fuses_logUpdate, State.replies_logUpdate,
    hfuses, hstoker, s.getF_confirmShown (f := SEC_BOOT_TRIAL) (v := 0) (by simp [confirmFields]),
    s.getF_confirmShown (f := SEC_BOOT_TRIES) (v := 0) (by simp [confirmFields]),
    s.getF_confirmShown (f := SEC_BOOT_SVN_FUSE) (v := s.burnt.fuseSvn) (by simp [confirmFields])]
  exact ⟨rfl, rfl, rfl, rfl, rfl⟩

theorem State.confirm_no_trial (hn : s.flag SEC_BOOT_TRIAL = false ∨ s.power.life ≠ .up) :
    s.confirm = s.refuse svcNotAllowed :=
  if_pos (by rcases hn with hn | hn <;> simp [hn])

/-- Settles O29: an unsigned request is acted on, and each action is its accepted case or its refusal. Status codes that
no rule gives, what an erased byte reads as and when CONFIRM is allowed are the model's (log entries 6, 21, 34). -/
theorem updateAndConfirm : Obligations.UpdateAndConfirm := by
  refine ⟨fun h s ho hs => ⟨fun len hp h0 hl => ?_, fun len offset data hu hd hl => ?_, fun len ha hu => ?_,
    fun hu offset data => ?_⟩, fun h s ho hs ha => ⟨fun ht hup => ?_, fun hn => ?_⟩⟩
  · rw [exec_updateBegin, State.service_unsigned ho hs rfl, State.updateBegin_of_fits hp h0 hl]
    exact ⟨_, rfl, rfl, rfl, rfl, fun i hi => s.nbyte_spareErased hi⟩
  · rw [exec_updateData, State.service_unsigned ho hs rfl, State.updateData_of_fits hu hd hl]
    exact ⟨_, rfl, rfl, rfl, s.nbyte_nwrite_getD _ data⟩
  · rw [exec_updateEnd, State.service_unsigned (rule := .marked) ho hs ha]
    split_ifs with hc
    · obtain ⟨t, he, hlen, htries, hr⟩ := State.updateEnd_accepted hu hc.1 hc.2
      exact ⟨_, rfl, he ▸ hlen, he ▸ htries, by rw [he, ← hr]; rfl⟩
    · exact ⟨_, rfl, by rw [State.updateEnd_bad hu hc]; rfl⟩
  · rw [exec_updateData, State.service_unsigned ho hs rfl, State.updateData_not_begun hu]
    rfl
  · obtain ⟨t, he, hsvn, htrial, htries, hfuse, hr⟩ := State.confirm_trial ht hup
    rw [exec_confirm, State.service_unsigned (rule := .marked) ho hs ha, he]
    exact ⟨_, rfl, hsvn, htrial, htries, hfuse, by rw [← hr]; rfl⟩
  · rw [exec_confirm, State.service_unsigned (rule := .marked) ho hs ha, State.confirm_no_trial hn]
    rfl

end Sys2Proof.Machine

/-! The pieces of a Seval image (R535). -/

namespace Sys2Proof.Machine

open Sys2Proof

variable {s : State} {total offset : Nat} {data : List Byte}

/-- A piece out of bounds, of an image of a size that the area does not take, or too long for a request. -/
def malformedPiece (total offset : Nat) (data : List Byte) : Prop :=
  4 * 2 ^ 20 < total ∨ total = 0 ∨ 8192 < data.length ∨ total < offset + data.length

theorem malformedPiece_iff : malformedPiece total offset data ↔ (decide (4 * 2 ^ 20 < total) || decide (total = 0)
    || decide (8192 < data.length) || decide (total < offset + data.length)) = true := by
  simp [malformedPiece, or_assoc]

theorem State.configPiece_malformed (hm : malformedPiece total offset data) :
    s.configPiece total offset data = s.refuse svcBad :=
  if_pos (malformedPiece_iff.1 hm)

/-- A piece of the image in transfer that leaves it incomplete is kept. -/
theorem State.configPiece_kept (hm : ¬ malformedPiece total offset data) (hl : s.stoker.cfgLen = total)
    (hc : spansCover total ((offset, data.length) :: s.stoker.cfgSpans) = false) :
    s.configPiece total offset data = ({ s with stoker := { s.stoker with
      cfgLen := total, cfgSpans := (offset, data.length) :: s.stoker.cfgSpans
      cfgBytes := Mem.write memBlank s.stoker.cfgBytes offset data } }, svcOk, []) := by
  rw [State.configPiece, if_neg (mt malformedPiece_iff.2 hm)]
  simp [hl, hc]

/-- Settles O30: a piece is malformed, or it joins the pieces of its image. Status codes that no rule gives are the model's
choice (log entries 21, 34). -/
theorem configPiecesGather : Obligations.ConfigPiecesGather := by
  intro h total offset data s ho hs ha
  rw [exec_configWrite, State.service_unsigned (rule := .marked) ho hs ha]
  refine ⟨fun hm => ?_, fun h0 ht hd hb hl hc => ?_⟩
  · rw [State.configPiece_malformed hm]
    rfl
  · have hm : ¬ malformedPiece total offset data := by
      simp only [malformedPiece]
      omega
    rw [State.configPiece_kept hm hl hc]
    exact ⟨_, rfl, rfl, rfl, rfl, rfl, Mem.read_write memBlank s.stoker.cfgBytes offset data⟩

end Sys2Proof.Machine

/-! The module's identity, the owner's requests, and the reclaim of the event log (R453, R533, R539–R543). -/

namespace Sys2Proof.Machine

open Sys2Proof

variable {s : State} {h : SvcHdr}

/-! ### Enrolment and the certificate (R539, R540) -/

theorem State.enroll_first {key : List Byte} (hk : key.length = 68) (ho : s.fuses.owner = none) : s.enroll key
    = ({ s with fuses := { s.fuses with owner := some (shake512 key) } }.setF SEC_IDENT_OWNER 1, svcOk, []) := by
  simp [State.enroll, hk, ho]

theorem State.enroll_again {key : List Byte} (hk : key.length = 68) (ho : s.fuses.owner.isSome = true) :
    s.enroll key = s.refuse svcNotAllowed := by
  simp [State.enroll, hk, ho]

theorem State.getCert_good (hc : s.flag SEC_IDENT_CERT_OK = true) : s.getCert = (s, svcOk, s.certBytes) := if_pos hc

theorem State.getCert_bad (hc : s.flag SEC_IDENT_CERT_OK = false) : s.getCert = s.refuse svcNotAllowed :=
  if_neg (by simp [hc])

/-! ### Attestation (R541–R543) -/

theorem State.appendJournal_keeps_nvm (s : State) (ty value hash : Nat) :
    Keeps (Parts.of [.nvm]) s (s.appendJournal ty value hash) :=
  State.appendJournal_keeps (Parts.le_refl _) (keeps_refl s) ty value hash

/-- A signature spends the next leaf and notes its time. -/
theorem State.sign_spends_leaf (s : State) (hash : Nat) (hl : s.getF SEC_IDENT_LEAVES < 512) :
    (s.sign hash).1.getF SEC_IDENT_LEAVES = s.getF SEC_IDENT_LEAVES - 1
      ∧ (s.sign hash).1.stoker.nextLeaf = s.stoker.nextLeaf + 1 ∧ (s.sign hash).1.stoker.lastSign = some s.now
      ∧ (s.sign hash).1.stoker.replies = s.stoker.replies := by
  have hk := s.appendJournal_keeps_nvm 2 s.stoker.nextLeaf hash
  have hleaves := hk.getF (f := SEC_IDENT_LEAVES) (by decide)
  have hstoker : (s.appendJournal 2 s.stoker.nextLeaf hash).stoker = s.stoker := hk.same .stoker (by decide)
  refine ⟨?_, rfl, congrArg some (hk.getF (f := FLU_TIME_NS) (by decide)), ?_⟩
  · calc (s.sign hash).1.getF SEC_IDENT_LEAVES
      _ = ((s.appendJournal 2 s.stoker.nextLeaf hash).getF SEC_IDENT_LEAVES - 1) % 2 ^ 9 :=
        State.getF_setF _ SEC_IDENT_LEAVES _
      _ = s.getF SEC_IDENT_LEAVES - 1 := by
        rw [hleaves]
        omega
  · show (s.appendJournal 2 s.stoker.nextLeaf hash).stoker.replies = s.stoker.replies
    rw [hstoker]

section
variable {nonce : List Byte} (hn : nonce.length = 32) (hc : s.flag SEC_IDENT_CERT_OK = true)
include hn hc

theorem State.attest_late (hl : s.signedLately = true) : s.attest nonce = s.refuse svcBusy := by
  simp [State.attest, hn, hc, hl]

/-- With a leaf left and a second gone the report is signed. -/
theorem State.attest_signs (hl : s.signedLately = false) (h0 : s.getF SEC_IDENT_LEAVES ≠ 0) :
    ∃ hash body, s.attest nonce = ((s.sign hash).1, svcOk, body) := by
  have hleaf : s.leafReady = some s := if_neg h0
  refine ⟨shake256 (s.reportHead nonce), s.reportHead nonce ++ (s.sign (shake256 (s.reportHead nonce))).2, ?_⟩
  simp only [State.attest, hn, hc, hl, hleaf, bne_self_eq_false, Bool.not_true, Bool.false_eq_true, if_false]

end

/-! ### What the owner signs (R453, R546) -/

theorem State.takeOctr_keeps_nvm (s : State) (h : SvcHdr) : Keeps (Parts.of [.nvm]) s (s.takeOctr h) :=
  State.takeOctr_keeps (Parts.le_refl _) (keeps_refl s) h

theorem State.wrapPsk_key {key : List Byte} (hk : key.length = 32) :
    s.wrapPsk key = (s, svcOk, leBytes 40 (keyWrap (leNat key))) := by
  simp [State.wrapPsk, hk]

/-- A Hearth that a fuse record retired stays so. -/
theorem State.clearRetire_fused {x : Nat} (hx : x < 288) (hf : s.stoker.fuseRetired.contains x = true) :
    s.clearRetire h x = s.refuse svcNotAllowed := by
  simp only [State.clearRetire, if_neg (Nat.not_le.2 hx), hf, Bool.or_true, if_true]

/-- A retired Hearth is recorded, to be tested again. -/
theorem State.clearRetire_recorded {x : Nat} (hx : x < 288) (hr : s.hState x = hRetired)
    (hf : s.stoker.fuseRetired.contains x = false) : ∃ t, s.clearRetire h x = (t, svcOk, [])
      ∧ x ∈ t.stoker.clearReq ∧ t.stoker.replies = s.stoker.replies := by
  have hoff : ¬ (decide (hRetired = hFusedOff) || false) = true := by decide
  rw [State.clearRetire, if_neg (Nat.not_le.2 hx), hr, hf, if_neg hoff, if_neg (by simp)]
  exact ⟨_, rfl, List.mem_append_right _ List.mem_cons_self, rfl⟩

theorem exec_clearRetire_enrolled (ho : s.svcOpen h = true) (he : s.fuses.owner.isSome = true) (x : Nat) :
    exec (.clearRetire h x) s = .next (if s.authOk .always h 0x09 (leBytes 4 x) then
      State.respond h ((s.takeOctr h).clearRetire h x) else s.replied h svcAuthFailed []) :=
  (State.ownerService_enrolled he).trans (State.service_open ho)

/-! ### The event log's reclaim (R533) -/

theorem exec_eventLogReclaim {b seq : Nat} (hr : s.running = true) (hb : s.logBlocks.head? = some (b, seq))
    (he : s.erasedBlocks ≤ 4) : exec .eventLogReclaim s = .next (s.reclaim b) := by
  simp [exec, execEventLogReclaim, hb, onlyIf, State.stokerUp, hr, he]

/-- The erasure is the last that a reclaim does to its block. -/
theorem State.nbyte_reclaim (s : State) (b : Nat) {i : Nat} (hi : i < 65536) :
    (s.reclaim b).nbyte (evBase + 65536 * b + i) = 0xFF :=
  (State.nbyte_nerase ..).trans (if_pos (by omega))

/-- Settles O31: each request is acted on or refused by its signature, and the reclaim ends with the erasure. Status codes
that no rule gives, and what an erased byte reads as, are the model's (log entries 6, 21). -/
theorem identityAndOwnerServices : Obligations.IdentityAndOwnerServices := by
  refine ⟨fun h s ho hs => ⟨fun key hk hown => ?_, fun key hk hown => ?_, fun hc => ?_, fun hc => ?_,
      fun seq => ?_, fun nonce hn hc hl h0 h512 => ?_, fun nonce hn hc hl => ?_⟩,
    fun h s ho => ⟨fun key hk => ?_, fun x hx he hr hf => ?_, fun x hx he hf => ?_⟩,
    fun s b seq hr hb he => ⟨_, exec_eventLogReclaim hr hb he, fun i hi => s.nbyte_reclaim b hi⟩⟩
  · rw [exec_enroll, State.service_unsigned ho hs rfl, State.enroll_first hk hown]
    rfl
  · rw [exec_enroll, State.service_unsigned ho hs rfl, State.enroll_again hk hown]
    rfl
  · rw [exec_getCert, State.service_unsigned ho hs rfl, State.getCert_good hc]
    rfl
  · rw [exec_getCert, State.service_unsigned ho hs rfl, State.getCert_bad hc]
    rfl
  · rw [exec_readEvents, State.service_unsigned ho hs rfl]
    rfl
  · obtain ⟨hash, body, ha⟩ := State.attest_signs hn hc hl h0
    obtain ⟨hleaves, hnext, hlast, hr⟩ := s.sign_spends_leaf hash h512
    rw [exec_attest, State.service_unsigned ho hs rfl, ha]
    exact ⟨_, body, rfl, by rw [← hr]; rfl, hleaves, hnext, hlast⟩
  · rw [exec_attest, State.service_unsigned ho hs rfl, State.attest_late hn hc hl]
    rfl
  · rw [exec_wrapPsk, State.service_open ho, State.wrapPsk_key hk]
    rfl
  · have hk := s.takeOctr_keeps_nvm h
    have hstoker : (s.takeOctr h).stoker = s.stoker := hk.same .stoker (by decide)
    obtain ⟨t, hcl, hmem, hrep⟩ := State.clearRetire_recorded (s := s.takeOctr h) (h := h) hx
      ((hk.hState (by decide) x).trans hr) (by rw [hstoker, hf])
    rw [exec_clearRetire_enrolled ho he, hcl]
    split_ifs with ha
    · exact ⟨_, rfl, hmem, by rw [← hstoker, ← hrep]; rfl⟩
    · exact ⟨_, rfl, rfl⟩
  · have hstoker : (s.takeOctr h).stoker = s.stoker := (s.takeOctr_keeps_nvm h).same .stoker (by decide)
    rw [exec_clearRetire_enrolled ho he, State.clearRetire_fused hx (by rw [hstoker, hf])]
    rfl

end Sys2Proof.Machine

/-! The loss of the input, power-down, `MOD_RST_N` and `PERST_N` (R553, R561–R566). -/

namespace Sys2Proof.Machine

open Sys2Proof

variable {s : State}

/-! ### The reset of every domain (R14, R15, R564) -/

/-- Every domain as it is reset, before the pins, the grade and `PWRGD_OD` are shown. -/
def State.cleared (s : State) (life : Life) : State :=
  { State.reset with
    nvm := s.nvm, fuses := s.fuses, hostMem := s.hostMem, freeCtr := s.freeCtr, irqs := s.irqs, pending := s.pending
    hostReply := s.hostReply
    flue := { State.reset.flue with wire := s.flue.wire }
    stoker := { State.reset.stoker with
      evSeq := s.stoker.evSeq, evPos := s.stoker.evPos, states := s.stoker.states, pendList := s.stoker.pendList
      clearReq := s.stoker.clearReq, glazeMark := s.stoker.glazeMark, busySaved := s.stoker.busySaved }
    power := { s.power with life := life, failed := false } }

section
variable (s : State) (life : Life) (pwrgd : Bool)

theorem State.wiped_eq : s.wiped life pwrgd = (((s.cleared life).setFs s.pins).showGrade).setOut outPwrgd pwrgd := rfl

theorem State.wiped_keeps_cleared :
    Keeps (Parts.of [.reg .ID_PART, .reg .SVC_SIDEBAND]) (s.cleared life) (s.wiped life pwrgd) :=
  have hT := Parts.le_refl ([.reg .ID_PART, .reg .SVC_SIDEBAND] : List Part)
  State.setOut_keeps (Parts.within hT) (State.showGrade_keeps (Parts.within hT)
    (State.setFs_keeps_regs [.SVC_SIDEBAND] (Parts.within hT) (keeps_refl _))) _ _

@[simp] theorem State.power_wiped : (s.wiped life pwrgd).power = { s.power with life := life, failed := false } :=
  (s.wiped_keeps_cleared life pwrgd).same .power (by decide)

@[simp] theorem State.dram_wiped : (s.wiped life pwrgd).dram = [] :=
  (s.wiped_keeps_cleared life pwrgd).same .dram (by decide)

@[simp] theorem State.ports_wiped : (s.wiped life pwrgd).ports = [] :=
  (s.wiped_keeps_cleared life pwrgd).same .ports (by decide)

@[simp] theorem State.flights_wiped : (s.wiped life pwrgd).flights = [] :=
  (s.wiped_keeps_cleared life pwrgd).same .flights (by decide)

@[simp] theorem State.wire_wiped : (s.wiped life pwrgd).flue.wire = s.flue.wire :=
  have hflue : (s.wiped life pwrgd).flue = (s.cleared life).flue :=
    (s.wiped_keeps_cleared life pwrgd).flue (by decide) (by decide)
  hflue ▸ rfl

@[simp] theorem State.nvm_wiped : (s.wiped life pwrgd).nvm = s.nvm :=
  (s.wiped_keeps_cleared life pwrgd).same .nvm (by decide)

@[simp] theorem State.fuses_wiped : (s.wiped life pwrgd).fuses = s.fuses :=
  (s.wiped_keeps_cleared life pwrgd).same .fuses (by decide)

@[simp] theorem State.hostMem_wiped : (s.wiped life pwrgd).hostMem = s.hostMem :=
  (s.wiped_keeps_cleared life pwrgd).same .hostMem (by decide)

/-- The sideband before `PWRGD_OD` is shown. -/
theorem State.getF_wiped_sideband {f : Fld} (hf : f.reg = .SVC_SIDEBAND) (hlo : (f.lo % 64 == 22) = false) :
    (s.wiped life pwrgd).getF f = ((s.cleared life).setFs s.pins).getF f :=
  (State.getF_setF_lo _ _ hlo).trans
    ((State.showGrade_keeps (Parts.le_refl _) (keeps_refl _)).getF (by rw [hf]; decide))

theorem pinFlds_key_nodup :
    ([SVC_SIDEBAND_PWR_EN, SVC_SIDEBAND_PERST_N, SVC_SIDEBAND_MOD_RST_N].map Fld.key).Nodup := by decide

/-- A pin that the module reads keeps its level. -/
theorem State.getF_wiped_PWR_EN :
    (s.wiped life pwrgd).getF SVC_SIDEBAND_PWR_EN = s.getF SVC_SIDEBAND_PWR_EN % 2 :=
  (s.getF_wiped_sideband life pwrgd rfl rfl).trans
    (State.getF_setFs_of_mem (l := s.pins) pinFlds_key_nodup List.mem_cons_self _)

theorem State.getF_wiped_MOD_RST_N :
    (s.wiped life pwrgd).getF SVC_SIDEBAND_MOD_RST_N = s.getF SVC_SIDEBAND_MOD_RST_N % 2 :=
  (s.getF_wiped_sideband life pwrgd rfl rfl).trans
    (State.getF_setFs_of_mem (l := s.pins) pinFlds_key_nodup
      (List.mem_cons_of_mem _ (List.mem_cons_of_mem _ List.mem_cons_self)) _)

/-- Every output is released before `PWRGD_OD` is shown. -/
theorem State.getF_released_OUT : (((s.cleared life).setFs s.pins).showGrade).getF SVC_SIDEBAND_OUT = 0 :=
  calc (((s.cleared life).setFs s.pins).showGrade).getF SVC_SIDEBAND_OUT
    _ = ((s.cleared life).setFs s.pins).getF SVC_SIDEBAND_OUT :=
      (State.showGrade_keeps (Parts.le_refl _) (keeps_refl _)).getF (by decide)
    _ = (s.cleared life).getF SVC_SIDEBAND_OUT := State.getF_setFs_ne _

theorem State.getF_wiped_OUT : (s.wiped life false).getF SVC_SIDEBAND_OUT = 0 := by
  rw [State.wiped_eq, State.setOut, State.setBit, State.getF_released_OUT]
  exact State.getF_setF ..

theorem State.outOn_wiped {k : Nat} (hk : k < 7) :
    (s.wiped life pwrgd).outOn k = if k = outPwrgd then pwrgd else false := by
  have hrel : (((s.cleared life).setFs s.pins).showGrade).outOn k = false := by
    rw [State.outOn, State.getF_released_OUT]
    simp [bitOf]
  rw [State.wiped_eq, State.outOn_setOut _ _ _ hk, hrel]

end

/-! ### The loss of the input and its return (R552, R553) -/

theorem State.lockout_of_off (h : s.power.life = .off) :
    s.lockout = { s with power := { s.power with inputOk := false } } :=
  if_pos h

theorem State.lockout_of_on (h : s.power.life ≠ .off) :
    s.lockout = State.railsOff { s with power := { s.power with inputOk := false } } :=
  if_neg h

theorem exec_inputLoss {i : Instr} (hi : i ∈ [Instr.undervoltageLockout, .overvoltageShutdown]) (s : State) :
    exec i s = .next s.lockout := by
  simp only [List.mem_cons, List.not_mem_nil, or_false] at hi
  rcases hi with rfl | rfl <;> rfl

/-- With the input good, the hold over and `PWR_EN` high the module boots, unless `MOD_RST_N` holds it. -/
theorem State.powerUp_boots {o : BootOut} (hin : s.power.inputOk = true) (hoff : s.power.life = .off)
    (hhold : s.power.lowHold = false) (hen : s.flag SVC_SIDEBAND_PWR_EN = true)
    (hrst : s.flag SVC_SIDEBAND_MOD_RST_N = true) : s.powerUp o = s.boot o := by
  simp [State.powerUp, hin, hoff, hhold, hen, hrst]

/-- Settles O58: the rails go off as a reset of every domain, and the return is a power-up. That lost DRAM reads 0 is the
model's choice (log entry 1). -/
theorem inputLossSwitchesOff : Obligations.InputLossSwitchesOff := by
  intro i s hi
  rw [exec_inputLoss hi]
  refine ⟨fun hon => ?_, fun hoff => ?_, fun o hoff hhold hen hrst => ?_⟩
  · rw [State.lockout_of_on hon]
    exact ⟨_, rfl, by simp [State.railsOff], by simp [State.railsOff], State.dram_wiped _ _ false,
      State.getF_wiped_OUT .., State.ports_wiped _ _ false, State.wire_wiped _ _ false, State.flights_wiped _ _ false,
      State.getF_wiped_PWR_EN ..⟩
  · rw [State.lockout_of_off hoff]
    exact ⟨_, rfl, hoff, rfl, rfl⟩
  · exact congrArg Host.Outcome.next (State.powerUp_boots rfl hoff hhold hen hrst)

/-! ### POWER_DOWN and `MOD_RST_N` (R562–R564) -/

/-- The module as its rails go off: `PWR_EN` low, and LINKSTATE flooded down unless the module has stopped. -/
def State.poweringDown (s : State) : State :=
  if (s.setF SVC_SIDEBAND_PWR_EN 0).stopped then s.setF SVC_SIDEBAND_PWR_EN 0
  else (s.setF SVC_SIDEBAND_PWR_EN 0).floodDown

theorem State.poweringDown_keeps (s : State) :
    Keeps (Parts.of portParts) (s.setF SVC_SIDEBAND_PWR_EN 0) s.poweringDown :=
  ite_keeps (keeps_refl _) (State.floodDown_keeps (Parts.le_refl _) (keeps_refl _))

theorem exec_powerDown_of_on (h : s.power.life ≠ .off) : exec .powerDown s = .next s.poweringDown.railsOff :=
  congrArg Host.Outcome.next (if_neg h)

theorem exec_powerDown_of_off (h : s.power.life = .off) : exec .powerDown s
    = .next { s.setF SVC_SIDEBAND_PWR_EN 0 with power := { s.power with lowHold := true } } :=
  congrArg Host.Outcome.next (if_pos h)

theorem exec_modRstAssert_of_on (h : s.power.life ≠ .off) : exec .modRstAssert s
    = .next ((s.setF SVC_SIDEBAND_MOD_RST_N 0).wiped .inReset ((s.setF SVC_SIDEBAND_MOD_RST_N 0).outOn outPwrgd)) :=
  congrArg Host.Outcome.next (if_neg h)

/-- POWER_DOWN of a module whose rails are on. -/
theorem State.railsOff_poweringDown (s : State) : let t := s.poweringDown.railsOff
    t.power.life = .off ∧ t.power.lowHold = true ∧ t.dram = [] ∧ t.getF SVC_SIDEBAND_PWR_EN = 0
      ∧ t.getF SVC_SIDEBAND_OUT = 0 ∧ t.nvm = s.nvm ∧ t.fuses = s.fuses ∧ t.hostMem = s.hostMem := by
  have hk := s.poweringDown_keeps
  have hen : s.poweringDown.getF SVC_SIDEBAND_PWR_EN = 0 :=
    (hk.getF (by decide)).trans (State.getF_setF s SVC_SIDEBAND_PWR_EN 0)
  exact ⟨by simp [State.railsOff], rfl, State.dram_wiped _ _ false, (State.getF_wiped_PWR_EN ..).trans (by rw [hen]),
    State.getF_wiped_OUT .., (State.nvm_wiped _ _ false).trans (hk.same .nvm (by decide)),
    (State.fuses_wiped _ _ false).trans (hk.same .fuses (by decide)),
    (State.hostMem_wiped _ _ false).trans (hk.same .hostMem (by decide))⟩

/-! ### `PERST_N` (R561, R565, R566) -/

theorem State.getF_cxlDown_UP (s : State) : s.cxlDown.getF CXL_LINK_UP = 0 :=
  (State.getF_setFs_ne (g := CXL_LINK_UP) (l := [(CXL_LINK_RATE, 0), (CXL_LINK_WIDTH, 0), (CXL_LINK_IDE, 0),
    (CXL_LINK_HDM, 0), (CXL_SF_OCC, 0)]) _).trans (State.getF_setF ..)

/-- `PERST_N` takes the link down, counted when it was up. -/
theorem State.perstLink_eq (s : State) :
    ∃ u, s.perstLink = u.cxlDown ∧ Keeps (Parts.of [.reg .CXL_LINK]) s u := by
  unfold State.perstLink
  split
  · exact ⟨_, rfl, State.addSat_keeps_reg .CXL_LINK (Parts.le_refl _) (keeps_refl s) 1⟩
  · exact ⟨_, rfl, keeps_refl s⟩

theorem State.perst_not_up {o : WakeOut} (h : s.power.life ≠ .up) : s.perst o = s.perstLink := by
  have hp : s.perstLink.power = s.power :=
    (State.perstLink_keeps (Parts.le_refl _) (keeps_refl s)).same .power (by decide)
  exact if_pos (by simp [hp, h])

theorem exec_perstAssert {o : WakeOut} (h : s.flag SVC_SIDEBAND_PERST_N = true) :
    exec (.perstAssert o) s = .next ((s.setF SVC_SIDEBAND_PERST_N 0).perst o) :=
  if_pos h

theorem exec_perstAssert_held {o : WakeOut} (h : s.flag SVC_SIDEBAND_PERST_N = false) :
    exec (.perstAssert o) s = .next s :=
  if_neg (by simp [h])

/-- `PERST_N` on a module that is not up takes the link down and does no more. -/
theorem State.perstLink_asserted (s : State) : let t := (s.setF SVC_SIDEBAND_PERST_N 0).perstLink
    t.getF SVC_SIDEBAND_PERST_N = 0 ∧ t.getF CXL_LINK_UP = 0 ∧ t.host.hdmSize = 0 ∧ t.flights = s.flights := by
  obtain ⟨u, hu, hk⟩ := (s.setF SVC_SIDEBAND_PERST_N 0).perstLink_eq
  rw [hu]
  refine ⟨?_, u.getF_cxlDown_UP, rfl, hk.same .flights (by decide)⟩
  calc u.cxlDown.getF SVC_SIDEBAND_PERST_N
    _ = u.getF SVC_SIDEBAND_PERST_N := State.getF_setFs_ne _
    _ = (s.setF SVC_SIDEBAND_PERST_N 0).getF SVC_SIDEBAND_PERST_N := hk.getF (by decide)
    _ = 0 := State.getF_setF s SVC_SIDEBAND_PERST_N 0

/-- What the link shows when it has trained at a rate and a width. -/
def trainedFields (r w : Nat) : List (Fld × Nat) :=
  [(CXL_LINK_UP, 1), (CXL_LINK_RATE, 1 + r % 3), (CXL_LINK_WIDTH, 1 + w % 3)]

theorem trainedFields_key_nodup (r w : Nat) : ((trainedFields r w).map fun p => p.1.key).Nodup := by
  show [CXL_LINK_UP.key, CXL_LINK_RATE.key, CXL_LINK_WIDTH.key].Nodup
  decide

theorem State.cxlTrain_eq (s : State) : s.cxlTrain
    = s.fresh.2.fresh.2.setFs (trainedFields (Config.freeValue s.freeCtr) (Config.freeValue (s.freeCtr + 1))) := rfl

/-- A link that has trained is up, at a width that R503 accepts. -/
theorem State.cxlTrain_shows (s : State) : s.cxlTrain.getF CXL_LINK_UP = 1
    ∧ 1 ≤ s.cxlTrain.getF CXL_LINK_WIDTH ∧ s.cxlTrain.getF CXL_LINK_WIDTH ≤ 3 := by
  have hf {f : Fld} {v : Nat}
      (h : (f, v) ∈ trainedFields (Config.freeValue s.freeCtr) (Config.freeValue (s.freeCtr + 1))) :
      s.cxlTrain.getF f = v % 2 ^ f.width :=
    s.cxlTrain_eq ▸ State.getF_setFs_of_mem (trainedFields_key_nodup _ _) h _
  have hw : s.cxlTrain.getF CXL_LINK_WIDTH = (1 + Config.freeValue (s.freeCtr + 1) % 3) % 2 ^ 2 :=
    hf (by simp [trainedFields])
  exact ⟨hf (v := 1) (by simp [trainedFields]), by omega, by omega⟩

theorem exec_perstRelease_trains (hup : s.power.life = .up) (hst : s.getF PWR_STAT_STATE ≠ 2)
    (hl : s.flag CXL_LINK_UP = false) (hr : s.recov = none) :
    exec .perstRelease s = .next (s.setF SVC_SIDEBAND_PERST_N 1).cxlTrain := by
  have hst' : (s.setF SVC_SIDEBAND_PERST_N 1).getF PWR_STAT_STATE ≠ 2 := by
    rwa [State.getF_setF_num _ _ rfl]
  have hl' : (s.setF SVC_SIDEBAND_PERST_N 1).flag CXL_LINK_UP = false := by
    rwa [State.flag, State.getF_setF_num _ _ rfl]
  refine congrArg Host.Outcome.next (if_pos ?_)
  simp [hst', hl', show (s.setF SVC_SIDEBAND_PERST_N 1).power = s.power from rfl,
    show (s.setF SVC_SIDEBAND_PERST_N 1).recov = s.recov from rfl, hup, hr]

/-- Settles O59: the rails go off and `MOD_RST_N` holds as a reset of every domain, and `PERST_N` acts on the link. That
lost DRAM reads 0 is the model's choice (log entry 1), as is `PERST_N` while a boot has not ended (log entry 32). -/
theorem powerDownAndPerst : Obligations.PowerDownAndPerst := by
  refine ⟨fun s => ⟨fun hon => ⟨_, exec_powerDown_of_on hon, s.railsOff_poweringDown⟩, fun hoff => ?_,
      fun hon => ?_⟩,
    fun o s => ⟨fun hp hup => ?_, exec_perstAssert_held, fun hup hst hl hr => ?_⟩⟩
  · exact ⟨_, exec_powerDown_of_off hoff, hoff, rfl, State.getF_setF s SVC_SIDEBAND_PWR_EN 0⟩
  · refine ⟨_, exec_modRstAssert_of_on hon, by simp, State.dram_wiped .., ?_, State.outOn_wiped _ _ _ (by decide),
      State.nvm_wiped .., State.fuses_wiped .., (State.getF_wiped_MOD_RST_N ..).trans ?_⟩
    · rw [State.outOn_wiped _ _ _ (by decide), if_pos rfl, State.outOn, State.getF_setF_lo _ _ rfl, ← State.outOn]
    · rw [State.getF_setF]
      rfl
  · have hnot : (s.setF SVC_SIDEBAND_PERST_N 0).power.life ≠ .up := hup
    exact ⟨_, exec_perstAssert hp, State.perst_not_up hnot ▸ s.perstLink_asserted⟩
  · obtain ⟨hlink, hlo, hhi⟩ := (s.setF SVC_SIDEBAND_PERST_N 1).cxlTrain_shows
    refine ⟨_, exec_perstRelease_trains hup hst hl hr, ?_, hlink, hlo, hhi⟩
    exact (State.getF_setFs_ne _).trans (State.getF_setF s SVC_SIDEBAND_PERST_N 1)

end Sys2Proof.Machine
